-- ==== Sys2Proof/Word.lean ====
section
/-!
DEFINITION. Sys2Proof/Word.lean: the words of the part. A register is 32 bits wide (R24, spec/00_scope.md); the buses
and the external NVM carry bytes; a fuse word is 32 data bits with 7 check bits (R621, spec/17_boot_otp_update.md).
-/

namespace Sys2Proof

/-- A register of the host space (R24). -/
abbrev Word := BitVec 32

/-- A byte of a bus or of the external NVM. -/
abbrev Byte := BitVec 8

/-- One word of the fuse array as it stands in the fuses: 32 data bits and 7 check bits (R621). -/
abbrev FuseWord := BitVec 39

end Sys2Proof
end

