-- ==== Sys2Proof/Syntax.lean ====
section
/-!
DEFINITION. Sys2Proof/Syntax.lean: the commands of the WX-7240, one constructor for each row of spec/opcode_table.json.
-/

namespace Sys2Proof

/-! ## Structured operands -/

/-- A Batten packet as the line carries it (R479): header, data objects, CRC-32. -/
structure BtFrame where
  header : Word
  objs : List Word
  crc : Word
  deriving DecidableEq, Repr

/-- A word of the fuse array as its three margins read it (R624): normal, strict for blank bits, strict for programmed
bits. -/
structure FuseCell where
  normal : FuseWord
  blank : FuseWord
  prog : FuseWord
  deriving DecidableEq, Repr

/-- What the dedicated converter reads of a temperature channel (R566, R567): the forced ΔV_BE of a diode pair in µV, a pair
that is open or shorted, or the die sensor in 0.1 °C. An NTC channel has its conversion. -/
inductive ThermIn where
  | diode (microvolts : Nat)
  | broken
  | die (tenths : Int)
  deriving DecidableEq, Repr

/-- A live profile that the primary sends to a node (R58, R425): bus ID, transfer ID and the profile's bytes. -/
structure ProfSend where
  dst : Nat
  tid : Nat
  bytes : List Byte
  deriving DecidableEq, Repr

/-! ## The commands -/

/-- The commands: what acts on the part, row by row of the table. A message row acts on the first message that
FRAME_RECEIVE has passed on and that waits. -/
inductive Instr where
  /-- REGULATOR_START (R94). VHOLD rises above 7.6 V and the three buck regulators start in the order VCORE, VDD18,
  VDD33. -/
  | regulatorStart
  /-- REGULATOR_STOP (R94). VHOLD falls below 6.0 V, the regulators stop and the chip enters DARK. -/
  | regulatorStop
  /-- RST_N_ASSERT (R104). RST_N stays low for 10 µs or more, and every ball goes to its reset state while the chip
  is held in DARK. -/
  | rstNAssert
  /-- INTERNAL_RESET_RELEASE (R105). RST_N is high, the rails are good and CLK200 is locked, so the ROM starts and
  the node enters BOOT. The straps as sampled. -/
  | internalResetRelease (role : Nat) (hostSel bypass : Bool)
  /-- BOOT_COMPLETE (R617). The ROM finishes its boot steps and the node enters STANDBY, or SAFE on a trim or engine
  failure. `passA`, `passB`: the self-tests of the engines; `err`: slots whose external NVM reports a read error, as
  a mask. -/
  | bootComplete (passA passB : Bool) (err : Nat)
  /-- SLOT_CHECK_STANDBY (R644). After STANDBY entry the boot manager checks every slot that BOOT did not check.
  `err`: slots whose external NVM reports a read error, as a mask. -/
  | slotCheckStandby (err : Nat)
  /-- LG_SLOT_FIND (R612). Within 2 ms of STANDBY, Thatch finds the first erased slot of the LG partition and sets
  LG_READY. -/
  | lgSlotFind
  /-- SV_RAISE (R648). The boot manager programs thermometer bits up to the confirmed image's SV once the die is
  inside the write window. -/
  | svRaise
  /-- TRIAL_WINDOW_EXPIRE (R649). The health window ends without a confirmation, so the trial fails and fallback is
  pending. -/
  | trialWindowExpire
  /-- FALLBACK_RESET (R649). A failed trial causes an internal reset: at once in STANDBY or SAFE, and after DRAIN in
  the other modes. -/
  | fallbackReset
  /-- BEGIN (R651). The BEGIN image command marks the target slot EMPTY and makes it WRITING. -/
  | imgBegin
  /-- IMAGE_DATA_WRITE (R652). A word written to IMAGE_DATA appends 4 bytes to the page buffer, or sets OVF. -/
  | imageDataWrite (w : Word)
  /-- IMAGE_PAGE_PROGRAM_DONE (R652). A page program or sector erase of the image slot completes and frees the page
  buffer. `ok`: no error. -/
  | imagePageProgramDone (ok : Bool)
  /-- FINISH (R651). The FINISH image command pads and programs the last page, then starts the slot check. -/
  | imgFinish
  /-- IMAGE_FINISH_DONE (R651). The check after FINISH completes and the slot becomes VALID or REJECTED. `err`: the
  external NVM reported a read error. -/
  | imageFinishDone (err : Bool)
  /-- ARM (R651). The ARM image command appends a state record that arms the target slot as the trial. -/
  | imgArm
  /-- ABORT (R651). The ABORT image command stops writing and leaves the slot EMPTY. -/
  | imgAbort
  /-- CONFIRM (R647). The CONFIRM image command appends a record that makes the trial slot the confirmed slot. -/
  | imgConfirm
  /-- REBOOT (R651). The REBOOT image command performs an internal reset within 1 ms, with cause REBOOT. -/
  | imgReboot
  /-- OTP_ARM_WRITE (R626). A write of 0xC35A to OTP_ARM arms the next OTP command. -/
  | otpArmWrite (w : Word)
  /-- READ (R625). The READ OTP command returns the shadow word and its flags. -/
  | otpRead
  /-- READ_ARRAY (R625). The READ_ARRAY OTP command reads the raw array at the selected margin. -/
  | otpReadArray
  /-- PROG (R627). The PROG OTP command programs a fuse word with its ECC bits, verifying and retrying. -/
  | otpProg
  /-- LOCK (R626). The LOCK OTP command programs the lock bits of a region. -/
  | otpLock
  /-- DEBUG_LOCK (R634). The DEBUG_LOCK OTP command programs the debug-lock bits. -/
  | otpDebugLock
  /-- OTP_PROG_DONE (R627). An OTP programming operation ends with DONE set, and FAIL set when the word did not
  verify. `tries`: attempts used; `reads`: what the three margins now read of the words of the operation. -/
  | otpProgDone (tries : Nat) (reads : List FuseCell)
  /-- JTAG_INSTRUCTION_LOAD (R634). An instruction is loaded into the JTAG TAP; the first debug instruction raises
  EV014. `code`: 0 BYPASS, 1 SAMPLE, 2 PRELOAD, 3 EXTEST, above these a debug or test instruction. -/
  | jtagInstructionLoad (code : Nat)
  /-- COMMIT (R657). The COMMIT profile command starts the check of the staged live profile of PROF_LEN bytes. -/
  | profCommit
  /-- DISCARD (R657). The DISCARD profile command discards the content of the staging buffer. -/
  | profDiscard
  /-- PROFILE_CHECK_DONE (R657). The check of a committed profile completes, and PROF_RES receives its code. -/
  | profileCheckDone
  /-- LIVE_PROFILE_APPLY (R656). An accepted live profile is applied in one cycle at the first rack turn boundary
  after its acceptance. -/
  | liveProfileApply
  /-- CLOCK_LOSS (R115). CLK200 stops or drifts, the outputs go safe from the internal oscillator, and the node
  enters SAFE. -/
  | clockLoss
  /-- LAST_GASP_TRIGGER (R537). VAUX stays below the last-gasp threshold, or SHTDN rises in external-supply mode, so
  the node enters SAFE and the commit starts. -/
  | lastGaspTrigger
  /-- LAST_GASP_REARM (R100). VAUX rises above the re-arm threshold and the last-gasp trigger is armed again. -/
  | lastGaspRearm
  /-- LAST_GASP_COMMIT_DONE (R537). The last-gasp record has been written to LG or to the ring, and LG_DONE sets. -/
  | lastGaspCommitDone
  /-- SUPPLY_RAIL_FAULT (R584). A core rail stays below 90 % of nominal for 2 µs while VHOLD holds, raising EV001.
  `rail`: 0 VCORE, 1 VDD18, 2 VDD33. -/
  | supplyRailFault (rail : Nat)
  /-- SCARAB_WATCHDOG (R584). The Scarab watchdog expires, EV010 is raised and Scarab restarts. -/
  | scarabWatchdog
  /-- SRAM_UNCORR (R584). An uncorrectable ECC error is read from Scarab SRAM, raising EV012. -/
  | sramUncorr
  /-- SHTDN_OFF_REQUEST (R107). SHTDN has stayed high for 0.16, which makes an off request. -/
  | shtdnOffRequest
  /-- SHTDN_FALL (R107). SHTDN falls after an off request, which makes an on request. -/
  | shtdnFall
  /-- ERA_INCREMENT (R119). The rack angle wraps and the era counter increments. -/
  | eraIncrement
  /-- RIDGE_CHECK (R120). The two copies of the rack-angle accumulator differ, raising EV024. `acc`, `era`: the bits of
  the second copies that an upset has inverted. -/
  | ridgeCheck (acc : BitVec 64) (era : Word)
  /-- RIDGE_LOCK (R133). The grid PLL lock conditions have held for 2.0 turns, so lock is declared and the source
  may change. -/
  | ridgeLock
  /-- PHASE_ROTATION (R135). The sequence is opposite to ROT for 1.0 turn, so EV023 is raised and lock is withheld.
  -/
  | phaseRotation
  /-- MAINS_LOSS (R136). A loss evaluation fails while locked, so mains loss is declared and the rack angle goes to
  FLY. -/
  | mainsLoss
  /-- START_TMO_EXPIRE (R145). No lock within START_TMO turns with BLACKSTART = 1, so the rack angle enters VIRTUAL.
  -/
  | startTmoExpire
  /-- PULL_COMPLETE (R142). The PULL difference falls to 16 reeds or less, and the source becomes GRID. -/
  | pullComplete
  /-- RATE_SLEW_STEP (R128). At a reed multiple of 8,192 the rate word moves one step toward its frequency target.
  -/
  | rateSlewStep
  /-- GRID_PHASE_ANGLE (R132). At each local grid turn boundary the angle of each phase is computed. -/
  | gridPhaseAngle
  /-- BEACON_INSTANT (R146). At each reed multiple of 8,192 the primary queues a BEACON on both segments. -/
  | beaconInstant
  /-- TRANSMIT_OPPORTUNITY (R427). A node's PLCA transmit opportunity arrives and it sends the highest queued frame
  its plan allows. `collided`: bit k = the line reports a collision for frame k of the opportunity (R436). -/
  | transmitOpportunity (segB : Bool) (collided : Nat)
  /-- FRAME_RECEIVE (R437). A frame arrives on a segment and is discarded as foreign, strange, unauthenticated or a
  duplicate, or passed on for delivery. `bytes`: the frame from DA to FCS;
  `collided`: a collision has destroyed it on the segment (R436). -/
  | frameReceive (segB collided : Bool) (bytes : List Byte)
  /-- BEACON (R148). A worker receives a BEACON and timestamps it as t2; a primary compares EPOCHs and may yield. -/
  | beacon
  /-- FOLLOW_UP (R150). A worker receives a FOLLOW_UP; when its pair is chosen, the servo runs or the first step is
  taken. -/
  | followUp
  /-- BEACON_MISSED (R153). The next BEACON falls due with no pair delivered, so the beacon counts as missed; after
  8 a disciplined worker goes to FLY. -/
  | beaconMissed
  /-- DELAY_REQ (R149). The primary receives a DELAY_REQ and queues its DELAY_RESP for release. -/
  | delayReq
  /-- DELAY_RESP_RELEASE (R149). The rate limit allows a waiting DELAY_RESP to be released to the transmit queue. -/
  | delayRespRelease (segB : Bool)
  /-- DELAY_RESP (R149). A worker receives a DELAY_RESP and updates the path delay of the segment. -/
  | delayResp
  /-- MARK_FIRE (R157). An angle mark reaches its target, sets its fired bit and triggers its users; a one-shot mark
  clears EN. -/
  | markFire (m : Nat)
  /-- CARRIER_ZERO (R183). A channel's carrier phase wraps, and shadows, gates, offset moves and stage actions at
  carrier zero take effect. -/
  | carrierZero (n : Nat)
  /-- CARRIER_CHECK (R172). At each rack turn boundary each running carrier accumulator is compared with K × A,
  raising EV030 on a mismatch. `upset`: synthesisers whose hardware accumulator differs, as a mask. -/
  | carrierCheck (upset : Nat)
  /-- DLL_UNLOCK (R181). The delay-locked loop loses lock, DLL_UNLOCK sets and EV030 is raised. -/
  | dllUnlock
  /-- PWM_HOLD_TIMEOUT (R192). A hold of the PWM array lasts 0.256, raising EV031. -/
  | pwmHoldTimeout
  /-- ADC_TRIGGER (R212). A trigger source fires for an input, and its conversion is queued on the designated core,
  or dropped as an overrun. -/
  | adcTrigger (n : Nat)
  /-- CONVERSION_COMPLETE (R213). A conversion or demodulator result is delivered to Rafter, the result register,
  the windows and the supervisors. -/
  | conversionComplete (i : Nat)
  /-- ADC_CHECK_CONVERSION (R215). Once per turn an idle core converts its check channel, and two out-of-tolerance
  results raise EV076. -/
  | adcCheckConversion (c code : Nat)
  /-- REF_SETTLED (R222). The selected reference settles and REF_RDY sets. -/
  | refSettled
  /-- REF_CHECK (R223). Every 64 reeds the reference is compared with the bandgap, and a fault raises EV068. `far`:
  beyond 2 %. -/
  | refCheck (far : Bool)
  /-- CAL (R228). The CAL command requests calibration of one ADC core. -/
  | adcCal (c : Nat)
  /-- ADC_CAL_DONE (R229). A core calibration completes, and the new constants are applied or EV070 is raised.
  `gain`, `offset`: the constants found. -/
  | adcCalDone (c : Nat) (ok : Bool) (gain : Nat) (offset : Int)
  /-- CMP_TEST (R247). The CMP_TEST command sweeps a comparator's DAC. -/
  | cmpTest (c : Nat)
  /-- CMP_TEST_DONE (R247). A comparator test completes with pass or fail. -/
  | cmpTestDone
  /-- SDM_RESULT (R237). A demodulator result instant arrives and its result is delivered. -/
  | sdmResult (n : Nat)
  /-- SDM_LOSS (R238). A bitstream holds one level for 128 clocks, so VALID clears and EV072 is raised. -/
  | sdmLoss (n : Nat)
  /-- SDM_VALID (R237). 3 × OSR clocks pass after enable or a level change, and VALID sets. -/
  | sdmValid (n : Nat)
  /-- CMP_TRIP (R244). A fast comparator trips and routes to truncation, the stage supervisor, Gutter and branch
  control. -/
  | cmpTrip (c : Nat)
  /-- CMP_RELEASE (R240). A comparator input returns past its hysteresis and an unlatched routed output releases. -/
  | cmpRelease (c : Nat)
  /-- CMP_DAC_CHECK (R246). A DAC duplicate check fails, the trip is forced until reset and EV074 is raised. `bits`: the
  bits of the duplicate register that an upset has inverted. -/
  | cmpDacCheck (c bits : Nat)
  /-- UPDATE_READY (R261). Every wait input of a stage has delivered, so its update becomes ready or replaces a
  pending one. -/
  | updateReady (s : Nat)
  /-- RAFTER_UPDATE (R266). The engine runs a stage's update, with the generator, structure, clamps and freeze, and
  sends the output word to the PWM array. -/
  | rafterUpdate
  /-- KNOWN_ANSWER_UPDATE (R351). Once per turn each engine runs a known-answer update in idle cycles. `corrected`:
  words that ECC corrected. -/
  | knownAnswerUpdate (engineB ok : Bool) (corrected : Nat)
  /-- COEF_DATA_WRITE (R295). A write to STAGEs_COEF_DATA writes the coefficient at IDX, and with AINC = 1 advances
  IDX. -/
  | coefDataWrite (s : Nat) (w : Word)
  /-- SETPOINT_WRITE (R283). A write to SP_TARGET, a generator limit, TRIM or CAP is checked and takes effect at the
  next update. `which`: 0 SP_TARGET, 1 SP_VMAX, 2 SP_AMAX, 3 SP_JMAX, 4 TRIM, 5 CAP. -/
  | setpointWrite (s which : Nat) (w : Word)
  /-- ENGINE_CHECK_FAIL (R352). An engine's hardware check fails, so it enters FAILED and, if it was active, a
  switchover starts. `check`: the number of the check in RAFTER_TWIN_CAUSE. -/
  | engineCheckFail (engineB : Bool) (check : Nat)
  /-- COMPARE_FAIL (R358). The output compare of the two engines fails, the array is held and arbitration starts. -/
  | compareFail
  /-- TAKEOVER_CHECK_DONE (R354). The TAKEOVER engine's check ends; on a pass it becomes ACTIVE and the hold is
  released, and otherwise EV029 or EV028 follows. -/
  | takeoverCheckDone (pass : Bool)
  /-- ARBITRATION_DONE (R358). Both engines' checks are finished and the outcome of the arbitration table is
  applied. `active`, `standby`: the checks of the engines that were ACTIVE and SYNCED have passed. -/
  | arbitrationDone (active standby : Bool)
  /-- TEST (R359). The TEST twin command starts the full self-test of the engine that is not ACTIVE. -/
  | twinTest
  /-- SELF_TEST_DONE (R359). The self-test ends, leading to RESYNC on a pass or to FAILED on a failure. -/
  | selfTestDone (pass : Bool)
  /-- RESYNC_COPY_DONE (R360). The RESYNC copy ends and the engine joins lockstep, or fails on timeout. `inTime`:
  within the bound of R360. -/
  | resyncCopyDone (inTime : Bool)
  /-- RESYNC_LOCKSTEP_DONE (R360). 1.0 turn of lockstep with every compare agreeing makes the engine SYNCED. -/
  | resyncLockstepDone
  /-- SWAP (R362). The SWAP twin command hands control to the SYNCED standby through a hold. -/
  | twinSwap
  /-- START (R303). The START stage command starts a stage or latches a start. -/
  | stageStart (s : Nat)
  /-- STOP (R303). The STOP stage command stops a stage. -/
  | stageStop (s : Nat)
  /-- CLEAR (R303). The CLEAR stage command returns a stage in FAULT or LOCKOUT to OFF. -/
  | stageClear (s : Nat)
  /-- START_DLY_EXPIRE (R301). START_DLY elapses with the DEP stage running, and the stage enters CHECK. -/
  | startDlyExpire (s : Nat)
  /-- STOP_DLY_EXPIRE (R302). A pending stop's STOP_DLY ends, and the stage takes its stop row. -/
  | stopDlyExpire (s : Nat)
  /-- SOFT_TIMEOUT (R311). SOFT lasts SS_TMO, raising EV049 and its summary event. -/
  | softTimeout (s : Nat)
  /-- STOP_TIMEOUT (R314). STOPPING lasts SS_TMO, raising EV057 and ending STOPPING. -/
  | stopTimeout (s : Nat)
  /-- STAGE_RETRY (R320). The stage retry timer expires, and the stage goes to WAIT or LOCKOUT. -/
  | stageRetry (s : Nat)
  /-- STAGE_RUN_STABLE (R321). A stage stays in RUN or SLEEP for 64.0 turns, and TRIES clears. -/
  | stageRunStable (s : Nat)
  /-- SHARE_TICK (R337). Every PER reeds the share unit updates S_k and writes member trims. -/
  | shareTick (g : Nat)
  /-- SHELF_REPORT_TICK (R722). Every TICK turns a node queues or forms its SHELF_REPORT. -/
  | shelfReportTick
  /-- SHELF_POWER_FORM (R723). At each rack turn boundary the shelf output power is formed. -/
  | shelfPowerForm
  /-- SHELF_REPORT (R370). A manager receives a SHELF_REPORT and updates the member table and its freshness. -/
  | shelfReport
  /-- RIDE_REPORT (R384). A manager receives a RIDE_REPORT and updates B_eff and the allowances. -/
  | rideReport
  /-- DEMAND_REPORT (R388). A manager receives a DEMAND_REPORT, which triggers a reallocation. -/
  | demandReport
  /-- INTERLEAVE_RECOMPUTE (R374). After a membership change, and at most once per 16.0 turns, the primary
  recomputes the shelf offsets and sends OFFSET_SET. -/
  | interleaveRecompute
  /-- RACK_TRIM_TICK (R377). Every TICK turns the primary runs the rack trim of each share class and sends
  SHARE_TRIM. -/
  | rackTrimTick
  /-- REALLOCATION (R387). The primary reallocates slices and allowances, at most once per 1.0, and queues the
  lowered values. -/
  | reallocation
  /-- RAISED_VALUES_SEND (R388). 0.32768 after the lowered values, the raised slices and allowances are queued as
  Normal messages. -/
  | raisedValuesSend
  /-- OFFSET_SET (R369). A worker receives OFFSET_SET and writes its shelf offset. -/
  | offsetSet
  /-- SHARE_TRIM (R378). A worker receives SHARE_TRIM and writes its clamped group trims. -/
  | shareTrim
  /-- SLICE_SET (R369). A DIST worker receives SLICE_SET, puts its slice in force, and renegotiates or serves its
  queue. -/
  | sliceSet
  /-- CHARGE_SET (R369). A STOR worker receives CHARGE_SET and puts its charge allowance in force. -/
  | chargeSet
  /-- ICHG_UPDATE (R555). The STOR firmware divides the allowance in force among the strings and writes each ICHG.
  `per`: the words written to STk_ICHG by the firmware, string by string. -/
  | ichgUpdate (per : List Nat)
  /-- BUDGET_WRITE (R386). Host software writes MGR_BUDGET, which is checked and triggers a reallocation. -/
  | budgetWrite (w : Word)
  /-- CAP_EVALUATION (R389). Every 0.64 a DIST worker evaluates its shelf power and steps the cap levels. -/
  | capEvaluation
  /-- CAP_TIMEOUT (R393). The shelf stays above its slice at level 15 for CAP_TMO turns, raising EV122. -/
  | capTimeout
  /-- MGR_STATE (R421). The standby receives MGR_STATE, applies its items and compares the CRC. -/
  | mgrState
  /-- MGR_LISTEN_END (R394). An MGR node ends its 4,096-reed listen and takes bus ID 0 or 1. -/
  | mgrListenEnd
  /-- PRIMARY_FAILURE_DETECT (R397). No PLCA beacon from bus ID 0 for 600 µs, so the standby takes over. -/
  | primaryFailureDetect
  /-- NO_PRIMARY_TIMEOUT (R399). The standby sees no primary for 16.0 turns after STANDBY entry and takes over. -/
  | noPrimaryTimeout
  /-- NO_STANDBY (R64). No standby answers within 8 beacons, so the primary runs alone and raises EV121. -/
  | noStandby
  /-- MGR_SWAP (R400). The SWAP command of MGR_CMD is accepted, and the roles are handed over at the next BEACON
  instant. `peer`: at the other manager. -/
  | mgrSwap (peer : Bool)
  /-- MGR_TAKEOVER (R397). A node receives MGR_TAKEOVER with the new primary's epoch and home ID. -/
  | mgrTakeover
  /-- PRESENCE (R438). A manager receives PRESENCE and checks for an ID clash. -/
  | presence
  /-- PROFILE_LOAD (R425). A node receives a PROFILE_LOAD part; when the transfer is complete it is checked and
  answered with ACK. `send`: at the primary, the profile that it sends (R58). -/
  | profileLoad (send : Option ProfSend)
  /-- ACK (R425). A node receives an ACK, which answers its request. -/
  | netAck
  /-- THATCH_FWD (R609). A manager receives a forwarded Thatch record and stores it in its ring. -/
  | thatchFwd
  /-- SEGMENT_DOWN (R440). A segment loses PLCA beacons or frames, or passes ERR_LIM, and is declared down with
  EV120. -/
  | segmentDown (segB : Bool)
  /-- SEGMENT_UP (R440). A segment meets its up condition for 1.0 turn and is declared up. -/
  | segmentUp (segB : Bool)
  /-- LATE_DISCARD (R441). With no segment up, a queued message whose bound passes is discarded and counted in LATE.
  -/
  | lateDiscard
  /-- KEY_COMMIT (R434). A write of RINNAK_KEY_ACT commits the staged key with its activation STAMP. `stamp`: the
  word written. -/
  | keyCommit (stamp : Word)
  /-- KEY_ACTIVATE (R434). The activation STAMP is reached and the new key comes into force. -/
  | keyActivate
  /-- KEY_ERASE (R434). 4 turns after activation, the old key is erased. -/
  | keyErase
  /-- BRANCH_SCAN (R450). At each scan instant, triggers are registered for every branch sense and spine input. -/
  | branchScan
  /-- BRANCH_EVALUATION (R451). At the delivery of the last input of a scan, each branch evaluates start, precharge-
  done, overload and leg conditions. -/
  | branchEvaluation
  /-- SEAT_RISE (R453). BRn_SEAT goes high in EMPTY, and the branch enters SEATING. -/
  | seatRise (n : Nat)
  /-- SEAT_LOSS (R453). BRn_SEAT is low for 250 ns, the branch opens and goes to EMPTY, and its link goes to DETECT.
  -/
  | seatLoss (n : Nat)
  /-- SEATING_COMPLETE (R453). SEAT_DB reeds elapse with the seat high, and the branch enters INSERT. -/
  | seatingComplete (n : Nat)
  /-- INSERT_COMPLETE (R453). INS_DLY turns elapse, and the branch enters READY. -/
  | insertComplete (n : Nat)
  /-- BRANCH_TRIP_INPUT (R453). BRn_TRIP reaches its active level, and the branch trips with cause TRIP_IN. `high`: the level that
  the ball goes to; TRIP_POL says whether it is the active one (R447). -/
  | branchTripInput (n : Nat) (high : Bool)
  /-- PRECHARGE_STALL (R459). PRE_WIN elapses without precharge-done, and the branch trips with cause STALL. -/
  | prechargeStall (n : Nat)
  /-- PRE_RELEASE (R452). 16 reeds after entry to ON, BRn_PRE goes low. -/
  | preRelease (n : Nat)
  /-- BRANCH_RETRY (R462). The branch retry timer expires, and the branch goes to READY or LOCKOUT. -/
  | branchRetry (n : Nat)
  /-- BRANCH_ON_STABLE (R462). A branch stays in ON for 64.0 turns, and TRIES clears. -/
  | branchOnStable (n : Nat)
  /-- BRANCH_OFF_DLY (R456). OFF_DLY after the DRAIN common start, a branch in ON goes to READY. -/
  | branchOffDly (n : Nat)
  /-- BRANCH_CLEAR (R453). The CLEAR branch command returns a branch in TRIPPED or LOCKOUT to READY. -/
  | branchClear (n : Nat)
  /-- BRAKE_SLOT (R471). A brake slot boundary arrives and BRKn takes the level of the pattern for that slot. -/
  | brakeSlot (n : Nat)
  /-- BRAKE_PAUSE_OBSERVED (R473). On a TRAY node a rising edge on BRK0 is counted in PAUSES. `len`: the length of
  the pause in CLK200 cycles. -/
  | brakePauseObserved (len : Nat)
  /-- SIGNATURE_MEASURE (R483). Every 1 ms in Detect, the BT voltage is classified, and a stable TRAY class
  activates the link. `mv`: the voltage in millivolts. -/
  | signatureMeasure (n mv : Nat)
  /-- DETACH (R485). The line stays idle above 2.95 V for 0.5 ms, and the source declares a detach. -/
  | detach (n : Nat)
  /-- PACKET_TRANSMIT (R481). A Batten packet waiting to be sent starts once the line has been idle for its idle
  time. `collided`: the line is found driven. -/
  | packetTransmit (n : Nat) (collided : Bool)
  /-- SRC_CAP (R503). The sink receives SRC_CAP and answers with a REQUEST. -/
  | btSrcCap (n : Nat) (f : BtFrame)
  /-- SRC_CAP_REPEAT (R492). tCAP passes without a REQUEST, and the source sends SRC_CAP again. -/
  | btSrcCapRepeat (n : Nat)
  /-- NO_SINK (R492). tCAP_TMO passes without a REQUEST, NO_SINK is raised and the repeat period becomes 1,000 ms.
  -/
  | btNoSink (n : Nat)
  /-- REQUEST (R494). The source receives a REQUEST and judges it, with an accept, WAIT or refusal. -/
  | btRequest (n : Nat) (f : BtFrame)
  /-- ANSWER (R502). The sink receives the ANSWER to its REQUEST. -/
  | btAnswer (n : Nat) (f : BtFrame)
  /-- OFFER (R498). The sink receives an OFFER and answers with ACK after adjusting its draw. -/
  | btOffer (n : Nat) (f : BtFrame)
  /-- READY (R496). The sink receives READY and puts the contract in force. -/
  | btReady (n : Nat) (f : BtFrame)
  /-- DISSOLVE (R499). Either end receives DISSOLVE and dissolves the contract. -/
  | btDissolve (n : Nat) (f : BtFrame)
  /-- SWAP_REQUEST (R507). An end receives a Batten SWAP and answers it, and the data roles may change. -/
  | btSwapRequest (n : Nat) (f : BtFrame)
  /-- PING (R493). The sink receives PING and answers with ACK. -/
  | btPing (n : Nat) (f : BtFrame)
  /-- PING_SEND (R493). tKEEP passes without an exchange, and the source sends PING. -/
  | btPingSend (n : Nat)
  /-- GET (R505). The data device receives GET and answers with DATA. -/
  | btGet (n : Nat) (f : BtFrame)
  /-- GET_SEND (R505). Every tKEEP the data host sends GET. -/
  | btGetSend (n : Nat)
  /-- DATA (R505). The data host receives DATA and copies objects 0–3 into BTn_RXOBJ. -/
  | btData (n : Nat) (f : BtFrame)
  /-- BATTEN_ACK (R497). A Batten end receives ACK to its request, which may put a contract in force or change
  roles. -/
  | btAck (n : Nat) (f : BtFrame)
  /-- LOOP (R508). A LOOP packet is received; outside TEST it is discarded and counted in BAD. -/
  | btLoop (n : Nat) (f : BtFrame)
  /-- REQUEST_RESEND (R487). tRETRY, or 25 ms for an OFFER, passes without a response; the request is sent again, or
  fails after two resends. -/
  | btResend (n : Nat)
  /-- RENEG_TIMEOUT (R498). A downward renegotiation is not done within tRENEG, so REDUCE_TMO is raised and the
  contract is dissolved. -/
  | renegTimeout
  /-- CONTRACT_LOST (R502). The sink receives no packet for tLOST and dissolves its contract. -/
  | contractLost
  /-- LINE_UP (R502). The sink line is idle above 2.0 V for tLINE, and the link goes to UP. -/
  | lineUp
  /-- LINE_DOWN (R502). The sink line is below 0.8 V for tLINE, and the link goes to DOWN. -/
  | lineDown
  /-- BATTEN_CMD_DISSOLVE (R499). The DISSOLVE link command sends DISSOLVE. -/
  | btCmdDissolve (n : Nat)
  /-- BATTEN_CMD_SWAP (R507). The SWAP link command requests a data-role swap. -/
  | btCmdSwap (n : Nat)
  /-- BATTEN_CMD_TEST (R508). The TEST link command starts the loopback test. -/
  | btCmdTest (n : Nat)
  /-- BATTEN_CMD_REQUEST (R503). The REQUEST link command makes the sink send REQUEST at once. -/
  | btCmdRequest (n : Nat)
  /-- LOOP_TEST_DONE (R508). The loopback test ends with pass or fail, and the link returns to DETECT. `mv`: the
  voltage; `samples`: the samples agree; `f`: the packet received. -/
  | loopTestDone (n mv : Nat) (samples : Bool) (f : BtFrame)
  /-- WEEVIL_WATCHDOG (R510). Weevil's watchdog expires; Weevil restarts and EV011 is raised. -/
  | weevilWatchdog
  /-- ON (R517). The ON sequencer command sets ON_LATCH and ends QUIET. -/
  | seqOn
  /-- OFF (R517). The OFF sequencer command clears ON_LATCH and drains the node. -/
  | seqOff
  /-- CLEAR_SAFE (R517). The CLEAR_SAFE sequencer command leaves SAFE when its cause is gone. -/
  | clearSafe
  /-- QUIET (R517). The QUIET sequencer command enters QUIET from STANDBY. -/
  | seqQuiet
  /-- RAMP_START (R516). ON_LATCH is set and every start condition holds, so the node enters RAMP. -/
  | rampStart
  /-- RAIL_ON_SLOT (R525). The common start plus RAILr_ON arrives; the rail is enabled and its stages are started.
  -/
  | railOnSlot (r : Nat)
  /-- RAIL_OFF_SLOT (R526). The DRAIN common start plus RAILr_OFF arrives; the rail is disabled and its stages are
  stopped. -/
  | railOffSlot (r : Nat)
  /-- RAMP_TIMEOUT (R520). RAMP_TMO passes after the last on-slot, so RUN is entered with EV119. -/
  | rampTimeout
  /-- RAIL_PG_RISE (R534). RAILr_PG rises on an enabled rail, and the RSTOk stretch starts. -/
  | railPgRise (r : Nat)
  /-- RAIL_NOUP (R527). PG_TMO passes without power-good, raising EV116. -/
  | railNoUp (r : Nat)
  /-- RAIL_LOST (R527). RAILr_PG falls on an enabled rail in RUN or RIDE, raising EV117 and asserting RSTOk. -/
  | railLost (r : Nat)
  /-- RSTO_RELEASE (R534). The STRETCH reeds expire, and RSTOk releases. -/
  | rstoRelease (k : Nat)
  /-- RIDE_RETURN (R522). The input has stayed above RIDE_TH for 2.0 turns, so RIDE returns to RUN. -/
  | rideReturn
  /-- RIDE_TIMEOUT (R518). RIDE_TMO turns in RIDE pass, so the node enters DRAIN with EV119. -/
  | rideTimeout
  /-- MIN_OFF_END (R531). MIN_OFF turns pass after DRAIN, and start condition 5 clears. -/
  | minOffEnd
  /-- QUIET_WAKE (R672). A transaction to the sleep address or opcode 0xAB ends QUIET. -/
  | quietWake
  /-- SERVICE_RESTORED (R536). The blocks stopped in QUIET or last gasp are back in service. -/
  | serviceRestored
  /-- EST_SCAN (R543). At each estimator scan instant, the VIN and IIN of every enabled string are triggered. -/
  | estScan
  /-- EST_EVALUATION (R545). At delivery of the scan's last input, each string updates its count, learning, anchors,
  inhibits and SOC. -/
  | estEvaluation
  /-- LEARN (R558). The LEARN storage command commits staged learned data at the string's next evaluation. -/
  | learn (k : Nat)
  /-- DRILL (R561). The DRILL storage command starts an anchor drill. -/
  | drill (k : Nat)
  /-- DRILL_STOP (R562). The DRILL_STOP storage command aborts a drill. -/
  | drillStop (k : Nat)
  /-- DRILL_TIMEOUT (R562). DRILL_TMO eras pass, and the drill aborts with EV110. -/
  | drillTimeout
  /-- ANCHOR_STALE (R559). AGE reaches AGE_LIM, so STALE sets and EV107 is raised. -/
  | anchorStale
  /-- THERMAL_MEASURE (R567). At each reed multiple of 8,192 every channel is measured and its limits, levels and
  events are evaluated. `xs`: what the dedicated converter reads of each channel, channel 16 the die. -/
  | thermalMeasure (xs : List ThermIn)
  /-- EVENT_RAISE (R586). Gutter latches a raised source and issues its reaction, history entry and record. The
  event number, the instance index (0xFFFF for none) and the kind code of the block that raises it. -/
  | eventRaise (ev idx kind : Nat)
  /-- GUTTER_SELF_CHECK (R592). The Gutter duplicate compare fails, SAFE is driven directly and EV127 is raised. `bits`: what
  an upset inverts in the duplicate of the Gutter register at `addr`. -/
  | gutterSelfCheck (addr : Nat) (bits : Word)
  /-- LATCH_CLEAR (R588). A write of 1 to a GUT_LATCH bit clears it when its source is not active. -/
  | latchClear (i : Nat) (mask : Word)
  /-- FORCE_RAISE (R594). A write to GUT_FORCE raises the source in the next cycle. -/
  | forceRaise (i : Nat) (mask : Word)
  /-- INJ_CHECK (R595). A write to GUT_INJ_CHECK inverts one checker's check bit at its next comparison. -/
  | injCheck (point index : Nat)
  /-- CLEAR_FIRST (R591). The CLEAR_FIRST Gutter command re-arms the first-fault capture. -/
  | clearFirst
  /-- SNAP_HIST (R590). The SNAP_HIST Gutter command copies the history queue and HCOUNT into the window. -/
  | snapHist
  /-- RECORD_COMMIT (R600). Every 8 cycles the intake commits one waiting record to a ring slot, or to the pending
  gap. -/
  | recordCommit
  /-- THATCH_FLUSH (R611). A partition has 8 waiting records, or FLUSH_TMO passes, and a page program starts.
  `part`: 0 HI, 1 LO. -/
  | thatchFlush (part : Nat)
  /-- NVM_OPERATION_DONE (R613). A Thatch page program, sector erase or read completes, or reports an error with
  EV126. `ok`: no error. -/
  | nvmOperationDone (ok : Bool)
  /-- FW_COMMIT (R599). A write of TH_FW_CMT commits the staged firmware record. -/
  | fwCommit
  /-- RELEASE (R606). A write of TH_RELEASE frees records up to the given SEQ. -/
  | thRelease (seq : Word)
  /-- SNAP_OPEN (R607). The OPEN snapshot command latches h = TH_HEAD. -/
  | snapOpen
  /-- SNAP_CLOSE (R607). The CLOSE snapshot command ends the snapshot. -/
  | snapClose
  /-- RECORD_READ (R608). A write of TH_RD_SEL copies one record into the read window. SRC and INDEX of TH_RD_SEL.
  -/
  | recordRead (src i : Nat)
  /-- RECORD_READ_DONE (R608). A record read from NVM completes and DONE sets. -/
  | recordReadDone (ok : Bool)
  /-- HOST_WRITE (R665). A host write transaction presents its words in order, after a PEC check when enabled.
  `wire`: the bytes of the transaction in the layout of R663; `sr`: a repeated START came where the target owed an
  acknowledge. -/
  | hostWrite (wire : List Byte) (sr : Bool)
  /-- REGISTER_WRITE (R689). A word written to a register with no row of its own is judged and stored or refused. -/
  | registerWrite (addr : Nat) (w : Word)
  /-- HOST_READ (R692). A multi-word host read samples its words in one cycle, clearing RC fields and firing
  latches. `wire`: the bytes that the host sends, address and register address with N. -/
  | hostRead (wire : List Byte)
  /-- SCL_LOW_TIMEOUT (R669). SCL is held low for 30 ms, so the host target releases the bus and sets LOW_TO. -/
  | sclLowTimeout
  /-- HOST_NOTIFY (R675). A pending Host Notify is sent as bus controller once the host bus is free. `acked`: 0x08
  was acknowledged; `lost`: the arbitration was lost; `sr`: another controller sent START where an acknowledge was
  due. -/
  | hostNotify (acked lost sr : Bool)
  /-- HOST_NOTIFY_RETRY (R676). Address 0x08 is not acknowledged and the notify is sent again 1 ms after the bus is
  free. As HOST_NOTIFY. -/
  | hostNotifyRetry (acked lost sr : Bool)
  /-- SEND_BYTE (R680). The module-bus SEND_BYTE protocol is started. -/
  | mbSendByte (b addr : Nat) (pec : Bool)
  /-- WRITE_BYTE (R680). The module-bus WRITE_BYTE protocol is started. -/
  | mbWriteByte (b addr : Nat) (pec : Bool)
  /-- WRITE_WORD (R680). The module-bus WRITE_WORD protocol is started. -/
  | mbWriteWord (b addr : Nat) (pec : Bool)
  /-- READ_BYTE (R680). The module-bus READ_BYTE protocol is started. -/
  | mbReadByte (b addr : Nat) (pec : Bool)
  /-- READ_WORD (R680). The module-bus READ_WORD protocol is started. -/
  | mbReadWord (b addr : Nat) (pec : Bool)
  /-- BLOCK_WRITE (R680). The module-bus BLOCK_WRITE protocol is started. -/
  | mbBlockWrite (b addr : Nat) (pec : Bool)
  /-- BLOCK_READ (R680). The module-bus BLOCK_READ protocol is started. -/
  | mbBlockRead (b addr : Nat) (pec : Bool)
  /-- I2C_WRITE (R680). The module-bus I2C_WRITE protocol is started. -/
  | mbI2cWrite (b addr : Nat) (pec : Bool)
  /-- I2C_WRRD (R680). The module-bus I2C_WRRD protocol is started. -/
  | mbI2cWrRd (b addr : Nat) (pec : Bool)
  /-- MB_TRANSACTION_DONE (R681). A module-bus transaction ends with its STAT, and DONE sets. `stat`: the outcome in
  the codes of R681; `rx`: the bytes received. -/
  | mbTransactionDone (b stat : Nat) (rx : List Byte)
  /-- MB_RETRY (R681). After NAK_ADDR or a lost arbitration, the transaction is retried once the bus is free. -/
  | mbRetry (b : Nat)
  /-- MB_STRETCH_TIMEOUT (R670). A target's clock stretch passes its limit, and the transaction ends with TIMEOUT.
  -/
  | mbStretchTimeout (b : Nat)
  /-- BUS_RECOVERY (R671). SDA is low for 35 ms, so the controller sends recovery pulses and a STOP, or sets
  BUS_STUCK. `bus`: 0 MB0, 1 MB1, 2 the host bus; `freed`: SDA is high after the pulses. -/
  | busRecovery (bus : Nat) (freed : Bool)
  /-- MB_TARGET_WRITE (R682). A module bus serving as target receives a write at OWN. `bytes`: the bytes that the
  other controller sends. -/
  | mbTargetWrite (b : Nat) (bytes : List Byte) (sr : Bool)
  /-- MB_TARGET_READ (R682). A module bus serving as target answers a read at OWN. `n`: the bytes that it takes. -/
  | mbTargetRead (b n : Nat)
  /-- PLCA_BEACON (R411). A PLCA beacon begins a PLCA cycle on a segment, advancing the plan index and renewing the
  beacon-presence timers of R396 and R440. `len`: the length of the PLCA cycle that ends, in units of 100 ns. -/
  | plcaBeacon (segB : Bool) (len : Nat)
  /-- SUPPLY_RAIL_RETURN (R585). VCORE, VDD18 and VDD33 are all back at or above 90 % of nominal, so EV001 stops
  being ACTIVE and its LATCH and SAFE cause can clear. -/
  | supplyRailReturn
  /-- EXTERNAL_RAILS_REMOVED (R538). In external-supply mode the integrator removes VCORE, VDD18 and VDD33 and the
  chip enters DARK. -/
  | externalRailsRemoved
  /-- MEMBER_NOT_FRESH (R370). A member's last SHELF_REPORT becomes older than 4 × TICK turns, so it counts as
  absent and membership changes for interleave, trim and allocation. `j`: home ID. -/
  | memberNotFresh (j : Nat)
  /-- STATE_RECORD_WRITE_DONE (R647). A state record appended by the boot manager finishes its program and verify,
  clearing TRIAL or setting up a retry or EV013. `ok`: the record verifies. -/
  | stateRecordWriteDone (ok : Bool)
  /-- DEMAND_RATE_LIMIT_END (R367). The 1.0 rate limit of DEMAND_REPORT ends with a changed demand outstanding, and
  the report is queued. -/
  | demandRateLimitEnd
  deriving DecidableEq, Repr

end Sys2Proof
end

