-- ==== Sys2Proof/Decode.lean ====
section
/-!
DEFINITION. Sys2Proof/Decode.lean: commands spelled by the bits of spec/opcode_table.json. The table gives no row bits (the
part takes commands, no instruction words), so no word spells a command.
-/

namespace Sys2Proof

/-- The command that an `nbits` bits wide word spells by the table's bits: none, for no row has bits. -/
def decodeTableWord (_nbits _w : Nat) : Option Instr := none

end Sys2Proof
end

