-- ==== Sys2Proof/Config.lean ====
section
/-!
DEFINITION. Sys2Proof/Config.lean: what the spec leaves open. `Config.free` has no body: nothing can be proved of the
value it gives, so a statement holds for every value. `OpenSite` names each point that the spec leaves open, with its
rule; notes/assumptions/ has the entries.
-/

namespace Sys2Proof

/-- A point at which the spec gives a value's role but not the value. -/
inductive OpenSite where
  /-- R150: the integer to which the servo's rate, ref and first estimate are rounded. -/
  | servoRound
  /-- R150: the first rate estimate when t2 - t2_prev is 0. -/
  | servoZero
  /-- R149, R152: the rounding of RIDGE_PATH and RIDGE_OFFSET to nanoseconds, and a value outside the field. -/
  | ridgeNs
  /-- R178: the half unit of a CENTER edge of an odd duty word. -/
  | centerEdge
  /-- R240: the voltage at ball AINc in a CLK200 cycle, which the board gives. -/
  | ainBall
  /-- R455, R499: class, kind and data of the record of a dissolve or of a branch's exit. -/
  | exitRecord
  /-- R510: the length of a restart of Weevil, within 1 ms. -/
  | weevilRestart
  /-- R398: the EPOCH of a primary whose MGR_TAKEOVER has not been heard. -/
  | rivalEpoch
  /-- R221: the voltages at VREFX and VDDA in a CLK200 cycle. -/
  | refBall
  /-- R234: the level of ball SDn in a CLK200 cycle. -/
  | sdBall
  /-- R235: what the filter takes for the bits before the demodulator was enabled. -/
  | sdBefore
  /-- R235: a half unit of RESULT. -/
  | sdHalf
  /-- R247: the pace of the sweep, the rounding to DAC codes, and FLIP where the output does not change. -/
  | cmpSweep
  /-- R204, R205: a half unit of the result code, a reference of no voltage, and the rounding of the corrected code. -/
  | adcCode
  /-- R142: the rounding of the PULL rate. -/
  | pullRate
  /-- R132: atan2 of the two sums, in reeds. -/
  | phaseAtan
  /-- R130: the voltages at the MAINS balls in a CLK200 cycle, which the facility gives. -/
  | mainsBall
  /-- R130: what the PLL takes for a sample of a quarter turn before it began, and which of two neighbouring samples lies a
  quarter turn back. -/
  | mainsEarlier
  /-- R130: the rounding of the amplitudes, of the phase error and of the filter; e where V+ is 0. -/
  | pll
  /-- R133, R136: the amplitude of a phase, whose measurement the spec does not give. -/
  | phaseAmpl
  /-- R139: the rounding of the mean rate. -/
  | frozenRate
  /-- R155: the whole reed to which a takeover difference is rounded. -/
  | takeoverOfs
  /-- R270, R274: a half unit of the comparator code and of the shift word. -/
  | wordHalf
  /-- R161, R419: the half of a millihertz. -/
  | freqHalf
  /-- R258: the quotient 1 / x within its relative error of 2^-16. -/
  | recip
  /-- R272: the rounding of the table's entries and of what is interpolated between them. -/
  | sine
  /-- R281: the rounding of the square root and of the quotient by Δ. -/
  | generator
  /-- R337: the rounding of the share term and of the trim. -/
  | share
  /-- R488, R494: P_GNT and CID of an ANSWER that grants nothing. -/
  | answerObject
  /-- R451: Vsp while no used leg has its half in the window. -/
  | noVsp
  /-- R473: the rounding of HIGH to 1/256, and a share of 1. -/
  | brakeHigh
  /-- R546: the rounding of a charge to 1 mC, whose residue is carried, and a count outside the signed 32 bits. -/
  | charge
  /-- R547: the rounding of U to 1 mC, and of SOC and U to 0.01 %; a capacity of 0. -/
  | soc
  /-- R552: the rounding of R_L. -/
  | resistance
  /-- STk_MEAS, STk_IMEAS: the rounding to 0.1 V and 1 mA, and a value outside the field. -/
  | stringMeas
  /-- R555: the rounding of ICHG. -/
  | ichg
  /-- R566: the rounding of a temperature to 0.1 °C, and a formula without a value. -/
  | temperature
  /-- R569: the rounding of a turn's mean. -/
  | thermMean
  /-- R377: the rounding of the group trim. -/
  | rackTrim
  /-- R723: the rounding of the shelf power to 100 W, and a value outside the field. -/
  | shelfPower
  /-- R181: when the delay-locked loop first locks after reset. -/
  | dllLock
  /-- R681: TRIES when more than 15 retries have been used. -/
  | mbTries
  /-- R621: the seven check bits of a fuse word that is not blank. -/
  | ecc
  /-- R104, R627: the bits that an attempt has programmed when a reset cuts it. -/
  | fuseCut
  /-- R636: the Moenaut key in ROM. -/
  | romKey
  /-- R637: the bytes that a Quad-SPI program or erase leaves when it fails. -/
  | nvmFail
  /-- RAFTER_LOAD, STAGEs_RATE: the rounding of a rate to the field's unit. -/
  | loadRate
  /-- R350, R364: the stage in which a failed check ACC sets. -/
  | accStage
  /-- MGR_SUM, MGR_NODEj: a sum outside the 16 bits of its field. -/
  | mgrSum
  deriving DecidableEq, Repr

namespace Config

/-- The value at an open point for given operands. NO BODY (see the head of this file). -/
opaque free : OpenSite → List Int → Nat

/-- `num / den` rounded one way or the other, exact where the division is exact; which way is open. -/
def round (site : OpenSite) (num den : Int) : Int :=
  num / den + (if num % den = 0 then 0 else ((free site [num, den] % 2 : Nat) : Int))

/-- `num / den` rounded to the nearest integer; which way a half goes is open. -/
def nearest (site : OpenSite) (num den : Int) : Int :=
  (2 * num + den) / (2 * den) - (if (2 * num + den) % (2 * den) = 0 then ((free site [num, den] % 2 : Nat) : Int) else 0)

/-- A value between `lo` and `hi` that comes from outside the part, or that the part leaves open in that range. -/
def between (site : OpenSite) (args : List Int) (lo hi : Int) : Int := lo + (free site args : Int) % (hi - lo + 1)

/-- `v` where it fits an unsigned field of width `w`; the spec gives no value beyond, so it is free there. -/
def fit (site : OpenSite) (w : Nat) (v : Int) : Nat :=
  if 0 ≤ v ∧ v < 2 ^ w then v.toNat else free site [v, w] % 2 ^ w

/-- `v` where it fits a signed field of width `w`; free beyond. -/
def fitS (site : OpenSite) (w : Nat) (v : Int) : Int :=
  if -(2 ^ (w - 1) : Nat) ≤ v ∧ v < (2 ^ (w - 1) : Nat) then v
  else ((free site [v, w] % 2 ^ w : Nat) : Int) - (2 ^ (w - 1) : Nat)

end Config
end Sys2Proof
end

