-- ==== Sys2Proof/Machine/State.lean ====
section
/-!
DEFINITION. Sys2Proof/Machine/State.lean: everything the spec gives the WX-7240 to hold, as plain data, and the state
after reset. Every bit that the host space shows has ONE home, the register file `Dev.regs`, under the spec's own
addresses (the names stand in Machine/Fields.lean). What the spec gives the part beside the registers (accumulators,
queues, counters, pins, timers that run, buffers) stands in one structure per chapter of spec/.
-/

namespace Sys2Proof.Machine

/-! ## Sparse contents: the register file, the fuse array, the external NVM -/

/-- Sparse contents in ascending key order: a key that is not listed holds the default of its space. -/
abbrev Sparse (α : Type) := List (Nat × α)

/-- A field of a register (R20, R24 of spec/00_scope.md): byte address, lowest bit, width. -/
structure Fld where
  addr : Nat
  lo : Nat
  w : Nat
  deriving DecidableEq, Repr

/-! ## Names that the spec encodes -/

/-- The eight modes (R66 of spec/01_system.md, R514 of spec/13_modes_sequencer.md), in the order of their codes. -/
inductive Mode where
  | dark | boot | standby | ramp | run | ride | drain | safe
  deriving DecidableEq, Repr

/-- The five roles (R7, R88 of spec/02_package_supply.md); a reserved strap code is none of them (R89). -/
inductive Role where
  | rect | stor | dist | tray | hub
  deriving DecidableEq, Repr

/-- Event classes (R29), weakest first. -/
inductive EvClass where
  | info | warn | fault | critical
  deriving DecidableEq, Repr

/-- Reactions (R29, R586 of spec/16_gutter_thatch.md), weakest first. -/
inductive React where
  | none | notify | stageStop | shelfDrain | safe
  deriving DecidableEq, Repr

/-- The reason of the entry to SAFE (R532). -/
inductive SafeCause where
  | none | gutter | clock | lastGasp | trim | engines
  deriving DecidableEq, Repr

/-- Status codes of R31. -/
inductive Code where
  | accepted | late | mode | budget | busyRun | badProfile | temp | lock | wait | internal
  deriving DecidableEq, Repr

/-! ## Supply, clock and inputs (spec/02_package_supply.md) -/

/-- What the spec names of the supply, the clock and the level of the inputs RST_N and SHTDN. -/
structure Supply where
  /-- The regulators run (R94), or with BYPASS = 1 the integrator's rails stand (R96). -/
  powered : Bool
  /-- Rails at or above 90 % of nominal: VCORE, VDD18, VDD33 (R105). -/
  railOk : List Bool
  /-- The regulators are locked to CLK200 / 100 (R93). -/
  regLocked : Bool
  /-- CLK200 has been declared lost (R115, R116); until reset the chip runs from its internal oscillator. -/
  clockLost : Bool
  /-- RST_N is held low (R104). -/
  resetHeld : Bool
  /-- The filtered level of SHTDN (R107). -/
  shtdn : Bool
  /-- SHTDN has counted as an off request and has not fallen since (R107). -/
  shtdnOff : Bool
  /-- The last-gasp trigger is armed (R100). -/
  lgArmed : Bool
  /-- A last-gasp commit runs (R101). -/
  lgRunning : Bool
  /-- The record of the running commit goes to NVM (LG_READY = 1 at the trigger, R101, R612). -/
  lgToNvm : Bool
  /-- Rack time in reeds since which VAUX has been above the re-arm threshold (BYPASS = 0), or SHTDN low with good rails
  (BYPASS = 1): after 1.0 turn the cause LAST_GASP is gone (R532). -/
  lgGoodSince : Option Nat
  /-- The blocks that QUIET (R535) or a last gasp (R537) stops are out of service. -/
  stopped : Bool
  /-- QUIET has stopped them, both Rafter engines among them (R535). -/
  quietStop : Bool
  /-- A last gasp keeps them stopped until SAFE is cleared (R538). -/
  lgHeld : Bool
  deriving DecidableEq, Repr

/-! ## Ridge (spec/03_ridge_time_base.md) -/

/-- A sync timestamp (R147): era, angle word and reed fraction, 96 bits. -/
abbrev SyncTs := BitVec 96

/-- A BEACON as a worker received it on one segment (R148): its sequence number, its receive timestamp t2 and,
once the FOLLOW_UP is in, t1. -/
structure BeaconRx where
  seq : Nat
  t2 : Nat
  t1 : Option Nat
  deriving DecidableEq, Repr

/-- A DELAY_REQ that the worker has sent on a segment and whose answer is awaited (R149), with the t1 and t2 of the
last beacon received on that segment before t3. -/
structure DelayOut where
  seq : Nat
  t3 : Nat
  t1 : Nat
  t2 : Nat
  deriving DecidableEq, Repr

/-- A DELAY_REQ that waits at the manager for the release of its answer (R149). -/
structure DelayWait where
  node : Nat
  seq : Nat
  t4 : Nat
  deriving DecidableEq, Repr

/-- What Ridge holds for one Rinnak segment. -/
structure RidgeSeg where
  rx : Option BeaconRx
  /-- t1 and t2 of the last complete pair received on the segment. -/
  last : Option (Nat × Nat)
  /-- The last values of d, newest first, in 2^-32 reed (R149 averages the last four). -/
  delays : List Int
  reqSeq : Nat
  out : Option DelayOut
  waiting : List DelayWait
  /-- Rack timestamps (in reeds) of the releases of the last 2.0 turns (R149). -/
  released : List Nat
  deriving DecidableEq, Repr

/-- A sample of the MAINS balls as step 2 of R130 needs it again a quarter turn later: the PLL angle, 3 v_α and
√3 v_β. -/
structure MainsSample where
  at_ : BitVec 64
  a : Int
  d : Int
  deriving DecidableEq, Repr

/-- What the PLL gathers over 1,024 reeds for the averages of R136: the sums of V+ and of each phase amplitude, and their
count. -/
structure MainsBlock where
  pos : Nat
  phases : List Nat
  count : Nat
  deriving DecidableEq, Repr

/-- The grid PLL (R130 to R139). Amplitudes are in 2^-8 of 0.01 % of VNOM. -/
structure Pll where
  /-- The PLL's own angle and rate word; outside a loss the local grid angle runs with them (R141). -/
  acc : BitVec 64
  rate : Word
  /-- Integral part of the filter (R130), in 2^-30 of a rate word. -/
  integ : Int
  /-- Samples of the last quarter turn, newest first (R130). -/
  hist : List MainsSample
  /-- Rack times in reeds since which the conditions of lock (R133), the wrong rotation (R135), a phase error above JUMP and
  a clamped frequency (R136) have held without a break. -/
  okSince : Option Nat
  wrongSince : Option Nat
  jumpSince : Option Nat
  clampSince : Option Nat
  /-- EV023 has been raised for the present wrong rotation. -/
  wrongRaised : Bool
  /-- The block of 1,024 reeds that runs, and the three before it, newest first (R136). -/
  block : MainsBlock
  blocks : List MainsBlock
  /-- The evaluation of R136 has found a loss. -/
  lossFound : Bool
  /-- Local grid accumulator and CLK200 cycle at the last evaluations, newest first (R139). -/
  track : List (BitVec 64 × Nat)
  /-- Sums of R132 over the turn that runs, by phase (v cos φ, v sin φ), and those of the turn just ended, until they are
  reported. -/
  sums : List (Int × Int)
  ended : Option (List (Int × Int))
  deriving DecidableEq, Repr

/-- The angle accumulators, the flywheel, and the servo of R150. -/
structure Ridge where
  /-- Rack-angle accumulator (R117) and its second copy (R120). -/
  acc : BitVec 64
  acc2 : BitVec 64
  /-- Era counter (R119) and its second copy (R120). -/
  era : Word
  era2 : Word
  /-- Local grid accumulator and its rate word (R117, R130). -/
  grid : BitVec 64
  gridRate : Word
  /-- The grid PLL. -/
  pll : Pll
  /-- A loss has been declared and not yet ended by a lock (R136). -/
  lossSince : Bool
  /-- The copies of R120 differed at the last comparison: EV024 has been raised for it. -/
  differ : Bool
  /-- The frequency target that the rate word moves toward in the steps of R128. -/
  target : Option Nat
  /-- Servo of R150: ref, the sum of e (I is this sum / 64), and the pair used last (t1, t2). -/
  ref : Nat
  esum : Int
  prev : Option (Nat × Nat)
  /-- The next FOLLOW_UP is the first after the step. -/
  firstFu : Bool
  /-- Consecutive FOLLOW_UPs with |e| ≤ 10 ns, and with |e| > 20 ns (R152). -/
  near : Nat
  far : Nat
  /-- The pair of the present beacon instant has been used (R148). -/
  used : Bool
  segA : RidgeSeg
  segB : RidgeSeg
  /-- Scarab interrupts raised by marks with IRQ = 1 (R157), by mark number, oldest first. -/
  markIrq : List Nat
  /-- The angle word before a step whose record is still to be made (R125). -/
  stepFrom : Option Word
  /-- A lock whose step, and a pair of a segment (t1, t2) whose first step, wait for the next CLK200 cycle, because a mark has fired
  in this one (R159). -/
  lockHeld : Bool
  pairHeld : Option (Bool × Nat × Nat)
  deriving DecidableEq, Repr

/-! ## PWM array (spec/04_pwm_array.md) -/

/-- What the PWM balls of the array show (R109, R110, R619). -/
inductive PwmBalls where
  /-- Reset state: hi-Z with pull-down. -/
  | reset
  /-- Safe levels, or driven by the array where a channel is driven. -/
  | safeOrDriven
  deriving DecidableEq, Repr

/-- A carrier synthesiser (R170); its run bit is CARs_STATUS.RUN and its shift in effect CARs_SHIFT.SHIFT. -/
structure Carrier where
  acc : BitVec 48
  deriving DecidableEq, Repr

/-- The waveform w of a channel, or of the pair that an even channel leads (R178, R185). Instants count in steps of
78.125 ps, 64 to a CLK200 cycle (R180); positions are carrier phases. -/
structure Wave where
  level : Bool
  /-- The last rising and the last falling edge since the channel left its safe level. -/
  rise : Option Int
  fall : Option Int
  /-- The edges still to come in the present period, and whether its edges have passed (R182). -/
  on : Option Nat
  off : Option Nat
  onDone : Bool
  offDone : Bool
  /-- An edge that fires in the next cycle at tap 0 (R182). -/
  lateOn : Bool
  lateOff : Bool
  deriving DecidableEq, Repr

/-- A channel, beside its registers. -/
structure Chan where
  /-- OFS_eff in force; it moves under R176. -/
  ofsNow : Word
  /-- Duty word waiting in the shadow register (R183), and the set's shift waiting with it. -/
  waitDuty : Option Nat
  waitShift : Option Int
  /-- Shift in effect on this channel (R175, R183). -/
  shift : Int
  /-- A change of gate that is due at the next carrier zero: true = gate on (R188). -/
  waitGate : Option Bool
  wave : Wave
  /-- The odd channel of a pair: truncated until its next on-edge (R189). -/
  truncated : Bool
  /-- The channel stands at its safe level, forced or because its stage does not drive it (R67, R110, R194,
  R300). -/
  atSafe : Bool
  /-- The stage has started since: the channel leaves its safe level at its next carrier zero (R195). -/
  leaving : Bool
  /-- Carrier zeros until the channel goes to its safe level (R301, R314): 1 = at the next one; 0 = it does not. -/
  toSafe : Nat
  /-- No word of the present run has come: both outputs of a pair stay inactive (R305). -/
  idle : Bool
  /-- The phase has wrapped in this cycle, and CARRIER_ZERO has not been served for it. -/
  zeroDue : Bool
  /-- A move of the offset or shift has taken the phase back behind a carrier zero that has been served: at the next
  wrap the period starts (1) or only runs on (2). -/
  again : Nat
  /-- The last on-edge that the channel, driven and gated on, has given in steps of R180; the slope of R242 counts from it. -/
  lastOn : Option Int
  /-- A test pulse of the pre-start check is given: its width in 5 ns steps, 0 for none (R307). -/
  pulse : Nat
  deriving DecidableEq, Repr

structure Pwm where
  balls : PwmBalls
  cars : List Carrier
  chans : List Chan
  /-- The present hold has lasted 0.256 and EV031 has been raised for it (R192); the hold itself is PWM_HOLD.HELD. -/
  holdTimedOut : Bool
  deriving DecidableEq, Repr

/-! ## Sensing (spec/05_sensing.md) -/

/-- A conversion that a core has begun (R203): the core (0 even, 1 odd), the CLK200 cycle in which its acquisition began, the
timestamp in reeds of its sampling instant once that has come, with the code of what it has sampled before correction (R204),
and whether it is exempt from the comparison of R216. -/
structure Conv where
  core : Nat
  from_ : Nat
  sampled : Option Nat
  raw : Int
  skip : Bool
  deriving DecidableEq, Repr

/-- An analog input, beside its registers. -/
structure Ain where
  /-- The core (0 even, 1 odd) that performed the previous conversion, or performs it; none before the first one (R211). -/
  lastCore : Option Nat
  /-- Conversions begun and not yet delivered, oldest first. -/
  convs : List Conv
  /-- Result and sampling instant (reeds of the 64-bit timestamp) of the previous conversion, for R216. -/
  prev : Option (Nat × Nat)
  /-- The next conversion is not compared (R211, R218). -/
  skip : Bool
  /-- Consecutive failed comparisons (R217). -/
  fails : Nat
  /-- Carrier points that pass before the next one that triggers (R208: one trigger in CDIV + 1 periods). -/
  left : Nat
  deriving DecidableEq, Repr

/-- A converter core. -/
structure Core where
  /-- Consecutive check conversions out of tolerance (R215). -/
  checkBad : Nat
  /-- Gain and offset from the last calibration run on this core, on top of the OTP generation (R205), in the units of
  R629: gain 1.0 = 0x4000_0000, offset in 1/256 code. -/
  gain : Nat
  offset : Int
  /-- The CLK200 cycle from which the core is free (R203). -/
  busyTo : Nat
  /-- The cycle in which a conversion of the check channel began, and the turn (of the 64-bit timestamp) of the last one that
  was completed (R215). -/
  check : Option Nat
  checked : Option Nat
  deriving DecidableEq, Repr

/-- A window comparator (R225): consecutive outside results, consecutive inside results. -/
structure Win where
  outside : Nat
  inside : Nat
  deriving DecidableEq, Repr

/-- A demodulator. -/
structure Sdm where
  /-- The previous result was at or above OVR_LIM in magnitude (R238). -/
  overLim : Bool
  /-- The stream is stuck: EV072 stands (R238). -/
  lost : Bool
  /-- The last RESULT delivered valid, and that no invalid RESULT has been delivered since (R238, R262). -/
  lastValid : Int
  resValid : Bool
  /-- The bits sampled since the demodulator was enabled, newest first, as far back as the filter reaches (R234, R235). -/
  bits : List Bool
  /-- Consecutive equal bits, up to 128 (R238). -/
  same : Nat
  /-- Modulator clocks since the enable, or since the stream changed level after a loss; none until it changes (R237,
  R238). -/
  clocks : Option Nat
  /-- Modulator clocks since the last result of a FREE demodulator (R236). -/
  count : Nat
  /-- Carrier points that pass before the next one that gives a result (R236). -/
  left : Nat
  deriving DecidableEq, Repr

/-- A modulator clock output (R233): it runs, with a divider, at a CLK200 cycle of its period. -/
structure SdClk where
  on : Bool
  div : Nat
  pos : Nat
  deriving DecidableEq, Repr

/-- A fast comparator. -/
structure Cmp where
  /-- Routed output forced to tripped until reset (R246). -/
  forced : Bool
  /-- The filtered comparison (R240, R243): the input is past the threshold and has not come back past the
  hysteresis. -/
  past : Bool
  /-- The comparison before the filter (R240), and the cycles for which it has differed from the filtered one, up to 16
  (R243). -/
  raw : Bool
  held : Nat
  /-- The DAC's code in the present cycle, and its duplicate (R242, R246). -/
  code : Nat
  dup : Nat
  deriving DecidableEq, Repr

structure Sense where
  /-- The ADC, SDM and CMP sections of a boot profile have been applied (R206). -/
  applied : Bool
  ains : List Ain
  cores : List Core
  wins : List Win
  sdms : List Sdm
  cmps : List Cmp
  /-- Consecutive reference comparisons beyond 2 %, and within 2 % (R223, R585). -/
  refBad : Nat
  refGood : Nat
  /-- The comparator under test, and the code to which its DAC has been swept (R247). -/
  testing : Option Nat
  sweep : Nat
  /-- Triggered conversions that no core has begun: the CLK200 cycle of the trigger's source event, and the input, in the order
  in which they are served (R212). -/
  queue : List (Nat × Nat)
  /-- The cycle in which the doubled-mode sequence of each pair began (R219). -/
  doubling : List (Option Nat)
  /-- The core of the last accepted calibration, of which DONE and FAIL tell (R229). -/
  calLast : Option Nat
  /-- The CLK200 cycle of the last branch scan, and whether its evaluation is still to come (R450, R451). -/
  scan : Option (Nat × Bool)
  /-- SDCLK0 and SDCLK1. -/
  sdclk : List SdClk
  /-- OTP gain and offset of each core, and the gain of each MAINS sense, of the newest complete generation (R205,
  R629). -/
  otpGain : List Nat
  otpOffset : List Int
  otpMains : List Nat
  /-- The CLK200 cycle in which REF_RDY cleared, while it has not set and no fault has been declared for it (R223). -/
  refSince : Option Nat
  /-- The comparison of the comparator under test at code 0, once it is there; and the code of the sweep at which it has changed,
  with the code that the ADC measured for the input at the same time (R247). -/
  sweepBase : Option Bool
  sweepFlip : Option (Nat × Nat)
  deriving DecidableEq, Repr

/-! ## Rafter (spec/06_rafter_engine.md) -/

/-- A BF18 number (R251): mantissa and exponent, value m × 2^(e - 17). -/
structure Bf where
  m : Int
  e : Int
  deriving DecidableEq, Repr

/-- A section's state for one state set (R254): x[n-1], x[n-2], x[n-3], y[n-1], y[n-2], y[n-3] under one exponent. -/
structure SecState where
  xs : List Int
  ys : List Int
  e : Int
  deriving DecidableEq, Repr

/-- The loop of one stage, beside its registers. -/
structure Loop where
  /-- The 64 coefficients of R295, as their 24-bit words. -/
  coefs : List Nat
  /-- Section states: section k, state set j at 3k + j (R254, R271). -/
  secs : List SecState
  /-- Profile generator (R281): r, v, a. -/
  r : Bf
  v : Bf
  a : Bf
  /-- Latched rack time of the previous update, or of the start, in 2^-32 reed (R281). -/
  last : Nat
  /-- Slots that have delivered a result since the previous update became ready (R261), bit i for INi. -/
  seen : Nat
  /-- Reed of the local grid angle latched when the update became ready (R265), and that update's rack time and cycle. -/
  gridReed : Nat
  readyAt : Nat
  readyCycle : Nat
  /-- The output clamp of each duty was active in the previous update (R278, R279). -/
  clamped : List Bool
  deriving DecidableEq, Repr

structure Rafter where
  loops : List Loop
  /-- Stages whose update is ready and has not started, in order of readiness (R264). -/
  ready : List Nat
  deriving DecidableEq, Repr

/-! ## Stage supervisor (spec/07_stage_control.md) -/

/-- Where the pulse test of R307 stands: the place of the tested channel among the masked ones, and whether its pulse is
awaited (0), given (1) or followed by the blank period (2). -/
structure PulseTest where
  place : Nat
  phase : Nat
  deriving DecidableEq, Repr

/-- A stage, beside its registers. -/
structure Stage where
  /-- START_DLY has elapsed in WAIT (R301). -/
  dlyDone : Bool
  /-- Timestamp in reeds of the first carrier zero of CHECK, from which SETTLE counts (R307). -/
  chkStart : Option Nat
  vinDone : Bool
  nodeDone : Bool
  /-- The first result of NODE_IN after SETTLE, which waits for the judgement of step 1 (R307). -/
  nodeCode : Option Nat
  pulse : Option PulseTest
  /-- A check step has failed in this step (R301, R307). -/
  chkFailed : Bool
  /-- Hit in the present carrier period, and EV044 may be raised again (R317). -/
  hit : Bool
  ocArmed : Bool
  /-- Phases gated on, bit p for phase p (R324). -/
  phases : Nat
  /-- |c - Z1| of the last updates in RUN, newest first (R324). -/
  loads : List Nat
  /-- Timestamps in reeds since which the shed condition (R325) and the burst-entry condition (R331) hold. -/
  shedSince : Option Nat
  burstSince : Option Nat
  /-- STOPPING has ended, and the set is still on its way to its safe levels (R314). -/
  ending : Bool
  deriving DecidableEq, Repr

/-! ## Twin engines (spec/08_twin_failover.md) -/

/-- Why SWITCHING stands (R354, R358, R362). -/
inductive HoldFor where
  | none | switchover | swap | arbitration | lost
  deriving DecidableEq, Repr

structure Twin where
  holdFor : HoldFor
  /-- Cycle t0 of the hold (R354). -/
  t0 : Nat
  /-- The engine in RESYNC still copies (R360). -/
  copying : Bool
  /-- A check of the standby has failed during the arbitration (R358). -/
  standbyBad : Bool
  /-- The comparator code of each stage as the comparators have it: held during a switchover (R354). -/
  cref : List Nat
  deriving DecidableEq, Repr

/-! ## Rinnak (spec/10_rinnak_network.md) -/

/-- A Rinnak message as its sender formed it (R417-R419). -/
structure NetMsg where
  ty : Nat
  cls : Nat
  src : Nat
  dst : Nat
  seq : Nat
  stamp : Nat
  payload : List Byte
  deriving DecidableEq, Repr

/-- A message queued on a segment (R427). `bound` is its promise in reeds, none for a message without one; `ext` is the
extension of R430; `counted` says that the segment was up when it was queued (R441). -/
structure OutMsg where
  msg : NetMsg
  acceptedAt : Nat
  bound : Option Nat
  ext : Nat
  counted : Bool
  deriving DecidableEq, Repr

/-- A message that FRAME_RECEIVE has passed on (R423, R431): the segment it came on, the receive timestamp, whether it
is the first copy, and whether only the angle may use it (R435). -/
structure RxMsg where
  msg : NetMsg
  segB : Bool
  rxAt : Nat
  first : Bool
  angleOnly : Bool
  deriving DecidableEq, Repr

/-- What Rinnak holds for one segment. The plan index is RINNAK_STATUS.CYC_A or CYC_B. -/
structure NetSeg where
  queue : List OutMsg
  /-- A plan index has been adopted since reset and since the segment last came up again (R411); the index that a frame from
  bus ID 0 has brought, which is adopted from the next cycle on (R443). -/
  adopted : Bool
  cycDue : Option Nat
  /-- The segment has been declared down since it was last up (R411, R440). -/
  wasDown : Bool
  /-- Rack time in reeds of the last PLCA beacon from bus ID 0 (R396, R430, R440). -/
  plcaAt : Option Nat
  /-- Rack time since which PLCA beacons have been present; of the last frame received; and of the last declaration of the segment's
  state, or change of the rules that apply here (R440). -/
  plcaSince : Option Nat
  rxAt : Option Nat
  base : Nat
  /-- t1 of the BEACON sent last (R147). -/
  t1 : Nat
  /-- Rack times of the errors of the last 1.0 turn (R440); strange and unauthenticated frames counted in a turn (R439): the era and
  turn, and the count. -/
  errAt : List Nat
  strTurn : Nat
  strs : Nat
  /-- The turn in which EV123 was last raised under R439. -/
  strRaised : Option Nat
  /-- The frames that the last transmit opportunity put on the line. -/
  sent : List (List Byte)
  deriving DecidableEq, Repr

structure Net where
  segA : NetSeg
  segB : NetSeg
  seq : Nat
  inbox : List RxMsg
  /-- The pair (STAMP, SEQ) last accepted of each SRC (R433). -/
  lastPair : List (Nat × Nat × Nat)
  /-- SRC, STAMP and SEQ of the messages delivered (R423). -/
  delivered : List (Nat × Nat × Nat)
  /-- The key in force, the old key that still serves, the key that waits with its activation STAMP, and the staged key
  (R434). -/
  key : Option (List Byte)
  oldKey : Option (List Byte)
  nextKey : Option (List Byte)
  actStamp : Nat
  /-- The activation STAMP of the key in force, while the old key still serves. -/
  oldAct : Nat
  staged : List Word
  /-- Era and turn of the last PRESENCE sent (R427). -/
  presenceAt : Option Nat
  /-- An MGR node listens after STANDBY entry (R394), and has heard a PLCA beacon. -/
  listening : Bool
  heard : Bool
  /-- Home IDs seen in PRESENCE frames, by SRC (R438). -/
  homes : List (Nat × Nat)
  /-- The last ACK received: sender, TYPE answered, code, transfer ID. -/
  lastAck : Option (Nat × Nat × Nat × Nat)
  deriving DecidableEq, Repr

/-! ## Rack coordination (spec/09_rack_coordination.md) -/

/-- What a manager holds of a member beside MGR_NODEj, MGR_OFSj, MGR_GTj and MGR_MEMBj (R370-R390), by home ID. -/
structure Member where
  ilvK : Nat
  ilvM : Nat
  shareGrp : Nat
  rating : Nat
  power : Int
  /-- The last mode it reported other than RIDE (R384). -/
  lastMain : Nat
  demand : Nat
  /-- The slice or allowance queued to it last (R388). -/
  given : Nat
  /-- A report of it has been received here: ILV_K and ILV_M are its own (R373). -/
  known : Bool
  deriving DecidableEq, Repr

/-- Samples of a power in a turn (R723): their exact sum n × 2^x and their count. -/
structure PowerSum where
  n : Int
  x : Int
  count : Nat
  deriving DecidableEq, Repr

structure Coord where
  members : List Member
  /-- A reallocation, or a recomputation of offsets, is due (R374, R388), and when the last one ran. -/
  reallocDue : Bool
  offsetsDue : Bool
  reallocAt : Option Nat
  offsetsAt : Option Nat
  /-- B before a budget write whose reallocation is still to come (R429). -/
  oldBudget : Option Nat
  /-- Raised values that wait (R388), by home ID, and when the lowered ones before them were queued. -/
  raisedVals : List (Nat × Nat)
  raisedAt : Option Nat
  /-- TICK of the last BEACON accepted (R722). -/
  tick : Option Nat
  /-- Sequence number of MGR_STATE, and the place of the rotating refresh (R421). -/
  stateSeq : Nat
  refresh : Nat
  /-- The copy of R395, item × 32 + home ID to value: at the primary as it was put on a line since the standby is present, at the
  standby as it came. -/
  copy : Sparse Nat
  copyHeld : Bool
  /-- At the primary, the items that the standby has not been sent since it is present (R421). -/
  unsent : List Nat
  /-- SWAP accepted, here or at the primary, to be done at the next BEACON instant (R400). -/
  swapDue : Bool
  /-- EPOCH and home ID of the MGR_TAKEOVER that a primary has heard (R398). -/
  rival : Option (Nat × Nat)
  /-- Beacons sent since the node became primary, up to 8 (R64). -/
  beacons : Nat
  /-- Sequence number of the last BEACON sent or received, and the rack time in reeds of the last beacon instant whose
  FOLLOW_UP was sent or received (R154). -/
  beaconSeq : Nat
  lastInstant : Nat
  /-- Shelf power samples of the turn (R723), by stage (RECT) or string (STOR). -/
  powers : List PowerSum
  /-- Scans of the last 256 reeds (R389): rack time, and the power of each branch in 2^-33 W. -/
  scans : List (Nat × List Int)
  /-- P_shelf of the last evaluation in 2^-33 W, as a sum and its count. -/
  pShelf : Int × Nat
  /-- Consecutive evaluations below the margin (R389); P_shelf was above the slice at the last evaluation, and EV122 has
  been raised for it (R393). -/
  relax : Nat
  overSlice : Bool
  capRaised : Bool
  /-- The stages that RIDE has stopped and marked, as a bit mask (R380). -/
  marks : Nat
  /-- The demand seen last (contracts, requests), a DEMAND_REPORT still to be sent, and the rack time of the last one
  (R367). -/
  demandSeen : Nat × Nat
  demandPend : Bool
  demandAt : Option Nat
  deriving DecidableEq, Repr


/-! ## Branches (spec/11_branches.md) -/

/-- A branch, beside its registers. -/
structure Branch where
  /-- BRn_PRE drives high (R452). -/
  pre : Bool
  /-- Consecutive scans at or above FUSE_TH (R460). -/
  overs : Nat
  /-- Consecutive scans at which leg A, or leg B, may close again (R468). -/
  reclA : Nat
  reclB : Nat
  /-- BRn_VRANGE has been read since the last scan in ON (R470). -/
  rangeRead : Bool
  /-- The level of BRKn (R471). -/
  brake : Bool
  /-- The levels of balls BRn_SEAT and BRn_TRIP (R447, R453). -/
  seat : Bool
  trip : Bool
  deriving DecidableEq, Repr

def Branch.rest : Branch := ⟨false, 0, 0, 0, false, false, false, false⟩

/-! ## Batten (spec/12_batten_link.md) -/

/-- A Batten packet (R486, R488). -/
structure BtPacket where
  ty : Nat
  prole : Bool
  dhost : Bool
  msgid : Nat
  resp : Bool
  code : Nat
  objs : List Word
  deriving DecidableEq, Repr

/-- Why a packet is sent: for its resend rule and what its sending or its answer brings about (R487, R494, R507). `again` is the
response to a repeated request, `capRequest` a REQUEST in answer to a SRC_CAP (R503). -/
inductive BtKind where
  | announce | response | again | grant | swapAck | request | capRequest | offerUp | offerDown | ready | dissolve | swap | ping
  | get | loop
  deriving DecidableEq, Repr

/-- A packet that waits for the line (R481). -/
structure BtOut where
  packet : BtPacket
  kind : BtKind
  /-- It belongs to the last command of the link, whose DONE it sets (R513). -/
  mine : Bool
  deriving DecidableEq, Repr

/-- A request sent and not yet answered (R487). -/
structure BtWait where
  packet : BtPacket
  kind : BtKind
  resends : Nat
  mine : Bool
  deriving DecidableEq, Repr

/-- A link, beside its registers. -/
structure BtLink where
  /-- Packets that wait to be sent, requests of this end that wait for the outstanding one among them. -/
  tx : List BtOut
  /-- The packet put on the line last. -/
  sent : Option BtPacket
  /-- The outstanding request (R487), and the MSGID of the next new one. -/
  out : Option BtWait
  nextId : Nat
  /-- MSGID of the last request acted on from the other end, and the response to it (R487). -/
  served : Option (Nat × BtPacket)
  /-- The class counted and its consecutive measurements; the stable class, 0 for none; the class that was stable last
  (R484). -/
  sigClass : Nat
  sigCount : Nat
  stable : Nat
  lastStable : Nat
  /-- Source: a REQUEST has come since the link became active; NO_SINK has been raised (R492). -/
  requested : Bool
  noSink : Bool
  /-- Source: the queued request (R494): P_REQ, P_MIN, place in the order of arrival. -/
  queued : Option (Nat × Nat × Nat)
  /-- Source: the value to which the contract is being reduced (R498); the raised value granted or offered and not yet in
  force; the place of the queued request that a raised value was offered to (R497). -/
  reduceTo : Option Nat
  promised : Option Nat
  offered : Option Nat
  /-- Source: READY is due when the branch is in ON (R496). -/
  readyDue : Bool
  /-- Sink: the values held off after a WAIT, and the CLK200 cycle from which tWAITQ counts (R503). -/
  holdOff : Option (Nat × Nat × Nat)
  /-- Sink: the raised value and its CID that await READY (R496, R502). -/
  granted : Option (Nat × Nat)
  deriving DecidableEq, Repr

/-- A link at rest. -/
def BtLink.rest : BtLink :=
  { tx := [], sent := none, out := none, nextId := 0, served := none, sigClass := 0, sigCount := 0, stable := 0,
    lastStable := 0, requested := false, noSink := false, queued := none, reduceTo := none, promised := none, offered := none,
    readyDue := false, holdOff := none, granted := none }

structure Batten where
  links : List BtLink
  /-- Place of the next queued request in the order of arrival (R494). -/
  arrivals : Nat
  /-- Scarab interrupts raised at changes of the contract (R504). -/
  irqs : Nat
  /-- Source: the number given last to a contract value (R488). -/
  cid : Nat
  /-- The CLK200 cycle in which a restart of Weevil ends (R510). -/
  restart : Option Nat
  /-- The CLK200 cycle of the slice's last delivery, and the cycles by which restarts have extended tRENEG since (R498, R510). -/
  sliceAt : Nat
  extended : Nat
  /-- Weevil's SRAM of 32 KiB, by byte offset (R509). -/
  sram : Sparse Byte
  deriving DecidableEq, Repr

/-- The tray's observation of BRK0 (R473): cycles that the present pause still lasts, cycles high and cycles counted in
the present turn. -/
structure Shelf where
  left : Nat
  high : Nat
  cycles : Nat
  deriving DecidableEq, Repr


/-! ## Sequencer (spec/13_modes_sequencer.md) -/

/-- What the sequencer holds beside the SEQ block. Rail and reset-output sets are bit masks, bit r for rail r. -/
structure Seq where
  /-- The common start of the present RAMP or DRAIN has come (R519). -/
  csSeen : Bool
  /-- Rack timestamp in reeds of the last common start. -/
  csAt : Nat
  /-- Rails whose on-slot has been reached since the last entry to RAMP (R526). -/
  onReached : Nat
  /-- Rails whose off-slot has passed in the present DRAIN (R526). -/
  offPassed : Nat
  /-- Enable state of each used slot (R524); for a rail with USE = 1 this is the level of RAILr_EN. -/
  slotOn : Nat
  /-- Rails enabled whose PG_TMO wait runs (R527). -/
  pgWait : Nat
  /-- RSTOk released (not asserted), and RSTOk whose STRETCH runs (R534). -/
  rstoReleased : Nat
  rstoStretch : Nat
  /-- Consecutive input results below RIDE_TH and below STOP_TH (R521), each held at 4. -/
  belowRide : Nat
  belowStop : Nat
  /-- The input has been at or above RIDE_TH at every result since the last one below it (R522). -/
  inputBack : Bool
  /-- The last input result, in codes (R521). -/
  inputNow : Option Nat
  /-- The source whose raise forced SAFE (R588). -/
  safeSource : Option Nat
  /-- The OFF command of R572 takes effect with the next cycle; an on request has been accepted in this cycle (R572). -/
  offDue : Bool
  onFresh : Bool
  /-- The input has returned in RIDE (R522); PG_TMO has passed for these rails in this cycle (R527): the rows of R518 and R539 that
  go before them in the cycle having been met, they act with the next one. -/
  rideBack : Bool
  noUpDue : Nat
  /-- Rails enabled that have failed to come up (R534). -/
  noUp : Nat
  deriving DecidableEq, Repr

/-! ## Storage estimator (spec/14_storage_estimator.md) -/

/-- A string, beside its registers. -/
structure Str where
  /-- Residue of the count below 1 mC, in units of 2^-16 mA × 5 ns (R546). -/
  residue : Int
  /-- T_A in mC (R546); the last anchor, full (some true) or empty (some false), none since reset or a commit (R551). -/
  ta : Int
  lastAnchor : Option Bool
  /-- U in mC, with its residue in 1/65,536 mC (R547). -/
  u : Int
  uRes : Int
  /-- Consecutive evaluations at the thresholds (R548, R549) and inside the range (R553). -/
  eoc : Nat
  eod : Nat
  inRange : Nat
  /-- V and I of the previous evaluation, in 2^-16 V and 2^-16 A (R552), and its CLK200 cycle (R546). -/
  prev : Option (Int × Int)
  prevCycle : Option Nat
  /-- A LEARN commit waits for the evaluation (R558): Q, C_L, R_L, U, AGE. -/
  learn : Option (Nat × Nat × Nat × Nat × Nat)
  /-- EV107 has been raised since AGE was below AGE_LIM (R559). -/
  aged : Bool
  /-- The CLK200 cycle in which a drill was accepted; CHG_INH before the evaluation of a CLK200 cycle (R563). -/
  drillAt : Option Nat
  inhWas : Option (Nat × Nat)
  deriving DecidableEq, Repr

def Str.rest : Str := ⟨0, 0, none, 0, 0, 0, 0, 0, none, none, none, false, none, none⟩

/-! ## Thermal manager (spec/15_thermal.md) -/

/-- A channel, beside its registers. -/
structure Therm where
  /-- The rack turn that is being summed, the sum and the count of its valid readings, and the mean of the turn before
  (R569). -/
  turn : Nat
  sum : Int
  count : Nat
  mean : Option Int
  /-- COLD_WARN applies; the die condition of R573 applies. -/
  coldWarn : Bool
  dieCrit : Bool
  /-- The event that the present HOT_STOP raised: 113, 114, or 0 where HOT_CRIT came with it (R571, R574). -/
  hotEv : Nat
  /-- The level of R575 with its hysteresis. -/
  level : Nat
  /-- The conversion that the last measurement has triggered for an NTC channel is still to be delivered (R567). -/
  awaits : Bool
  deriving DecidableEq, Repr

/-! ## Gutter and Thatch (spec/16_gutter_thatch.md) -/

/-- A raise of a source, as its block reports it: event number, instance index (0xFFFF for none), kind code and the
INJ mark (R580, R593, R596). -/
structure Raise where
  ev : Nat
  idx : Nat
  kind : Nat
  inj : Bool
  forced : Bool
  deriving DecidableEq, Repr

/-- An entry of the history queue (R590). `fresh` marks an entry whose capture word is still to be read (R596: the value
of the instance's register in the cycle after the raise). -/
structure HistEntry where
  ev : Nat
  cls : Nat
  react : Nat
  inj : Bool
  idx : Nat
  data : Word
  era : Word
  angle : Word
  fresh : Bool
  deriving DecidableEq, Repr

/-- A check whose check bit is inverted at its next comparison (R595). -/
structure InjArm where
  point : Nat
  index : Nat
  deriving DecidableEq, Repr

structure Gutter where
  /-- The classes and reactions of R583 stand, no boot profile having been applied since internal reset release (R582,
  R655). -/
  defaults : Bool
  /-- History queue, newest first, at most 16 entries (R590). -/
  hist : List HistEntry
  /-- Scarab interrupts raised by sources with IRQ = 1 (R581), oldest first. -/
  irq : List Nat
  /-- Injected checks that wait for their comparison, the last request at the end (R595). -/
  armed : List InjArm
  /-- Sources that a write of GUT_FORCEi raises in the next cycle (R594). -/
  forcing : List Nat
  /-- Bits in which the duplicate of a register of Gutter differs from it, by address (R592). -/
  upset : Sparse Word
  /-- Rails whose RAIL_LOST condition holds EV117 active (R585), and the instances that hold EV031, EV064-EV068, EV072,
  EV074, EV076 active. -/
  holders : List (Nat × Nat)
  deriving DecidableEq, Repr

/-- A Thatch record (R596), by its eight little-endian words; the last one is the CRC. -/
structure Record where
  w0 : Word
  w1 : Word
  w2 : Word
  w3 : Word
  w4 : Word
  w5 : Word
  w6 : Word
  w7 : Word
  deriving DecidableEq, Repr

/-- A record in the intake buffer (R600). -/
structure Waiting where
  record : Record
  /-- The record's DATA is still to be read (R596). -/
  fresh : Bool
  /-- A record of another node's series (R609). -/
  foreign : Bool
  deriving DecidableEq, Repr

/-- What has become of a ring slot's record (R602). -/
inductive SlotState where
  | held | flushed | released
  deriving DecidableEq, Repr

/-- A written slot of the SRAM ring (R602), with its place in the order of writing. -/
structure RingSlot where
  record : Record
  state : SlotState
  order : Nat
  /-- Rack time in reeds of the commit (R611). -/
  at_ : Nat
  foreign : Bool
  /-- Taken from the ring for forwarding (R609, R442). -/
  forwarded : Bool
  /-- Committed while NVM_EN = 0: it is not flushed and stays held until it is released (R602). -/
  kept : Bool
  deriving DecidableEq, Repr

/-- A partition of the black-box region (R610). -/
inductive Part where
  | lg | hi | lo
  deriving DecidableEq, Repr

/-- A Quad-SPI operation of Thatch in progress (R611, R612, R608). -/
inductive ThatchOp where
  /-- Page program of ring records into a partition: the slots with the records as they are written. -/
  | program (part : Part) (slots : List (Nat × RingSlot))
  /-- Sector erase in a partition. -/
  | erase (part : Part) (sector : Nat)
  deriving DecidableEq, Repr

structure Thatch where
  intake : List Waiting
  ring : Sparse RingSlot
  /-- Count of ring writes: the order stamp of the next one. -/
  writes : Nat
  /-- Next SEQ to be given (R598). -/
  nextSeq : Nat
  /-- Per source: event, timestamp in reeds and SEQ of the last raise that has a record (R604). -/
  lastRaise : List (Nat × Nat × Nat)
  op : Option ThatchOp
  /-- A record read from NVM is in progress (R608): partition and record index. -/
  reading : Option (Part × Nat)
  /-- Erase of the next sector already done, per partition LG, HI, LO (R612). -/
  erasedAhead : List Bool
  /-- TIME of the first record lost in the pending gap (R597). -/
  gapTime : Nat
  /-- The LG record of a running last-gasp commit (R537). -/
  lgRecord : Option Record
  deriving DecidableEq, Repr

/-! ## Fuses, images and profiles (spec/17_boot_otp_update.md) -/

/-- A word of the shadow (R624) with its flags. -/
structure ShadowWord where
  data : Word
  marginal : Bool
  corr : Bool
  uncorr : Bool
  deriving DecidableEq, Repr

/-- An OTP programming operation in progress (R627): the bits that are to be programmed in a word. -/
inductive OtpOp where
  /-- PROG of a word with its 39 bits. -/
  | word (addr : Nat) (bits : FuseWord)
  /-- LOCK, DEBUG_LOCK: a logical bit of the lock word. -/
  | lock (bit : Nat)
  /-- A logical bit of the thermometer (R648). -/
  | thermo (bit : Nat)
  deriving DecidableEq, Repr

/-- What the boot manager does on the Quad-SPI bus for an image slot (R640, R651, R652). -/
inductive ImgOp where
  /-- Erase of the 4 KiB sector at a byte of the slot. -/
  | erase (slot at_ : Nat)
  /-- Program of a page at a byte of the slot. -/
  | program (slot at_ : Nat) (bytes : List Byte)
  /-- The check after FINISH. -/
  | check (slot : Nat)
  deriving DecidableEq, Repr

/-- Why a state record is appended (R639, R647, R649, R651). -/
inductive RecFor where
  | begin_ (slot : Nat) | arm (slot : Nat) | confirm (slot : Nat) | fallback (slot : Nat)
  /-- The copy of the newest record in the other sector (R639). -/
  | copy
  deriving DecidableEq, Repr

/-- A state record that is being written (R639, R647), and the failed attempts before. -/
structure RecWrite where
  why : RecFor
  tries : Nat
  deriving DecidableEq, Repr

/-- An accepted live profile that waits for its boundary (R656, R657): the CLK200 cycle of its acceptance, its bytes, whether
it is Rinnak's, and whether it changes an RWL field (R658). -/
structure ProfWait where
  at_ : Nat
  net : Bool
  bytes : List Byte
  rwl : Bool
  deriving DecidableEq, Repr

structure Boot where
  shadow : Sparse ShadowWord
  /-- The write before this one was 0xC35A to OTP_ARM (R626). -/
  armed : Bool
  otpOp : Option OtpOp
  /-- A last gasp has been triggered during the attempt (R658). -/
  otpCut : Bool
  /-- The security version to which the thermometer is to be raised (R648). -/
  svTarget : Option Nat
  /-- A debug instruction has been loaded since reset; the JTAG instruction in effect (R634). -/
  debugSeen : Bool
  jtag : Nat
  /-- Scarab's SRAM, by byte offset (R617, R642). -/
  sram : Sparse Byte
  /-- The slot that runs; none when no slot has booted (R619). -/
  running : Option Nat
  /-- Slots that BOOT or the boot manager has checked (R644), as a mask. -/
  checked : Nat
  /-- Page buffer of R652, and the byte of the slot at which the next page goes. -/
  page : List Byte
  pageAt : Nat
  /-- The sector of the next page has been erased. -/
  pageErased : Bool
  imgOp : Option ImgOp
  /-- The state record that is being written, and those that wait. -/
  rec_ : Option RecWrite
  recQ : List RecWrite
  /-- FINISH has been accepted (R651). -/
  finishing : Bool
  /-- The slot being written; none without a write in progress. -/
  writing : Option Nat
  /-- Slots overfilled while they were written (R643), as a mask. -/
  overfilled : Nat
  /-- Staging buffers (R657): words of the host, bytes of Rinnak by offset, each as its value plus 1. -/
  hostStage : Sparse Word
  netStage : Sparse Nat
  /-- The Rinnak transfer that the buffer belongs to: sender, transfer ID, total length (R425). -/
  netXfer : Option (Nat × Nat × Nat)
  /-- Profiles under check: the bytes, and sender and transfer ID where it is Rinnak's. -/
  checking : List (Option (Nat × Nat) × List Byte)
  /-- Accepted profiles that wait for the boundary, in order of acceptance. -/
  waiting : List ProfWait
  /-- Rack time in reeds at STANDBY entry, from which the health window counts (R646). -/
  standbyAt : Nat
  /-- The reset cause of the next BOOT (R650). -/
  cause : Nat
  /-- The health window has expired in this cycle: a CONFIRM of the same cycle governs (R658). -/
  expired : Bool
  deriving DecidableEq, Repr

/-! ## Host target and module buses (spec/18_twowire_host.md) -/

/-- A module-bus transaction (R679-R681): protocol, target address, PEC, and the retries used on each limit. -/
structure MbTrans where
  proto : Nat
  addr : Nat
  pec : Bool
  /-- The bytes that the controller sends, from the address byte on. -/
  out : List Byte
  /-- Retries used after NAK_ADDR and after lost arbitrations. -/
  naks : Nat
  arbs : Nat
  /-- A retry waits for the bus. -/
  waits : Bool
  deriving DecidableEq, Repr

structure Mbus where
  trans : List (Option MbTrans)
  /-- The bytes that each bus, as target, returned in the last read at OWN (R682). -/
  returned : List (List Byte)
  deriving DecidableEq, Repr

/-- What is left of a host write: its words go to their registers one per CLK200 cycle (R691). -/
structure HostWords where
  /-- The words have been acknowledged and held for the PEC (R665). -/
  held : Bool
  /-- The transaction has set an error flag. -/
  bad : Bool
  words : List (Nat × Word)
  deriving DecidableEq, Repr

structure HostIf where
  /-- The Host Notify pending (R675): event and class. -/
  notify : Option (Nat × Nat)
  /-- Its sends that were not acknowledged, and its arbitration losses in a row (R676). -/
  naks : Nat
  losses : Nat
  /-- It waits for 1 ms after the bus is free (R676). -/
  waits : Bool
  /-- The bytes of the last Host Notify sent. -/
  sent : List Byte
  /-- ERA and FRAC latched by a read of RIDGE_ANGLE (R162). -/
  latchEra : Word
  latchFrac : Word
  /-- The bytes that the last read transaction returned (R663). -/
  readBack : List Byte
  /-- HOST_STATUS [7:0] as it was shifted out during the opcode byte of the last SPI frame (R663). -/
  statusOut : Byte
  /-- The CLK200 cycle from which the target answers after a wake from QUIET (R672). -/
  silentTo : Nat
  /-- The host write whose words are not all presented. -/
  toGo : Option HostWords
  deriving DecidableEq, Repr

/-! ## The present cycle -/

/-- The keys of R434 with their STAMPs. -/
structure KeySet where
  key : Option (List Byte)
  oldKey : Option (List Byte)
  nextKey : Option (List Byte)
  actStamp : Nat
  oldAct : Nat
  deriving DecidableEq, Repr

/-- What the model notes of the present CLK200 cycle, so that commands with no cycle between them count as commands of one
cycle. The next cycle begins with nothing noted. -/
structure ThisCycle where
  /-- Bits that hardware has set in the cycle, by register: a host access of the same cycle does not clear them (R26). -/
  sets : Sparse Word
  /-- Registers that the host has written in the cycle, with the word before the first such write: what takes effect from
  the next cycle on still goes by it (R158, R248, R282). -/
  was : List (Nat × Word)
  /-- Registers that a Rinnak message has written in the cycle: a host write of the same cycle leaves the message's value
  (R54). -/
  net : List Nat
  /-- Registers that REGISTER_WRITE has written in the cycle: over a host write of the same cycle its value stands, as that of
  the firmware (R693). -/
  firmware : List Nat
  /-- The rack angle, and the local grid angle, came to a new reed with this cycle. -/
  reedNew : Bool
  gridNew : Bool
  /-- The rack angle, or the local grid angle, has stepped in the cycle (R159). -/
  stepped : Bool
  gridStepped : Bool
  /-- Marks that have fired in the cycle. -/
  fired : List Nat
  /-- The rate has made its step of R128 in the cycle. -/
  slewed : Bool
  /-- The source has gone from PULL to GRID in the cycle: that row of R124 governs it. -/
  pulled : Bool
  /-- Inputs (0 to 47) and demodulators (64 to 71) whose own trigger source has come to its instant in the cycle, the mark
  sources apart, and those that have taken their trigger or result in it (R208, R236), with 96 for the thermal measurement
  (R567), 97 for the beacon instant (R146) and 98 for the comparison of the reference (R223). -/
  due : List Nat
  served : List Nat
  /-- Sources that have been raised in the cycle and do not hold: ACTIVE reads 1 for its length (R585). -/
  raised : List Nat
  /-- Rails whose on-slot has come in the cycle, as a mask: an off request of the same cycle leaves them off (R539). -/
  onSlots : Nat
  /-- The keys before a commit of the cycle, under which its frames are judged (R443). -/
  keys : Option KeySet
  /-- Stages that a load step has met in the cycle (R340). -/
  loadSteps : List Nat
  /-- Rows of R453 by which branches have left a state in the cycle: branch, row, and BRn_STATE and the branch as they were. -/
  brRows : List (Nat × Nat × Word × Branch)
  /-- SAFE has been entered in the cycle by a row of R518 below that of Gutter and the last gasp. -/
  lowSafe : Bool
  deriving DecidableEq, Repr

/-! ## The whole state -/

/-- Everything the part holds, the external NVM with it, but the queue of commands. -/
structure Dev where
  /-- The registers of the host space (R24): ascending addresses, no zero entry; an unlisted register reads 0. -/
  regs : Sparse Word
  sup : Supply
  ridge : Ridge
  pwm : Pwm
  sense : Sense
  rafter : Rafter
  stages : List Stage
  twin : Twin
  coord : Coord
  net : Net
  branches : List Branch
  shelf : Shelf
  batten : Batten
  seq : Seq
  strings : List Str
  therm : List Therm
  gut : Gutter
  thatch : Thatch
  boot : Boot
  mbus : Mbus
  host : HostIf
  /-- The fuse array (R621): word address to fuses; an unlisted word is blank. -/
  otp : Sparse FuseCell
  /-- The external NVM (R637): byte address to byte; an unlisted byte is erased, 0xFF. -/
  nvm : Sparse Byte
  /-- Addresses of NVM pages that an abort has left partly programmed (R612). -/
  torn : List Nat
  /-- CLK200 cycles since reset: the model's own count, for the latencies and intervals that the part measures in cycles
  (R290, R546). -/
  cycles : Nat
  /-- The model's own count of free values drawn. -/
  draws : Nat
  /-- The model's own notes of the present cycle. -/
  cyc : ThisCycle
  /-- Sources raised in the present step and not yet taken in by Gutter (R589). -/
  raised : List Raise
  deriving DecidableEq, Repr

/-! ## The part right after reset -/

/-- The registers whose Reset column is not 0 (R27 of spec/00_scope.md): SYS_STATUS, RAFTER_TWIN_STATUS, BRn_VRANGE,
STk_SOC and STk_STATE, the fixed sources of GUT_SRCn_CFG, IMAGE_STATUS, IMAGE_SLOT0, IMAGE_WCOUNT, HOST_STATUS. SYS_MODE
reads 0, DARK: the part has not left reset. -/
def resetRegs : Sparse Word := [
  (0x0024, 0x00000001), (0x0840, 0x00000421), (0x3838, 0x00003FFF), (0x3878, 0x00003FFF),
  (0x38B8, 0x00003FFF), (0x38F8, 0x00003FFF), (0x3938, 0x00003FFF), (0x3978, 0x00003FFF),
  (0x39B8, 0x00003FFF), (0x39F8, 0x00003FFF), (0x403C, 0x27103FFF), (0x4040, 0xFFFF0020),
  (0x40BC, 0x27103FFF), (0x40C0, 0xFFFF0020), (0x413C, 0x27103FFF), (0x4140, 0xFFFF0020),
  (0x41BC, 0x27103FFF), (0x41C0, 0xFFFF0020), (0x423C, 0x27103FFF), (0x4240, 0xFFFF0020),
  (0x42BC, 0x27103FFF), (0x42C0, 0xFFFF0020), (0x4800, 0x00000087), (0x4804, 0x00000093),
  (0x4860, 0x00000093), (0x4870, 0x00000085), (0x4874, 0x00000093), (0x4878, 0x00000093),
  (0x487C, 0x00000093), (0x49D8, 0x00000087), (0x49FC, 0x00000093), (0x5400, 0x00000020),
  (0x5404, 0x00000002), (0x5424, 0x40000000), (0x5C04, 0x0000B000)]

def RidgeSeg.rest : RidgeSeg := ⟨none, none, [], 0, none, [], []⟩

def Wave.rest : Wave := ⟨false, none, none, none, none, false, false, false, false⟩

def Chan.rest : Chan := ⟨0, none, none, 0, none, .rest, false, true, false, 0, true, false, 0, none, 0⟩

def Stage.rest : Stage := ⟨false, none, false, false, none, none, false, false, false, 0, [], none, none, false⟩

def MainsBlock.rest : MainsBlock := ⟨0, [0, 0, 0], 0⟩

def Pll.rest : Pll :=
  ⟨0, 0, 0, [], none, none, none, none, false, .rest, [], false, [], [(0, 0), (0, 0), (0, 0)], none⟩

def ThisCycle.rest : ThisCycle where
  sets := []
  was := []
  net := []
  firmware := []
  reedNew := false
  gridNew := false
  stepped := false
  gridStepped := false
  fired := []
  slewed := false
  pulled := false
  due := []
  served := []
  raised := []
  onSlots := 0
  keys := none
  loadSteps := []
  brRows := []
  lowSafe := false

def Ain.rest : Ain := ⟨none, [], none, false, 0, 0⟩

def Core.rest : Core := ⟨0, 0x40000000, 0, 0, none, none⟩

def Sdm.rest : Sdm := ⟨false, false, 0, true, [], 0, some 0, 0, 0⟩

def Cmp.rest : Cmp := ⟨false, false, false, 0, 0, 0⟩

def Therm.rest : Therm := ⟨0, 0, 0, none, false, false, 0, 0, false⟩

def Seq.rest : Seq := ⟨false, 0, 0, 0, 0, 0, 0, 0, 0, 0, false, none, none, false, false, false, 0, 0⟩

def Supply.rest : Supply :=
  ⟨false, [false, false, false], false, false, false, false, false, false, false, false, none, false, false, false⟩

def Member.rest : Member := ⟨0, 0, 0, 0, 0, 0, 0, 0, false⟩

def NetSeg.rest : NetSeg := ⟨[], false, none, false, none, none, none, 0, 0, [], 0, 0, none, []⟩

/-- Everything in the part at reset, with blank fuses and an erased external NVM. -/
def Dev.rest : Dev where
  regs := resetRegs
  sup := .rest
  ridge := ⟨0, 0, 0, 0, 0, 0, .rest, false, false, none, 0, 0, none, false, 0, 0, false, .rest, .rest, [], none, false, none⟩
  pwm := ⟨.reset, List.replicate 12 ⟨0⟩,
    List.replicate 32 .rest, false⟩
  sense := ⟨false, List.replicate 48 .rest, List.replicate 8 .rest, List.replicate 32 ⟨0, 0⟩, List.replicate 8 .rest,
    List.replicate 24 .rest, 0, 0, none, 0, [], List.replicate 4 none, none, none, List.replicate 2 ⟨false, 0, 0⟩,
    List.replicate 8 0x40000000, List.replicate 8 0, List.replicate 3 0x40000000, none, none, none⟩
  rafter := ⟨List.replicate 12 ⟨List.replicate 64 0, List.replicate 12 ⟨[0, 0, 0], [0, 0, 0], -32⟩,
    ⟨0, -32⟩, ⟨0, -32⟩, ⟨0, -32⟩, 0, 0, 0, 0, 0, []⟩, []⟩
  stages := List.replicate 12 .rest
  twin := ⟨.none, 0, false, false, List.replicate 12 0⟩
  coord := ⟨List.replicate 32 .rest, false, false, none, none, none, [], none, none, 0, 0, [], false, [],
    false, none, 0, 0, 0, List.replicate 12 ⟨0, 0, 0⟩, [], (0, 0), 0, false, false, 0, (0, 0), false, none⟩
  net := ⟨.rest, .rest, 0, [], [], [], none, none, none, 0, 0, List.replicate 8 0, none, false, false, [], none⟩
  branches := List.replicate 8 .rest
  shelf := ⟨0, 0, 0⟩
  batten := ⟨List.replicate 8 .rest, 0, 0, 0, none, 0, 0, []⟩
  seq := .rest
  strings := List.replicate 6 .rest
  therm := List.replicate 17 .rest
  gut := ⟨true, [], [], [], [], [], []⟩
  thatch := ⟨[], [], 0, 0, [], none, none, [false, false, false], 0, none⟩
  boot := ⟨[], false, none, false, none, false, 0, [], none, 0, [], 0, false, none, none, [], false, none, 0, [], [], none, [],
    [], 0, 0, false⟩
  mbus := ⟨[none, none], [[], []]⟩
  host := ⟨none, 0, 0, false, [], 0, 0, [], 0, 0, none⟩
  otp := []
  nvm := []
  torn := []
  cycles := 0
  draws := 0
  cyc := .rest
  raised := []

/-! ## The state of the model -/

/-- The part, and the commands that wait, first in, first out. -/
structure State where
  dev : Dev
  pending : List Instr
  deriving DecidableEq, Repr

/-- Why a command stops. -/
inductive Fault where
  /-- The operand of a command names a unit, a register group or a queue entry that the part does not have. Raised by
  every meaning whose operand is a number, on a command that is not well formed (Sys2Proof/WellFormed.lean). Safe: there
  is no such happening on the part. -/
  | noSuchUnit
  deriving DecidableEq, Repr

/-- Why a command has no outcome. -/
inductive Refusal where
  /-- The command has no meaning yet. Raised by its arm of `exec` alone. Safe. -/
  | notModelled (mnemonic : String)
  deriving DecidableEq, Repr

/-- The seven check bits of a data word. A blank word is a clean word; the code itself is open. -/
def eccOf (x : Word) : BitVec 7 := if x = 0 then 0 else BitVec.ofNat 7 (Config.free .ecc [x.toNat])

/-- A fuse word from its data and check bits. -/
def fuseWord (x : Word) (e : BitVec 7) : FuseWord := e ++ x

/-- A word that has been programmed: every margin reads it alike. -/
def shippedWord (x : Word) : FuseCell := ⟨fuseWord x (eccOf x), fuseWord x (eccOf x), fuseWord x (eccOf x)⟩

/-- The fuses of a shipped part (R5, R621 to R623): identity and trim with their CRCs and LOCK0 and LOCK1, everything else blank.
DESIGN CHOICE (log entry 9): the part code is the spec's, the revision A1 the example of R695; lot, wafer, serial and trims,
which the spec does not give, are 0. -/
def shippedFuses : Sparse FuseCell := [(0x000, shippedWord 0x00007240), (0x001, shippedWord 0x00004101),
  (0x00F, shippedWord 0x87084A27), (0x03F, shippedWord 0xEF87080E), (0x14F, ⟨0x3F, 0x3F, 0x3F⟩)]

/-- The machine right after reset: unpowered and DARK, nothing commanded, its identity and trim fuses as shipped. -/
def State.reset : State := ⟨{ Dev.rest with otp := shippedFuses }, []⟩

end Sys2Proof.Machine
end

