-- ==== Sys2Proof/Machine/Fields.lean ====
section
/-!
DEFINITION. Sys2Proof/Machine/Fields.lean: the name of every register and of every field of the register tables
of spec/ (03 to 19), with its byte address, its lowest bit and its width. `A.X` is the address of register X and
`R.X_F` is its field F; a register that the spec repeats takes its indices as arguments.
-/

namespace Sys2Proof.Machine

namespace A


/-! Registers of spec/03_ridge_time_base.md. -/
def RIDGE_CTRL : Nat := 0x0400
def RIDGE_STATUS : Nat := 0x0404
def RIDGE_FLAGS : Nat := 0x0408
def RIDGE_ANGLE : Nat := 0x040C
def RIDGE_ERA : Nat := 0x0410
def RIDGE_FRAC : Nat := 0x0414
def RIDGE_GRID_ANGLE : Nat := 0x0418
def RIDGE_PH_AB : Nat := 0x041C
def RIDGE_PH_C : Nat := 0x0420
def RIDGE_FREQ : Nat := 0x0424
def RIDGE_RATE : Nat := 0x0428
def RIDGE_AMPL : Nat := 0x042C
def RIDGE_VFREQ : Nat := 0x0430
def RIDGE_MAINS_CFG : Nat := 0x0434
def RIDGE_LOSS_CFG : Nat := 0x0438
def RIDGE_OFFSET : Nat := 0x043C
def RIDGE_PATH_A : Nat := 0x0440
def RIDGE_PATH_B : Nat := 0x0444
def RIDGE_BEACON : Nat := 0x0448
def RIDGE_GRID_OFS : Nat := 0x044C
def RIDGE_MARK_FIRED0 : Nat := 0x0450
def RIDGE_MARK_FIRED1 : Nat := 0x0454
def RIDGE_MARK_MISSED0 : Nat := 0x0458
def RIDGE_MARK_MISSED1 : Nat := 0x045C
def MARKm_CFG (m : Nat) : Nat := 0x0500 + m * 0x8
def MARKm_TGT (m : Nat) : Nat := 0x0504 + m * 0x8

/-! Registers of spec/04_pwm_array.md. -/
def PWMn_CFG (n : Nat) : Nat := 0x2000 + n * 0x40
def PWMn_OFS (n : Nat) : Nat := 0x2004 + n * 0x40
def PWMn_DT (n : Nat) : Nat := 0x2008 + n * 0x40
def PWMn_BLANK (n : Nat) : Nat := 0x200C + n * 0x40
def PWMn_DUTY (n : Nat) : Nat := 0x2010 + n * 0x40
def PWMn_STATUS (n : Nat) : Nat := 0x2014 + n * 0x40
def PWMn_FLAGS (n : Nat) : Nat := 0x2018 + n * 0x40
def CARs_CFG (s : Nat) : Nat := 0x2020 + s * 0x40
def CARs_SHIFT (s : Nat) : Nat := 0x2024 + s * 0x40
def CARs_PERIOD (s : Nat) : Nat := 0x2028 + s * 0x40
def CARs_STATUS (s : Nat) : Nat := 0x202C + s * 0x40
def BANKb_CFG (b : Nat) : Nat := 0x2030 + b * 0x40
def PWM_SHELF_OFS : Nat := 0x2034
def PWM_HOLD : Nat := 0x2038
def PWM_FLAGS : Nat := 0x203C

/-! Registers of spec/05_sensing.md. -/
def ADC_CTRL : Nat := 0x2800
def ADC_STATUS : Nat := 0x2804
def ADC_FLAGS : Nat := 0x2808
def ADC_SKIP : Nat := 0x280C
def ADC_CAL_CMD : Nat := 0x2810
def ADC_CAL_RESULT : Nat := 0x2814
def ADC_DBL : Nat := 0x2818
def ADC_WIN_STATE : Nat := 0x281C
def ADC_WIN_FLAGS : Nat := 0x2820
def AINn_CFG (n : Nat) : Nat := 0x2880 + n * 0x8
def AINn_PL (n : Nat) : Nat := 0x2884 + n * 0x8
def AINn_RES (n : Nat) : Nat := 0x2A00 + n * 0x4
def WINw_CFG (w : Nat) : Nat := 0x2B00 + w * 0x8
def WINw_LIM (w : Nat) : Nat := 0x2B04 + w * 0x8
def SDM_CLK : Nat := 0x2C00
def SDM_FLAGS : Nat := 0x2C04
def SDn_CFG (n : Nat) : Nat := 0x2C40 + n * 0x10
def SDn_TRIG (n : Nat) : Nat := 0x2C44 + n * 0x10
def SDn_LIM (n : Nat) : Nat := 0x2C48 + n * 0x10
def SDn_RES (n : Nat) : Nat := 0x2C4C + n * 0x10
def CMPc_CFG (c : Nat) : Nat := 0x3000 + c * 0x10
def CMPc_DAC (c : Nat) : Nat := 0x3004 + c * 0x10
def CMPc_SLOPE (c : Nat) : Nat := 0x3008 + c * 0x10
def CMPc_STATUS (c : Nat) : Nat := 0x300C + c * 0x10
def CMP_TEST : Nat := 0x3180
def CMP_TEST_RES : Nat := 0x3184

/-! Registers of spec/06_rafter_engine.md. -/
def RAFTER_LOAD : Nat := 0x0800
def RAFTER_WORST : Nat := 0x0804
def RAFTER_FLAGS : Nat := 0x0808
def RAFTER_ADMIT : Nat := 0x080C
def STAGEs_LOOP_CFG (s : Nat) : Nat := 0x1080 + s * 0x100
def STAGEs_IN_MAP0 (s : Nat) : Nat := 0x1084 + s * 0x100
def STAGEs_IN_MAP1 (s : Nat) : Nat := 0x1088 + s * 0x100
def STAGEs_OUT_MAP (s : Nat) : Nat := 0x108C + s * 0x100
def STAGEs_PF (s : Nat) : Nat := 0x1090 + s * 0x100
def STAGEs_COEF_IDX (s : Nat) : Nat := 0x1094 + s * 0x100
def STAGEs_COEF_DATA (s : Nat) : Nat := 0x1098 + s * 0x100
def STAGEs_SP_TARGET (s : Nat) : Nat := 0x109C + s * 0x100
def STAGEs_SP_VMAX (s : Nat) : Nat := 0x10A0 + s * 0x100
def STAGEs_SP_AMAX (s : Nat) : Nat := 0x10A4 + s * 0x100
def STAGEs_SP_JMAX (s : Nat) : Nat := 0x10A8 + s * 0x100
def STAGEs_TRIM (s : Nat) : Nat := 0x10AC + s * 0x100
def STAGEs_CAP (s : Nat) : Nat := 0x10B0 + s * 0x100
def STAGEs_SP_NOW (s : Nat) : Nat := 0x10B4 + s * 0x100
def STAGEs_LOOP_STATUS (s : Nat) : Nat := 0x10B8 + s * 0x100
def STAGEs_LOOP_FLAGS (s : Nat) : Nat := 0x10BC + s * 0x100
def STAGEs_U0 (s : Nat) : Nat := 0x10C0 + s * 0x100
def STAGEs_U1 (s : Nat) : Nat := 0x10C4 + s * 0x100
def STAGEs_U2 (s : Nat) : Nat := 0x10C8 + s * 0x100
def STAGEs_COST (s : Nat) : Nat := 0x10CC + s * 0x100
def STAGEs_RATE (s : Nat) : Nat := 0x10D0 + s * 0x100
def STAGEs_LAT (s : Nat) : Nat := 0x10D4 + s * 0x100
def STAGEs_CREF (s : Nat) : Nat := 0x10D8 + s * 0x100

/-! Registers of spec/07_stage_control.md. -/
def STAGEs_CFG (s : Nat) : Nat := 0x1000 + s * 0x100
def STAGEs_CMD (s : Nat) : Nat := 0x1004 + s * 0x100
def STAGEs_CMD_RES (s : Nat) : Nat := 0x1008 + s * 0x100
def STAGEs_STATE (s : Nat) : Nat := 0x100C + s * 0x100
def STAGEs_START_DLY (s : Nat) : Nat := 0x1010 + s * 0x100
def STAGEs_STOP_DLY (s : Nat) : Nat := 0x1014 + s * 0x100
def STAGEs_SS_TMO (s : Nat) : Nat := 0x1018 + s * 0x100
def STAGEs_RETRY (s : Nat) : Nat := 0x1040 + s * 0x100
def STAGEs_SHED_HOLD (s : Nat) : Nat := 0x1048 + s * 0x100
def STAGEs_BURST_ENT (s : Nat) : Nat := 0x1058 + s * 0x100
def STAGEs_SS_VMAX (s : Nat) : Nat := 0x101C + s * 0x100
def STAGEs_START_VAL (s : Nat) : Nat := 0x1020 + s * 0x100
def STAGEs_STOP_VAL (s : Nat) : Nat := 0x1024 + s * 0x100
def STAGEs_CHK_CFG (s : Nat) : Nat := 0x1028 + s * 0x100
def STAGEs_CHK_IN (s : Nat) : Nat := 0x102C + s * 0x100
def STAGEs_CHK_LIM (s : Nat) : Nat := 0x1030 + s * 0x100
def STAGEs_FT (s : Nat) : Nat := 0x1034 + s * 0x100
def STAGEs_WINACT0 (s : Nat) : Nat := 0x1038 + s * 0x100
def STAGEs_WINACT1 (s : Nat) : Nat := 0x103C + s * 0x100
def STAGEs_SHED (s : Nat) : Nat := 0x1044 + s * 0x100
def STAGEs_BURST (s : Nat) : Nat := 0x1050 + s * 0x100
def STAGEs_WAKE (s : Nat) : Nat := 0x1054 + s * 0x100
def STAGEs_STEP (s : Nat) : Nat := 0x104C + s * 0x100
def STAGEs_FLAGS (s : Nat) : Nat := 0x105C + s * 0x100
def STAGEs_MON (s : Nat) : Nat := 0x1060 + s * 0x100
def STAGEs_SHARE_S (s : Nat) : Nat := 0x1064 + s * 0x100
def STAGEs_COUNT (s : Nat) : Nat := 0x1068 + s * 0x100
def STG_SHAREg_CFG (g : Nat) : Nat := 0x1070 + g * 0x100
def STG_SHAREg_KSH (g : Nat) : Nat := 0x1074 + g * 0x100
def STG_SHAREg_MAX (g : Nat) : Nat := 0x1078 + g * 0x100
def STG_SHAREg_TRIM (g : Nat) : Nat := 0x107C + g * 0x100

/-! Registers of spec/08_twin_failover.md. -/
def RAFTER_TWIN_STATUS : Nat := 0x0840
def RAFTER_TWIN_CTRL : Nat := 0x0844
def RAFTER_TWIN_CMD : Nat := 0x0848
def RAFTER_TWIN_CMD_RES : Nat := 0x084C
def RAFTER_TWIN_CAUSE : Nat := 0x0850
def RAFTER_TWIN_FLAGS : Nat := 0x0854
def RAFTER_TWIN_COUNT : Nat := 0x0858
def RAFTER_TWIN_CE : Nat := 0x085C
def RAFTER_TWIN_LAST : Nat := 0x0860

/-! Registers of spec/09_rack_coordination.md. -/
def COORD_CFG : Nat := 0x6800
def COORD_RATING : Nat := 0x6804
def COORD_ALLOT : Nat := 0x6808
def COORD_POWER : Nat := 0x680C
def COORD_CAP_CFG : Nat := 0x6810
def COORD_BRK : Nat := 0x6814
def COORD_FLAGS : Nat := 0x6818
def MGR_STATUS : Nat := 0x6840
def MGR_BUDGET : Nat := 0x6844
def MGR_POLICY : Nat := 0x6848
def MGR_TICK : Nat := 0x684C
def MGR_KRS : Nat := 0x6850
def MGR_GTMAX : Nat := 0x6854
def MGR_CMD : Nat := 0x6858
def MGR_CMD_RES : Nat := 0x685C
def MGR_SUM : Nat := 0x6860
def MGR_NODEj (j : Nat) : Nat := 0x6880 + j * 0x4
def MGR_OFSj (j : Nat) : Nat := 0x6900 + j * 0x4
def MGR_GTj (j : Nat) : Nat := 0x6980 + j * 0x4
def MGR_MEMBj (j : Nat) : Nat := 0x6A00 + j * 0x4

/-! Registers of spec/10_rinnak_network.md. -/
def RINNAK_CTRL : Nat := 0x6000
def RINNAK_FOREIGN : Nat := 0x6004
def RINNAK_STATUS : Nat := 0x6008
def RINNAK_BUDGET : Nat := 0x600C
def RINNAK_FLAGS : Nat := 0x6010
def RINNAK_QUEUE : Nat := 0x6014
def RINNAK_ADMIT : Nat := 0x6018
def RINNAK_REFUSE : Nat := 0x601C
def RINNAK_CNT_Ai (i : Nat) : Nat := 0x6020 + i * 0x4
def RINNAK_CNT_Bi (i : Nat) : Nat := 0x6040 + i * 0x4
def RINNAK_CYCLE : Nat := 0x6060
def RINNAK_NODE : Nat := 0x6064
def RINNAK_KEYk (k : Nat) : Nat := 0x6080 + k * 0x4
def RINNAK_KEY_ACT : Nat := 0x60A0
def RINNAK_KEY_RES : Nat := 0x60A4

/-! Registers of spec/11_branches.md. -/
def BRn_CFG (n : Nat) : Nat := 0x3800 + n * 0x40
def BRn_CMD (n : Nat) : Nat := 0x3804 + n * 0x40
def BRn_CMD_RES (n : Nat) : Nat := 0x3808 + n * 0x40
def BRn_STATE (n : Nat) : Nat := 0x380C + n * 0x40
def BRn_SEAT (n : Nat) : Nat := 0x3810 + n * 0x40
def BRn_PRE (n : Nat) : Nat := 0x3814 + n * 0x40
def BRn_RETRY (n : Nat) : Nat := 0x3818 + n * 0x40
def BRn_ON_DLY (n : Nat) : Nat := 0x381C + n * 0x40
def BRn_OFF_DLY (n : Nat) : Nat := 0x3820 + n * 0x40
def BRn_FUSE (n : Nat) : Nat := 0x3824 + n * 0x40
def BRn_FWD (n : Nat) : Nat := 0x3828 + n * 0x40
def BRn_MEAS_V (n : Nat) : Nat := 0x382C + n * 0x40
def BRn_MEAS_I (n : Nat) : Nat := 0x3830 + n * 0x40
def BRn_PEAK (n : Nat) : Nat := 0x3834 + n * 0x40
def BRn_VRANGE (n : Nat) : Nat := 0x3838 + n * 0x40
def BRn_TRIPCAP (n : Nat) : Nat := 0x383C + n * 0x40
def BR_SENSE : Nat := 0x3A00
def BR_SCALE : Nat := 0x3A04
def BR_ZERO : Nat := 0x3A08
def BR_SPINE_WIN : Nat := 0x3A0C
def BR_SPINE_MEAS : Nat := 0x3A10
def BR_FLAGS : Nat := 0x3A14
def BRK_CFG : Nat := 0x3A18
def BRK_LEVEL : Nat := 0x3A1C
def BRK_OBS : Nat := 0x3A20

/-! Registers of spec/12_batten_link.md. -/
def BTn_STATE (n : Nat) : Nat := 0x3C00 + n * 0x40
def BTn_CONTRACT (n : Nat) : Nat := 0x3C04 + n * 0x40
def BTn_REQUEST (n : Nat) : Nat := 0x3C08 + n * 0x40
def BTn_PEER (n : Nat) : Nat := 0x3C0C + n * 0x40
def BTn_SIGV (n : Nat) : Nat := 0x3C10 + n * 0x40
def BTn_CMD (n : Nat) : Nat := 0x3C14 + n * 0x40
def BTn_CMD_RES (n : Nat) : Nat := 0x3C18 + n * 0x40
def BTn_CNT (n : Nat) : Nat := 0x3C1C + n * 0x40
def BTn_RXOBJk (n k : Nat) : Nat := 0x3C20 + n * 0x40 + k * 0x4
def BT_CFG : Nat := 0x3E00
def BT_SINK_REQ : Nat := 0x3E04
def BT_SUM : Nat := 0x3E08
def BT_FLAGS : Nat := 0x3E0C
def BT_TEST_RES : Nat := 0x3E10
def BT_WEEVIL : Nat := 0x3E14
def BT_TOBJk (k : Nat) : Nat := 0x3E40 + k * 0x4

/-! Registers of spec/13_modes_sequencer.md. -/
def SEQ_CTRL : Nat := 0x3400
def SEQ_INPUT : Nat := 0x3404
def SEQ_IN_SRC : Nat := 0x3408
def SEQ_CMD : Nat := 0x340C
def SEQ_CMD_RES : Nat := 0x3410
def SEQ_STATUS : Nat := 0x3414
def SEQ_FLAGS : Nat := 0x3418
def SEQ_RAIL_FAIL : Nat := 0x341C
def SEQ_RAIL_LEVEL : Nat := 0x3420
def SEQ_CS : Nat := 0x3424
def SEQ_STG_SLOT0 : Nat := 0x3428
def SEQ_STG_SLOT1 : Nat := 0x342C
def RAILr_ON (r : Nat) : Nat := 0x3440 + r * 0x10
def RAILr_OFF (r : Nat) : Nat := 0x3444 + r * 0x10
def RAILr_CFG (r : Nat) : Nat := 0x3448 + r * 0x10
def RSTOk_CFG (k : Nat) : Nat := 0x3540 + k * 0x4

/-! Registers of spec/14_storage_estimator.md. -/
def STk_CFG (k : Nat) : Nat := 0x4000 + k * 0x80
def STk_SCALE (k : Nat) : Nat := 0x4004 + k * 0x80
def STk_ZERO (k : Nat) : Nat := 0x4008 + k * 0x80
def STk_VEND (k : Nat) : Nat := 0x400C + k * 0x80
def STk_VABS (k : Nat) : Nat := 0x4010 + k * 0x80
def STk_CUR (k : Nat) : Nat := 0x4014 + k * 0x80
def STk_TEMP (k : Nat) : Nat := 0x4018 + k * 0x80
def STk_ANCH (k : Nat) : Nat := 0x401C + k * 0x80
def STk_CNOM (k : Nat) : Nat := 0x4020 + k * 0x80
def STk_Q (k : Nat) : Nat := 0x4030 + k * 0x80
def STk_CAP (k : Nat) : Nat := 0x4034 + k * 0x80
def STk_RNOM (k : Nat) : Nat := 0x4024 + k * 0x80
def STk_RES (k : Nat) : Nat := 0x4038 + k * 0x80
def STk_ICHG (k : Nat) : Nat := 0x4028 + k * 0x80
def STk_IDRILL (k : Nat) : Nat := 0x402C + k * 0x80
def STk_SOC (k : Nat) : Nat := 0x403C + k * 0x80
def STk_STATE (k : Nat) : Nat := 0x4040 + k * 0x80
def STk_FLAGS (k : Nat) : Nat := 0x4044 + k * 0x80
def STk_MEAS (k : Nat) : Nat := 0x4048 + k * 0x80
def STk_IMEAS (k : Nat) : Nat := 0x404C + k * 0x80
def ST_CFG : Nat := 0x4300
def ST_UNC : Nat := 0x4304
def ST_DRILL_CFG : Nat := 0x4308
def ST_LEARN_Q : Nat := 0x430C
def ST_LEARN_CAP : Nat := 0x4310
def ST_LEARN_RES : Nat := 0x4314
def ST_LEARN_U : Nat := 0x4318
def ST_CMD : Nat := 0x431C
def ST_CMD_RES : Nat := 0x4320
def ST_EVT : Nat := 0x4324

/-! Registers of spec/15_thermal.md. -/
def TSc_CFG (c : Nat) : Nat := 0x4400 + c * 0x20
def TSc_NTC (c : Nat) : Nat := 0x4404 + c * 0x20
def TSc_B (c : Nat) : Nat := 0x4408 + c * 0x20
def TSc_LIM0 (c : Nat) : Nat := 0x440C + c * 0x20
def TSc_LIM1 (c : Nat) : Nat := 0x4410 + c * 0x20
def TSc_LIM2 (c : Nat) : Nat := 0x4414 + c * 0x20
def TSc_T (c : Nat) : Nat := 0x4418 + c * 0x20
def TSc_SLOPE (c : Nat) : Nat := 0x441C + c * 0x20
def THERM_CFG : Nat := 0x4700
def THERM_WIN : Nat := 0x4704
def THERM_STATUS : Nat := 0x4708
def THERM_FLAGS : Nat := 0x470C
def THERM_LEVEL : Nat := 0x4710

/-! Registers of spec/16_gutter_thatch.md. -/
def GUT_SRCn_CFG (n : Nat) : Nat := 0x4800 + n * 0x4
def GUT_ACTIVEi (i : Nat) : Nat := 0x4A00 + i * 0x4
def GUT_LATCHi (i : Nat) : Nat := 0x4A10 + i * 0x4
def GUT_FORCEi (i : Nat) : Nat := 0x4A20 + i * 0x4
def GUT_CTRL : Nat := 0x4A30
def GUT_STATUS : Nat := 0x4A34
def GUT_HCOUNT : Nat := 0x4A38
def GUT_INJ_CHECK : Nat := 0x4A3C
def GUT_INJ_RES : Nat := 0x4A40
def GUT_FIRST : Nat := 0x4A44
def GUT_FIRST_ERA : Nat := 0x4A48
def GUT_FIRST_ANGLE : Nat := 0x4A4C
def GUT_CMD : Nat := 0x4A50
def GUT_SNAP_HCOUNT : Nat := 0x4A54
def GUT_HISTk_EV (k : Nat) : Nat := 0x4B00 + k * 0x10
def GUT_HISTk_DATA (k : Nat) : Nat := 0x4B04 + k * 0x10
def GUT_HISTk_ERA (k : Nat) : Nat := 0x4B08 + k * 0x10
def GUT_HISTk_ANGLE (k : Nat) : Nat := 0x4B0C + k * 0x10
def TH_CTRL : Nat := 0x4C00
def TH_NVM_BASE : Nat := 0x4C04
def TH_NVM_PART0 : Nat := 0x4C08
def TH_NVM_PART1 : Nat := 0x4C0C
def TH_HEAD : Nat := 0x4C10
def TH_FW_SEQ : Nat := 0x4C14
def TH_SNAP_SEQ : Nat := 0x4C18
def TH_FW_HDR : Nat := 0x4C1C
def TH_FW_D0 : Nat := 0x4C20
def TH_FW_D1 : Nat := 0x4C24
def TH_FW_CMT : Nat := 0x4C28
def TH_RD_SEL : Nat := 0x4C2C
def TH_RD_STAT : Nat := 0x4C30
def TH_RDk (k : Nat) : Nat := 0x4C34 + k * 0x4
def TH_SNAP_CMD : Nat := 0x4C54
def TH_RELEASE : Nat := 0x4C58
def TH_GAP_FIRST : Nat := 0x4C5C
def TH_GAP_LAST : Nat := 0x4C60
def TH_GAP_CNT : Nat := 0x4C64
def TH_STATUS : Nat := 0x4C68
def TH_CNT : Nat := 0x4C6C
def TH_NVM_NEXT_HI : Nat := 0x4C70
def TH_NVM_NEXT_LO : Nat := 0x4C74
def TH_NVM_NEXT_LG : Nat := 0x4C78

/-! Registers of spec/17_boot_otp_update.md. -/
def OTP_STATUS : Nat := 0x5000
def OTP_COUNT : Nat := 0x5004
def OTP_ARM : Nat := 0x5008
def OTP_ADDR : Nat := 0x500C
def OTP_WDATA : Nat := 0x5010
def OTP_RDATA : Nat := 0x5018
def OTP_CMD : Nat := 0x5014
def OTP_RES : Nat := 0x501C
def OTP_FLAGS : Nat := 0x5020
def IMAGE_STATUS : Nat := 0x5400
def IMAGE_SLOT0 : Nat := 0x5404
def IMAGE_SLOT1 : Nat := 0x5408
def IMAGE_VER0 : Nat := 0x540C
def IMAGE_VER1 : Nat := 0x5410
def IMAGE_HEALTH : Nat := 0x5414
def IMAGE_CMD : Nat := 0x5418
def IMAGE_CMD_RES : Nat := 0x541C
def IMAGE_DATA : Nat := 0x5420
def IMAGE_WCOUNT : Nat := 0x5424
def IMAGE_STATE_SEQ : Nat := 0x5428
def PROF_PAGE : Nat := 0x5440
def PROF_LEN : Nat := 0x5444
def PROF_CMD : Nat := 0x5448
def PROF_RES : Nat := 0x544C
def PROF_COUNT : Nat := 0x5450
def PROF_WINw (w : Nat) : Nat := 0x7000 + w * 0x4

/-! Registers of spec/18_twowire_host.md. -/
def MBb_CFG (b : Nat) : Nat := 0x5800 + b * 0x100
def MBb_LEN (b : Nat) : Nat := 0x5804 + b * 0x100
def MBb_CMD (b : Nat) : Nat := 0x5808 + b * 0x100
def MBb_RES (b : Nat) : Nat := 0x580C + b * 0x100
def MBb_FLAGS (b : Nat) : Nat := 0x5810 + b * 0x100
def MBb_TSTAT (b : Nat) : Nat := 0x5814 + b * 0x100
def MBb_TXk (b k : Nat) : Nat := 0x5820 + b * 0x100 + k * 0x4
def MBb_RXk (b k : Nat) : Nat := 0x5840 + b * 0x100 + k * 0x4
def MBb_TRXk (b k : Nat) : Nat := 0x5860 + b * 0x100 + k * 0x4
def MBb_TTXk (b k : Nat) : Nat := 0x5880 + b * 0x100 + k * 0x4
def HOST_CFG : Nat := 0x5C00
def HOST_STATUS : Nat := 0x5C04
def HOST_WRES : Nat := 0x5C08
def HOST_FLAGS : Nat := 0x5C0C
def HOST_CNT : Nat := 0x5C10

/-! Registers of spec/19_register_index.md. -/
def SYS_IDn (n : Nat) : Nat := 0x0000 + n * 0x4
def SYS_MODE : Nat := 0x0020
def SYS_STATUS : Nat := 0x0024
def SYS_CFG : Nat := 0x0028
def SYS_SCRATCH : Nat := 0x002C

end A

namespace R


/-! Fields of spec/03_ridge_time_base.md. -/
def RIDGE_CTRL_FEED : Fld := ⟨A.RIDGE_CTRL, 0, 1⟩
def RIDGE_CTRL_MAINS_EN : Fld := ⟨A.RIDGE_CTRL, 1, 1⟩
def RIDGE_CTRL_ROT : Fld := ⟨A.RIDGE_CTRL, 2, 1⟩
def RIDGE_CTRL_FNOM : Fld := ⟨A.RIDGE_CTRL, 3, 1⟩
def RIDGE_CTRL_BLACKSTART : Fld := ⟨A.RIDGE_CTRL, 4, 1⟩
def RIDGE_CTRL_START_TMO : Fld := ⟨A.RIDGE_CTRL, 8, 8⟩
def RIDGE_STATUS_SRC : Fld := ⟨A.RIDGE_STATUS, 0, 3⟩
def RIDGE_STATUS_GRID_LOCK : Fld := ⟨A.RIDGE_STATUS, 3, 1⟩
def RIDGE_STATUS_ALIGNED : Fld := ⟨A.RIDGE_STATUS, 4, 1⟩
def RIDGE_STATUS_SEG_B : Fld := ⟨A.RIDGE_STATUS, 5, 1⟩
def RIDGE_STATUS_ROT_SEEN : Fld := ⟨A.RIDGE_STATUS, 6, 1⟩
def RIDGE_FLAGS_LOCKED : Fld := ⟨A.RIDGE_FLAGS, 0, 1⟩
def RIDGE_FLAGS_LOSS : Fld := ⟨A.RIDGE_FLAGS, 1, 1⟩
def RIDGE_FLAGS_RETURN : Fld := ⟨A.RIDGE_FLAGS, 2, 1⟩
def RIDGE_FLAGS_JUMP : Fld := ⟨A.RIDGE_FLAGS, 3, 1⟩
def RIDGE_FLAGS_SYNC_LOST : Fld := ⟨A.RIDGE_FLAGS, 4, 1⟩
def RIDGE_FLAGS_STEP : Fld := ⟨A.RIDGE_FLAGS, 5, 1⟩
def RIDGE_FLAGS_MARK_MISSED : Fld := ⟨A.RIDGE_FLAGS, 6, 1⟩
def RIDGE_FLAGS_ROT_ERR : Fld := ⟨A.RIDGE_FLAGS, 7, 1⟩
def RIDGE_FLAGS_CHECK : Fld := ⟨A.RIDGE_FLAGS, 8, 1⟩
def RIDGE_ANGLE_ANGLE : Fld := ⟨A.RIDGE_ANGLE, 0, 32⟩
def RIDGE_ERA_ERA : Fld := ⟨A.RIDGE_ERA, 0, 32⟩
def RIDGE_FRAC_FRAC : Fld := ⟨A.RIDGE_FRAC, 0, 32⟩
def RIDGE_GRID_ANGLE_GRID_ANGLE : Fld := ⟨A.RIDGE_GRID_ANGLE, 0, 32⟩
def RIDGE_PH_AB_PH_A : Fld := ⟨A.RIDGE_PH_AB, 0, 16⟩
def RIDGE_PH_AB_PH_B : Fld := ⟨A.RIDGE_PH_AB, 16, 16⟩
def RIDGE_PH_C_PH_C : Fld := ⟨A.RIDGE_PH_C, 0, 16⟩
def RIDGE_FREQ_FREQ : Fld := ⟨A.RIDGE_FREQ, 0, 17⟩
def RIDGE_RATE_RATE : Fld := ⟨A.RIDGE_RATE, 0, 32⟩
def RIDGE_AMPL_POS : Fld := ⟨A.RIDGE_AMPL, 0, 16⟩
def RIDGE_AMPL_NEG : Fld := ⟨A.RIDGE_AMPL, 16, 16⟩
def RIDGE_VFREQ_VFREQ : Fld := ⟨A.RIDGE_VFREQ, 0, 17⟩
def RIDGE_MAINS_CFG_VNOM : Fld := ⟨A.RIDGE_MAINS_CFG, 0, 10⟩
def RIDGE_LOSS_CFG_AMP_OK : Fld := ⟨A.RIDGE_LOSS_CFG, 0, 8⟩
def RIDGE_LOSS_CFG_AMP_LOSS : Fld := ⟨A.RIDGE_LOSS_CFG, 8, 8⟩
def RIDGE_LOSS_CFG_PH_LOSS : Fld := ⟨A.RIDGE_LOSS_CFG, 16, 8⟩
def RIDGE_LOSS_CFG_JUMP : Fld := ⟨A.RIDGE_LOSS_CFG, 24, 8⟩
def RIDGE_OFFSET_OFFSET : Fld := ⟨A.RIDGE_OFFSET, 0, 32⟩
def RIDGE_PATH_A_PATH : Fld := ⟨A.RIDGE_PATH_A, 0, 16⟩
def RIDGE_PATH_B_PATH : Fld := ⟨A.RIDGE_PATH_B, 0, 16⟩
def RIDGE_BEACON_SEQ : Fld := ⟨A.RIDGE_BEACON, 0, 16⟩
def RIDGE_BEACON_MISSED : Fld := ⟨A.RIDGE_BEACON, 16, 8⟩
def RIDGE_GRID_OFS_GRID_OFS : Fld := ⟨A.RIDGE_GRID_OFS, 0, 16⟩
def RIDGE_MARK_FIRED0_MARK : Fld := ⟨A.RIDGE_MARK_FIRED0, 0, 32⟩
def RIDGE_MARK_FIRED1_MARK : Fld := ⟨A.RIDGE_MARK_FIRED1, 0, 32⟩
def RIDGE_MARK_MISSED0_MARK : Fld := ⟨A.RIDGE_MARK_MISSED0, 0, 32⟩
def RIDGE_MARK_MISSED1_MARK : Fld := ⟨A.RIDGE_MARK_MISSED1, 0, 32⟩
def MARKm_CFG_EN (m : Nat) : Fld := ⟨A.MARKm_CFG m, 0, 1⟩
def MARKm_CFG_SRC (m : Nat) : Fld := ⟨A.MARKm_CFG m, 1, 1⟩
def MARKm_CFG_ONESHOT (m : Nat) : Fld := ⟨A.MARKm_CFG m, 2, 1⟩
def MARKm_CFG_IRQ (m : Nat) : Fld := ⟨A.MARKm_CFG m, 3, 1⟩
def MARKm_CFG_PERIOD_M1 (m : Nat) : Fld := ⟨A.MARKm_CFG m, 8, 8⟩
def MARKm_CFG_PHASE (m : Nat) : Fld := ⟨A.MARKm_CFG m, 16, 8⟩
def MARKm_TGT_REED (m : Nat) : Fld := ⟨A.MARKm_TGT m, 0, 16⟩
def MARKm_TGT_TURN (m : Nat) : Fld := ⟨A.MARKm_TGT m, 16, 16⟩

/-! Fields of spec/04_pwm_array.md. -/
def PWMn_CFG_SET (n : Nat) : Fld := ⟨A.PWMn_CFG n, 0, 4⟩
def PWMn_CFG_ALIGN (n : Nat) : Fld := ⟨A.PWMn_CFG n, 4, 2⟩
def PWMn_CFG_COMP (n : Nat) : Fld := ⟨A.PWMn_CFG n, 6, 1⟩
def PWMn_CFG_POL (n : Nat) : Fld := ⟨A.PWMn_CFG n, 7, 1⟩
def PWMn_CFG_SAFE (n : Nat) : Fld := ⟨A.PWMn_CFG n, 8, 2⟩
def PWMn_CFG_SHIFT_EN (n : Nat) : Fld := ⟨A.PWMn_CFG n, 10, 1⟩
def PWMn_CFG_UPD (n : Nat) : Fld := ⟨A.PWMn_CFG n, 11, 2⟩
def PWMn_CFG_TRUNC_CMP (n : Nat) : Fld := ⟨A.PWMn_CFG n, 13, 5⟩
def PWMn_OFS_FRAC (n : Nat) : Fld := ⟨A.PWMn_OFS n, 0, 16⟩
def PWMn_OFS_REED (n : Nat) : Fld := ⟨A.PWMn_OFS n, 16, 16⟩
def PWMn_DT_DT_A (n : Nat) : Fld := ⟨A.PWMn_DT n, 0, 15⟩
def PWMn_DT_DT_B (n : Nat) : Fld := ⟨A.PWMn_DT n, 16, 15⟩
def PWMn_BLANK_BLANK (n : Nat) : Fld := ⟨A.PWMn_BLANK n, 0, 12⟩
def PWMn_DUTY_DUTY (n : Nat) : Fld := ⟨A.PWMn_DUTY n, 0, 24⟩
def PWMn_STATUS_DRIVEN (n : Nat) : Fld := ⟨A.PWMn_STATUS n, 0, 1⟩
def PWMn_STATUS_GATED (n : Nat) : Fld := ⟨A.PWMn_STATUS n, 1, 1⟩
def PWMn_STATUS_FORCED (n : Nat) : Fld := ⟨A.PWMn_STATUS n, 2, 1⟩
def PWMn_STATUS_SLEWING (n : Nat) : Fld := ⟨A.PWMn_STATUS n, 3, 1⟩
def PWMn_STATUS_ACTIVE (n : Nat) : Fld := ⟨A.PWMn_STATUS n, 4, 1⟩
def PWMn_FLAGS_TRUNC (n : Nat) : Fld := ⟨A.PWMn_FLAGS n, 0, 1⟩
def PWMn_FLAGS_SUPPRESS (n : Nat) : Fld := ⟨A.PWMn_FLAGS n, 1, 1⟩
def PWMn_FLAGS_LATE (n : Nat) : Fld := ⟨A.PWMn_FLAGS n, 2, 1⟩
def CARs_CFG_K (s : Nat) : Fld := ⟨A.CARs_CFG s, 0, 15⟩
def CARs_SHIFT_SHIFT (s : Nat) : Fld := ⟨A.CARs_SHIFT s, 0, 24⟩
def CARs_PERIOD_PERIOD (s : Nat) : Fld := ⟨A.CARs_PERIOD s, 0, 24⟩
def CARs_STATUS_RUN (s : Nat) : Fld := ⟨A.CARs_STATUS s, 0, 1⟩
def BANKb_CFG_MODE (b : Nat) : Fld := ⟨A.BANKb_CFG b, 0, 1⟩
def BANKb_CFG_DRIVE (b : Nat) : Fld := ⟨A.BANKb_CFG b, 1, 2⟩
def PWM_SHELF_OFS_FRAC : Fld := ⟨A.PWM_SHELF_OFS, 0, 16⟩
def PWM_SHELF_OFS_REED : Fld := ⟨A.PWM_SHELF_OFS, 16, 16⟩
def PWM_HOLD_HELD : Fld := ⟨A.PWM_HOLD, 0, 1⟩
def PWM_HOLD_COUNT : Fld := ⟨A.PWM_HOLD, 8, 8⟩
def PWM_FLAGS_CHECK : Fld := ⟨A.PWM_FLAGS, 0, 1⟩
def PWM_FLAGS_DLL_UNLOCK : Fld := ⟨A.PWM_FLAGS, 1, 1⟩
def PWM_FLAGS_HOLD_TIMEOUT : Fld := ⟨A.PWM_FLAGS, 2, 1⟩
def PWM_FLAGS_DLL_LOCK : Fld := ⟨A.PWM_FLAGS, 3, 1⟩

/-! Fields of spec/05_sensing.md. -/
def ADC_CTRL_REFSEL : Fld := ⟨A.ADC_CTRL, 0, 2⟩
def ADC_CTRL_DOUBLED : Fld := ⟨A.ADC_CTRL, 4, 4⟩
def ADC_STATUS_REF_RDY : Fld := ⟨A.ADC_STATUS, 0, 1⟩
def ADC_STATUS_PLAUS_OFF : Fld := ⟨A.ADC_STATUS, 4, 4⟩
def ADC_STATUS_CAL_BUSY : Fld := ⟨A.ADC_STATUS, 8, 8⟩
def ADC_FLAGS_PLAUS : Fld := ⟨A.ADC_FLAGS, 0, 4⟩
def ADC_FLAGS_REF_FAULT : Fld := ⟨A.ADC_FLAGS, 4, 1⟩
def ADC_FLAGS_OVERRUN : Fld := ⟨A.ADC_FLAGS, 5, 1⟩
def ADC_FLAGS_CAL_FAIL : Fld := ⟨A.ADC_FLAGS, 6, 1⟩
def ADC_FLAGS_CORE_CHECK : Fld := ⟨A.ADC_FLAGS, 8, 8⟩
def ADC_SKIP_SKIP : Fld := ⟨A.ADC_SKIP, 0, 16⟩
def ADC_CAL_CMD_CORE : Fld := ⟨A.ADC_CAL_CMD, 0, 3⟩
def ADC_CAL_CMD_GO : Fld := ⟨A.ADC_CAL_CMD, 3, 1⟩
def ADC_CAL_RESULT_CODE : Fld := ⟨A.ADC_CAL_RESULT, 0, 8⟩
def ADC_CAL_RESULT_CORE : Fld := ⟨A.ADC_CAL_RESULT, 8, 3⟩
def ADC_CAL_RESULT_DONE : Fld := ⟨A.ADC_CAL_RESULT, 11, 1⟩
def ADC_CAL_RESULT_FAIL : Fld := ⟨A.ADC_CAL_RESULT, 12, 1⟩
def ADC_DBL_IN0 : Fld := ⟨A.ADC_DBL, 0, 6⟩
def ADC_DBL_IN1 : Fld := ⟨A.ADC_DBL, 8, 6⟩
def ADC_DBL_IN2 : Fld := ⟨A.ADC_DBL, 16, 6⟩
def ADC_DBL_IN3 : Fld := ⟨A.ADC_DBL, 24, 6⟩
def ADC_WIN_STATE_STATE : Fld := ⟨A.ADC_WIN_STATE, 0, 32⟩
def ADC_WIN_FLAGS_EXIT : Fld := ⟨A.ADC_WIN_FLAGS, 0, 32⟩
def AINn_CFG_TSRC (n : Nat) : Fld := ⟨A.AINn_CFG n, 0, 3⟩
def AINn_CFG_TIDX (n : Nat) : Fld := ⟨A.AINn_CFG n, 3, 6⟩
def AINn_CFG_CPOS (n : Nat) : Fld := ⟨A.AINn_CFG n, 9, 8⟩
def AINn_CFG_CDIV (n : Nat) : Fld := ⟨A.AINn_CFG n, 17, 4⟩
def AINn_CFG_START_CORE (n : Nat) : Fld := ⟨A.AINn_CFG n, 21, 1⟩
def AINn_CFG_PLAUS_EN (n : Nat) : Fld := ⟨A.AINn_CFG n, 22, 1⟩
def AINn_PL_TOL (n : Nat) : Fld := ⟨A.AINn_PL n, 0, 10⟩
def AINn_PL_AGE (n : Nat) : Fld := ⟨A.AINn_PL n, 10, 8⟩
def AINn_PL_NFAIL (n : Nat) : Fld := ⟨A.AINn_PL n, 18, 4⟩
def AINn_RES_CODE (n : Nat) : Fld := ⟨A.AINn_RES n, 0, 14⟩
def AINn_RES_CORE (n : Nat) : Fld := ⟨A.AINn_RES n, 14, 1⟩
def AINn_RES_PLERR (n : Nat) : Fld := ⟨A.AINn_RES n, 15, 1⟩
def AINn_RES_TAG (n : Nat) : Fld := ⟨A.AINn_RES n, 16, 16⟩
def WINw_CFG_SRC (w : Nat) : Fld := ⟨A.WINw_CFG w, 0, 7⟩
def WINw_CFG_EN (w : Nat) : Fld := ⟨A.WINw_CFG w, 7, 1⟩
def WINw_CFG_TO_GUTTER (w : Nat) : Fld := ⟨A.WINw_CFG w, 8, 1⟩
def WINw_CFG_STAGE (w : Nat) : Fld := ⟨A.WINw_CFG w, 9, 4⟩
def WINw_CFG_NEXIT (w : Nat) : Fld := ⟨A.WINw_CFG w, 13, 4⟩
def WINw_CFG_NREARM (w : Nat) : Fld := ⟨A.WINw_CFG w, 17, 4⟩
def WINw_LIM_LO (w : Nat) : Fld := ⟨A.WINw_LIM w, 0, 16⟩
def WINw_LIM_HI (w : Nat) : Fld := ⟨A.WINw_LIM w, 16, 16⟩
def SDM_CLK_DIV0 : Fld := ⟨A.SDM_CLK, 0, 6⟩
def SDM_CLK_DIV1 : Fld := ⟨A.SDM_CLK, 8, 6⟩
def SDM_CLK_EN0 : Fld := ⟨A.SDM_CLK, 16, 1⟩
def SDM_CLK_EN1 : Fld := ⟨A.SDM_CLK, 17, 1⟩
def SDM_FLAGS_LOSS : Fld := ⟨A.SDM_FLAGS, 0, 8⟩
def SDM_FLAGS_OVR : Fld := ⟨A.SDM_FLAGS, 8, 8⟩
def SDn_CFG_EN (n : Nat) : Fld := ⟨A.SDn_CFG n, 0, 1⟩
def SDn_CFG_CLKSEL (n : Nat) : Fld := ⟨A.SDn_CFG n, 1, 1⟩
def SDn_CFG_SDLY (n : Nat) : Fld := ⟨A.SDn_CFG n, 2, 3⟩
def SDn_CFG_OSR (n : Nat) : Fld := ⟨A.SDn_CFG n, 5, 9⟩
def SDn_TRIG_TSRC (n : Nat) : Fld := ⟨A.SDn_TRIG n, 0, 2⟩
def SDn_TRIG_TIDX (n : Nat) : Fld := ⟨A.SDn_TRIG n, 2, 6⟩
def SDn_TRIG_CPOS (n : Nat) : Fld := ⟨A.SDn_TRIG n, 8, 8⟩
def SDn_TRIG_CDIV (n : Nat) : Fld := ⟨A.SDn_TRIG n, 16, 4⟩
def SDn_LIM_OVR_LIM (n : Nat) : Fld := ⟨A.SDn_LIM n, 0, 17⟩
def SDn_RES_RESULT (n : Nat) : Fld := ⟨A.SDn_RES n, 0, 18⟩
def SDn_RES_VALID (n : Nat) : Fld := ⟨A.SDn_RES n, 18, 1⟩
def CMPc_CFG_EN (c : Nat) : Fld := ⟨A.CMPc_CFG c, 0, 1⟩
def CMPc_CFG_POL (c : Nat) : Fld := ⟨A.CMPc_CFG c, 1, 1⟩
def CMPc_CFG_HYST (c : Nat) : Fld := ⟨A.CMPc_CFG c, 2, 2⟩
def CMPc_CFG_FILT (c : Nat) : Fld := ⟨A.CMPc_CFG c, 4, 4⟩
def CMPc_CFG_DSRC (c : Nat) : Fld := ⟨A.CMPc_CFG c, 8, 1⟩
def CMPc_CFG_STAGE (c : Nat) : Fld := ⟨A.CMPc_CFG c, 9, 4⟩
def CMPc_CFG_STAGE_RT (c : Nat) : Fld := ⟨A.CMPc_CFG c, 13, 4⟩
def CMPc_CFG_TO_GUTTER (c : Nat) : Fld := ⟨A.CMPc_CFG c, 17, 1⟩
def CMPc_CFG_SLOPE_EN (c : Nat) : Fld := ⟨A.CMPc_CFG c, 18, 1⟩
def CMPc_CFG_SLOPE_CH (c : Nat) : Fld := ⟨A.CMPc_CFG c, 19, 5⟩
def CMPc_CFG_LATCH (c : Nat) : Fld := ⟨A.CMPc_CFG c, 24, 1⟩
def CMPc_DAC_CODE (c : Nat) : Fld := ⟨A.CMPc_DAC c, 0, 10⟩
def CMPc_DAC_IN_USE (c : Nat) : Fld := ⟨A.CMPc_DAC c, 16, 10⟩
def CMPc_SLOPE_SLOPE (c : Nat) : Fld := ⟨A.CMPc_SLOPE c, 0, 12⟩
def CMPc_SLOPE_FLOOR (c : Nat) : Fld := ⟨A.CMPc_SLOPE c, 16, 10⟩
def CMPc_STATUS_OUT (c : Nat) : Fld := ⟨A.CMPc_STATUS c, 0, 1⟩
def CMPc_STATUS_TRIP (c : Nat) : Fld := ⟨A.CMPc_STATUS c, 1, 1⟩
def CMPc_STATUS_DAC_ERR (c : Nat) : Fld := ⟨A.CMPc_STATUS c, 2, 1⟩
def CMPc_STATUS_COUNT (c : Nat) : Fld := ⟨A.CMPc_STATUS c, 16, 16⟩
def CMP_TEST_CMP : Fld := ⟨A.CMP_TEST, 0, 5⟩
def CMP_TEST_GO : Fld := ⟨A.CMP_TEST, 8, 1⟩
def CMP_TEST_RES_CODE : Fld := ⟨A.CMP_TEST_RES, 0, 8⟩
def CMP_TEST_RES_DONE : Fld := ⟨A.CMP_TEST_RES, 8, 1⟩
def CMP_TEST_RES_FAIL : Fld := ⟨A.CMP_TEST_RES, 9, 1⟩
def CMP_TEST_RES_FLIP : Fld := ⟨A.CMP_TEST_RES, 16, 10⟩

/-! Fields of spec/06_rafter_engine.md. -/
def RAFTER_LOAD_LOAD : Fld := ⟨A.RAFTER_LOAD, 0, 20⟩
def RAFTER_WORST_E : Fld := ⟨A.RAFTER_WORST, 0, 11⟩
def RAFTER_FLAGS_STAGE : Fld := ⟨A.RAFTER_FLAGS, 0, 12⟩
def RAFTER_FLAGS_SAT_EV : Fld := ⟨A.RAFTER_FLAGS, 16, 1⟩
def RAFTER_FLAGS_OVR_EV : Fld := ⟨A.RAFTER_FLAGS, 17, 1⟩
def RAFTER_ADMIT_CODE : Fld := ⟨A.RAFTER_ADMIT, 0, 8⟩
def RAFTER_ADMIT_STAGE : Fld := ⟨A.RAFTER_ADMIT, 8, 4⟩
def RAFTER_ADMIT_REASON : Fld := ⟨A.RAFTER_ADMIT, 12, 3⟩
def STAGEs_LOOP_CFG_STRUCT (s : Nat) : Fld := ⟨A.STAGEs_LOOP_CFG s, 0, 3⟩
def STAGEs_LOOP_CFG_NA (s : Nat) : Fld := ⟨A.STAGEs_LOOP_CFG s, 3, 2⟩
def STAGEs_LOOP_CFG_NB (s : Nat) : Fld := ⟨A.STAGEs_LOOP_CFG s, 5, 2⟩
def STAGEs_LOOP_CFG_ORD (s : Nat) : Fld := ⟨A.STAGEs_LOOP_CFG s, 7, 4⟩
def STAGEs_LOOP_CFG_FRZ_A (s : Nat) : Fld := ⟨A.STAGEs_LOOP_CFG s, 11, 2⟩
def STAGEs_LOOP_CFG_FRZ_A_EN (s : Nat) : Fld := ⟨A.STAGEs_LOOP_CFG s, 13, 1⟩
def STAGEs_LOOP_CFG_FRZ_B (s : Nat) : Fld := ⟨A.STAGEs_LOOP_CFG s, 14, 2⟩
def STAGEs_LOOP_CFG_FRZ_B_EN (s : Nat) : Fld := ⟨A.STAGEs_LOOP_CFG s, 16, 1⟩
def STAGEs_LOOP_CFG_FFM (s : Nat) : Fld := ⟨A.STAGEs_LOOP_CFG s, 17, 2⟩
def STAGEs_LOOP_CFG_IFF_EN (s : Nat) : Fld := ⟨A.STAGEs_LOOP_CFG s, 19, 1⟩
def STAGEs_LOOP_CFG_DROOP_EN (s : Nat) : Fld := ⟨A.STAGEs_LOOP_CFG s, 20, 1⟩
def STAGEs_LOOP_CFG_CREF_EN (s : Nat) : Fld := ⟨A.STAGEs_LOOP_CFG s, 21, 1⟩
def STAGEs_LOOP_CFG_WAIT (s : Nat) : Fld := ⟨A.STAGEs_LOOP_CFG s, 22, 6⟩
def STAGEs_LOOP_CFG_NEG (s : Nat) : Fld := ⟨A.STAGEs_LOOP_CFG s, 28, 1⟩
def STAGEs_IN_MAP0_IN0 (s : Nat) : Fld := ⟨A.STAGEs_IN_MAP0 s, 0, 7⟩
def STAGEs_IN_MAP0_IN1 (s : Nat) : Fld := ⟨A.STAGEs_IN_MAP0 s, 8, 7⟩
def STAGEs_IN_MAP0_IN2 (s : Nat) : Fld := ⟨A.STAGEs_IN_MAP0 s, 16, 7⟩
def STAGEs_IN_MAP0_IN3 (s : Nat) : Fld := ⟨A.STAGEs_IN_MAP0 s, 24, 7⟩
def STAGEs_IN_MAP1_IN4 (s : Nat) : Fld := ⟨A.STAGEs_IN_MAP1 s, 0, 7⟩
def STAGEs_IN_MAP1_IN5 (s : Nat) : Fld := ⟨A.STAGEs_IN_MAP1 s, 8, 7⟩
def STAGEs_OUT_MAP_MAP (s : Nat) : Fld := ⟨A.STAGEs_OUT_MAP s, 0, 16⟩
def STAGEs_PF_PF_OFS (s : Nat) : Fld := ⟨A.STAGEs_PF s, 0, 16⟩
def STAGEs_COEF_IDX_IDX (s : Nat) : Fld := ⟨A.STAGEs_COEF_IDX s, 0, 6⟩
def STAGEs_COEF_IDX_AINC (s : Nat) : Fld := ⟨A.STAGEs_COEF_IDX s, 8, 1⟩
def STAGEs_COEF_DATA_VALUE (s : Nat) : Fld := ⟨A.STAGEs_COEF_DATA s, 0, 24⟩
def STAGEs_SP_TARGET_VALUE (s : Nat) : Fld := ⟨A.STAGEs_SP_TARGET s, 0, 24⟩
def STAGEs_SP_VMAX_VALUE (s : Nat) : Fld := ⟨A.STAGEs_SP_VMAX s, 0, 24⟩
def STAGEs_SP_AMAX_VALUE (s : Nat) : Fld := ⟨A.STAGEs_SP_AMAX s, 0, 24⟩
def STAGEs_SP_JMAX_VALUE (s : Nat) : Fld := ⟨A.STAGEs_SP_JMAX s, 0, 24⟩
def STAGEs_TRIM_VALUE (s : Nat) : Fld := ⟨A.STAGEs_TRIM s, 0, 24⟩
def STAGEs_CAP_VALUE (s : Nat) : Fld := ⟨A.STAGEs_CAP s, 0, 24⟩
def STAGEs_SP_NOW_R (s : Nat) : Fld := ⟨A.STAGEs_SP_NOW s, 0, 24⟩
def STAGEs_LOOP_STATUS_RUN (s : Nat) : Fld := ⟨A.STAGEs_LOOP_STATUS s, 0, 1⟩
def STAGEs_LOOP_STATUS_MOVING (s : Nat) : Fld := ⟨A.STAGEs_LOOP_STATUS s, 1, 1⟩
def STAGEs_LOOP_STATUS_SAT_OUT (s : Nat) : Fld := ⟨A.STAGEs_LOOP_STATUS s, 2, 1⟩
def STAGEs_LOOP_STATUS_SAT_REF (s : Nat) : Fld := ⟨A.STAGEs_LOOP_STATUS s, 3, 1⟩
def STAGEs_LOOP_STATUS_FROZEN_A (s : Nat) : Fld := ⟨A.STAGEs_LOOP_STATUS s, 4, 1⟩
def STAGEs_LOOP_STATUS_FROZEN_B (s : Nat) : Fld := ⟨A.STAGEs_LOOP_STATUS s, 5, 1⟩
def STAGEs_LOOP_STATUS_STALE (s : Nat) : Fld := ⟨A.STAGEs_LOOP_STATUS s, 6, 1⟩
def STAGEs_LOOP_FLAGS_EXP (s : Nat) : Fld := ⟨A.STAGEs_LOOP_FLAGS s, 0, 1⟩
def STAGEs_LOOP_FLAGS_ACC (s : Nat) : Fld := ⟨A.STAGEs_LOOP_FLAGS s, 1, 1⟩
def STAGEs_LOOP_FLAGS_DIV (s : Nat) : Fld := ⟨A.STAGEs_LOOP_FLAGS s, 2, 1⟩
def STAGEs_LOOP_FLAGS_OUT_SAT (s : Nat) : Fld := ⟨A.STAGEs_LOOP_FLAGS s, 3, 1⟩
def STAGEs_LOOP_FLAGS_REF_SAT (s : Nat) : Fld := ⟨A.STAGEs_LOOP_FLAGS s, 4, 1⟩
def STAGEs_LOOP_FLAGS_OVERRUN (s : Nat) : Fld := ⟨A.STAGEs_LOOP_FLAGS s, 5, 1⟩
def STAGEs_LOOP_FLAGS_STALE (s : Nat) : Fld := ⟨A.STAGEs_LOOP_FLAGS s, 6, 1⟩
def STAGEs_U0_VALUE (s : Nat) : Fld := ⟨A.STAGEs_U0 s, 0, 24⟩
def STAGEs_U1_VALUE (s : Nat) : Fld := ⟨A.STAGEs_U1 s, 0, 24⟩
def STAGEs_U2_VALUE (s : Nat) : Fld := ⟨A.STAGEs_U2 s, 0, 24⟩
def STAGEs_COST_C (s : Nat) : Fld := ⟨A.STAGEs_COST s, 0, 8⟩
def STAGEs_COST_O (s : Nat) : Fld := ⟨A.STAGEs_COST s, 8, 8⟩
def STAGEs_RATE_N (s : Nat) : Fld := ⟨A.STAGEs_RATE s, 0, 20⟩
def STAGEs_LAT_LAST (s : Nat) : Fld := ⟨A.STAGEs_LAT s, 0, 11⟩
def STAGEs_LAT_MAX (s : Nat) : Fld := ⟨A.STAGEs_LAT s, 16, 11⟩
def STAGEs_CREF_CODE (s : Nat) : Fld := ⟨A.STAGEs_CREF s, 0, 10⟩

/-! Fields of spec/07_stage_control.md. -/
def STAGEs_CFG_KIND (s : Nat) : Fld := ⟨A.STAGEs_CFG s, 0, 3⟩
def STAGEs_CFG_AUTO (s : Nat) : Fld := ⟨A.STAGEs_CFG s, 3, 1⟩
def STAGEs_CFG_DEP (s : Nat) : Fld := ⟨A.STAGEs_CFG s, 4, 4⟩
def STAGEs_CFG_NMIN (s : Nat) : Fld := ⟨A.STAGEs_CFG s, 8, 3⟩
def STAGEs_CFG_START_SRC (s : Nat) : Fld := ⟨A.STAGEs_CFG s, 11, 1⟩
def STAGEs_CFG_SHARE (s : Nat) : Fld := ⟨A.STAGEs_CFG s, 12, 2⟩
def STAGEs_CMD_CMD (s : Nat) : Fld := ⟨A.STAGEs_CMD s, 0, 2⟩
def STAGEs_CMD_RES_CODE (s : Nat) : Fld := ⟨A.STAGEs_CMD_RES s, 0, 8⟩
def STAGEs_CMD_RES_CMD (s : Nat) : Fld := ⟨A.STAGEs_CMD_RES s, 8, 2⟩
def STAGEs_STATE_STATE (s : Nat) : Fld := ⟨A.STAGEs_STATE s, 0, 4⟩
def STAGEs_STATE_BURST (s : Nat) : Fld := ⟨A.STAGEs_STATE s, 4, 1⟩
def STAGEs_STATE_START_LATCHED (s : Nat) : Fld := ⟨A.STAGEs_STATE s, 5, 1⟩
def STAGEs_STATE_STOP_PEND (s : Nat) : Fld := ⟨A.STAGEs_STATE s, 6, 1⟩
def STAGEs_STATE_NACT (s : Nat) : Fld := ⟨A.STAGEs_STATE s, 8, 4⟩
def STAGEs_STATE_TRIES (s : Nat) : Fld := ⟨A.STAGEs_STATE s, 12, 4⟩
def STAGEs_STATE_LAST_EV (s : Nat) : Fld := ⟨A.STAGEs_STATE s, 16, 7⟩
def STAGEs_START_DLY_REED (s : Nat) : Fld := ⟨A.STAGEs_START_DLY s, 0, 16⟩
def STAGEs_START_DLY_TURN (s : Nat) : Fld := ⟨A.STAGEs_START_DLY s, 16, 8⟩
def STAGEs_STOP_DLY_REED (s : Nat) : Fld := ⟨A.STAGEs_STOP_DLY s, 0, 16⟩
def STAGEs_STOP_DLY_TURN (s : Nat) : Fld := ⟨A.STAGEs_STOP_DLY s, 16, 8⟩
def STAGEs_SS_TMO_REED (s : Nat) : Fld := ⟨A.STAGEs_SS_TMO s, 0, 16⟩
def STAGEs_SS_TMO_TURN (s : Nat) : Fld := ⟨A.STAGEs_SS_TMO s, 16, 8⟩
def STAGEs_RETRY_REED (s : Nat) : Fld := ⟨A.STAGEs_RETRY s, 0, 16⟩
def STAGEs_RETRY_TURN (s : Nat) : Fld := ⟨A.STAGEs_RETRY s, 16, 8⟩
def STAGEs_RETRY_MAX (s : Nat) : Fld := ⟨A.STAGEs_RETRY s, 24, 4⟩
def STAGEs_SHED_HOLD_REED (s : Nat) : Fld := ⟨A.STAGEs_SHED_HOLD s, 0, 16⟩
def STAGEs_SHED_HOLD_TURN (s : Nat) : Fld := ⟨A.STAGEs_SHED_HOLD s, 16, 8⟩
def STAGEs_SHED_HOLD_AVG (s : Nat) : Fld := ⟨A.STAGEs_SHED_HOLD s, 24, 3⟩
def STAGEs_BURST_ENT_REED (s : Nat) : Fld := ⟨A.STAGEs_BURST_ENT s, 0, 16⟩
def STAGEs_BURST_ENT_TURN (s : Nat) : Fld := ⟨A.STAGEs_BURST_ENT s, 16, 8⟩
def STAGEs_SS_VMAX_VALUE (s : Nat) : Fld := ⟨A.STAGEs_SS_VMAX s, 0, 24⟩
def STAGEs_START_VAL_VALUE (s : Nat) : Fld := ⟨A.STAGEs_START_VAL s, 0, 24⟩
def STAGEs_STOP_VAL_VALUE (s : Nat) : Fld := ⟨A.STAGEs_STOP_VAL s, 0, 24⟩
def STAGEs_CHK_CFG_VIN_EN (s : Nat) : Fld := ⟨A.STAGEs_CHK_CFG s, 0, 1⟩
def STAGEs_CHK_CFG_NODE_EN (s : Nat) : Fld := ⟨A.STAGEs_CHK_CFG s, 1, 1⟩
def STAGEs_CHK_CFG_PULSE_EN (s : Nat) : Fld := ⟨A.STAGEs_CHK_CFG s, 2, 1⟩
def STAGEs_CHK_CFG_SETTLE (s : Nat) : Fld := ⟨A.STAGEs_CHK_CFG s, 4, 10⟩
def STAGEs_CHK_CFG_PULSE (s : Nat) : Fld := ⟨A.STAGEs_CHK_CFG s, 16, 10⟩
def STAGEs_CHK_IN_VIN_IN (s : Nat) : Fld := ⟨A.STAGEs_CHK_IN s, 0, 7⟩
def STAGEs_CHK_IN_NODE_IN (s : Nat) : Fld := ⟨A.STAGEs_CHK_IN s, 8, 7⟩
def STAGEs_CHK_IN_MASK (s : Nat) : Fld := ⟨A.STAGEs_CHK_IN s, 16, 8⟩
def STAGEs_CHK_LIM_VIN_MIN (s : Nat) : Fld := ⟨A.STAGEs_CHK_LIM s, 0, 14⟩
def STAGEs_CHK_LIM_NODE_MAX (s : Nat) : Fld := ⟨A.STAGEs_CHK_LIM s, 16, 14⟩
def STAGEs_FT_FT_UP (s : Nat) : Fld := ⟨A.STAGEs_FT s, 0, 8⟩
def STAGEs_FT_FT_LIM (s : Nat) : Fld := ⟨A.STAGEs_FT s, 8, 16⟩
def STAGEs_WINACT0_ACT (s : Nat) : Fld := ⟨A.STAGEs_WINACT0 s, 0, 32⟩
def STAGEs_WINACT1_ACT (s : Nat) : Fld := ⟨A.STAGEs_WINACT1 s, 0, 32⟩
def STAGEs_SHED_SHED_TH (s : Nat) : Fld := ⟨A.STAGEs_SHED s, 0, 16⟩
def STAGEs_SHED_ADD_TH (s : Nat) : Fld := ⟨A.STAGEs_SHED s, 16, 16⟩
def STAGEs_BURST_BURST_IN (s : Nat) : Fld := ⟨A.STAGEs_BURST s, 0, 16⟩
def STAGEs_BURST_BURST_OUT (s : Nat) : Fld := ⟨A.STAGEs_BURST s, 16, 16⟩
def STAGEs_WAKE_WAKE_LO (s : Nat) : Fld := ⟨A.STAGEs_WAKE s, 0, 16⟩
def STAGEs_WAKE_WAKE_HI (s : Nat) : Fld := ⟨A.STAGEs_WAKE s, 16, 16⟩
def STAGEs_STEP_STEP_TH (s : Nat) : Fld := ⟨A.STAGEs_STEP s, 0, 16⟩
def STAGEs_FLAGS_EV (s : Nat) : Fld := ⟨A.STAGEs_FLAGS s, 0, 14⟩
def STAGEs_MON_FT (s : Nat) : Fld := ⟨A.STAGEs_MON s, 0, 16⟩
def STAGEs_MON_L (s : Nat) : Fld := ⟨A.STAGEs_MON s, 16, 16⟩
def STAGEs_SHARE_S_S (s : Nat) : Fld := ⟨A.STAGEs_SHARE_S s, 0, 24⟩
def STAGEs_COUNT_STARTS (s : Nat) : Fld := ⟨A.STAGEs_COUNT s, 0, 16⟩
def STAGEs_COUNT_FAULTS (s : Nat) : Fld := ⟨A.STAGEs_COUNT s, 16, 16⟩
def STG_SHAREg_CFG_EN (g : Nat) : Fld := ⟨A.STG_SHAREg_CFG g, 0, 1⟩
def STG_SHAREg_CFG_PER (g : Nat) : Fld := ⟨A.STG_SHAREg_CFG g, 16, 16⟩
def STG_SHAREg_KSH_VALUE (g : Nat) : Fld := ⟨A.STG_SHAREg_KSH g, 0, 24⟩
def STG_SHAREg_MAX_VALUE (g : Nat) : Fld := ⟨A.STG_SHAREg_MAX g, 0, 24⟩
def STG_SHAREg_TRIM_VALUE (g : Nat) : Fld := ⟨A.STG_SHAREg_TRIM g, 0, 24⟩

/-! Fields of spec/08_twin_failover.md. -/
def RAFTER_TWIN_STATUS_ST_A : Fld := ⟨A.RAFTER_TWIN_STATUS, 0, 3⟩
def RAFTER_TWIN_STATUS_ST_B : Fld := ⟨A.RAFTER_TWIN_STATUS, 4, 3⟩
def RAFTER_TWIN_STATUS_ACT_B : Fld := ⟨A.RAFTER_TWIN_STATUS, 8, 1⟩
def RAFTER_TWIN_STATUS_SWITCHING : Fld := ⟨A.RAFTER_TWIN_STATUS, 9, 1⟩
def RAFTER_TWIN_STATUS_SPARE : Fld := ⟨A.RAFTER_TWIN_STATUS, 10, 1⟩
def RAFTER_TWIN_STATUS_LOCK_A : Fld := ⟨A.RAFTER_TWIN_STATUS, 11, 1⟩
def RAFTER_TWIN_STATUS_LOCK_B : Fld := ⟨A.RAFTER_TWIN_STATUS, 12, 1⟩
def RAFTER_TWIN_CTRL_TWIN_REQ : Fld := ⟨A.RAFTER_TWIN_CTRL, 0, 1⟩
def RAFTER_TWIN_CTRL_FAIL_MAX : Fld := ⟨A.RAFTER_TWIN_CTRL, 1, 3⟩
def RAFTER_TWIN_CTRL_CE_LIM : Fld := ⟨A.RAFTER_TWIN_CTRL, 8, 8⟩
def RAFTER_TWIN_CMD_CMD : Fld := ⟨A.RAFTER_TWIN_CMD, 0, 2⟩
def RAFTER_TWIN_CMD_RES_CODE : Fld := ⟨A.RAFTER_TWIN_CMD_RES, 0, 8⟩
def RAFTER_TWIN_CMD_RES_CMD : Fld := ⟨A.RAFTER_TWIN_CMD_RES, 8, 2⟩
def RAFTER_TWIN_CMD_RES_DONE : Fld := ⟨A.RAFTER_TWIN_CMD_RES, 10, 1⟩
def RAFTER_TWIN_CMD_RES_FAIL : Fld := ⟨A.RAFTER_TWIN_CMD_RES, 11, 1⟩
def RAFTER_TWIN_CAUSE_CAUSE_A : Fld := ⟨A.RAFTER_TWIN_CAUSE, 0, 8⟩
def RAFTER_TWIN_CAUSE_CAUSE_B : Fld := ⟨A.RAFTER_TWIN_CAUSE, 8, 8⟩
def RAFTER_TWIN_FLAGS_SWITCH : Fld := ⟨A.RAFTER_TWIN_FLAGS, 0, 1⟩
def RAFTER_TWIN_FLAGS_STBY_FAULT : Fld := ⟨A.RAFTER_TWIN_FLAGS, 1, 1⟩
def RAFTER_TWIN_FLAGS_LOST : Fld := ⟨A.RAFTER_TWIN_FLAGS, 2, 1⟩
def RAFTER_TWIN_FLAGS_MISMATCH : Fld := ⟨A.RAFTER_TWIN_FLAGS, 3, 1⟩
def RAFTER_TWIN_COUNT_SWITCHES : Fld := ⟨A.RAFTER_TWIN_COUNT, 0, 8⟩
def RAFTER_TWIN_COUNT_MISMATCHES : Fld := ⟨A.RAFTER_TWIN_COUNT, 8, 8⟩
def RAFTER_TWIN_COUNT_TFAIL_A : Fld := ⟨A.RAFTER_TWIN_COUNT, 16, 4⟩
def RAFTER_TWIN_COUNT_TFAIL_B : Fld := ⟨A.RAFTER_TWIN_COUNT, 20, 4⟩
def RAFTER_TWIN_CE_CE_A : Fld := ⟨A.RAFTER_TWIN_CE, 0, 16⟩
def RAFTER_TWIN_CE_CE_B : Fld := ⟨A.RAFTER_TWIN_CE, 16, 16⟩
def RAFTER_TWIN_LAST_GAP : Fld := ⟨A.RAFTER_TWIN_LAST, 0, 14⟩

/-! Fields of spec/09_rack_coordination.md. -/
def COORD_CFG_RIDE_DAB : Fld := ⟨A.COORD_CFG, 0, 1⟩
def COORD_CFG_ILV_GROUP : Fld := ⟨A.COORD_CFG, 4, 4⟩
def COORD_CFG_ILV_M : Fld := ⟨A.COORD_CFG, 8, 4⟩
def COORD_CFG_ILV_K : Fld := ⟨A.COORD_CFG, 12, 15⟩
def COORD_CFG_SHARE_GRP : Fld := ⟨A.COORD_CFG, 27, 2⟩
def COORD_RATING_RATING : Fld := ⟨A.COORD_RATING, 0, 16⟩
def COORD_RATING_RIDE_LEVEL : Fld := ⟨A.COORD_RATING, 16, 4⟩
def COORD_ALLOT_SLICE : Fld := ⟨A.COORD_ALLOT, 0, 16⟩
def COORD_ALLOT_HELD : Fld := ⟨A.COORD_ALLOT, 16, 1⟩
def COORD_POWER_POWER : Fld := ⟨A.COORD_POWER, 0, 16⟩
def COORD_CAP_CFG_HYST : Fld := ⟨A.COORD_CAP_CFG, 0, 8⟩
def COORD_CAP_CFG_RELAX : Fld := ⟨A.COORD_CAP_CFG, 8, 4⟩
def COORD_CAP_CFG_CAP_TMO : Fld := ⟨A.COORD_CAP_CFG, 16, 8⟩
def COORD_BRK_LEVELS : Fld := ⟨A.COORD_BRK, 0, 32⟩
def COORD_FLAGS_TRIM_LIM : Fld := ⟨A.COORD_FLAGS, 0, 1⟩
def COORD_FLAGS_OVER : Fld := ⟨A.COORD_FLAGS, 1, 1⟩
def COORD_FLAGS_CAP_TMO : Fld := ⟨A.COORD_FLAGS, 2, 1⟩
def COORD_FLAGS_ILV_MISMATCH : Fld := ⟨A.COORD_FLAGS, 3, 1⟩
def COORD_FLAGS_TAKEOVER : Fld := ⟨A.COORD_FLAGS, 4, 1⟩
def COORD_FLAGS_NO_STANDBY : Fld := ⟨A.COORD_FLAGS, 5, 1⟩
def COORD_FLAGS_NO_PRIMARY : Fld := ⟨A.COORD_FLAGS, 6, 1⟩
def MGR_STATUS_MROLE : Fld := ⟨A.MGR_STATUS, 0, 2⟩
def MGR_STATUS_PEER : Fld := ⟨A.MGR_STATUS, 2, 1⟩
def MGR_STATUS_COPY_OK : Fld := ⟨A.MGR_STATUS, 3, 1⟩
def MGR_STATUS_HOME_ID : Fld := ⟨A.MGR_STATUS, 4, 5⟩
def MGR_STATUS_BUS_ID : Fld := ⟨A.MGR_STATUS, 9, 5⟩
def MGR_STATUS_EPOCH : Fld := ⟨A.MGR_STATUS, 16, 16⟩
def MGR_BUDGET_BUDGET : Fld := ⟨A.MGR_BUDGET, 0, 16⟩
def MGR_BUDGET_EFFECTIVE : Fld := ⟨A.MGR_BUDGET, 16, 16⟩
def MGR_POLICY_RESERVE : Fld := ⟨A.MGR_POLICY, 0, 16⟩
def MGR_POLICY_CHG_MAX : Fld := ⟨A.MGR_POLICY, 16, 16⟩
def MGR_TICK_TICK : Fld := ⟨A.MGR_TICK, 0, 8⟩
def MGR_KRS_VALUE : Fld := ⟨A.MGR_KRS, 0, 24⟩
def MGR_GTMAX_VALUE : Fld := ⟨A.MGR_GTMAX, 0, 24⟩
def MGR_CMD_CMD : Fld := ⟨A.MGR_CMD, 0, 2⟩
def MGR_CMD_RES_CODE : Fld := ⟨A.MGR_CMD_RES, 0, 8⟩
def MGR_CMD_RES_CMD : Fld := ⟨A.MGR_CMD_RES, 8, 2⟩
def MGR_SUM_ALLOC : Fld := ⟨A.MGR_SUM, 0, 16⟩
def MGR_SUM_DEMAND : Fld := ⟨A.MGR_SUM, 16, 16⟩
def MGR_NODEj_ALLOT (j : Nat) : Fld := ⟨A.MGR_NODEj j, 0, 16⟩
def MGR_NODEj_REPORT (j : Nat) : Fld := ⟨A.MGR_NODEj j, 16, 16⟩
def MGR_OFSj_OFS (j : Nat) : Fld := ⟨A.MGR_OFSj j, 0, 32⟩
def MGR_GTj_GT (j : Nat) : Fld := ⟨A.MGR_GTj j, 0, 24⟩
def MGR_MEMBj_MODE (j : Nat) : Fld := ⟨A.MGR_MEMBj j, 0, 3⟩
def MGR_MEMBj_ILV_GROUP (j : Nat) : Fld := ⟨A.MGR_MEMBj j, 3, 4⟩
def MGR_MEMBj_INDEX (j : Nat) : Fld := ⟨A.MGR_MEMBj j, 7, 5⟩
def MGR_MEMBj_FRESH (j : Nat) : Fld := ⟨A.MGR_MEMBj j, 12, 1⟩
def MGR_MEMBj_ROLE (j : Nat) : Fld := ⟨A.MGR_MEMBj j, 13, 3⟩

/-! Fields of spec/10_rinnak_network.md. -/
def RINNAK_CTRL_EN : Fld := ⟨A.RINNAK_CTRL, 0, 1⟩
def RINNAK_CTRL_AUTH_EN : Fld := ⟨A.RINNAK_CTRL, 1, 1⟩
def RINNAK_CTRL_FWD_EN : Fld := ⟨A.RINNAK_CTRL, 2, 1⟩
def RINNAK_CTRL_FWD_CLASS : Fld := ⟨A.RINNAK_CTRL, 3, 2⟩
def RINNAK_CTRL_NODES : Fld := ⟨A.RINNAK_CTRL, 8, 6⟩
def RINNAK_CTRL_ERR_LIM : Fld := ⟨A.RINNAK_CTRL, 16, 8⟩
def RINNAK_CTRL_STR_LIM : Fld := ⟨A.RINNAK_CTRL, 24, 8⟩
def RINNAK_FOREIGN_MASK : Fld := ⟨A.RINNAK_FOREIGN, 0, 32⟩
def RINNAK_STATUS_UP_A : Fld := ⟨A.RINNAK_STATUS, 0, 1⟩
def RINNAK_STATUS_UP_B : Fld := ⟨A.RINNAK_STATUS, 1, 1⟩
def RINNAK_STATUS_BUS_LOST : Fld := ⟨A.RINNAK_STATUS, 2, 1⟩
def RINNAK_STATUS_KEY_OK : Fld := ⟨A.RINNAK_STATUS, 3, 1⟩
def RINNAK_STATUS_KEY_PEND : Fld := ⟨A.RINNAK_STATUS, 4, 1⟩
def RINNAK_STATUS_COORD : Fld := ⟨A.RINNAK_STATUS, 5, 1⟩
def RINNAK_STATUS_CYC_A : Fld := ⟨A.RINNAK_STATUS, 8, 4⟩
def RINNAK_STATUS_CYC_B : Fld := ⟨A.RINNAK_STATUS, 12, 4⟩
def RINNAK_STATUS_BUS_ID : Fld := ⟨A.RINNAK_STATUS, 16, 5⟩
def RINNAK_BUDGET_C_MIN : Fld := ⟨A.RINNAK_BUDGET, 0, 10⟩
def RINNAK_BUDGET_CFRAME : Fld := ⟨A.RINNAK_BUDGET, 16, 9⟩
def RINNAK_FLAGS_DOWN_A : Fld := ⟨A.RINNAK_FLAGS, 0, 1⟩
def RINNAK_FLAGS_DOWN_B : Fld := ⟨A.RINNAK_FLAGS, 1, 1⟩
def RINNAK_FLAGS_STRANGER : Fld := ⟨A.RINNAK_FLAGS, 2, 1⟩
def RINNAK_FLAGS_AUTH_FAIL : Fld := ⟨A.RINNAK_FLAGS, 3, 1⟩
def RINNAK_FLAGS_ID_CLASH : Fld := ⟨A.RINNAK_FLAGS, 4, 1⟩
def RINNAK_FLAGS_LATE : Fld := ⟨A.RINNAK_FLAGS, 5, 1⟩
def RINNAK_FLAGS_REFUSED : Fld := ⟨A.RINNAK_FLAGS, 6, 1⟩
def RINNAK_QUEUE_URG : Fld := ⟨A.RINNAK_QUEUE, 0, 6⟩
def RINNAK_QUEUE_NRM : Fld := ⟨A.RINNAK_QUEUE, 8, 6⟩
def RINNAK_QUEUE_SYNC : Fld := ⟨A.RINNAK_QUEUE, 16, 6⟩
def RINNAK_QUEUE_BULK : Fld := ⟨A.RINNAK_QUEUE, 24, 6⟩
def RINNAK_ADMIT_CODE : Fld := ⟨A.RINNAK_ADMIT, 0, 8⟩
def RINNAK_ADMIT_TYPE : Fld := ⟨A.RINNAK_ADMIT, 8, 8⟩
def RINNAK_ADMIT_CLASS : Fld := ⟨A.RINNAK_ADMIT, 16, 2⟩
def RINNAK_ADMIT_SEGS : Fld := ⟨A.RINNAK_ADMIT, 18, 2⟩
def RINNAK_REFUSE_CODE : Fld := ⟨A.RINNAK_REFUSE, 0, 8⟩
def RINNAK_REFUSE_TYPE : Fld := ⟨A.RINNAK_REFUSE, 8, 8⟩
def RINNAK_REFUSE_SRC : Fld := ⟨A.RINNAK_REFUSE, 16, 5⟩
def RINNAK_CNT_Ai_COUNT (i : Nat) : Fld := ⟨A.RINNAK_CNT_Ai i, 0, 32⟩
def RINNAK_CNT_Bi_COUNT (i : Nat) : Fld := ⟨A.RINNAK_CNT_Bi i, 0, 32⟩
def RINNAK_CYCLE_MAX_A : Fld := ⟨A.RINNAK_CYCLE, 0, 16⟩
def RINNAK_CYCLE_MAX_B : Fld := ⟨A.RINNAK_CYCLE, 16, 16⟩
def RINNAK_NODE_NODE_ID : Fld := ⟨A.RINNAK_NODE, 0, 5⟩
def RINNAK_NODE_MGR : Fld := ⟨A.RINNAK_NODE, 5, 1⟩
def RINNAK_KEYk_KEY (k : Nat) : Fld := ⟨A.RINNAK_KEYk k, 0, 32⟩
def RINNAK_KEY_ACT_TURN : Fld := ⟨A.RINNAK_KEY_ACT, 0, 16⟩
def RINNAK_KEY_ACT_ERA : Fld := ⟨A.RINNAK_KEY_ACT, 16, 16⟩
def RINNAK_KEY_RES_CODE : Fld := ⟨A.RINNAK_KEY_RES, 0, 8⟩

/-! Fields of spec/11_branches.md. -/
def BRn_CFG_USE (n : Nat) : Fld := ⟨A.BRn_CFG n, 0, 1⟩
def BRn_CFG_TRIP_POL (n : Nat) : Fld := ⟨A.BRn_CFG n, 1, 1⟩
def BRn_CFG_LEG_A (n : Nat) : Fld := ⟨A.BRn_CFG n, 2, 1⟩
def BRn_CFG_LEG_B (n : Nat) : Fld := ⟨A.BRn_CFG n, 3, 1⟩
def BRn_CFG_REV_EN (n : Nat) : Fld := ⟨A.BRn_CFG n, 4, 1⟩
def BRn_CFG_EN (n : Nat) : Fld := ⟨A.BRn_CFG n, 5, 1⟩
def BRn_CFG_MAX (n : Nat) : Fld := ⟨A.BRn_CFG n, 8, 4⟩
def BRn_CFG_RECL_N (n : Nat) : Fld := ⟨A.BRn_CFG n, 12, 4⟩
def BRn_CMD_CMD (n : Nat) : Fld := ⟨A.BRn_CMD n, 0, 2⟩
def BRn_CMD_RES_CODE (n : Nat) : Fld := ⟨A.BRn_CMD_RES n, 0, 8⟩
def BRn_STATE_STATE (n : Nat) : Fld := ⟨A.BRn_STATE n, 0, 3⟩
def BRn_STATE_SEATED (n : Nat) : Fld := ⟨A.BRn_STATE n, 3, 1⟩
def BRn_STATE_LEG_A (n : Nat) : Fld := ⟨A.BRn_STATE n, 4, 2⟩
def BRn_STATE_LEG_B (n : Nat) : Fld := ⟨A.BRn_STATE n, 6, 2⟩
def BRn_STATE_TRIES (n : Nat) : Fld := ⟨A.BRn_STATE n, 8, 4⟩
def BRn_STATE_CAUSE (n : Nat) : Fld := ⟨A.BRn_STATE n, 12, 3⟩
def BRn_STATE_SL_KIND (n : Nat) : Fld := ⟨A.BRn_STATE n, 16, 3⟩
def BRn_SEAT_SEAT_DB (n : Nat) : Fld := ⟨A.BRn_SEAT n, 0, 16⟩
def BRn_SEAT_INS_DLY (n : Nat) : Fld := ⟨A.BRn_SEAT n, 16, 8⟩
def BRn_PRE_PRE_WIN (n : Nat) : Fld := ⟨A.BRn_PRE n, 0, 16⟩
def BRn_RETRY_REED (n : Nat) : Fld := ⟨A.BRn_RETRY n, 0, 16⟩
def BRn_RETRY_TURN (n : Nat) : Fld := ⟨A.BRn_RETRY n, 16, 8⟩
def BRn_ON_DLY_REED (n : Nat) : Fld := ⟨A.BRn_ON_DLY n, 0, 16⟩
def BRn_ON_DLY_TURN (n : Nat) : Fld := ⟨A.BRn_ON_DLY n, 16, 8⟩
def BRn_OFF_DLY_REED (n : Nat) : Fld := ⟨A.BRn_OFF_DLY n, 0, 16⟩
def BRn_OFF_DLY_TURN (n : Nat) : Fld := ⟨A.BRn_OFF_DLY n, 16, 8⟩
def BRn_FUSE_FUSE_TH (n : Nat) : Fld := ⟨A.BRn_FUSE n, 0, 14⟩
def BRn_FUSE_FUSE_N (n : Nat) : Fld := ⟨A.BRn_FUSE n, 16, 8⟩
def BRn_FWD_FWD (n : Nat) : Fld := ⟨A.BRn_FWD n, 0, 14⟩
def BRn_MEAS_V_VOUT (n : Nat) : Fld := ⟨A.BRn_MEAS_V n, 0, 14⟩
def BRn_MEAS_V_VSP (n : Nat) : Fld := ⟨A.BRn_MEAS_V n, 16, 14⟩
def BRn_MEAS_I_IA (n : Nat) : Fld := ⟨A.BRn_MEAS_I n, 0, 14⟩
def BRn_MEAS_I_IB (n : Nat) : Fld := ⟨A.BRn_MEAS_I n, 16, 14⟩
def BRn_PEAK_IA_PK (n : Nat) : Fld := ⟨A.BRn_PEAK n, 0, 14⟩
def BRn_PEAK_IB_PK (n : Nat) : Fld := ⟨A.BRn_PEAK n, 16, 14⟩
def BRn_VRANGE_VOUT_MIN (n : Nat) : Fld := ⟨A.BRn_VRANGE n, 0, 14⟩
def BRn_VRANGE_VOUT_MAX (n : Nat) : Fld := ⟨A.BRn_VRANGE n, 16, 14⟩
def BRn_TRIPCAP_VOUT (n : Nat) : Fld := ⟨A.BRn_TRIPCAP n, 0, 14⟩
def BRn_TRIPCAP_ISUM (n : Nat) : Fld := ⟨A.BRn_TRIPCAP n, 14, 14⟩
def BRn_TRIPCAP_CAUSE (n : Nat) : Fld := ⟨A.BRn_TRIPCAP n, 28, 3⟩
def BRn_TRIPCAP_VALID (n : Nat) : Fld := ⟨A.BRn_TRIPCAP n, 31, 1⟩
def BR_SENSE_SCAN_LOG2 : Fld := ⟨A.BR_SENSE, 0, 4⟩
def BR_SENSE_SPA_IN : Fld := ⟨A.BR_SENSE, 8, 6⟩
def BR_SENSE_SPB_IN : Fld := ⟨A.BR_SENSE, 16, 6⟩
def BR_SCALE_KV : Fld := ⟨A.BR_SCALE, 0, 16⟩
def BR_SCALE_KI : Fld := ⟨A.BR_SCALE, 16, 16⟩
def BR_ZERO_ZI : Fld := ⟨A.BR_ZERO, 0, 14⟩
def BR_SPINE_WIN_SP_LO : Fld := ⟨A.BR_SPINE_WIN, 0, 14⟩
def BR_SPINE_WIN_SP_HI : Fld := ⟨A.BR_SPINE_WIN, 16, 14⟩
def BR_SPINE_MEAS_VSPA : Fld := ⟨A.BR_SPINE_MEAS, 0, 14⟩
def BR_SPINE_MEAS_VSPB : Fld := ⟨A.BR_SPINE_MEAS, 16, 14⟩
def BR_FLAGS_FAULT : Fld := ⟨A.BR_FLAGS, 0, 8⟩
def BR_FLAGS_SEAT_LEG : Fld := ⟨A.BR_FLAGS, 8, 8⟩
def BRK_CFG_SLOT_LOG2 : Fld := ⟨A.BRK_CFG, 0, 4⟩
def BRK_LEVEL_LEVELS : Fld := ⟨A.BRK_LEVEL, 0, 32⟩
def BRK_OBS_PAUSES : Fld := ⟨A.BRK_OBS, 0, 16⟩
def BRK_OBS_HIGH : Fld := ⟨A.BRK_OBS, 16, 8⟩

/-! Fields of spec/12_batten_link.md. -/
def BTn_STATE_LINK (n : Nat) : Fld := ⟨A.BTn_STATE n, 0, 3⟩
def BTn_STATE_SIG (n : Nat) : Fld := ⟨A.BTn_STATE n, 4, 3⟩
def BTn_STATE_DHOST (n : Nat) : Fld := ⟨A.BTn_STATE n, 7, 1⟩
def BTn_STATE_QUEUED (n : Nat) : Fld := ⟨A.BTn_STATE n, 8, 1⟩
def BTn_STATE_SWAP_PEND (n : Nat) : Fld := ⟨A.BTn_STATE n, 9, 1⟩
def BTn_STATE_KIND (n : Nat) : Fld := ⟨A.BTn_STATE n, 12, 4⟩
def BTn_CONTRACT_VALUE (n : Nat) : Fld := ⟨A.BTn_CONTRACT n, 0, 16⟩
def BTn_CONTRACT_CID (n : Nat) : Fld := ⟨A.BTn_CONTRACT n, 16, 8⟩
def BTn_REQUEST_P_REQ (n : Nat) : Fld := ⟨A.BTn_REQUEST n, 0, 16⟩
def BTn_REQUEST_P_MIN (n : Nat) : Fld := ⟨A.BTn_REQUEST n, 16, 16⟩
def BTn_PEER_BR_MAX (n : Nat) : Fld := ⟨A.BTn_PEER n, 0, 16⟩
def BTn_PEER_P_PRE (n : Nat) : Fld := ⟨A.BTn_PEER n, 16, 8⟩
def BTn_PEER_SWAP_EN (n : Nat) : Fld := ⟨A.BTn_PEER n, 24, 1⟩
def BTn_SIGV_MV (n : Nat) : Fld := ⟨A.BTn_SIGV n, 0, 12⟩
def BTn_CMD_CMD (n : Nat) : Fld := ⟨A.BTn_CMD n, 0, 3⟩
def BTn_CMD_RES_CODE (n : Nat) : Fld := ⟨A.BTn_CMD_RES n, 0, 8⟩
def BTn_CMD_RES_CMD (n : Nat) : Fld := ⟨A.BTn_CMD_RES n, 8, 3⟩
def BTn_CMD_RES_DONE (n : Nat) : Fld := ⟨A.BTn_CMD_RES n, 11, 1⟩
def BTn_CNT_CRC_ERR (n : Nat) : Fld := ⟨A.BTn_CNT n, 0, 8⟩
def BTn_CNT_COLL (n : Nat) : Fld := ⟨A.BTn_CNT n, 8, 8⟩
def BTn_CNT_RESEND (n : Nat) : Fld := ⟨A.BTn_CNT n, 16, 8⟩
def BTn_CNT_BAD (n : Nat) : Fld := ⟨A.BTn_CNT n, 24, 8⟩
def BTn_RXOBJk_OBJ (n k : Nat) : Fld := ⟨A.BTn_RXOBJk n k, 0, 32⟩
def BT_CFG_SWAP_EN : Fld := ⟨A.BT_CFG, 0, 1⟩
def BT_CFG_START_NEED : Fld := ⟨A.BT_CFG, 1, 1⟩
def BT_CFG_P_PRE : Fld := ⟨A.BT_CFG, 8, 8⟩
def BT_CFG_BR_MAX : Fld := ⟨A.BT_CFG, 16, 16⟩
def BT_SINK_REQ_P_REQ : Fld := ⟨A.BT_SINK_REQ, 0, 16⟩
def BT_SINK_REQ_P_MIN : Fld := ⟨A.BT_SINK_REQ, 16, 16⟩
def BT_SUM_HELD : Fld := ⟨A.BT_SUM, 0, 16⟩
def BT_SUM_WAITING : Fld := ⟨A.BT_SUM, 16, 16⟩
def BT_FLAGS_LINK : Fld := ⟨A.BT_FLAGS, 0, 8⟩
def BT_TEST_RES_HIGH : Fld := ⟨A.BT_TEST_RES, 0, 12⟩
def BT_TEST_RES_PASS : Fld := ⟨A.BT_TEST_RES, 12, 1⟩
def BT_TEST_RES_LINK : Fld := ⟨A.BT_TEST_RES, 13, 3⟩
def BT_WEEVIL_RUN : Fld := ⟨A.BT_WEEVIL, 0, 1⟩
def BT_WEEVIL_RESTARTS : Fld := ⟨A.BT_WEEVIL, 8, 8⟩
def BT_TOBJk_OBJ (k : Nat) : Fld := ⟨A.BT_TOBJk k, 0, 32⟩

/-! Fields of spec/13_modes_sequencer.md. -/
def SEQ_CTRL_AUTO_ON : Fld := ⟨A.SEQ_CTRL, 0, 1⟩
def SEQ_CTRL_IN_EN : Fld := ⟨A.SEQ_CTRL, 1, 1⟩
def SEQ_CTRL_CS_MARK : Fld := ⟨A.SEQ_CTRL, 2, 6⟩
def SEQ_CTRL_MIN_OFF : Fld := ⟨A.SEQ_CTRL, 8, 8⟩
def SEQ_CTRL_RAMP_TMO : Fld := ⟨A.SEQ_CTRL, 16, 8⟩
def SEQ_CTRL_RIDE_TMO : Fld := ⟨A.SEQ_CTRL, 24, 8⟩
def SEQ_INPUT_RIDE_TH : Fld := ⟨A.SEQ_INPUT, 0, 14⟩
def SEQ_INPUT_STOP_TH : Fld := ⟨A.SEQ_INPUT, 14, 14⟩
def SEQ_IN_SRC_IN_AIN : Fld := ⟨A.SEQ_IN_SRC, 0, 6⟩
def SEQ_CMD_CMD : Fld := ⟨A.SEQ_CMD, 0, 3⟩
def SEQ_CMD_RES_CODE : Fld := ⟨A.SEQ_CMD_RES, 0, 8⟩
def SEQ_CMD_RES_CMD : Fld := ⟨A.SEQ_CMD_RES, 8, 3⟩
def SEQ_STATUS_ON_LATCH : Fld := ⟨A.SEQ_STATUS, 0, 1⟩
def SEQ_STATUS_MINOFF : Fld := ⟨A.SEQ_STATUS, 1, 1⟩
def SEQ_STATUS_LG_DONE : Fld := ⟨A.SEQ_STATUS, 2, 1⟩
def SEQ_STATUS_SAFE_CAUSE : Fld := ⟨A.SEQ_STATUS, 8, 3⟩
def SEQ_STATUS_BLOCK : Fld := ⟨A.SEQ_STATUS, 16, 8⟩
def SEQ_FLAGS_RAMP_LATE : Fld := ⟨A.SEQ_FLAGS, 0, 1⟩
def SEQ_FLAGS_RIDE_LATE : Fld := ⟨A.SEQ_FLAGS, 1, 1⟩
def SEQ_FLAGS_LAST_GASP : Fld := ⟨A.SEQ_FLAGS, 2, 1⟩
def SEQ_RAIL_FAIL_NOUP : Fld := ⟨A.SEQ_RAIL_FAIL, 0, 16⟩
def SEQ_RAIL_FAIL_LOST : Fld := ⟨A.SEQ_RAIL_FAIL, 16, 16⟩
def SEQ_RAIL_LEVEL_EN : Fld := ⟨A.SEQ_RAIL_LEVEL, 0, 16⟩
def SEQ_RAIL_LEVEL_PG : Fld := ⟨A.SEQ_RAIL_LEVEL, 16, 16⟩
def SEQ_CS_ANGLE : Fld := ⟨A.SEQ_CS, 0, 32⟩
def SEQ_STG_SLOT0_SLOTS : Fld := ⟨A.SEQ_STG_SLOT0, 0, 32⟩
def SEQ_STG_SLOT1_SLOTS : Fld := ⟨A.SEQ_STG_SLOT1, 0, 16⟩
def RAILr_ON_REED (r : Nat) : Fld := ⟨A.RAILr_ON r, 0, 16⟩
def RAILr_ON_TURN (r : Nat) : Fld := ⟨A.RAILr_ON r, 16, 8⟩
def RAILr_OFF_REED (r : Nat) : Fld := ⟨A.RAILr_OFF r, 0, 16⟩
def RAILr_OFF_TURN (r : Nat) : Fld := ⟨A.RAILr_OFF r, 16, 8⟩
def RAILr_CFG_USE (r : Nat) : Fld := ⟨A.RAILr_CFG r, 0, 1⟩
def RAILr_CFG_PG_EN (r : Nat) : Fld := ⟨A.RAILr_CFG r, 1, 1⟩
def RAILr_CFG_SAFE_LVL (r : Nat) : Fld := ⟨A.RAILr_CFG r, 2, 1⟩
def RAILr_CFG_PG_TMO (r : Nat) : Fld := ⟨A.RAILr_CFG r, 16, 16⟩
def RSTOk_CFG_STRETCH (k : Nat) : Fld := ⟨A.RSTOk_CFG k, 0, 16⟩
def RSTOk_CFG_TRIG (k : Nat) : Fld := ⟨A.RSTOk_CFG k, 16, 4⟩
def RSTOk_CFG_EN (k : Nat) : Fld := ⟨A.RSTOk_CFG k, 20, 1⟩

/-! Fields of spec/14_storage_estimator.md. -/
def STk_CFG_EN (k : Nat) : Fld := ⟨A.STk_CFG k, 0, 1⟩
def STk_CFG_STAGE (k : Nat) : Fld := ⟨A.STk_CFG k, 1, 3⟩
def STk_CFG_DIR (k : Nat) : Fld := ⟨A.STk_CFG k, 4, 1⟩
def STk_CFG_IPOL (k : Nat) : Fld := ⟨A.STk_CFG k, 5, 1⟩
def STk_CFG_VIN (k : Nat) : Fld := ⟨A.STk_CFG k, 6, 6⟩
def STk_CFG_IIN (k : Nat) : Fld := ⟨A.STk_CFG k, 12, 6⟩
def STk_CFG_TSEL (k : Nat) : Fld := ⟨A.STk_CFG k, 18, 4⟩
def STk_SCALE_KV (k : Nat) : Fld := ⟨A.STk_SCALE k, 0, 16⟩
def STk_SCALE_KI (k : Nat) : Fld := ⟨A.STk_SCALE k, 16, 16⟩
def STk_ZERO_ZI (k : Nat) : Fld := ⟨A.STk_ZERO k, 0, 14⟩
def STk_VEND_V_EOD (k : Nat) : Fld := ⟨A.STk_VEND k, 0, 16⟩
def STk_VEND_V_EOC (k : Nat) : Fld := ⟨A.STk_VEND k, 16, 16⟩
def STk_VABS_V_LO (k : Nat) : Fld := ⟨A.STk_VABS k, 0, 16⟩
def STk_VABS_V_HI (k : Nat) : Fld := ⟨A.STk_VABS k, 16, 16⟩
def STk_CUR_I_IDLE (k : Nat) : Fld := ⟨A.STk_CUR k, 0, 16⟩
def STk_CUR_STEP_MIN (k : Nat) : Fld := ⟨A.STk_CUR k, 16, 16⟩
def STk_TEMP_CHG_TLO (k : Nat) : Fld := ⟨A.STk_TEMP k, 0, 16⟩
def STk_TEMP_CHG_THI (k : Nat) : Fld := ⟨A.STk_TEMP k, 16, 16⟩
def STk_ANCH_N_ANCH (k : Nat) : Fld := ⟨A.STk_ANCH k, 0, 4⟩
def STk_ANCH_RECHG (k : Nat) : Fld := ⟨A.STk_ANCH k, 4, 8⟩
def STk_ANCH_REDIS (k : Nat) : Fld := ⟨A.STk_ANCH k, 12, 8⟩
def STk_CNOM_VALUE (k : Nat) : Fld := ⟨A.STk_CNOM k, 0, 32⟩
def STk_Q_VALUE (k : Nat) : Fld := ⟨A.STk_Q k, 0, 32⟩
def STk_CAP_VALUE (k : Nat) : Fld := ⟨A.STk_CAP k, 0, 32⟩
def STk_RNOM_R (k : Nat) : Fld := ⟨A.STk_RNOM k, 0, 16⟩
def STk_RES_R (k : Nat) : Fld := ⟨A.STk_RES k, 0, 16⟩
def STk_RES_RCOUNT (k : Nat) : Fld := ⟨A.STk_RES k, 16, 16⟩
def STk_ICHG_VALUE (k : Nat) : Fld := ⟨A.STk_ICHG k, 0, 24⟩
def STk_IDRILL_VALUE (k : Nat) : Fld := ⟨A.STk_IDRILL k, 0, 24⟩
def STk_SOC_SOC (k : Nat) : Fld := ⟨A.STk_SOC k, 0, 14⟩
def STk_SOC_U (k : Nat) : Fld := ⟨A.STk_SOC k, 16, 14⟩
def STk_STATE_Q_KNOWN (k : Nat) : Fld := ⟨A.STk_STATE k, 0, 1⟩
def STk_STATE_CHARGING (k : Nat) : Fld := ⟨A.STk_STATE k, 1, 1⟩
def STk_STATE_DISCHARGING (k : Nat) : Fld := ⟨A.STk_STATE k, 2, 1⟩
def STk_STATE_DRILL (k : Nat) : Fld := ⟨A.STk_STATE k, 3, 1⟩
def STk_STATE_DISAGREE (k : Nat) : Fld := ⟨A.STk_STATE k, 4, 1⟩
def STk_STATE_STALE (k : Nat) : Fld := ⟨A.STk_STATE k, 5, 1⟩
def STk_STATE_DRILL_OK (k : Nat) : Fld := ⟨A.STk_STATE k, 6, 1⟩
def STk_STATE_CHG_INH (k : Nat) : Fld := ⟨A.STk_STATE k, 8, 4⟩
def STk_STATE_DIS_INH (k : Nat) : Fld := ⟨A.STk_STATE k, 12, 2⟩
def STk_STATE_AGE (k : Nat) : Fld := ⟨A.STk_STATE k, 16, 16⟩
def STk_FLAGS_EV (k : Nat) : Fld := ⟨A.STk_FLAGS k, 0, 8⟩
def STk_FLAGS_QUIET_GAP (k : Nat) : Fld := ⟨A.STk_FLAGS k, 8, 1⟩
def STk_MEAS_V (k : Nat) : Fld := ⟨A.STk_MEAS k, 0, 16⟩
def STk_MEAS_VC (k : Nat) : Fld := ⟨A.STk_MEAS k, 16, 16⟩
def STk_IMEAS_I (k : Nat) : Fld := ⟨A.STk_IMEAS k, 0, 32⟩
def ST_CFG_EST_LOG2 : Fld := ⟨A.ST_CFG, 0, 4⟩
def ST_CFG_AGE_LIM : Fld := ⟨A.ST_CFG, 16, 16⟩
def ST_UNC_UGROW : Fld := ⟨A.ST_UNC, 0, 16⟩
def ST_UNC_U_ANCH : Fld := ⟨A.ST_UNC, 16, 14⟩
def ST_DRILL_CFG_DRILL_TMO : Fld := ⟨A.ST_DRILL_CFG, 0, 8⟩
def ST_LEARN_Q_VALUE : Fld := ⟨A.ST_LEARN_Q, 0, 32⟩
def ST_LEARN_CAP_VALUE : Fld := ⟨A.ST_LEARN_CAP, 0, 32⟩
def ST_LEARN_RES_R : Fld := ⟨A.ST_LEARN_RES, 0, 16⟩
def ST_LEARN_RES_AGE : Fld := ⟨A.ST_LEARN_RES, 16, 16⟩
def ST_LEARN_U_U : Fld := ⟨A.ST_LEARN_U, 0, 14⟩
def ST_CMD_CMD : Fld := ⟨A.ST_CMD, 0, 2⟩
def ST_CMD_STRING : Fld := ⟨A.ST_CMD, 4, 3⟩
def ST_CMD_RES_CODE : Fld := ⟨A.ST_CMD_RES, 0, 8⟩
def ST_CMD_RES_CMD : Fld := ⟨A.ST_CMD_RES, 8, 2⟩
def ST_CMD_RES_STRING : Fld := ⟨A.ST_CMD_RES, 10, 3⟩
def ST_EVT_STRING : Fld := ⟨A.ST_EVT, 0, 3⟩
def ST_EVT_EVENT : Fld := ⟨A.ST_EVT, 3, 8⟩

/-! Fields of spec/15_thermal.md. -/
def TSc_CFG_KIND (c : Nat) : Fld := ⟨A.TSc_CFG c, 0, 2⟩
def TSc_CFG_IN (c : Nat) : Fld := ⟨A.TSc_CFG c, 2, 6⟩
def TSc_CFG_BRMASK (c : Nat) : Fld := ⟨A.TSc_CFG c, 8, 8⟩
def TSc_CFG_ETA (c : Nat) : Fld := ⟨A.TSc_CFG c, 16, 16⟩
def TSc_NTC_R0 (c : Nat) : Fld := ⟨A.TSc_NTC c, 0, 12⟩
def TSc_NTC_RP (c : Nat) : Fld := ⟨A.TSc_NTC c, 12, 12⟩
def TSc_B_B (c : Nat) : Fld := ⟨A.TSc_B c, 0, 16⟩
def TSc_LIM0_STOP_LO (c : Nat) : Fld := ⟨A.TSc_LIM0 c, 0, 16⟩
def TSc_LIM0_WARN_LO (c : Nat) : Fld := ⟨A.TSc_LIM0 c, 16, 16⟩
def TSc_LIM1_THR_HI (c : Nat) : Fld := ⟨A.TSc_LIM1 c, 0, 16⟩
def TSc_LIM1_STOP_HI (c : Nat) : Fld := ⟨A.TSc_LIM1 c, 16, 16⟩
def TSc_LIM2_CRIT_HI (c : Nat) : Fld := ⟨A.TSc_LIM2 c, 0, 16⟩
def TSc_T_T (c : Nat) : Fld := ⟨A.TSc_T c, 0, 16⟩
def TSc_T_VALID (c : Nat) : Fld := ⟨A.TSc_T c, 16, 1⟩
def TSc_T_COND (c : Nat) : Fld := ⟨A.TSc_T c, 17, 4⟩
def TSc_SLOPE_S (c : Nat) : Fld := ⟨A.TSc_SLOPE c, 0, 16⟩
def THERM_CFG_HYST : Fld := ⟨A.THERM_CFG, 0, 8⟩
def THERM_CFG_FAIL_LVL : Fld := ⟨A.THERM_CFG, 8, 4⟩
def THERM_CFG_T_DRAIN : Fld := ⟨A.THERM_CFG, 16, 8⟩
def THERM_WIN_WR_TLO : Fld := ⟨A.THERM_WIN, 0, 16⟩
def THERM_WIN_WR_THI : Fld := ⟨A.THERM_WIN, 16, 16⟩
def THERM_STATUS_WR_INH : Fld := ⟨A.THERM_STATUS, 0, 1⟩
def THERM_STATUS_HOLD : Fld := ⟨A.THERM_STATUS, 1, 1⟩
def THERM_STATUS_CH : Fld := ⟨A.THERM_STATUS, 2, 5⟩
def THERM_STATUS_KIND : Fld := ⟨A.THERM_STATUS, 7, 3⟩
def THERM_STATUS_ON_DROP : Fld := ⟨A.THERM_STATUS, 16, 16⟩
def THERM_FLAGS_EV : Fld := ⟨A.THERM_FLAGS, 0, 4⟩
def THERM_LEVEL_LEVELS : Fld := ⟨A.THERM_LEVEL, 0, 32⟩

/-! Fields of spec/16_gutter_thatch.md. -/
def GUT_SRCn_CFG_CLASS (n : Nat) : Fld := ⟨A.GUT_SRCn_CFG n, 0, 2⟩
def GUT_SRCn_CFG_REACT (n : Nat) : Fld := ⟨A.GUT_SRCn_CFG n, 2, 3⟩
def GUT_SRCn_CFG_REC (n : Nat) : Fld := ⟨A.GUT_SRCn_CFG n, 5, 1⟩
def GUT_SRCn_CFG_IRQ (n : Nat) : Fld := ⟨A.GUT_SRCn_CFG n, 6, 1⟩
def GUT_SRCn_CFG_FIXED (n : Nat) : Fld := ⟨A.GUT_SRCn_CFG n, 7, 1⟩
def GUT_ACTIVEi_SRC (i : Nat) : Fld := ⟨A.GUT_ACTIVEi i, 0, 32⟩
def GUT_LATCHi_SRC (i : Nat) : Fld := ⟨A.GUT_LATCHi i, 0, 32⟩
def GUT_FORCEi_SRC (i : Nat) : Fld := ⟨A.GUT_FORCEi i, 0, 32⟩
def GUT_CTRL_INJ_MODE : Fld := ⟨A.GUT_CTRL, 0, 2⟩
def GUT_CTRL_INJ_RUN : Fld := ⟨A.GUT_CTRL, 2, 1⟩
def GUT_CTRL_HQ_CLASS : Fld := ⟨A.GUT_CTRL, 3, 2⟩
def GUT_STATUS_EVENT : Fld := ⟨A.GUT_STATUS, 0, 1⟩
def GUT_STATUS_SELF : Fld := ⟨A.GUT_STATUS, 1, 1⟩
def GUT_STATUS_LAST_EV : Fld := ⟨A.GUT_STATUS, 2, 7⟩
def GUT_HCOUNT_HCOUNT : Fld := ⟨A.GUT_HCOUNT, 0, 32⟩
def GUT_INJ_CHECK_POINT : Fld := ⟨A.GUT_INJ_CHECK, 0, 4⟩
def GUT_INJ_CHECK_INDEX : Fld := ⟨A.GUT_INJ_CHECK, 4, 6⟩
def GUT_INJ_CHECK_GO : Fld := ⟨A.GUT_INJ_CHECK, 10, 1⟩
def GUT_INJ_RES_CODE : Fld := ⟨A.GUT_INJ_RES, 0, 8⟩
def GUT_INJ_RES_POINT : Fld := ⟨A.GUT_INJ_RES, 8, 4⟩
def GUT_INJ_RES_DETECTED : Fld := ⟨A.GUT_INJ_RES, 12, 1⟩
def GUT_FIRST_EVENT : Fld := ⟨A.GUT_FIRST, 0, 7⟩
def GUT_FIRST_VALID : Fld := ⟨A.GUT_FIRST, 7, 1⟩
def GUT_FIRST_CLASS : Fld := ⟨A.GUT_FIRST, 8, 2⟩
def GUT_FIRST_INJ : Fld := ⟨A.GUT_FIRST, 10, 1⟩
def GUT_FIRST_INDEX : Fld := ⟨A.GUT_FIRST, 16, 16⟩
def GUT_FIRST_ERA_ERA : Fld := ⟨A.GUT_FIRST_ERA, 0, 32⟩
def GUT_FIRST_ANGLE_ANGLE : Fld := ⟨A.GUT_FIRST_ANGLE, 0, 32⟩
def GUT_CMD_CMD : Fld := ⟨A.GUT_CMD, 0, 2⟩
def GUT_SNAP_HCOUNT_HCOUNT : Fld := ⟨A.GUT_SNAP_HCOUNT, 0, 32⟩
def GUT_HISTk_EV_EVENT (k : Nat) : Fld := ⟨A.GUT_HISTk_EV k, 0, 7⟩
def GUT_HISTk_EV_VALID (k : Nat) : Fld := ⟨A.GUT_HISTk_EV k, 7, 1⟩
def GUT_HISTk_EV_CLASS (k : Nat) : Fld := ⟨A.GUT_HISTk_EV k, 8, 2⟩
def GUT_HISTk_EV_REACT (k : Nat) : Fld := ⟨A.GUT_HISTk_EV k, 10, 3⟩
def GUT_HISTk_EV_INJ (k : Nat) : Fld := ⟨A.GUT_HISTk_EV k, 13, 1⟩
def GUT_HISTk_EV_INDEX (k : Nat) : Fld := ⟨A.GUT_HISTk_EV k, 16, 16⟩
def GUT_HISTk_DATA_DATA (k : Nat) : Fld := ⟨A.GUT_HISTk_DATA k, 0, 32⟩
def GUT_HISTk_ERA_ERA (k : Nat) : Fld := ⟨A.GUT_HISTk_ERA k, 0, 32⟩
def GUT_HISTk_ANGLE_ANGLE (k : Nat) : Fld := ⟨A.GUT_HISTk_ANGLE k, 0, 32⟩
def TH_CTRL_NVM_EN : Fld := ⟨A.TH_CTRL, 0, 1⟩
def TH_CTRL_FLUSH_TMO : Fld := ⟨A.TH_CTRL, 8, 8⟩
def TH_CTRL_REP_WIN : Fld := ⟨A.TH_CTRL, 16, 16⟩
def TH_NVM_BASE_BASE : Fld := ⟨A.TH_NVM_BASE, 0, 32⟩
def TH_NVM_PART0_LG_SECT : Fld := ⟨A.TH_NVM_PART0, 0, 13⟩
def TH_NVM_PART0_HI_SECT : Fld := ⟨A.TH_NVM_PART0, 16, 13⟩
def TH_NVM_PART1_LO_SECT : Fld := ⟨A.TH_NVM_PART1, 0, 13⟩
def TH_HEAD_SEQ : Fld := ⟨A.TH_HEAD, 0, 32⟩
def TH_FW_SEQ_SEQ : Fld := ⟨A.TH_FW_SEQ, 0, 32⟩
def TH_SNAP_SEQ_SEQ : Fld := ⟨A.TH_SNAP_SEQ, 0, 32⟩
def TH_FW_HDR_CLASS : Fld := ⟨A.TH_FW_HDR, 0, 2⟩
def TH_FW_HDR_KIND : Fld := ⟨A.TH_FW_HDR, 16, 16⟩
def TH_FW_D0_DATA : Fld := ⟨A.TH_FW_D0, 0, 32⟩
def TH_FW_D1_DATA : Fld := ⟨A.TH_FW_D1, 0, 32⟩
def TH_FW_CMT_GO : Fld := ⟨A.TH_FW_CMT, 0, 1⟩
def TH_RD_SEL_INDEX : Fld := ⟨A.TH_RD_SEL, 0, 20⟩
def TH_RD_SEL_SRC : Fld := ⟨A.TH_RD_SEL, 20, 2⟩
def TH_RD_STAT_DONE : Fld := ⟨A.TH_RD_STAT, 0, 1⟩
def TH_RD_STAT_VALID : Fld := ⟨A.TH_RD_STAT, 1, 1⟩
def TH_RD_STAT_AFTER : Fld := ⟨A.TH_RD_STAT, 2, 1⟩
def TH_RD_STAT_HELD : Fld := ⟨A.TH_RD_STAT, 3, 1⟩
def TH_RDk_WORD (k : Nat) : Fld := ⟨A.TH_RDk k, 0, 32⟩
def TH_SNAP_CMD_OPEN : Fld := ⟨A.TH_SNAP_CMD, 0, 1⟩
def TH_SNAP_CMD_CLOSE : Fld := ⟨A.TH_SNAP_CMD, 1, 1⟩
def TH_RELEASE_SEQ : Fld := ⟨A.TH_RELEASE, 0, 32⟩
def TH_GAP_FIRST_SEQ : Fld := ⟨A.TH_GAP_FIRST, 0, 32⟩
def TH_GAP_LAST_SEQ : Fld := ⟨A.TH_GAP_LAST, 0, 32⟩
def TH_GAP_CNT_CNTS : Fld := ⟨A.TH_GAP_CNT, 0, 32⟩
def TH_STATUS_HELD : Fld := ⟨A.TH_STATUS, 0, 12⟩
def TH_STATUS_GAP_PEND : Fld := ⟨A.TH_STATUS, 12, 1⟩
def TH_STATUS_LG_READY : Fld := ⟨A.TH_STATUS, 13, 1⟩
def TH_STATUS_FLUSH_WAIT : Fld := ⟨A.TH_STATUS, 14, 1⟩
def TH_STATUS_SNAP_OPEN : Fld := ⟨A.TH_STATUS, 15, 1⟩
def TH_STATUS_NVM_ERR : Fld := ⟨A.TH_STATUS, 16, 1⟩
def TH_CNT_EVICTED : Fld := ⟨A.TH_CNT, 0, 16⟩
def TH_CNT_SNAP_LOST : Fld := ⟨A.TH_CNT, 16, 16⟩
def TH_NVM_NEXT_HI_INDEX : Fld := ⟨A.TH_NVM_NEXT_HI, 0, 20⟩
def TH_NVM_NEXT_LO_INDEX : Fld := ⟨A.TH_NVM_NEXT_LO, 0, 20⟩
def TH_NVM_NEXT_LG_INDEX : Fld := ⟨A.TH_NVM_NEXT_LG, 0, 20⟩

/-! Fields of spec/17_boot_otp_update.md. -/
def OTP_STATUS_REGION : Fld := ⟨A.OTP_STATUS, 0, 14⟩
def OTP_STATUS_CAL_GEN : Fld := ⟨A.OTP_STATUS, 16, 3⟩
def OTP_STATUS_DEBUG_LOCK : Fld := ⟨A.OTP_STATUS, 19, 1⟩
def OTP_STATUS_KEYSTATE : Fld := ⟨A.OTP_STATUS, 20, 2⟩
def OTP_STATUS_SV_PEND : Fld := ⟨A.OTP_STATUS, 22, 1⟩
def OTP_STATUS_SV : Fld := ⟨A.OTP_STATUS, 24, 7⟩
def OTP_COUNT_MARGINAL : Fld := ⟨A.OTP_COUNT, 0, 10⟩
def OTP_COUNT_CORR : Fld := ⟨A.OTP_COUNT, 10, 10⟩
def OTP_COUNT_UNCORR : Fld := ⟨A.OTP_COUNT, 20, 10⟩
def OTP_ARM_KEY : Fld := ⟨A.OTP_ARM, 0, 16⟩
def OTP_ADDR_ADDR : Fld := ⟨A.OTP_ADDR, 0, 9⟩
def OTP_ADDR_MARGIN : Fld := ⟨A.OTP_ADDR, 12, 2⟩
def OTP_ADDR_REGION : Fld := ⟨A.OTP_ADDR, 16, 3⟩
def OTP_ADDR_FORCE : Fld := ⟨A.OTP_ADDR, 19, 1⟩
def OTP_WDATA_DATA : Fld := ⟨A.OTP_WDATA, 0, 32⟩
def OTP_RDATA_DATA : Fld := ⟨A.OTP_RDATA, 0, 32⟩
def OTP_CMD_CMD : Fld := ⟨A.OTP_CMD, 0, 3⟩
def OTP_RES_CODE : Fld := ⟨A.OTP_RES, 0, 8⟩
def OTP_RES_CMD : Fld := ⟨A.OTP_RES, 8, 3⟩
def OTP_RES_DONE : Fld := ⟨A.OTP_RES, 11, 1⟩
def OTP_RES_FAIL : Fld := ⟨A.OTP_RES, 12, 1⟩
def OTP_RES_MARGINAL : Fld := ⟨A.OTP_RES, 13, 1⟩
def OTP_RES_CORR : Fld := ⟨A.OTP_RES, 14, 1⟩
def OTP_RES_UNCORR : Fld := ⟨A.OTP_RES, 15, 1⟩
def OTP_RES_TRIES : Fld := ⟨A.OTP_RES, 16, 3⟩
def OTP_RES_ECC : Fld := ⟨A.OTP_RES, 19, 7⟩
def OTP_FLAGS_CORRECTED : Fld := ⟨A.OTP_FLAGS, 0, 1⟩
def OTP_FLAGS_CAL_MISSING : Fld := ⟨A.OTP_FLAGS, 1, 1⟩
def OTP_FLAGS_MARGINAL : Fld := ⟨A.OTP_FLAGS, 2, 1⟩
def OTP_FLAGS_SEALED : Fld := ⟨A.OTP_FLAGS, 3, 1⟩
def IMAGE_STATUS_RUN_SLOT : Fld := ⟨A.IMAGE_STATUS, 0, 1⟩
def IMAGE_STATUS_TRIAL : Fld := ⟨A.IMAGE_STATUS, 1, 1⟩
def IMAGE_STATUS_RECOVERY : Fld := ⟨A.IMAGE_STATUS, 2, 1⟩
def IMAGE_STATUS_FALLBACK : Fld := ⟨A.IMAGE_STATUS, 3, 1⟩
def IMAGE_STATUS_CONF_SLOT : Fld := ⟨A.IMAGE_STATUS, 4, 1⟩
def IMAGE_STATUS_CONF_VALID : Fld := ⟨A.IMAGE_STATUS, 5, 1⟩
def IMAGE_STATUS_FB_PEND : Fld := ⟨A.IMAGE_STATUS, 6, 1⟩
def IMAGE_STATUS_BUSY : Fld := ⟨A.IMAGE_STATUS, 7, 1⟩
def IMAGE_STATUS_RST_CAUSE : Fld := ⟨A.IMAGE_STATUS, 8, 3⟩
def IMAGE_STATUS_IMG_SV : Fld := ⟨A.IMAGE_STATUS, 16, 7⟩
def IMAGE_SLOT0_STATE : Fld := ⟨A.IMAGE_SLOT0, 0, 3⟩
def IMAGE_SLOT0_RECOVERY : Fld := ⟨A.IMAGE_SLOT0, 3, 1⟩
def IMAGE_SLOT0_SV : Fld := ⟨A.IMAGE_SLOT0, 4, 7⟩
def IMAGE_SLOT0_REASON : Fld := ⟨A.IMAGE_SLOT0, 11, 4⟩
def IMAGE_SLOT1_STATE : Fld := ⟨A.IMAGE_SLOT1, 0, 3⟩
def IMAGE_SLOT1_RECOVERY : Fld := ⟨A.IMAGE_SLOT1, 3, 1⟩
def IMAGE_SLOT1_SV : Fld := ⟨A.IMAGE_SLOT1, 4, 7⟩
def IMAGE_SLOT1_REASON : Fld := ⟨A.IMAGE_SLOT1, 11, 4⟩
def IMAGE_VER0_VERSION : Fld := ⟨A.IMAGE_VER0, 0, 32⟩
def IMAGE_VER1_VERSION : Fld := ⟨A.IMAGE_VER1, 0, 32⟩
def IMAGE_HEALTH_WINDOW : Fld := ⟨A.IMAGE_HEALTH, 0, 16⟩
def IMAGE_HEALTH_LEFT : Fld := ⟨A.IMAGE_HEALTH, 16, 16⟩
def IMAGE_CMD_CMD : Fld := ⟨A.IMAGE_CMD, 0, 3⟩
def IMAGE_CMD_RES_CODE : Fld := ⟨A.IMAGE_CMD_RES, 0, 8⟩
def IMAGE_CMD_RES_CMD : Fld := ⟨A.IMAGE_CMD_RES, 8, 3⟩
def IMAGE_CMD_RES_DONE : Fld := ⟨A.IMAGE_CMD_RES, 11, 1⟩
def IMAGE_DATA_DATA : Fld := ⟨A.IMAGE_DATA, 0, 32⟩
def IMAGE_WCOUNT_BYTES : Fld := ⟨A.IMAGE_WCOUNT, 0, 21⟩
def IMAGE_WCOUNT_FREE : Fld := ⟨A.IMAGE_WCOUNT, 24, 7⟩
def IMAGE_WCOUNT_OVF : Fld := ⟨A.IMAGE_WCOUNT, 31, 1⟩
def IMAGE_STATE_SEQ_SEQ : Fld := ⟨A.IMAGE_STATE_SEQ, 0, 32⟩
def PROF_PAGE_PAGE : Fld := ⟨A.PROF_PAGE, 0, 2⟩
def PROF_LEN_LEN : Fld := ⟨A.PROF_LEN, 0, 15⟩
def PROF_CMD_CMD : Fld := ⟨A.PROF_CMD, 0, 2⟩
def PROF_RES_CODE : Fld := ⟨A.PROF_RES, 0, 8⟩
def PROF_RES_BUSY : Fld := ⟨A.PROF_RES, 8, 1⟩
def PROF_RES_PEND_HOST : Fld := ⟨A.PROF_RES, 9, 1⟩
def PROF_RES_PEND_NET : Fld := ⟨A.PROF_RES, 10, 1⟩
def PROF_RES_SECTION : Fld := ⟨A.PROF_RES, 16, 16⟩
def PROF_COUNT_APPLIED : Fld := ⟨A.PROF_COUNT, 0, 16⟩
def PROF_COUNT_LIVE : Fld := ⟨A.PROF_COUNT, 16, 1⟩
def PROF_WINw_DATA (w : Nat) : Fld := ⟨A.PROF_WINw w, 0, 32⟩

/-! Fields of spec/18_twowire_host.md. -/
def MBb_CFG_EN (b : Nat) : Fld := ⟨A.MBb_CFG b, 0, 1⟩
def MBb_CFG_SPEED (b : Nat) : Fld := ⟨A.MBb_CFG b, 1, 2⟩
def MBb_CFG_PROF (b : Nat) : Fld := ⟨A.MBb_CFG b, 3, 1⟩
def MBb_CFG_LOWTO_DIS (b : Nat) : Fld := ⟨A.MBb_CFG b, 4, 1⟩
def MBb_CFG_RETRY_MAX (b : Nat) : Fld := ⟨A.MBb_CFG b, 5, 3⟩
def MBb_CFG_ARB_MAX (b : Nat) : Fld := ⟨A.MBb_CFG b, 8, 4⟩
def MBb_CFG_OWN (b : Nat) : Fld := ⟨A.MBb_CFG b, 12, 7⟩
def MBb_LEN_WLEN (b : Nat) : Fld := ⟨A.MBb_LEN b, 0, 6⟩
def MBb_LEN_RLEN (b : Nat) : Fld := ⟨A.MBb_LEN b, 8, 6⟩
def MBb_LEN_CODE (b : Nat) : Fld := ⟨A.MBb_LEN b, 16, 8⟩
def MBb_CMD_PROTO (b : Nat) : Fld := ⟨A.MBb_CMD b, 0, 4⟩
def MBb_CMD_TADDR (b : Nat) : Fld := ⟨A.MBb_CMD b, 4, 7⟩
def MBb_CMD_PEC (b : Nat) : Fld := ⟨A.MBb_CMD b, 11, 1⟩
def MBb_RES_CODE (b : Nat) : Fld := ⟨A.MBb_RES b, 0, 8⟩
def MBb_RES_STAT (b : Nat) : Fld := ⟨A.MBb_RES b, 8, 4⟩
def MBb_RES_DONE (b : Nat) : Fld := ⟨A.MBb_RES b, 12, 1⟩
def MBb_RES_RCOUNT (b : Nat) : Fld := ⟨A.MBb_RES b, 13, 6⟩
def MBb_RES_TRIES (b : Nat) : Fld := ⟨A.MBb_RES b, 19, 4⟩
def MBb_FLAGS_ARB_LOST (b : Nat) : Fld := ⟨A.MBb_FLAGS b, 0, 1⟩
def MBb_FLAGS_PROTO_SR (b : Nat) : Fld := ⟨A.MBb_FLAGS b, 1, 1⟩
def MBb_FLAGS_LOW_TO (b : Nat) : Fld := ⟨A.MBb_FLAGS b, 2, 1⟩
def MBb_FLAGS_BUS_STUCK (b : Nat) : Fld := ⟨A.MBb_FLAGS b, 3, 1⟩
def MBb_FLAGS_PEC_ERR (b : Nat) : Fld := ⟨A.MBb_FLAGS b, 4, 1⟩
def MBb_FLAGS_TGT_RX (b : Nat) : Fld := ⟨A.MBb_FLAGS b, 5, 1⟩
def MBb_FLAGS_TGT_OVF (b : Nat) : Fld := ⟨A.MBb_FLAGS b, 6, 1⟩
def MBb_TSTAT_RX_LEN (b : Nat) : Fld := ⟨A.MBb_TSTAT b, 0, 6⟩
def MBb_TSTAT_TX_READ (b : Nat) : Fld := ⟨A.MBb_TSTAT b, 8, 6⟩
def MBb_TXk_DATA (b k : Nat) : Fld := ⟨A.MBb_TXk b k, 0, 32⟩
def MBb_RXk_DATA (b k : Nat) : Fld := ⟨A.MBb_RXk b k, 0, 32⟩
def MBb_TRXk_DATA (b k : Nat) : Fld := ⟨A.MBb_TRXk b k, 0, 32⟩
def MBb_TTXk_DATA (b k : Nat) : Fld := ⟨A.MBb_TTXk b k, 0, 32⟩
def HOST_CFG_ADDR : Fld := ⟨A.HOST_CFG, 0, 7⟩
def HOST_CFG_SLEEP_ADDR : Fld := ⟨A.HOST_CFG, 8, 7⟩
def HOST_CFG_PEC_EN : Fld := ⟨A.HOST_CFG, 15, 1⟩
def HOST_CFG_HN_EN : Fld := ⟨A.HOST_CFG, 16, 1⟩
def HOST_CFG_HN_CLASS : Fld := ⟨A.HOST_CFG, 17, 2⟩
def HOST_CFG_PROF : Fld := ⟨A.HOST_CFG, 19, 1⟩
def HOST_CFG_LOWTO_DIS : Fld := ⟨A.HOST_CFG, 20, 1⟩
def HOST_STATUS_EVENT : Fld := ⟨A.HOST_STATUS, 0, 1⟩
def HOST_STATUS_LAST_REFUSED : Fld := ⟨A.HOST_STATUS, 1, 1⟩
def HOST_STATUS_PROTO : Fld := ⟨A.HOST_STATUS, 2, 1⟩
def HOST_STATUS_HN_PEND : Fld := ⟨A.HOST_STATUS, 3, 1⟩
def HOST_STATUS_SPI : Fld := ⟨A.HOST_STATUS, 8, 1⟩
def HOST_STATUS_ADDR_NOW : Fld := ⟨A.HOST_STATUS, 9, 7⟩
def HOST_WRES_CODE : Fld := ⟨A.HOST_WRES, 0, 8⟩
def HOST_WRES_ADDR : Fld := ⟨A.HOST_WRES, 8, 16⟩
def HOST_FLAGS_PEC_ERR : Fld := ⟨A.HOST_FLAGS, 0, 1⟩
def HOST_FLAGS_LEN_ERR : Fld := ⟨A.HOST_FLAGS, 1, 1⟩
def HOST_FLAGS_PROTO_SR : Fld := ⟨A.HOST_FLAGS, 2, 1⟩
def HOST_FLAGS_LOW_TO : Fld := ⟨A.HOST_FLAGS, 3, 1⟩
def HOST_FLAGS_ARB_LOST : Fld := ⟨A.HOST_FLAGS, 4, 1⟩
def HOST_FLAGS_HN_FAIL : Fld := ⟨A.HOST_FLAGS, 5, 1⟩
def HOST_FLAGS_NAK_FULL : Fld := ⟨A.HOST_FLAGS, 6, 1⟩
def HOST_CNT_XFER : Fld := ⟨A.HOST_CNT, 0, 16⟩
def HOST_CNT_ERR : Fld := ⟨A.HOST_CNT, 16, 16⟩

/-! Fields of spec/19_register_index.md. -/
def SYS_IDn_ID (n : Nat) : Fld := ⟨A.SYS_IDn n, 0, 32⟩
def SYS_MODE_MODE : Fld := ⟨A.SYS_MODE, 0, 3⟩
def SYS_MODE_QUIET : Fld := ⟨A.SYS_MODE, 3, 1⟩
def SYS_MODE_ROLE : Fld := ⟨A.SYS_MODE, 4, 3⟩
def SYS_MODE_BYPASS : Fld := ⟨A.SYS_MODE, 7, 1⟩
def SYS_MODE_MGR : Fld := ⟨A.SYS_MODE, 8, 1⟩
def SYS_MODE_NODE_ID : Fld := ⟨A.SYS_MODE, 9, 5⟩
def SYS_STATUS_BOOT_PROF : Fld := ⟨A.SYS_STATUS, 0, 1⟩
def SYS_STATUS_ROLE_ERR : Fld := ⟨A.SYS_STATUS, 1, 1⟩
def SYS_STATUS_ATTN : Fld := ⟨A.SYS_STATUS, 16, 16⟩
def SYS_CFG_LIVE_REQ : Fld := ⟨A.SYS_CFG, 0, 1⟩
def SYS_SCRATCH_DATA : Fld := ⟨A.SYS_SCRATCH, 0, 32⟩

end R

end Sys2Proof.Machine
end

