-- ==== Sys2Proof/Machine/Ops.lean ====
section
/-!
DEFINITION. Sys2Proof/Machine/Ops.lean: the named operations over the state that every chapter uses: sparse contents,
registers and fields, the mode and the role, raising an event, timestamps, and small arithmetic.
-/

namespace Sys2Proof.Machine

/-! ## Sparse contents -/

/-- What a sparse space holds at key `k`. -/
def sread {α : Type} (dflt : α) : Sparse α → Nat → α
  | [], _ => dflt
  | (j, v) :: t, k => if j = k then v else sread dflt t k

/-- `v` at key `k`, placed by key. -/
def sinsert {α : Type} (k : Nat) (v : α) : Sparse α → Sparse α
  | [] => [(k, v)]
  | (j, w) :: t => if k < j then (k, v) :: (j, w) :: t else (j, w) :: sinsert k v t

/-- The space with nothing listed at `k`. -/
def serase {α : Type} (k : Nat) (m : Sparse α) : Sparse α :=
  m.filter fun e => e.1 != k

/-- Write `v` at key `k`; a value equal to the default of the space is not listed, so that equal spaces are equal
data. -/
def swrite {α : Type} [DecidableEq α] (dflt : α) (m : Sparse α) (k : Nat) (v : α) : Sparse α :=
  if v = dflt then serase k m else sinsert k v (serase k m)

/-- The canonical form: keys strictly rising, and no entry equal to the default of the space. -/
def swf {α : Type} [DecidableEq α] (dflt : α) : Sparse α → Bool
  | [] => true
  | [(_, v)] => decide (v ≠ dflt)
  | (j, v) :: (k, w) :: t => decide (v ≠ dflt) && decide (j < k) && swf dflt ((k, w) :: t)

/-! ## Small arithmetic -/

/-- The signed value of the low `w` bits of `n`. -/
def toSigned (w n : Nat) : Int :=
  let m := n % 2 ^ w
  if m < 2 ^ (w - 1) then (m : Int) else (m : Int) - (2 ^ w : Nat)

/-- The low `w` bits of an integer, as a natural number. -/
def ofSigned (w : Nat) (i : Int) : Nat := (i % (2 ^ w : Nat)).toNat

/-- Bring `x` into the range `lo` to `hi`. -/
def clampI (lo hi x : Int) : Int := if x < lo then lo else if hi < x then hi else x

/-- num / den rounded to the nearest integer, a half away from zero. -/
def roundHalf (num den : Int) : Int :=
  if 0 ≤ num then (2 * num + den) / (2 * den) else -((2 * (-num) + den) / (2 * den))

/-- The whole part of the root of `x` of the power `e`, found bit by bit below `2 ^ n`, from the bits in `r` on. -/
def rootBits (e x : Nat) : Nat → Nat → Nat
  | 0, r => r
  | n + 1, r => rootBits e x n (if (r + 2 ^ n) ^ e ≤ x then r + 2 ^ n else r)

/-- Element `i` of a list changed by `f`. -/
def updAt {α : Type} (l : List α) (i : Nat) (f : α → α) : List α := l.modify i f

/-- Bit `i` of a mask. -/
def tbit (m i : Nat) : Bool := m.testBit i

/-- The mask with bit `i` set or cleared. -/
def sbit (m i : Nat) (b : Bool) : Nat := if m.testBit i = b then m else m ^^^ 2 ^ i

/-- The numbers below `n` that satisfy `p`, ascending. -/
def idxs (n : Nat) (p : Nat → Bool) : List Nat := (List.range n).filter p

/-- `x` in a sorted list, before the first element that may follow it. -/
def insertBy {α : Type} (le : α → α → Bool) (x : α) : List α → List α
  | [] => [x]
  | y :: t => if le x y then x :: y :: t else y :: insertBy le x t

/-- A list in the order of `le`; equal elements keep their order. -/
def sortBy {α : Type} (le : α → α → Bool) (l : List α) : List α := l.foldr (insertBy le) []

/-! ## Names and their codes -/

def Mode.code : Mode → Nat
  | .dark => 0 | .boot => 1 | .standby => 2 | .ramp => 3 | .run => 4 | .ride => 5 | .drain => 6 | .safe => 7

def Mode.ofCode : Nat → Mode
  | 1 => .boot | 2 => .standby | 3 => .ramp | 4 => .run | 5 => .ride | 6 => .drain | 7 => .safe | _ => .dark

def Role.ofCode : Nat → Option Role
  | 0 => some .rect | 1 => some .stor | 2 => some .dist | 3 => some .tray | 4 => some .hub | _ => none

def SafeCause.code : SafeCause → Nat
  | .none => 0 | .gutter => 1 | .clock => 2 | .lastGasp => 3 | .trim => 4 | .engines => 5

def React.code : React → Nat
  | .none => 0 | .notify => 1 | .stageStop => 2 | .shelfDrain => 3 | .safe => 4

def Code.val : Code → Nat
  | .accepted => 0 | .late => 1 | .mode => 2 | .budget => 3 | .busyRun => 4 | .badProfile => 5 | .temp => 6
  | .lock => 7 | .wait => 8 | .internal => 15

/-! ## Registers and fields -/

/-- The word of the register at address `a`. -/
def Dev.word (d : Dev) (a : Nat) : Word := sread 0 d.regs a

/-- Put a whole word into the register at address `a`. -/
def Dev.setWord (d : Dev) (a : Nat) (v : Word) : Dev := { d with regs := swrite 0 d.regs a v }

/-- The value of a field of a word. -/
def fieldOf (x : Word) (lo w : Nat) : Nat := x.toNat / 2 ^ lo % 2 ^ w

/-- The word with a field replaced by the low `w` bits of `v`. -/
def withField (x : Word) (lo w v : Nat) : Word :=
  BitVec.ofNat 32 (x.toNat % 2 ^ lo + 2 ^ lo * (v % 2 ^ w) + 2 ^ (lo + w) * (x.toNat / 2 ^ (lo + w)))

/-- The value of a field. -/
def Dev.get (d : Dev) (f : Fld) : Nat := fieldOf (d.word f.addr) f.lo f.w

/-- The field given the low bits of `v`; the register's other fields stand. -/
def Dev.put (d : Dev) (f : Fld) (v : Nat) : Dev := d.setWord f.addr (withField (d.word f.addr) f.lo f.w v)

/-- The field reads nonzero. -/
def Dev.on (d : Dev) (f : Fld) : Bool := d.get f != 0

/-- Put a one-bit field. -/
def Dev.putB (d : Dev) (f : Fld) (b : Bool) : Dev := d.put f (if b then 1 else 0)

/-- The field as a signed number. -/
def Dev.getS (d : Dev) (f : Fld) : Int := toSigned f.w (d.get f)

/-- Put a signed number. -/
def Dev.putS (d : Dev) (f : Fld) (v : Int) : Dev := d.put f (ofSigned f.w v)

/-- Bit `i` of a field, as a field. -/
def Fld.bit (f : Fld) (i : Nat) : Fld := ⟨f.addr, f.lo + i, 1⟩

/-- The `w`-bit part of a field at bit `i`, as a field. -/
def Fld.part (f : Fld) (i w : Nat) : Fld := ⟨f.addr, f.lo + i, w⟩

/-- What stays in the register at `a` when the host clears it in this cycle, for hardware has put it there in the cycle
(R26). -/
def Dev.setsNow (d : Dev) (a : Nat) : Word := sread 0 d.cyc.sets a

/-- Note that hardware puts `v` into a field in this cycle, and that a clear by the host leaves it there (R26). -/
def Dev.noteAs (d : Dev) (f : Fld) (v : Nat) : Dev :=
  { d with cyc := { d.cyc with sets := swrite 0 d.cyc.sets f.addr (withField (d.setsNow f.addr) f.lo f.w v) } }

/-- Note that hardware sets the bit of a flag in this cycle (R26). -/
def Dev.noteSet (d : Dev) (f : Fld) : Dev := d.noteAs f 1

/-- Set a one-bit flag. A clear by the host in the same cycle does not undo it (R26). -/
def Dev.set1 (d : Dev) (f : Fld) : Dev := (d.noteSet f).put f 1

/-- The word of the register at `a` before the host wrote it in this cycle. -/
def Dev.wordWas (d : Dev) (a : Nat) : Word := (d.cyc.was.lookup a).getD (d.word a)

/-- A field as it was before the host wrote its register in this cycle. -/
def Dev.getWas (d : Dev) (f : Fld) : Nat := fieldOf (d.wordWas f.addr) f.lo f.w

/-- Note the word of the register at `a` before the host writes it. -/
def Dev.noteWas (d : Dev) (a : Nat) : Dev :=
  if (d.cyc.was.lookup a).isSome then d else { d with cyc := { d.cyc with was := (a, d.word a) :: d.cyc.was } }

/-- Note that a Rinnak message writes the register at `a` in this cycle. -/
def Dev.noteNet (d : Dev) (a : Nat) : Dev := { d with cyc := { d.cyc with net := a :: d.cyc.net } }

/-- Clear a field. -/
def Dev.clr (d : Dev) (f : Fld) : Dev := d.put f 0

/-- Count up, saturating at the field's maximum. A read that clears the count in the same cycle leaves what the cycle has
counted (R26; DESIGN CHOICE, log entry 325). -/
def Dev.bump (d : Dev) (f : Fld) (by_ : Nat := 1) : Dev :=
  (d.noteAs f (min (fieldOf (d.setsNow f.addr) f.lo f.w + by_) (2 ^ f.w - 1))).put f (min (d.get f + by_) (2 ^ f.w - 1))

/-- Put the largest value so far into a field that its read clears; a read of the same cycle leaves the cycle's own value
(R26). -/
def Dev.putMax (d : Dev) (f : Fld) (v : Nat) : Dev :=
  (d.noteAs f (max (fieldOf (d.setsNow f.addr) f.lo f.w) (min v (2 ^ f.w - 1)))).put f (max (d.get f) v)

/-- Apply `f` to each element of a list in turn. -/
def Dev.each {α : Type} (d : Dev) (l : List α) (f : Dev → α → Dev) : Dev := l.foldl f d

/-- Apply `f` where the condition holds. -/
def Dev.when (d : Dev) (c : Bool) (f : Dev → Dev) : Dev := if c then f d else d

/-! ## Mode, role and node kind -/

def Dev.mode (d : Dev) : Mode := Mode.ofCode (d.get R.SYS_MODE_MODE)

def Dev.setMode (d : Dev) (m : Mode) : Dev := d.put R.SYS_MODE_MODE m.code

def Dev.quiet (d : Dev) : Bool := d.on R.SYS_MODE_QUIET

/-- The strapped role; none for a reserved code (R88, R89). -/
def Dev.role (d : Dev) : Option Role := Role.ofCode (d.get R.SYS_MODE_ROLE)

def Dev.isRole (d : Dev) (r : Role) : Bool := d.role == some r

/-- BYPASS = 1: external-supply mode (R90). -/
def Dev.bypass (d : Dev) : Bool := d.on R.SYS_MODE_BYPASS

/-- RAMP, RUN, RIDE or DRAIN: the modes in which the RWL write set is shut (R25). -/
def Mode.regulating : Mode → Bool
  | .ramp | .run | .ride | .drain => true
  | _ => false

/-- STANDBY to SAFE: the modes after BOOT. -/
def Mode.afterBoot : Mode → Bool
  | .dark | .boot => false
  | _ => true

/-! ## Time -/

/-- The rack angle word (R11, R117). -/
def Dev.angle (d : Dev) : Word := d.ridge.acc.extractLsb' 32 32

/-- The reed of the rack angle. -/
def Dev.reed (d : Dev) : Nat := d.angle.toNat % 65536

/-- The turn of the rack angle. -/
def Dev.turn (d : Dev) : Nat := d.angle.toNat / 65536

/-- The 64-bit timestamp of R17, in reeds. -/
def Dev.now (d : Dev) : Nat := d.ridge.era.toNat * 2 ^ 32 + d.angle.toNat

/-- The difference of two timestamps in reeds, modulo 2^48 (R160). -/
def reedsDiff (a b : Nat) : Nat := (a % 2 ^ 48 + 2 ^ 48 - b % 2 ^ 48) % 2 ^ 48

/-- Reeds from `t` to now. -/
def Dev.since (d : Dev) (t : Nat) : Nat := reedsDiff d.now t

/-- Reeds of a delay given in turns and reeds (R13). -/
def reeds (turn reed : Nat) : Nat := turn * 65536 + reed

/-! ## Raising an event -/

/-- No instance (R596). -/
def noIdx : Nat := 0xFFFF

/-- A block reports source `ev` to Gutter (R49, R580). Gutter takes it in within the same step. -/
def Dev.report (d : Dev) (ev : Nat) (idx : Nat := noIdx) (kind : Nat := 0) (inj : Bool := false) : Dev :=
  { d with raised := d.raised ++ [{ ev := ev, idx := idx, kind := kind, inj := inj, forced := false }] }

/-- Put a status code (R31). -/
def Dev.putCode (d : Dev) (f : Fld) (c : Code) : Dev := d.put f c.val

end Sys2Proof.Machine
end

