-- ==== Sys2Proof/Machine/Bytes.lean ====
section
/-!
DEFINITION. Sys2Proof/Machine/Bytes.lean: byte strings, and the codes that the spec computes over them: the CRC-32 of
IEEE 802.3 (R420, R436, R480, R597, R653), the CRC-8 of R667, SHA-256 and HMAC-SHA-256 (R432, R643), and the signature
check of R643. The spec names these codes by their standards; how they compute is theirs.
-/

namespace Sys2Proof.Machine

/-! ## Byte strings -/

/-- `n` bytes of `v`, most significant first. -/
def beBytes (n v : Nat) : List Byte := (List.range n).map fun i => BitVec.ofNat 8 (v / 256 ^ (n - 1 - i))

/-- `n` bytes of `v`, least significant first. -/
def leBytes (n v : Nat) : List Byte := (List.range n).map fun i => BitVec.ofNat 8 (v / 256 ^ i)

/-- The number of bytes read most significant first. -/
def beNat (l : List Byte) : Nat := l.foldl (fun a b => a * 256 + b.toNat) 0

/-- The number of bytes read least significant first. -/
def leNat (l : List Byte) : Nat := l.foldr (fun b a => a * 256 + b.toNat) 0

/-- `n` bytes at offset `o`. -/
def slice (l : List Byte) (o n : Nat) : List Byte := (l.drop o).take n

/-- The field of `n` bytes at offset `o`, most significant first. -/
def beAt (l : List Byte) (o n : Nat) : Nat := beNat (slice l o n)

/-- The field of `n` bytes at offset `o`, least significant first. -/
def leAt (l : List Byte) (o n : Nat) : Nat := leNat (slice l o n)

/-- Byte `o`, 0 beyond the end. -/
def byteAt (l : List Byte) (o : Nat) : Nat := (l.getD o 0).toNat

/-- Zero bytes up to a length. -/
def padTo (n : Nat) (l : List Byte) : List Byte := l ++ List.replicate (n - l.length) 0

/-- The words of a byte string, least significant byte first; a short last word is filled with zero. -/
def leWords : Nat → List Byte → List Word
  | 0, _ => []
  | n + 1, l => if l.isEmpty then [] else BitVec.ofNat 32 (leNat (l.take 4)) :: leWords n (l.drop 4)

/-! ## CRC -/

/-- One bit of the reflected CRC-32 of IEEE 802.3. -/
def crc32Bit (c : Nat) : Nat := if c % 2 = 1 then c / 2 ^^^ 0xEDB88320 else c / 2

/-- `n` bits. -/
def crc32Bits : Nat → Nat → Nat
  | 0, c => c
  | n + 1, c => crc32Bits n (crc32Bit c)

/-- The running register after a byte. -/
def crc32Byte (c : Nat) (b : Byte) : Nat := crc32Bits 8 (c ^^^ b.toNat)

/-- CRC-32 of IEEE 802.3: initial value 0xFFFF_FFFF, final inversion (R480). -/
def crc32 (l : List Byte) : Nat := l.foldl crc32Byte 0xFFFFFFFF ^^^ 0xFFFFFFFF

/-- One bit of the CRC-8 of SMBus, x^8 + x^2 + x + 1. -/
def crc8Bits : Nat → Nat → Nat
  | 0, c => c
  | n + 1, c => crc8Bits n (if 128 ≤ c then (c * 2 % 256) ^^^ 7 else c * 2 % 256)

/-- CRC-8 of SMBus, initial value 0. -/
def crc8 (l : List Byte) : Nat := l.foldl (fun c b => crc8Bits 8 (c ^^^ b.toNat)) 0

/-! ## SHA-256 and HMAC (FIPS 180, RFC 2104) -/

/-- The first 32 bits of the fraction of the root of `p` of the power `e`. -/
def rootWord (e p : Nat) : Word := BitVec.ofNat 32 (rootBits e (p * 2 ^ (32 * e)) 38 0)

/-- The first 64 primes. -/
def hashPrimes : List Nat := (List.range 312).filter fun p => decide (1 < p) && (List.range p).all fun q => q < 2 || p % q != 0

/-- The chaining value before the first block: fractions of square roots. -/
def hashStart : List Word := (hashPrimes.take 8).map (rootWord 2)

/-- The constants of the 64 rounds: fractions of cube roots. -/
def hashConsts : List Word := hashPrimes.map (rootWord 3)

/-- The XOR of `x` turned right by each number of a list. -/
def turns (x : Word) (by_ : List Nat) : Word := by_.foldl (fun a k => a ^^^ x.rotateRight k) 0

/-- A word of the schedule from the sixteen before it, newest first. -/
def hashNext (l : List Word) : Word :=
  let old := l.getD 14 0
  let new := l.getD 1 0
  l.getD 15 0 + l.getD 6 0 + (turns old [7, 18] ^^^ (old >>> 3)) + (turns new [17, 19] ^^^ (new >>> 10))

/-- One round on the eight working words `v`, with the constant and schedule word already summed in `kw`. -/
def hashRound (v : List Word) (kw : Word) : List Word :=
  let w (i : Nat) : Word := v.getD i 0
  let pick := w 6 ^^^ (w 4 &&& (w 5 ^^^ w 6))
  let most := (w 0 &&& (w 1 ||| w 2)) ||| (w 1 &&& w 2)
  let up := kw + w 7 + pick + turns (w 4) [6, 11, 25]
  [up + most + turns (w 0) [2, 13, 22], w 0, w 1, w 2, w 3 + up, w 4, w 5, w 6]

/-- The rounds of one block: `w` holds the last sixteen words of the schedule, newest first; the oldest is due. -/
def hashRounds : List Word → List Word → List Word → List Word
  | [], _, v => v
  | k :: ks, w, v => hashRounds ks ((hashNext w :: w).take 16) (hashRound v (k + w.getD 15 0))

/-- One block of 64 bytes into the chaining value. -/
def hashBlock (c : List Word) (block : List Byte) : List Word :=
  let w := (List.range 16).map fun i => BitVec.ofNat 32 (beAt block (4 * (15 - i)) 4)
  (c.zip (hashRounds hashConsts w c)).map fun p => p.1 + p.2

/-- The blocks of a padded message. -/
def hashBlocks : Nat → List Word → List Byte → List Word
  | 0, c, _ => c
  | n + 1, c, l => hashBlocks n (hashBlock c (l.take 64)) (l.drop 64)

/-- SHA-256 of a byte string, as 32 bytes. -/
def sha256 (l : List Byte) : List Byte :=
  let n := l.length
  let zeros := (119 - n % 64) % 64
  let m := l ++ [0x80] ++ List.replicate zeros 0 ++ beBytes 8 (8 * n)
  (hashBlocks (m.length / 64) hashStart m).flatMap fun w => beBytes 4 w.toNat

/-- HMAC-SHA-256 with a key of at most 64 bytes. -/
def hmac256 (key l : List Byte) : List Byte :=
  let k := padTo 64 key
  sha256 (k.map (· ^^^ 0x5c) ++ sha256 (k.map (· ^^^ 0x36) ++ l))

/-! ## ECDSA on the curve P-256 (FIPS 186) -/

def p256P : Nat := 0xffffffff00000001000000000000000000000000ffffffffffffffffffffffff
def p256N : Nat := 0xffffffff00000000ffffffffffffffffbce6faada7179e84f3b9cac2fc632551
def p256B : Nat := 0x5ac635d8aa3a93e7b3ebbd55769886bc651d06b0cc53b0f63bce3c3e27d2604b
def p256Gx : Nat := 0x6b17d1f2e12c4247f8bce6e563a440f277037d812deb33a0f4a13945d898c296
def p256Gy : Nat := 0x4fe342e2fe1a7f9b8ee7eb4a7c0f9e162bce33576b315ececbb6406837bf51f5

/-- x ^ k modulo m by squaring, over the low `n` bits of k. -/
def powMod : Nat → Nat → Nat → Nat → Nat
  | 0, _, _, m => 1 % m
  | n + 1, x, k, m => (if k % 2 = 1 then x else 1) * powMod n (x * x % m) (k / 2) m % m

/-- The inverse modulo a prime. -/
def invMod (x m : Nat) : Nat := powMod 256 (x % m) (m - 2) m

/-- A point of the curve; none is the point at infinity. -/
abbrev Point := Option (Nat × Nat)

/-- The sum of two points of P-256 (a = -3). -/
def ptAdd (u v : Point) : Point :=
  match u, v with
  | none, q => q
  | q, none => q
  | some (x1, y1), some (x2, y2) =>
    let p := p256P
    if x1 = x2 ∧ (y1 + y2) % p = 0 then none
    else
      let l := if x1 = x2 then (3 * x1 * x1 + (p - 3)) * invMod (2 * y1) p % p
        else (y2 + p - y1) * invMod (x2 + p - x1) p % p
      let x3 := (l * l + 2 * p - x1 - x2) % p
      some (x3, (l * (x1 + p - x3) + p - y1) % p)

/-- The multiple k × point over the low `n` bits of k. -/
def ptMul : Nat → Nat → Point → Point
  | 0, _, _ => none
  | n + 1, k, q => let r := ptMul n (k / 2) (ptAdd q q); if k % 2 = 1 then ptAdd q r else r

/-- The signature (r, s) of the hash `e` holds under the public key (x, y). -/
def ecdsaOk (x y e r s : Nat) : Bool :=
  let n := p256N
  let onCurve := decide (x < p256P) && decide (y < p256P)
    && decide ((y * y) % p256P = (x * x * x + (p256P - 3) * x + p256B) % p256P)
  let inRange := decide (0 < r) && decide (r < n) && decide (0 < s) && decide (s < n)
  onCurve && inRange &&
    (let w := invMod s n
     match ptAdd (ptMul 256 (e * w % n) (some (p256Gx, p256Gy))) (ptMul 256 (r * w % n) (some (x, y))) with
     | none => false
     | some (px, _) => px % n == r)

end Sys2Proof.Machine
end

