-- ==== Sys2Proof/Machine/Nvm.lean ====
section
/-!
DEFINITION. Sys2Proof/Machine/Nvm.lean: the external Quad-SPI NOR and the log of state records in its first two sectors
(R637 to R640 of spec/17_boot_otp_update.md).
-/

namespace Sys2Proof.Machine

/-! ## The external NVM (R637, R638) -/

/-- A byte of the external NVM; an unlisted byte is erased. -/
def Dev.nvmByte (d : Dev) (a : Nat) : Byte := sread 0xFF d.nvm a

/-- `n` bytes from address `a`. -/
def Dev.nvmBytes (d : Dev) (a n : Nat) : List Byte := (List.range n).map fun i => d.nvmByte (a + i)

/-- Every byte from `a` on, `n` bytes, is erased. -/
def Dev.nvmErased (d : Dev) (a n : Nat) : Bool := d.nvm.all fun e => !(decide (a ≤ e.1) && decide (e.1 < a + n))

/-- Program bytes: a program clears bits and sets none. -/
def nvmProgram (m : Sparse Byte) : Nat → List Byte → Sparse Byte
  | _, [] => m
  | a, b :: t => nvmProgram (swrite 0xFF m a (sread 0xFF m a &&& b)) (a + 1) t

/-- Erase `n` bytes from address `a`. -/
def nvmErase (m : Sparse Byte) (a n : Nat) : Sparse Byte :=
  m.filter fun e => !(decide (a ≤ e.1) && decide (e.1 < a + n))

/-- A program that fails leaves its bytes somewhere between what stood and what was meant. -/
def Dev.nvmProgramBad (d : Dev) (a : Nat) (l : List Byte) : Dev :=
  let bytes := (List.range l.length).map fun i =>
    l.getD i 0 ||| BitVec.ofNat 8 (Config.free .nvmFail [d.draws, a, i])
  { d with nvm := nvmProgram d.nvm a bytes, draws := d.draws + 1 }

/-- An erase that fails or is cut leaves each byte of its sector somewhere between what stood and 0xFF. -/
def Dev.nvmEraseBad (d : Dev) (a : Nat) : Dev :=
  let bytes := (List.range 4096).map fun i =>
    d.nvmByte (a + i) ||| BitVec.ofNat 8 (Config.free .nvmFail [d.draws, a, i])
  { d with nvm := nvmProgram (nvmErase d.nvm a 4096) a bytes, draws := d.draws + 1 }

/-- The operations on the Quad-SPI bus (R637). -/
inductive QspiOp where
  | status | writeEnable | read | quadRead | program | erase | reset
  deriving DecidableEq, Repr

/-- The command bytes of an operation at address `a`: the 4-byte opcodes from 16 MiB on (R637). -/
def QspiOp.bytes (op : QspiOp) (a : Nat) : List Byte :=
  let far := decide (0x1000000 ≤ a)
  match op with
  | .status => [0x05]
  | .writeEnable => [0x06]
  | .read => [if far then 0x13 else 0x03]
  | .quadRead => [if far then 0x6C else 0x6B]
  | .program => [if far then 0x12 else 0x02]
  | .erase => [if far then 0x21 else 0x20]
  | .reset => [0x66, 0x99]

/-- The first byte of a slot (R638). -/
def slotBase (slot : Nat) : Nat := 0x10000 + 0x100000 * slot

/-- Erase a sector; the torn pages in it are gone. -/
def Dev.nvmEraseSector (d : Dev) (a : Nat) : Dev :=
  { d with
    nvm := nvmErase d.nvm a 4096
    torn := d.torn.filter fun t => !(decide (a ≤ t) && decide (t < a + 4096)) }

/-! ## State records (R639) -/

/-- The content of a state record; 0xFF = none for CONF and TRIAL. -/
structure StateRec where
  seq : Nat
  conf : Nat
  trial : Nat
  flags : Nat
  deriving DecidableEq, Repr

def srTried : Nat := 0
def srFailed (slot : Nat) : Nat := 1 + slot
def srEmpty (slot : Nat) : Nat := 3 + slot

def recMagic : List Byte := [0x41, 0x45, 0x53, 0x54]

def StateRec.bytes (r : StateRec) : List Byte :=
  let l := recMagic ++ leBytes 4 r.seq ++ leBytes 1 r.conf ++ leBytes 1 r.trial ++ leBytes 1 r.flags
    ++ List.replicate 17 0
  l ++ leBytes 4 (crc32 l)

/-- Positions of the two sectors that are not erased; position p lies at byte 32 p. -/
def Dev.usedSpots (d : Dev) : List Nat :=
  (((d.nvm.map (·.1)) ++ d.torn).filter (· < 0x2000)).map (· / 32)

/-- The valid record at a position. -/
def Dev.spotRec (d : Dev) (p : Nat) : Option StateRec :=
  let l := d.nvmBytes (32 * p) 32
  if l.take 4 == recMagic && leAt l 28 4 == crc32 (l.take 28) && !d.torn.contains (32 * p) then
    some ⟨leAt l 4 4, byteAt l 8, byteAt l 9, byteAt l 10⟩
  else none

/-- The newest valid record and its position. -/
def Dev.newestRec (d : Dev) : Option (Nat × StateRec) :=
  (d.usedSpots.eraseDups.filterMap fun p => (d.spotRec p).map fun r => (p, r)).foldl (fun a x =>
    match a with
    | none => some x
    | some y => if 0 < toSigned 32 (x.2.seq + 2 ^ 32 - y.2.seq) then some x else some y) none

/-- The current sector: the one that holds the newest record. -/
def Dev.recSector (d : Dev) : Nat := (d.newestRec.map (·.1 / 128)).getD 0

/-- The first position of the erased space of the current sector. -/
def Dev.recFree (d : Dev) : Option Nat :=
  let s := d.recSector
  let p := (d.usedSpots.filter fun p => p / 128 == s).foldl (fun a p => max a (p + 1)) (128 * s)
  if p < 128 * (s + 1) then some p else none

/-- Where a record goes at run time, and whether the sector there is erased first. -/
def Dev.recPlace (d : Dev) (why : RecFor) : Nat × Bool :=
  match why, d.recFree with
  | .copy, _ | _, none => (128 * (1 - d.recSector), true)
  | _, some p => (p, false)

/-- The newest record's content, or the content from which the first record is formed. -/
def Dev.recBase (d : Dev) : StateRec := (d.newestRec.map (·.2)).getD ⟨2 ^ 32 - 1, 0xFF, 0xFF, 0⟩

/-- The record to be written. -/
def StateRec.next (r : StateRec) (why : RecFor) : StateRec :=
  let r := { r with seq := (r.seq + 1) % 2 ^ 32 }
  match why with
  | .begin_ t => { r with trial := 0xFF, flags := sbit (sbit r.flags srTried false) (srEmpty t) true }
  | .arm t => { r with trial := t, flags := sbit (sbit r.flags srTried false) (srEmpty t) false }
  | .confirm t => { r with conf := t, trial := 0xFF, flags := sbit r.flags srTried false }
  | .fallback t => { r with trial := 0xFF, flags := sbit (sbit r.flags srTried false) (srFailed t) true }
  | .copy => r

/-- The newest record's SEQ is shown. -/
def Dev.showSeq (d : Dev) : Dev := d.put R.IMAGE_STATE_SEQ_SEQ ((d.newestRec.map (·.2.seq)).getD 0)

/-- The record stands in the NVM. -/
def Dev.recWritten (d : Dev) (why : RecFor) : Dev :=
  let r := d.recBase.next why
  let (p, erase) := d.recPlace why
  let d := d.when erase fun d => d.nvmEraseSector (4096 * (p / 128))
  ({ d with nvm := nvmProgram d.nvm (32 * p) r.bytes }).showSeq

/-- Its program has failed or has been cut. Where its sector was to be erased first, no record of that sector stands. -/
def Dev.recSpoilt (d : Dev) (why : RecFor) : Dev :=
  let r := d.recBase.next why
  let (p, erase) := d.recPlace why
  if erase then
    let d := d.nvmEraseBad (4096 * (p / 128))
    { d with torn := d.torn ++ (List.range 128).map fun k => 4096 * (p / 128) + 32 * k }
  else d.nvmProgramBad (32 * p) r.bytes

end Sys2Proof.Machine
end

