-- ==== Sys2Proof/Machine/Thatch.lean ====
section
/-!
DEFINITION. Sys2Proof/Machine/Thatch.lean: the operations of Thatch (spec/16_gutter_thatch.md): records, the intake, the
SRAM ring, repeats, gaps, readers and the black-box region of the external NVM.
-/

namespace Sys2Proof.Machine

/-! ## Records (R596, R597) -/

def rtEvent : Nat := 0
def rtFirmware : Nat := 1
def rtGap : Nat := 2
def rtLastGasp : Nat := 3
def rtRidgeStep : Nat := 4
def rtBoot : Nat := 5

def Record.words (r : Record) : List Word := [r.w0, r.w1, r.w2, r.w3, r.w4, r.w5, r.w6, r.w7]

def Record.ofWords (l : List Word) : Record :=
  ⟨l.getD 0 0, l.getD 1 0, l.getD 2 0, l.getD 3 0, l.getD 4 0, l.getD 5 0, l.getD 6 0, l.getD 7 0⟩

/-- The 32 bytes of a record, little-endian. -/
def Record.bytes (r : Record) : List Byte := r.words.flatMap fun w => leBytes 4 w.toNat

def Record.ofBytes (l : List Byte) : Record := Record.ofWords (leWords 8 (l.take 32))

/-- The CRC of bytes 0 to 27. -/
def Record.crcOf (r : Record) : Word := BitVec.ofNat 32 (crc32 (r.bytes.take 28))

/-- The record with its CRC. -/
def Record.seal (r : Record) : Record := { r with w7 := r.crcOf }

def Record.seq (r : Record) : Nat := r.w0.toNat
def Record.time (r : Record) : Nat := r.w2.toNat * 2 ^ 32 + r.w1.toNat
def Record.ty (r : Record) : Nat := fieldOf r.w3 0 8
def Record.cls (r : Record) : Nat := fieldOf r.w3 8 2
def Record.event (r : Record) : Nat := fieldOf r.w3 16 8
def Record.repeats (r : Record) : Nat := fieldOf r.w4 0 16

/-- The home ID of this node (R56, R446). -/
def Dev.homeId (d : Dev) : Nat := d.get R.RINNAK_NODE_NODE_ID

/-- A record of this node made now: type, class, INJ mark, event, index, reaction, kind, DATA. The CRC comes at the
commit. -/
def Dev.recordNow (d : Dev) (seq ty cls : Nat) (inj : Bool) (event index react kind : Nat) (data : Word) : Record :=
  { w0 := BitVec.ofNat 32 seq
    w1 := d.angle
    w2 := d.ridge.era
    w3 := BitVec.ofNat 32 (ty + cls * 2 ^ 8 + (if inj then 2 ^ 10 else 0) + event * 2 ^ 16 + d.homeId * 2 ^ 24)
    w4 := BitVec.ofNat 32 (index * 2 ^ 16)
    w5 := BitVec.ofNat 32 (d.mode.code + react * 2 ^ 8 + kind * 2 ^ 16)
    w6 := data
    w7 := 0 }

def Dev.modThatch (d : Dev) (f : Thatch → Thatch) : Dev := { d with thatch := f d.thatch }

/-! ## The pending gap (R605) -/

/-- Records lost in class `c`. -/
def gapCnt (c : Nat) : Fld := ⟨A.TH_GAP_CNT, 8 * c, 8⟩

/-- A record enters the pending gap; EV125 is raised once, when the gap opens. -/
def Dev.gapAdd (d : Dev) (r : Record) : Dev :=
  let isOpen := d.on R.TH_STATUS_GAP_PEND
  let first := d.get R.TH_GAP_FIRST_SEQ
  let last := d.get R.TH_GAP_LAST_SEQ
  let earlier := !isOpen || decide (r.seq < first)
  let d := d.when earlier fun d => (d.put R.TH_GAP_FIRST_SEQ r.seq).modThatch fun t => { t with gapTime := r.time }
  let d := d.put R.TH_GAP_LAST_SEQ (if isOpen then max last r.seq else r.seq)
  let d := d.bump (gapCnt r.cls)
  if isOpen then d else (d.set1 R.TH_STATUS_GAP_PEND).report 125

/-- The highest class lost (R597). -/
def Dev.gapClass (d : Dev) : Nat := ((List.range 4).filter fun c => d.get (gapCnt c) != 0).getLastD 0

/-! ## The intake (R600, R601) -/

/-- The place of the entry that R601 drops: lowest class, and among equals the one that arrived last. -/
def dropPlace (l : List Waiting) : Nat :=
  let low := l.foldl (fun a w => min a w.record.cls) 3
  ((List.range l.length).filter fun i => (l.getD i ⟨⟨0, 0, 0, 0, 0, 0, 0, 0⟩, false, false⟩).record.cls == low).getLastD 0

/-- A record arrives at the intake. -/
def Dev.intake (d : Dev) (w : Waiting) : Dev :=
  let l := d.thatch.intake ++ [w]
  if l.length ≤ 16 then d.modThatch fun t => { t with intake := l }
  else
    let i := dropPlace l
    let d := d.modThatch fun t => { t with intake := l.eraseIdx i }
    match l[i]? with
    | none => d
    | some x => d.gapAdd x.record

/-- Make a record (R598): the next SEQ. `fresh` marks DATA that is still to be read. -/
def Dev.makeRecord (d : Dev) (ty cls : Nat) (inj : Bool) (event index react kind : Nat) (data : Word) (fresh : Bool) :
    Dev :=
  let r := d.recordNow d.thatch.nextSeq ty cls inj event index react kind data
  (d.modThatch fun t => { t with nextSeq := (t.nextSeq + 1) % 2 ^ 32 }).intake ⟨r, fresh, false⟩

/-- The BOOT record of this reset, the first record (R597, R598). -/
def Dev.bootRecord (d : Dev) : Dev := d.makeRecord rtBoot 1 false 0xFF noIdx 0 0 (BitVec.ofNat 32 d.boot.cause) false

/-- The record of a step of the rack angle (R125, R597). -/
def Dev.stepRecord (d : Dev) : Dev :=
  match d.ridge.stepFrom with
  | none => d
  | some a =>
    let d := { d with ridge := { d.ridge with stepFrom := none } }
    d.makeRecord rtRidgeStep 0 false 0xFF noIdx 0 0 a false

/-! ## Repeats (R604) -/

/-- The last raise of a source that has a record: timestamp and SEQ. -/
def Dev.lastRecorded (d : Dev) (ev : Nat) : Option (Nat × Nat) :=
  (d.thatch.lastRaise.find? fun p => p.1 == ev).map fun p => p.2

def Dev.setLastRecorded (d : Dev) (ev time seq : Nat) : Dev :=
  d.modThatch fun t => { t with lastRaise := (ev, time, seq) :: t.lastRaise.filter fun p => p.1 != ev }

/-- The record that collects repeats of `ev`: its own SEQ, waiting in the intake or held in the ring. -/
def collects (ev seq : Nat) (foreign : Bool) (r : Record) : Bool :=
  !foreign && r.ty == rtEvent && r.event == ev && r.seq == seq && decide (r.repeats < 65535)

/-- A record with one repeat more. -/
def Record.again (r : Record) (angle : Word) : Record :=
  { r with w4 := withField r.w4 0 16 (r.repeats + 1), w6 := angle }

/-- A raise of `ev` falls on a record that still collects; none where a new record is due. -/
def Dev.collapse (d : Dev) (ev : Nat) : Option Dev :=
  match d.lastRecorded ev with
  | none => none
  | some (time, seq) =>
    let inIntake := d.thatch.intake.any fun w => collects ev seq w.foreign w.record
    let inRing := d.thatch.ring.any fun e => e.2.state == .held && collects ev seq e.2.foreign e.2.record
    if decide (d.since time ≤ d.get R.TH_CTRL_REP_WIN) && d.get R.TH_CTRL_REP_WIN != 0 && (inIntake || inRing) then
      let d := d.modThatch fun t => { t with
        intake := t.intake.map fun w =>
          if collects ev seq w.foreign w.record then { w with record := w.record.again d.angle, fresh := false } else w
        ring := t.ring.map fun e =>
          if e.2.state == .held && collects ev seq e.2.foreign e.2.record then
            (e.1, { e.2 with record := (e.2.record.again d.angle).seal })
          else e }
      some (d.setLastRecorded ev d.now seq)
    else none

/-- A waiting record of a raise of this cycle whose event number is above `ev`. -/
def Dev.laterRaise (d : Dev) (ev : Nat) (w : Waiting) : Bool :=
  !w.foreign && w.record.ty == rtEvent && w.record.w1 == d.angle && w.record.w2 == d.ridge.era
    && decide (ev < w.record.event)

/-- The records that the last arrival stands behind although their raises are of the same cycle and of higher event number,
and the last arrival: they stand in ascending event number, with the SEQ that they have together (R589). -/
def Dev.intakeOrdered (d : Dev) : Dev :=
  match d.thatch.intake.reverse with
  | [] => d
  | w :: before =>
    let late := (before.takeWhile (d.laterRaise w.record.event)).reverse
    if late.isEmpty then d
    else
      let seqs := (late ++ [w]).map fun x => x.record.w0
      let l := ((w :: late).zip seqs).map fun p => { p.1 with record := { p.1.record with w0 := p.2 } }
      let d := d.modThatch fun t => { t with intake := t.intake.take (t.intake.length - l.length) ++ l }
      d.each l fun d x => d.setLastRecorded x.record.event d.now x.record.seq

/-- A raise of a source with REC = 1 (R600, R604). -/
def Dev.recordRaise (d : Dev) (r : Raise) (cls react : Nat) (fresh : Bool) : Dev :=
  match d.collapse r.ev with
  | some d' => d'
  | none =>
    let seq := d.thatch.nextSeq
    let d := (d.setLastRecorded r.ev d.now seq).makeRecord rtEvent cls r.inj r.ev r.idx react r.kind 0 fresh
    d.when ((d.thatch.intake.getLast?.map fun w => w.record.seq) == some seq) Dev.intakeOrdered

/-! ## The ring (R602, R603) -/

def ringSlots : Nat := 2048

/-- The first slot that was never written. -/
def firstUnused : Nat → Sparse RingSlot → Nat
  | n, [] => n
  | n, (j, _) :: t => if n < j then n else firstUnused (j + 1) t

/-- The slot of least order among those that satisfy `p`. -/
def earliest (p : RingSlot → Bool) (m : Sparse RingSlot) : Option (Nat × RingSlot) :=
  m.foldl (fun a e =>
    if p e.2 then
      match a with
      | none => some e
      | some b => if e.2.order < b.2.order then some e else a
    else a) none

/-- The slot that R603 gives a record of class `c`, and whether it overwrites a held record (rule 2). -/
def Dev.ringSlot (d : Dev) (c : Nat) : Option (Nat × Bool) :=
  let m := d.thatch.ring
  let u := firstUnused 0 m
  if u < ringSlots then some (u, false)
  else match earliest (fun s => s.state != .held) m with
    | some e => some (e.1, false)
    | none =>
      let lows := m.filter fun e => decide (e.2.record.cls ≤ c)
      let low := lows.foldl (fun a e => min a e.2.record.cls) 3
      (earliest (fun s => s.record.cls == low) lows).map fun e => (e.1, true)

/-- Held slots, as TH_STATUS shows them. -/
def Dev.showHeld (d : Dev) : Dev :=
  d.put R.TH_STATUS_HELD (d.thatch.ring.filter fun e => e.2.state == .held).length

/-- Place a record in the ring (R603); false where no slot takes it. -/
def Dev.place (d : Dev) (r : Record) (foreign : Bool) : Dev × Bool :=
  match d.ringSlot r.cls with
  | none => (d, false)
  | some (i, full) =>
    let old := (d.thatch.ring.find? fun e => e.1 == i).map fun e => e.2.record.seq
    let lost := full && d.on R.TH_STATUS_SNAP_OPEN
      && decide (old.getD 0 ≤ d.get R.TH_SNAP_SEQ_SEQ)
    let d := (d.when full fun d => d.bump R.TH_CNT_EVICTED).when lost fun d => d.bump R.TH_CNT_SNAP_LOST
    let s : RingSlot := ⟨r.seal, .held, d.thatch.writes, d.now, foreign, false, !d.on R.TH_CTRL_NVM_EN⟩
    let d := d.modThatch fun t => { t with ring := sinsert i s (serase i t.ring), writes := t.writes + 1 }
    let d := if foreign then d else d.put R.TH_HEAD_SEQ r.seq
    (d.showHeld, true)

/-- The GAP record (R597): the highest class lost, the time of the first loss, the range and the counts. -/
def Dev.gapRecord (d : Dev) : Record :=
  let cls := d.gapClass
  { w0 := BitVec.ofNat 32 d.thatch.nextSeq
    w1 := BitVec.ofNat 32 d.thatch.gapTime
    w2 := BitVec.ofNat 32 (d.thatch.gapTime / 2 ^ 32)
    w3 := BitVec.ofNat 32 (rtGap + cls * 2 ^ 8 + 0xFF * 2 ^ 16 + d.homeId * 2 ^ 24)
    w4 := d.word A.TH_GAP_FIRST
    w5 := d.word A.TH_GAP_LAST
    w6 := d.word A.TH_GAP_CNT
    w7 := 0 }

/-- Commit the waiting record at place `i`; where no slot takes it, it enters the gap. -/
def Dev.commitAt (d : Dev) (i : Nat) : Dev :=
  match d.thatch.intake[i]? with
  | none => d
  | some w =>
    let d := d.modThatch fun t => { t with intake := t.intake.eraseIdx i }
    let (d', ok) := d.place w.record w.foreign
    if ok then d' else d.gapAdd w.record

/-- The GAP record is committed: the pending gap closes. -/
def Dev.closeGap (d : Dev) : Dev :=
  let d := d.modThatch fun t => { t with nextSeq := (t.nextSeq + 1) % 2 ^ 32, gapTime := 0 }
  ((d.clr R.TH_STATUS_GAP_PEND).clr R.TH_GAP_FIRST_SEQ |>.clr R.TH_GAP_LAST_SEQ).setWord A.TH_GAP_CNT 0

/-- One commit opportunity (R600, R605). -/
def Dev.commit (d : Dev) : Dev :=
  if !d.on R.TH_STATUS_GAP_PEND then d.commitAt 0
  else
    let higher := ((List.range d.thatch.intake.length).zip d.thatch.intake).find? fun p =>
      decide (d.gapClass < p.2.record.cls)
    match higher with
    | some p => d.commitAt p.1
    | none =>
      let (d', ok) := d.place d.gapRecord false
      if ok then d'.closeGap else d.commitAt 0

/-! ## Readers (R606-R608) -/

/-- TH_RELEASE (R606). -/
def Dev.release (d : Dev) (s : Nat) : Dev :=
  let d := d.modThatch fun t => { t with
    ring := t.ring.map fun e =>
      if e.2.state == .held && (e.2.foreign || decide (e.2.record.seq ≤ s)) then (e.1, { e.2 with state := .released })
      else e }
  d.showHeld

def Dev.snapOpen (d : Dev) : Dev :=
  ((d.put R.TH_SNAP_SEQ_SEQ (d.get R.TH_HEAD_SEQ)).set1 R.TH_STATUS_SNAP_OPEN).clr R.TH_CNT_SNAP_LOST

def Dev.snapClose (d : Dev) : Dev := d.clr R.TH_STATUS_SNAP_OPEN

/-- Put a record into the read window. -/
def Dev.readWindow (d : Dev) (r : Record) : Dev :=
  d.each ((List.range 8).zip r.words) fun d p => d.setWord (A.TH_RDk p.1) p.2

/-- A ring slot copied to the window (R607, R608); an empty slot is not valid. -/
def Dev.readRing (d : Dev) (i : Nat) : Dev :=
  let d := d.clr R.TH_RD_STAT_VALID |>.clr R.TH_RD_STAT_AFTER |>.clr R.TH_RD_STAT_HELD
  let d := d.set1 R.TH_RD_STAT_DONE
  match (d.thatch.ring.find? fun e => e.1 == i).map (·.2) with
  | none => d.readWindow ⟨0, 0, 0, 0, 0, 0, 0, 0⟩
  | some s =>
    let d := d.readWindow s.record
    let d := d.putB R.TH_RD_STAT_VALID (s.record.w7 == s.record.crcOf)
    let d := d.putB R.TH_RD_STAT_AFTER (d.on R.TH_STATUS_SNAP_OPEN
      && decide (d.get R.TH_SNAP_SEQ_SEQ < s.record.seq))
    d.putB R.TH_RD_STAT_HELD (s.state == .held)

/-! ## The black-box region (R610-R613) -/

/-- Sectors of a partition. -/
def Dev.sectors (d : Dev) : Part → Nat
  | .lg => d.get R.TH_NVM_PART0_LG_SECT
  | .hi => d.get R.TH_NVM_PART0_HI_SECT
  | .lo => d.get R.TH_NVM_PART1_LO_SECT

/-- First byte of a partition: LG, HI, LO in this order from NVM_BASE. -/
def Dev.partBase (d : Dev) (p : Part) : Nat :=
  let b := d.get R.TH_NVM_BASE_BASE
  match p with
  | .lg => b
  | .hi => b + 4096 * d.sectors .lg
  | .lo => b + 4096 * (d.sectors .lg + d.sectors .hi)

/-- Byte address of record `i` of a partition. -/
def Dev.recAddr (d : Dev) (p : Part) (i : Nat) : Nat := d.partBase p + 32 * i

/-- Records that a partition holds. -/
def Dev.partRecs (d : Dev) (p : Part) : Nat := 128 * d.sectors p

/-- The register with the next index of a partition. -/
def nextFld : Part → Fld
  | .lg => R.TH_NVM_NEXT_LG_INDEX
  | .hi => R.TH_NVM_NEXT_HI_INDEX
  | .lo => R.TH_NVM_NEXT_LO_INDEX

def partPlace : Part → Nat
  | .lg => 0 | .hi => 1 | .lo => 2

def Dev.ahead (d : Dev) (p : Part) : Bool := d.thatch.erasedAhead.getD (partPlace p) false

def Dev.setAhead (d : Dev) (p : Part) (b : Bool) : Dev :=
  d.modThatch fun t => { t with erasedAhead := updAt t.erasedAhead (partPlace p) fun _ => b }

/-- The sector of a partition that its write position is in. -/
def Dev.sectorNow (d : Dev) (p : Part) : Nat := d.get (nextFld p) / 128

/-- The sector that follows it in the circular log. -/
def Dev.sectorNext (d : Dev) (p : Part) : Nat := if d.sectors p = 0 then 0 else (d.sectorNow p + 1) % d.sectors p

/-- Partition of a class (R610). -/
def partOf (cls : Nat) : Part := if 2 ≤ cls then .hi else .lo

/-- Slots whose records wait for the flush of a partition, in commit order: held, and committed while NVM_EN = 1
(R602). -/
def Dev.flushSlots (d : Dev) (p : Part) : List (Nat × RingSlot) :=
  sortBy (fun a b => decide (a.2.order ≤ b.2.order))
    (d.thatch.ring.filter fun e => e.2.state == .held && !e.2.kept && partOf e.2.record.cls == p)

/-- A flush of a partition is due (R611): 8 records wait, or FLUSH_TMO turns have passed since the oldest commit. -/
def Dev.flushDue (d : Dev) (p : Part) : Bool :=
  match d.flushSlots p with
  | [] => false
  | e :: t => decide (8 ≤ (e :: t).length)
    || decide (d.get R.TH_CTRL_FLUSH_TMO * 65536 ≤ d.since e.2.at_)

/-- NVM writes are inhibited (R576). -/
def Dev.wrInh (d : Dev) : Bool := d.on R.THERM_STATUS_WR_INH

/-- The boot manager holds the Quad-SPI bus (R640). -/
def Dev.bootHoldsQspi (d : Dev) : Bool := d.boot.imgOp.isSome || d.boot.rec_.isSome

/-- The bus is free for an operation of Thatch. -/
def Dev.qspiFree (d : Dev) : Bool := d.thatch.op.isNone && d.thatch.reading.isNone && !d.bootHoldsQspi

/-- Nothing is written in the sector that the write position of a partition is about to enter: it was erased ahead, or
it is erased as it stands and no abort has torn a page of it. -/
def Dev.entryBlank (d : Dev) (p : Part) : Bool :=
  let a := d.partBase p + 4096 * d.sectorNow p
  d.ahead p || (d.nvmErased a 4096 && d.torn.all fun t => decide (t < a) || decide (a + 4096 ≤ t))

/-- Start what the write position of a partition needs (R612): the erase of the sector it is about to enter, where that
is not erased, or else the page program of its waiting records. -/
def Dev.startFlush (d : Dev) (p : Part) : Dev :=
  let i := d.get (nextFld p)
  let slots := (d.flushSlots p).take (8 - i % 8)
  if i % 128 = 0 && !d.entryBlank p then
    d.modThatch fun t => { t with op := some (.erase p (i / 128)) }
  else d.modThatch fun t => { t with op := some (.program p slots) }

/-- THATCH_FLUSH (R611). It waits for WR_INH and for the boot manager; during an operation of Thatch's own nothing
starts. -/
def Dev.flush (d : Dev) (p : Part) : Dev :=
  if p == .lg || !d.on R.TH_CTRL_NVM_EN || d.sectors p = 0 || !d.flushDue p then d
  else if d.wrInh || d.bootHoldsQspi then d.set1 R.TH_STATUS_FLUSH_WAIT
  else if d.thatch.op.isSome || d.thatch.reading.isSome then d
  else (d.clr R.TH_STATUS_FLUSH_WAIT).startFlush p

/-- The erase of the next sector is due while the write position is in the last page of the present one (R612). -/
def Dev.eraseAheadDue (d : Dev) (p : Part) : Bool :=
  decide (2 ≤ d.sectors p) && decide (120 ≤ d.get (nextFld p) % 128) && !d.ahead p

/-- Start the erase ahead of one partition where it is due and the bus is free. -/
def Dev.eraseAhead (d : Dev) : Dev :=
  match [Part.lg, Part.hi, Part.lo].find? fun p => d.eraseAheadDue p with
  | some p => if d.qspiFree && !d.wrInh && d.on R.TH_CTRL_NVM_EN then
      d.modThatch fun t => { t with op := some (.erase p (d.sectorNext p)) } else d
  | none => d

/-- The first erased slot of LG (R612); a slot that an abort has left partly programmed is none. -/
def Dev.lgErased (d : Dev) (i : Nat) : Bool :=
  let a := d.recAddr .lg i
  d.nvmErased a 32 && !d.torn.contains (a / 256 * 256)

def Dev.lgFirst (d : Dev) : Option Nat := (List.range (d.partRecs .lg)).find? fun i => d.lgErased i

/-- LG_SLOT_FIND (R612). Without an erased slot the erase of the sector that the write position stands in makes one: after
the last slot of a sector that is the next one, and at power-up the first. -/
def Dev.lgFind (d : Dev) : Dev :=
  if !d.on R.TH_CTRL_NVM_EN then d
  else match d.lgFirst with
    | some i => ((d.put R.TH_NVM_NEXT_LG_INDEX i).set1 R.TH_STATUS_LG_READY).eraseAhead
    | none =>
      let d := d.when (d.on R.TH_STATUS_LG_READY) fun d => d.report 126
      let d := d.clr R.TH_STATUS_LG_READY
      if d.qspiFree && !d.wrInh && decide (0 < d.sectors .lg) then
        d.modThatch fun t => { t with op := some (.erase .lg (d.sectorNow .lg)) }
      else d

/-- The bytes of the records of ring slots, in their order. -/
def ringBytes (slots : List (Nat × RingSlot)) : List Byte := slots.flatMap fun e => e.2.record.bytes

/-- What is under way on the Quad-SPI bus, with its address (R611, R637, R640): an operation of Thatch, a read for TH_RD_SEL, a
state record, an operation on an image slot. -/
def Dev.qspiNow (d : Dev) : Option (QspiOp × Nat) :=
  match d.thatch.op, d.thatch.reading, d.boot.rec_, d.boot.imgOp with
  | some (.program p _), _, _, _ => some (.program, d.recAddr p (d.get (nextFld p)))
  | some (.erase p s), _, _, _ => some (.erase, d.partBase p + 4096 * s)
  | _, some (p, i), _, _ => some (.quadRead, d.recAddr p i)
  | _, _, some r, _ =>
    let (p, erase) := d.recPlace r.why
    some (if erase then .erase else .program, 32 * p)
  | _, _, _, some (.erase s a) => some (.erase, slotBase s + a)
  | _, _, _, some (.program s a _) => some (.program, slotBase s + a)
  | _, _, _, some (.check s) => some (.quadRead, slotBase s)
  | _, _, _, _ => none

/-- What an operation of Thatch that fails or is cut leaves in the NVM (R612, R613). -/
def Dev.opBad (d : Dev) : ThatchOp → Dev
  | .program p slots => d.nvmProgramBad (d.recAddr p (d.get (nextFld p))) (ringBytes slots)
  | .erase p s => d.nvmEraseBad (d.partBase p + 4096 * s)

/-- Records that have been programmed: their slots become free (R602, R611), but for one that R603 has overwritten since, and
the write position advances. -/
def Dev.flushed (d : Dev) (p : Part) (slots : List (Nat × RingSlot)) : Dev :=
  let i := d.get (nextFld p)
  let bytes := ringBytes slots
  let nvm := nvmProgram d.nvm (d.recAddr p i) bytes
  let d := { d with nvm := nvm }
  let d := d.modThatch fun t => { t with
    ring := t.ring.map fun e =>
      if e.2.state == .held && slots.any (fun x => x.1 == e.1 && x.2.order == e.2.order) then
        (e.1, { e.2 with state := .flushed })
      else e }
  let n := i + bytes.length / 32
  let wrapped := if n = d.partRecs p then 0 else n
  -- a new sector is entered: what was erased ahead is used up
  let d := if i % 128 = 0 then d.setAhead p false else d
  ((d.put (nextFld p) wrapped).showHeld)

/-- A sector has been erased; its records and its torn pages are gone. -/
def Dev.erased (d : Dev) (p : Part) (s : Nat) : Dev :=
  let a := d.partBase p + 4096 * s
  let d := { d with
    nvm := nvmErase d.nvm a 4096
    torn := d.torn.filter fun t => !(decide (a ≤ t) && decide (t < a + 4096)) }
  let d := d.setAhead p true
  if p == .lg && !d.on R.TH_STATUS_LG_READY then
    (((d.put R.TH_NVM_NEXT_LG_INDEX (128 * s)).set1 R.TH_STATUS_LG_READY)).setAhead .lg false
  else d

/-- A partition of one sector whose write position has passed the last page erases it (R612). -/
def Dev.eraseWhole (d : Dev) (p : Part) : Dev :=
  if d.sectors p = 1 ∧ d.get (nextFld p) = 0 ∧ d.qspiFree ∧ !d.wrInh then
    d.modThatch fun t => { t with op := some (.erase p 0) }
  else d

/-- A Quad-SPI operation of Thatch ends (R611-R613). -/
def Dev.nvmDone (d : Dev) (ok : Bool) : Dev :=
  match d.thatch.op with
  | none => d
  | some op =>
    let d := d.modThatch fun t => { t with op := none }
    if !ok then ((d.opBad op).set1 R.TH_STATUS_NVM_ERR).report 126
    else
      let d := match op with
        | .program p slots => (d.flushed p slots).eraseWhole p
        | .erase p s => d.erased p s
      d.eraseAhead

/-- TH_RD_SEL (R608): from the ring at once, from NVM through the Quad-SPI controller. -/
def Dev.recordRead (d : Dev) (src i : Nat) : Dev :=
  match src with
  | 0 => d.readRing i
  | _ =>
    let p : Part := if src = 1 then .hi else if src = 2 then .lo else .lg
    let d := d.clr R.TH_RD_STAT_DONE |>.clr R.TH_RD_STAT_VALID |>.clr R.TH_RD_STAT_AFTER |>.clr R.TH_RD_STAT_HELD
    d.modThatch fun t => { t with reading := some (p, i) }

/-- The NVM read of R608 completes; an error raises EV126 (R613). A record that an abort has torn fails its CRC. -/
def Dev.recordReadDone (d : Dev) (ok : Bool) : Dev :=
  match d.thatch.reading with
  | none => d
  | some (p, i) =>
    let d := d.modThatch fun t => { t with reading := none }
    if !ok then (d.set1 R.TH_STATUS_NVM_ERR).report 126
    else
      let a := d.recAddr p i
      let inside := decide (i < d.partRecs p) && d.on R.TH_CTRL_NVM_EN
      let torn := d.torn.contains (a / 256 * 256)
      let bytes := d.nvmBytes a 32
      let r := Record.ofBytes bytes
      let empty := bytes.all (· == 0xFF)
      let d := d.readWindow (if inside then r else ⟨0, 0, 0, 0, 0, 0, 0, 0⟩)
      let good := inside && !torn && !empty && r.w7 == r.crcOf
      let d := d.putB R.TH_RD_STAT_VALID good
      d.set1 R.TH_RD_STAT_DONE

/-! ## Firmware records (R599) and the last-gasp record (R537) -/

/-- TH_FW_CMT: a record of the staged words. -/
def Dev.fwCommit (d : Dev) : Dev :=
  let seq := d.thatch.nextSeq
  let r := d.recordNow seq rtFirmware (d.get R.TH_FW_HDR_CLASS) false 0xFF (d.get R.TH_FW_HDR_KIND) 0 0
    (d.word A.TH_FW_D1)
  let r := { r with w5 := d.word A.TH_FW_D0 }
  ((d.modThatch fun t => { t with nextSeq := (t.nextSeq + 1) % 2 ^ 32 }).put R.TH_FW_SEQ_SEQ seq).intake
    ⟨r, false, false⟩

/-- The one record that a last gasp commits (R537); its SEQ is taken at the trigger. -/
def Dev.lgStart (d : Dev) : Dev :=
  let r := d.recordNow d.thatch.nextSeq rtLastGasp 3 false 0xFF noIdx 0 0 0
  d.modThatch fun t => { t with nextSeq := (t.nextSeq + 1) % 2 ^ 32, lgRecord := some r.seal }

/-- An operation of the boot manager is aborted (R612, R658): the slot that was written stays EMPTY, a state record's
position is torn and the record is written again, a check begins again. -/
def Dev.abortBoot (d : Dev) : Dev :=
  let drop := match d.boot.imgOp with
    | some (.check _) | none => false
    | some _ => true
  let d := if !drop then d
    else
      let d := match d.boot.writing with
        | some 0 => d.clr R.IMAGE_SLOT0_STATE
        | some _ => d.clr R.IMAGE_SLOT1_STATE
        | none => d
      let d := if d.boot.finishing then d.set1 R.IMAGE_CMD_RES_DONE else d
      { d with boot := { d.boot with writing := none, finishing := false, page := [] } }
  let d := match d.boot.imgOp with
    | some (.erase s a) => d.nvmEraseBad (slotBase s + a)
    | some (.program s a l) => d.nvmProgramBad (slotBase s + a) l
    | _ => d
  let d := match d.boot.rec_ with
    | some r =>
      let p := (d.recPlace r.why).1
      let d := d.recSpoilt r.why
      { d with torn := d.torn ++ [32 * p] }
    | none => d
  { d with
    boot := { d.boot with
      imgOp := none
      rec_ := none
      recQ := d.boot.rec_.toList ++ d.boot.recQ } }

/-- A Quad-SPI operation in progress is aborted (R612): the page of a program, and the pages of a sector that was being
erased, are left torn. -/
def Dev.abortQspi (d : Dev) : Dev :=
  let pages := match d.thatch.op with
    | some (.program p _) => [d.recAddr p (d.get (nextFld p)) / 256 * 256]
    | some (.erase p s) => (List.range 16).map fun k => d.partBase p + 4096 * s + 256 * k
    | none => []
  let d := match d.thatch.op with
    | some op => d.opBad op
    | none => d
  let d := { d with torn := d.torn ++ pages }
  (d.modThatch fun t => { t with op := none, reading := none }).abortBoot

/-- The last-gasp record has been written (R101, R537, R612): to LG, or to the ring. -/
def Dev.lgCommit (d : Dev) (toNvm : Bool) : Dev :=
  match d.thatch.lgRecord with
  | none => d
  | some r =>
    let d := d.modThatch fun t => { t with lgRecord := none }
    if toNvm then
      let i := d.get R.TH_NVM_NEXT_LG_INDEX
      let d := { d with nvm := nvmProgram d.nvm (d.recAddr .lg i) r.bytes }
      let d := d.put R.TH_HEAD_SEQ r.seq
      let n := if i + 1 = d.partRecs .lg then 0 else i + 1
      if n % 128 = 0 then
        if d.ahead .lg then (d.put R.TH_NVM_NEXT_LG_INDEX n).setAhead .lg false
        else ((d.put R.TH_NVM_NEXT_LG_INDEX n).clr R.TH_STATUS_LG_READY).report 126
      else d.put R.TH_NVM_NEXT_LG_INDEX n
    else
      let (d', ok) := d.place r false
      if ok then d' else d.gapAdd r

/-! ## Forwarding (R442, R609) -/

/-- The record that this node forwards next: of class FWD_CLASS or above, own, not forwarded, highest class first and
lowest SEQ within it. -/
def Dev.fwdNext (d : Dev) : Option (Nat × RingSlot) :=
  (d.thatch.ring.filter fun e => !e.2.foreign && !e.2.forwarded
      && decide (d.get R.RINNAK_CTRL_FWD_CLASS ≤ e.2.record.cls)).foldl (fun a e =>
    match a with
    | none => some e
    | some b =>
      if b.2.record.cls < e.2.record.cls
          || (b.2.record.cls == e.2.record.cls && decide (e.2.record.seq < b.2.record.seq)) then some e else a) none

/-- Mark a slot's record as forwarded. -/
def Dev.markForwarded (d : Dev) (i : Nat) : Dev :=
  d.modThatch fun t => { t with
    ring := t.ring.map fun e => if e.1 == i then (e.1, { e.2 with forwarded := true }) else e }

/-- A received record enters the ring unchanged (R609). -/
def Dev.storeForeign (d : Dev) (r : Record) : Dev := d.intake ⟨r, false, true⟩

end Sys2Proof.Machine
end

