-- ==== Sys2Proof/Machine/Batten.lean ====
section
/-!
DEFINITION. Sys2Proof/Machine/Batten.lean: the operations of the tray contract link (spec/12_batten_link.md): line and
packets, detection, contracts at the source, the sink, data roles, commands.
-/

namespace Sys2Proof.Machine

/-! ## Links -/

/-- Source states (R490). -/
def lkIdle : Nat := 0
def lkDetect : Nat := 1
def lkLinked : Nat := 2
def lkContract : Nat := 3
def lkTest : Nat := 4

/-- Sink states (R502). -/
def skDown : Nat := 0
def skUp : Nat := 1
def skContract : Nat := 2

/-- Packet types (R488). -/
def btSrcCap : Nat := 0x1
def btRequest : Nat := 0x2
def btAnswer : Nat := 0x3
def btOffer : Nat := 0x4
def btReady : Nat := 0x5
def btDissolve : Nat := 0x6
def btSwap : Nat := 0x7
def btPing : Nat := 0x8
def btGet : Nat := 0x9
def btData : Nat := 0xA
def btAck : Nat := 0xB
def btLoop : Nat := 0xC

/-- Kinds of the link event (R512). -/
def bkNoSink : Nat := 1
def bkNoResponse : Nat := 2
def bkReduceTmo : Nat := 3
def bkLinkLost : Nat := 4
def bkSigShort : Nat := 5
def bkSigInvalid : Nat := 6
def bkTestFail : Nat := 7

def Dev.bt (d : Dev) (n : Nat) : BtLink := d.batten.links.getD n BtLink.rest

def Dev.modBt (d : Dev) (n : Nat) (f : BtLink → BtLink) : Dev :=
  { d with batten := { d.batten with links := updAt d.batten.links n f } }

def Dev.lk (d : Dev) (n : Nat) : Nat := d.get (R.BTn_STATE_LINK n)

/-- This end is a power source: the DIST role. -/
def Dev.btSource (d : Dev) : Bool := d.isRole .dist

/-- The link exchanges packets: LINKED or CONTRACT at the source, UP or CONTRACT at the sink. -/
def Dev.btActive (d : Dev) (n : Nat) : Bool :=
  if d.btSource then decide (n < 8) && (d.lk n == lkLinked || d.lk n == lkContract)
  else d.isRole .tray && n == 0 && (d.lk n == skUp || d.lk n == skContract)

/-- The contract in force. -/
def Dev.contract (d : Dev) (n : Nat) : Nat := d.get (R.BTn_CONTRACT_VALUE n)

/-- The link event (R512). -/
def Dev.btEvent (d : Dev) (n k : Nat) : Dev :=
  ((d.put (R.BTn_STATE_KIND n) k).set1 (R.BT_FLAGS_LINK.bit n)).report (96 + n) n k

/-- QUEUED and SWAP_PEND follow the link. -/
def Dev.btShow (d : Dev) (n : Nat) : Dev :=
  let l := d.bt n
  let swap := l.tx.any (fun o => o.kind == .swap) || (match l.out with | some w => w.kind == .swap | none => false)
  (d.putB (R.BTn_STATE_QUEUED n) l.queued.isSome).putB (R.BTn_STATE_SWAP_PEND n) swap

/-- HELD and WAITING (R501). -/
def Dev.btSums (d : Dev) : Dev :=
  if !d.btSource then d
  else
    let held := (List.range 8).foldl (fun a n => a + d.contract n) 0
    let wait := (List.range 8).foldl (fun a n =>
      match (d.bt n).queued with
      | some (p, _, _) => a + (p - d.contract n)
      | none => a) 0
    (d.put R.BT_SUM_HELD held).put R.BT_SUM_WAITING wait

/-- Weevil runs (R509, R510): the contract rules of R494 to R501 and the answers are its work. -/
def Dev.weevilOn (d : Dev) : Bool := d.on R.BT_WEEVIL_RUN

/-- Weevil's record of a dissolve or of a branch's exit (R455, R499): the spec does not give its class, kind and data (DESIGN
CHOICE, log entry 159). -/
def Dev.exitRecord (d : Dev) (n : Nat) : Dev :=
  let x (k : Nat) : Nat := Config.free .exitRecord [d.draws, n, k]
  let seq := d.thatch.nextSeq
  let r := d.recordNow seq rtFirmware (x 0 % 3) false 0xFF (x 1 % 65536) 0 0 (BitVec.ofNat 32 (x 2))
  let d := { d with draws := d.draws + 1 }
  ((d.modThatch fun t => { t with nextSeq := (t.nextSeq + 1) % 2 ^ 32 }).put R.TH_FW_SEQ_SEQ seq).intake
    ⟨{ r with w5 := BitVec.ofNat 32 (x 3) }, false, false⟩

/-- Put a contract in force (R490, R502): LINK tells whether one of at least 1 is. Each change on a tray raises a Scarab
interrupt (R504). At an entry to LINKED or UP the source is the data host (R505). -/
def Dev.setContract (d : Dev) (n v cid : Nat) : Dev :=
  let changed := d.contract n != v || d.get (R.BTn_CONTRACT_CID n) != cid
  let d := d.when (d.isRole .tray && changed) fun d => { d with batten := { d.batten with irqs := d.batten.irqs + 1 } }
  let active := d.btActive n
  let d := (d.put (R.BTn_CONTRACT_VALUE n) v).put (R.BTn_CONTRACT_CID n) cid
  let st := if d.btSource then (if 1 ≤ v then lkContract else lkLinked) else if 1 ≤ v then skContract else skUp
  if !active then d
  else
    let enters := v = 0 ∧ d.lk n ≠ st
    (d.put (R.BTn_STATE_LINK n) st).when (decide enters) fun d => d.putB (R.BTn_STATE_DHOST n) d.btSource

/-- The contract counts as 0 (R499); its number stays. -/
def Dev.noContract (d : Dev) (n : Nat) : Dev := d.setContract n 0 (d.get (R.BTn_CONTRACT_CID n))

/-! ## Packets (R479, R480, R486, R488) -/

/-- Data objects of a type (R488); none for a reserved one. -/
def ndoOf (ty : Nat) : Option Nat :=
  if 1 ≤ ty ∧ ty ≤ 5 then some 1
  else if 6 ≤ ty ∧ ty ≤ 9 then some 0
  else if ty = btData then some 4
  else if ty = btAck then some 0
  else if ty = btLoop then some 7
  else none

/-- The type is a response. -/
def isResponse (ty : Nat) : Bool := ty == btAnswer || ty == btData || ty == btAck

/-- The header word of a packet (R486). -/
def BtPacket.header (p : BtPacket) : Word :=
  BitVec.ofNat 32 (p.ty + p.objs.length * 2 ^ 4 + (if p.prole then 2 ^ 7 else 0) + (if p.dhost then 2 ^ 8 else 0)
    + p.msgid * 2 ^ 9 + (if p.resp then 2 ^ 12 else 0) + 2 ^ 13 + p.code * 2 ^ 16)

/-- The CRC of a header and its objects, over the order of transmission (R480). -/
def btCrc (header : Word) (objs : List Word) : Word :=
  BitVec.ofNat 32 (crc32 ((header :: objs).flatMap fun w => leBytes 4 w.toNat))

/-- A packet as the line carries it. -/
def BtPacket.frame (p : BtPacket) : BtFrame := ⟨p.header, p.objs, btCrc p.header p.objs⟩

/-- The low `w` bits of a number, least significant first. -/
def bitsOf (w v : Nat) : List Bool := (List.range w).map fun i => v.testBit i

/-- The bits of a packet in the order of sending (R479): preamble, start byte, header, objects, CRC. -/
def BtPacket.bits (p : BtPacket) : List Bool :=
  ((List.range 16).map fun i => i % 2 == 1) ++ bitsOf 8 0x5E
    ++ ((p.frame.header :: p.frame.objs) ++ [p.frame.crc]).flatMap fun w => bitsOf 32 w.toNat

/-- Biphase-mark coding (R478): the levels of the half bit periods from a line at `level`; every period starts with a change, and
a 1 has another one at its middle. -/
def biphase : Bool → List Bool → List Bool
  | _, [] => []
  | level, b :: t => (!level) :: (level == b) :: biphase (level == b) t

/-- The levels of a packet on an idle line, half bit period by half bit period: its bits, and the end, low for 2 bit periods. -/
def BtPacket.line (p : BtPacket) : List Bool := biphase true p.bits ++ [false, false, false, false]

/-- The fields of a frame. -/
def btPacketOf (f : BtFrame) : BtPacket :=
  { ty := fieldOf f.header 0 4, prole := fieldOf f.header 7 1 == 1, dhost := fieldOf f.header 8 1 == 1,
    msgid := fieldOf f.header 9 3, resp := fieldOf f.header 12 1 == 1, code := fieldOf f.header 16 8, objs := f.objs }

/-- Checks of R486 that do not look at the power role. -/
def btFormed (f : BtFrame) : Bool :=
  let ty := fieldOf f.header 0 4
  fieldOf f.header 13 3 == 1 && ndoOf ty == some (fieldOf f.header 4 3) && fieldOf f.header 4 3 == f.objs.length
    && (fieldOf f.header 12 1 == 1) == isResponse ty

/-- The far end's role may send this type (R488): `source` tells that the far end is the source, `host` that it is the
data host. -/
def maySend (source host : Bool) (ty : Nat) : Bool :=
  if ty == btSrcCap || ty == btAnswer || ty == btOffer || ty == btReady || ty == btPing || ty == btLoop then source
  else if ty == btRequest then !source
  else if ty == btGet then host
  else if ty == btData then !host
  else true

/-- A packet arrives: discarded and counted under R480 or R486 (a LOOP outside TEST under R508), or passed on. -/
def Dev.btReceive (d : Dev) (n : Nat) (f : BtFrame) : Dev × Option BtPacket :=
  if f.crc != btCrc f.header f.objs then (d.bump (R.BTn_CNT_CRC_ERR n), none)
  else
    let p := btPacketOf f
    let farSource := !d.btSource
    let ok := btFormed f && (p.prole != d.isRole .tray) && p.ty != btLoop
      && maySend farSource (!d.on (R.BTn_STATE_DHOST n)) p.ty
    if ok then (d, some p) else (d.bump (R.BTn_CNT_BAD n), none)

/-! ## Sending (R481, R482, R487) -/

/-- A packet of this end; MSGID and DHOST are given when it is sent. -/
def Dev.btPacket (d : Dev) (ty : Nat) (resp : Bool) (msgid code : Nat) (objs : List Word) : BtPacket :=
  ⟨ty, d.isRole .tray, false, msgid, resp, code, objs⟩

/-- Queue a request or an announcement; `mine` for one that a command asks for. -/
def Dev.btReq (d : Dev) (n : Nat) (k : BtKind) (ty : Nat) (objs : List Word) (mine : Bool := false) : Dev :=
  (d.modBt n fun l => { l with tx := l.tx ++ [⟨d.btPacket ty false 0 0 objs, k, mine⟩] }).btShow n

/-- Queue the response to request `q`, and keep it for a repeated request (R487). -/
def Dev.btRespond (d : Dev) (n : Nat) (q : BtPacket) (k : BtKind) (ty code : Nat) (objs : List Word) : Dev :=
  let p := d.btPacket ty true q.msgid code objs
  (d.modBt n fun l => { l with tx := l.tx ++ [⟨p, k, false⟩], served := some (q.msgid, p) }).btShow n

/-- ACK with a code. -/
def Dev.btAckWith (d : Dev) (n : Nat) (q : BtPacket) (c : Code) : Dev := d.btRespond n q .response btAck c.val []

/-- The kind is a response. -/
def BtKind.isResp : BtKind → Bool
  | .response | .again | .grant | .swapAck => true
  | _ => false

/-- The place of the queued request in the order of arrival (R494). -/
def BtLink.place (l : BtLink) : Option Nat :=
  match l.queued with
  | some (_, _, k) => some k
  | none => none

/-- A packet of this kind waits or is outstanding. -/
def BtLink.has (l : BtLink) (k : BtKind) : Bool :=
  l.tx.any (fun o => o.kind == k) || (match l.out with | some w => w.kind == k | none => false)

/-- A packet of this kind that waits or is outstanding belongs to the last command. -/
def BtLink.owns (l : BtLink) (k : BtKind) : Bool :=
  l.tx.any (fun o => o.kind == k && o.mine) || (match l.out with | some w => w.kind == k && w.mine | none => false)

/-- The exchanges of kind `k` belong to the last command, and no other. -/
def BtLink.own (l : BtLink) (k : Option BtKind) : BtLink :=
  { l with
    tx := l.tx.map fun o => { o with mine := k == some o.kind }
    out := l.out.map fun w => { w with mine := k == some w.kind } }

/-- The waiting packets without the new ones of a kind; a resend of the outstanding request stays. -/
def BtLink.unsent (l : BtLink) (k : BtKind) : List BtOut :=
  l.tx.filter fun o => o.kind != k || l.out.map (·.packet) == some o.packet

/-- The value and CID object of ANSWER, OFFER and READY. -/
def grantObj (v cid : Nat) : Word := BitVec.ofNat 32 (v + cid * 2 ^ 16)

/-- SRC_CAP (R488). -/
def Dev.sendSrcCap (d : Dev) (n : Nat) : Dev :=
  if (d.bt n).has .announce then d
  else
    d.btReq n .announce btSrcCap [BitVec.ofNat 32 (d.get R.BT_CFG_BR_MAX + d.get R.BT_CFG_P_PRE * 2 ^ 16 + n * 2 ^ 24
      + d.get R.BT_CFG_SWAP_EN * 2 ^ 27)]

/-- READY is queued when a contract is in force and the branch is in ON (R496), by Weevil. -/
def Dev.btReadyDue (d : Dev) (n : Nat) : Dev :=
  if d.weevilOn && (d.bt n).readyDue && d.lk n == lkContract && d.btSource && d.get (R.BRn_STATE_STATE n) == 5 then
    let d := d.modBt n fun l => { l with readyDue := false, tx := l.unsent .ready }
    d.btReq n .ready btReady [grantObj (d.contract n) (d.get (R.BTn_CONTRACT_CID n))]
  else d

/-- A contract value takes force at the source. -/
def Dev.putInForce (d : Dev) (n v cid : Nat) : Dev :=
  ((d.setContract n v cid).modBt n fun l => { l with promised := none, readyDue := decide (1 ≤ v) }).btReadyDue n

/-- Both ends' data roles change (R507). -/
def Dev.btRoles (d : Dev) (n : Nat) : Dev := d.putB (R.BTn_STATE_DHOST n) (!d.on (R.BTn_STATE_DHOST n))

/-- The packet that goes next: a response first (R481); a new request only with none outstanding (R487). -/
def BtLink.nextTx (l : BtLink) : Option BtOut :=
  match l.tx.find? fun o => o.kind.isResp with
  | some o => some o
  | none => l.tx.find? fun o => o.kind == .announce || o.kind == .loop
      || (match l.out with
          | none => true
          | some w => w.packet == o.packet)

/-! ## Contracts at the source (R494, R497-R500) -/

/-- What a link holds of the slice: its contract, or a value promised and not yet in force. -/
def Dev.btHolds (d : Dev) (n : Nat) : Nat := max (d.contract n) ((d.bt n).promised.getD 0)

/-- C + A of R494. -/
def Dev.btRoom (d : Dev) (n : Nat) : Int :=
  (d.get R.COORD_ALLOT_SLICE : Int) - (((List.range 8).filter (· != n)).foldl (fun a o => a + d.btHolds o) 0 : Nat)

/-- The accept row of R494: the value granted, if the row applies. -/
def Dev.btFits (d : Dev) (n pReq pMin : Nat) : Option Nat :=
  let c := d.contract n
  let g := min (min (pReq : Int) (d.get R.BT_CFG_BR_MAX)) (d.btRoom n)
  if ((max pMin (c + 1) : Nat) : Int) ≤ g then some g.toNat else none

/-- A downward renegotiation is in progress (R498). -/
def Dev.renegotiating (d : Dev) : Bool := d.batten.links.any fun l => l.reduceTo.isSome

/-- A new number for a value offered or granted: the counter is the source's, over all its links (R488). -/
def Dev.newCid (d : Dev) : Nat × Dev :=
  let c := (d.batten.cid + 1) % 256
  (c, { d with batten := { d.batten with cid := c } })

/-- Queue an OFFER. -/
def Dev.btOfferTo (d : Dev) (n v : Nat) (up : Bool) : Dev :=
  let (c, d) := d.newCid
  let d := d.modBt n fun l =>
    if up then { l with promised := some v, offered := l.place } else { l with reduceTo := some v }
  d.btReq n (if up then .offerUp else .offerDown) btOffer [grantObj v c]

/-- Queued requests in order of arrival. -/
def Dev.btQueueOrder (d : Dev) : List Nat :=
  let place (n : Nat) : Nat := match (d.bt n).queued with | some (_, _, k) => k | none => 0
  sortBy (fun a b => decide (place a ≤ place b)) (idxs 8 fun n => (d.bt n).queued.isSome)

/-- The queue is served (R497), by Weevil. -/
def Dev.btServe (d : Dev) : Dev :=
  if !d.weevilOn || !d.btSource || !d.on R.COORD_ALLOT_HELD || d.renegotiating || d.mode == .ride || d.mode == .drain then d
  else d.each d.btQueueOrder fun d n =>
    match (d.bt n).queued with
    | none => d
    | some (p, m, _) =>
      if !d.btActive n || (d.bt n).promised.isSome then d
      else match d.btFits n p m with
        | some g => d.btOfferTo n g true
        | none => d

/-- Offers and READY that no longer hold are withdrawn; an outstanding one awaits no answer any more. -/
def BtLink.withdraw (l : BtLink) (ks : List BtKind) : BtLink :=
  { l with
    tx := l.tx.filter fun o => !ks.contains o.kind
    out := match l.out with
      | some w => if ks.contains w.kind then none else some w
      | none => none }

/-- The source dissolves the contract of link `n` (R499); `packet` sends DISSOLVE, `mine` for a command. The dissolve is recorded
(R455), and the queue is then served. -/
def Dev.btDissolveAt (d : Dev) (n : Nat) (packet : Bool) (mine : Bool := false) : Dev :=
  let d := d.when (d.btSource && d.contract n != 0) fun d => d.exitRecord n
  let d := d.noContract n
  let d := d.modBt n fun l =>
    let l := l.withdraw [.offerUp, .offerDown, .ready]
    { l with reduceTo := none, promised := if l.has .grant then l.promised else none, offered := none, readyDue := false }
  let d := d.when (packet && d.btActive n) fun d => d.btReq n .dissolve btDissolve [] mine
  ((d.btShow n).btServe).btSums

/-- The branch leaves PRECHARGE or ON: its contract is dissolved, and the exit is recorded (R455, R499). -/
def Dev.btBranchExit (d : Dev) (n : Nat) : Dev :=
  if d.lk n == lkContract then d.btDissolveAt n true else d.exitRecord n

/-- The slice is below the sum of the contracts (R498), as Weevil finds. -/
def Dev.btReduce (d : Dev) : Dev :=
  let sum := (List.range 8).foldl (fun a n => a + d.contract n) 0
  let s := d.get R.COORD_ALLOT_SLICE
  if !d.weevilOn || !d.btSource || !d.on R.COORD_ALLOT_HELD || decide (sum ≤ s) then d
  else
    let unsent (k : BtKind) (o : BtOut) : Bool := o.kind == k
    let d := d.each (List.range 8) fun d n => d.modBt n fun l =>
      if l.tx.any (unsent .offerUp) && l.out.all (fun w => w.kind != .offerUp) then
        { l with tx := l.tx.filter fun o => o.kind != .offerUp, promised := none, offered := none }
      else l
    d.each (idxs 8 fun n => d.lk n == lkContract) fun d n =>
      let c := d.contract n
      let t := s * c / sum
      let lower := match (d.bt n).reduceTo with | some r => decide (t < r) | none => true
      if t < c && lower then
        (d.modBt n fun l => { l with tx := l.unsent .offerDown }).btOfferTo n t false
      else d

/-- What Weevil does with the slice in force: reductions first, then the queue (R497, R498). -/
def Dev.btShare (d : Dev) : Dev := (d.btReduce.btServe).btSums

/-- A slice has been delivered (R497, R498). -/
def Dev.btSlice (d : Dev) : Dev :=
  ({ d with batten := { d.batten with sliceAt := d.cycles, extended := 0 } }).btShare

/-- A reduction fails (R498, R500); `link` for a failure at the link, after which SRC_CAP is sent again (R492). -/
def Dev.reduceFails (d : Dev) (n : Nat) (link : Bool) : Dev :=
  ((d.btEvent n bkReduceTmo).when link fun d => d.modBt n fun l => { l with requested := false }).btDissolveAt n true

/-- tRENEG, 100 ms, in CLK200 cycles. -/
def tReneg : Nat := 20000000

/-- tRENEG has passed since the slice's delivery, extended by the restarts of Weevil since then (R498, R510). -/
def Dev.renegTimeout (d : Dev) : Dev :=
  if !d.weevilOn || decide (d.cycles < d.batten.sliceAt + tReneg + d.batten.extended) then d
  else d.each (idxs 8 fun n => (d.bt n).reduceTo.isSome) fun d n => d.reduceFails n false

/-- A packet goes onto the line. The response to a repeated request is the one that was sent (R487). -/
def Dev.btSend (d : Dev) (n : Nat) (o : BtOut) : Dev :=
  let l := d.bt n
  let isNew := !o.kind.isResp && o.kind != .announce && o.kind != .loop && l.out.isNone
  let resend := l.out.map (·.packet) == some o.packet
  let p := if o.kind == .again then (match l.served with | some (_, r) => r | none => o.packet)
    else if resend then o.packet
    else { o.packet with
      dhost := d.on (R.BTn_STATE_DHOST n)
      msgid := if isNew then l.nextId else o.packet.msgid }
  let d := d.modBt n fun l => { l with
    tx := l.tx.erase o
    sent := some p
    served := if o.kind.isResp then l.served.map fun s => if s.2 == o.packet then (s.1, p) else s else l.served
    nextId := if isNew then (l.nextId + 1) % 8 else l.nextId
    out := if isNew then some ⟨p, o.kind, 0, o.mine⟩ else l.out }
  let obj := p.objs.getD 0 0
  let d := match o.kind with
    | .announce => d.put (R.BTn_PEER_BR_MAX n) (fieldOf obj 0 16) |>.put (R.BTn_PEER_P_PRE n) (fieldOf obj 16 8)
        |>.put (R.BTn_PEER_SWAP_EN n) (fieldOf obj 27 1)
    | .grant => (d.putInForce n (fieldOf obj 0 16) (fieldOf obj 16 8)).btReduce
    | .swapAck => d.btRoles n
    | .request | .capRequest =>
      d.put (R.BTn_REQUEST_P_REQ n) (fieldOf obj 0 16) |>.put (R.BTn_REQUEST_P_MIN n) (fieldOf obj 16 16)
    | .dissolve => if d.btSource then d else (d.noContract n).modBt n fun l => { l with granted := none }
    | _ => d
  (d.btShow n).btSums

/-- The line has been idle for the idle time of the packet that goes next (R481); a collision lost is counted and the
packet waits on (R482). -/
def Dev.btTransmit (d : Dev) (n : Nat) (collided : Bool) : Dev :=
  if !d.btActive n && !(d.btSource && d.lk n == lkTest) then d
  else match (d.bt n).nextTx with
    | none => d
    | some o => if collided then d.bump (R.BTn_CNT_COLL n) else d.btSend n o

/-- Queue the request of a link; it takes its own place (R494). -/
def Dev.btEnqueue (d : Dev) (n pReq pMin : Nat) : Dev :=
  let k := d.batten.arrivals
  let d := d.modBt n fun l => { l with queued := some (pReq, pMin, k) }
  { d with batten := { d.batten with arrivals := k + 1 } }

/-- P_GNT and CID of an ANSWER that grants nothing: the spec does not give them. -/
def noGrant (n code : Nat) : Word := BitVec.ofNat 32 (Config.free .answerObject [n, code] % 2 ^ 24)

/-- The source judges a REQUEST (R494). -/
def Dev.btJudge (d : Dev) (n : Nat) (q : BtPacket) : Dev :=
  let obj := q.objs.getD 0 0
  let pReq := fieldOf obj 0 16
  let pMin := fieldOf obj 16 16
  let c := d.contract n
  let d := (d.put (R.BTn_REQUEST_P_REQ n) pReq).put (R.BTn_REQUEST_P_MIN n) pMin
  let d := d.modBt n fun l => { l with requested := true, tx := l.tx.filter fun o => o.kind != .announce }
  let wait (d : Dev) : Dev := (d.btEnqueue n pReq pMin).btRespond n q .response btAnswer Code.wait.val
    [noGrant n Code.wait.val]
  let refuse (d : Dev) (k : Code) : Dev := d.btRespond n q .response btAnswer k.val [noGrant n k.val]
  let d :=
    if pReq ≤ c then
      let d := d.modBt n fun l => { l with queued := none }
      if pReq = c then d.btRespond n q .response btAnswer 0 [grantObj c (d.get (R.BTn_CONTRACT_CID n))]
      else
        let (cid, d) := d.newCid
        -- a reduction to less than P_REQ goes on, with its OFFER
        let d := d.modBt n fun l =>
          let met := l.reduceTo.all fun r => decide (pReq ≤ r)
          { l.withdraw (if met then [.offerDown, .offerUp] else [.offerUp]) with
            reduceTo := if met then none else l.reduceTo
            offered := none }
        ((d.putInForce n pReq cid).btRespond n q .response btAnswer 0 [grantObj pReq cid]).btServe
    else if d.mode == .drain then refuse d .mode
    else if d.get R.BT_CFG_BR_MAX < pMin then refuse d .budget
    else if !d.on R.COORD_ALLOT_HELD then wait d
    else if d.mode == .ride then wait d
    else if d.renegotiating then wait d
    else match d.btFits n pReq pMin with
      | some g =>
        let (cid, d) := d.newCid
        let d := d.modBt n fun l => { l with promised := some g, queued := none }
        d.btRespond n q .grant btAnswer 0 [grantObj g cid]
      | none => wait d
  (d.btShow n).btSums

/-! ## Detection (R483-R485, R490, R491) -/

/-- The class of a voltage in mV (R483). -/
def sigClassOf (mv : Nat) : Nat :=
  if 2600 < mv then 1
  else if mv < 15 then 2
  else if 25 ≤ mv ∧ mv ≤ 60 then 3
  else if 150 ≤ mv ∧ mv ≤ 260 then 4
  else if 600 ≤ mv ∧ mv ≤ 1000 then 5
  else if 1500 ≤ mv ∧ mv ≤ 2300 then 6
  else 7

/-- A link at the start of an exchange: nothing queued, nothing outstanding. -/
def BtLink.fresh (l : BtLink) : BtLink :=
  { BtLink.rest with nextId := l.nextId, lastStable := l.lastStable, sent := l.sent }

/-- A command whose exchange is in progress ends with it (R513). -/
def Dev.btEnds (d : Dev) (n : Nat) : Dev :=
  d.when (d.get (R.BTn_CMD_RES_CMD n) != 0) fun d => d.set1 (R.BTn_CMD_RES_DONE n)

/-- The link goes to a state without exchange: packet abandoned, contract dissolved and recorded, no packet (R491, R499). -/
def Dev.btDrop (d : Dev) (n st : Nat) : Dev :=
  let d := d.when (d.btSource && d.contract n != 0) fun d => d.exitRecord n
  let d := (((d.btEnds n).noContract n).modBt n BtLink.fresh).put (R.BTn_STATE_LINK n) st
  let d := (d.clr (R.BTn_STATE_SIG n)).clr (R.BTn_STATE_DHOST n)
  ((d.btShow n).btServe).btSums

/-- Seat loss, mode change or detach takes the link to DETECT (R491). -/
def Dev.btToDetect (d : Dev) (n : Nat) : Dev :=
  if d.btSource && (d.lk n == lkLinked || d.lk n == lkContract || d.lk n == lkTest) then d.btDrop n lkDetect else d

/-- BRn_SEAT is low: the stable count restarts (R484), and an active link goes to DETECT (R491). -/
def Dev.btSeatLow (d : Dev) (n : Nat) : Dev :=
  let d := if d.lk n == lkLinked || d.lk n == lkContract then d.btToDetect n else d
  d.modBt n fun l => { l with sigCount := 0, stable := 0 }

/-- The mode enters STANDBY or SAFE (R491). -/
def Dev.btRest (d : Dev) : Dev := d.each (List.range 8) Dev.btToDetect

/-- A tray in SAFE dissolves its contract (R503). -/
def Dev.sinkSafe (d : Dev) : Dev :=
  if d.isRole .tray && d.mode == .safe && d.lk 0 == skContract && !(d.bt 0).has .dissolve then d.btReq 0 .dissolve btDissolve []
  else d

/-- The level conditions of R490 and R491: IDLE by USE and mode; LINKED once TRAY is stable in RAMP, RUN or RIDE. At a tray: DOWN by
mode, and no contract in SAFE (R502, R503). -/
def Dev.btLevels (d : Dev) : Dev :=
  if d.btSource then
    d.each (List.range 8) fun d n =>
      let live := d.on (R.BRn_CFG_USE n) && d.mode.afterBoot
      if !live then (if d.lk n == lkIdle then d else d.btDrop n lkIdle)
      else
        let d := if d.lk n == lkIdle then d.put (R.BTn_STATE_LINK n) lkDetect else d
        if d.lk n == lkDetect && (d.bt n).stable == 4 && (d.mode == .ramp || d.mode == .run || d.mode == .ride) then
          let d := (d.modBt n BtLink.fresh).put (R.BTn_STATE_LINK n) lkLinked
          ((d.clr (R.BTn_STATE_SIG n)).set1 (R.BTn_STATE_DHOST n)).sendSrcCap n
        else d
  else if d.isRole .tray && !d.mode.afterBoot && d.lk 0 != skDown then d.btDrop 0 skDown
  else d.sinkSafe

/-- A measurement of the signature voltage (R483, R484); attach detection is stopped in QUIET (R535). -/
def Dev.btSignature (d : Dev) (n mv : Nat) : Dev :=
  if !d.btSource || d.lk n != lkDetect || d.sup.stopped then d
  else
    let c := sigClassOf mv
    let d := (d.put (R.BTn_SIGV_MV n) (min mv 4095)).put (R.BTn_STATE_SIG n) c
    if !d.on (R.BRn_STATE_SEATED n) then d.modBt n fun l => { l with sigClass := c, sigCount := 0, stable := 0 }
    else
      let l := d.bt n
      let k := if l.sigClass = c then min 20 (l.sigCount + 1) else 1
      let isNew := k = 20 ∧ l.stable ≠ c
      let d := d.modBt n fun l => { l with
        sigClass := c
        sigCount := k
        stable := if k = 20 then c else 0
        lastStable := if k = 20 then c else l.lastStable }
      let d := d.when (decide isNew && l.lastStable != c && c == 2) fun d => d.btEvent n bkSigShort
      let d := d.when (decide isNew && l.lastStable != c && c == 7) fun d => d.btEvent n bkSigInvalid
      d.btLevels

/-- tCAP, or 1,000 ms after NO_SINK, has passed (R492). -/
def Dev.srcCapRepeat (d : Dev) (n : Nat) : Dev :=
  if d.btSource && d.lk n == lkLinked && !(d.bt n).requested then d.sendSrcCap n else d

/-- tCAP_TMO has passed without a REQUEST (R492). -/
def Dev.btNoSink (d : Dev) (n : Nat) : Dev :=
  if d.btSource && d.lk n == lkLinked && !(d.bt n).requested && !(d.bt n).noSink then
    (d.btEvent n bkNoSink).modBt n fun l => { l with noSink := true }
  else d

/-! ## The sink (R502-R504) -/

/-- REQUEST with the given values; `cap` when it answers a SRC_CAP, else by command. One of its kind that is not sent yet gives
way. -/
def Dev.sinkRequest (d : Dev) (pReq pMin : Nat) (cap : Bool) : Dev :=
  let k : BtKind := if cap then .capRequest else .request
  (d.modBt 0 fun l => { l with tx := l.unsent k }).btReq 0 k btRequest [BitVec.ofNat 32 (pReq + pMin * 2 ^ 16)] !cap

/-- tWAITQ, 1,000 ms, in CLK200 cycles. -/
def tWaitQ : Nat := 200000000

/-- A SRC_CAP reaches the sink (R503). -/
def Dev.sinkCap (d : Dev) (q : BtPacket) : Dev :=
  let obj := q.objs.getD 0 0
  let d := d.put (R.BTn_PEER_BR_MAX 0) (fieldOf obj 0 16) |>.put (R.BTn_PEER_P_PRE 0) (fieldOf obj 16 8)
    |>.put (R.BTn_PEER_SWAP_EN 0) (fieldOf obj 27 1)
  let safe := d.mode == .safe
  let pReq := if safe then 0 else d.get R.BT_SINK_REQ_P_REQ
  let pMin := if safe then 0 else d.get R.BT_SINK_REQ_P_MIN
  let held := match (d.bt 0).holdOff with
    | some (a, b, t) => a == pReq && b == pMin && decide (d.cycles < t + tWaitQ)
    | none => false
  if held then d else d.sinkRequest pReq pMin true

/-- A value reaches the sink by ANSWER or OFFER (R496, R502): a raised one awaits READY. -/
def Dev.sinkValue (d : Dev) (obj : Word) : Dev :=
  let v := fieldOf obj 0 16
  let cid := fieldOf obj 16 8
  if v ≤ d.contract 0 then (d.setContract 0 v cid).modBt 0 fun l => { l with granted := none }
  else d.modBt 0 fun l => { l with granted := some (v, cid) }

/-- The sink's contract is dissolved without an exchange (R502). -/
def Dev.sinkDissolved (d : Dev) : Dev := (d.noContract 0).modBt 0 fun l => { l with granted := none }

/-- tLOST without a packet (R502). -/
def Dev.contractLost (d : Dev) : Dev := if d.isRole .tray && d.lk 0 == skContract then d.sinkDissolved else d

/-- The line is idle above 2.0 V for tLINE (R502, R505). -/
def Dev.lineUp (d : Dev) : Dev :=
  if d.isRole .tray && d.mode.afterBoot && d.lk 0 == skDown then
    ((d.modBt 0 BtLink.fresh).put (R.BTn_STATE_LINK 0) skUp).clr (R.BTn_STATE_DHOST 0)
  else d

/-- The line is below 0.8 V for tLINE (R502). -/
def Dev.lineDown (d : Dev) : Dev :=
  if d.isRole .tray && (d.lk 0 == skUp || d.lk 0 == skContract) then d.btDrop 0 skDown else d

/-! ## Answers and failures (R487, R500, R507) -/

/-- An exchange ends, `mine` that of the last command (BTn_CMD_RES), with the answer's code where one came. -/
def Dev.btCmdEnd (d : Dev) (n : Nat) (mine : Bool) (code : Option Nat) : Dev :=
  if !mine then d
  else
    let d := match code with
      | some v => d.put (R.BTn_CMD_RES_CODE n) v
      | none => d
    d.set1 (R.BTn_CMD_RES_DONE n)

/-- The outstanding request is answered by packet `p`; none where `p` answers nothing. -/
def Dev.btAnswered (d : Dev) (n : Nat) (p : BtPacket) (tys : List Nat) : Option (BtWait × Dev) :=
  match (d.bt n).out with
  | none => none
  | some w =>
    if w.packet.msgid == p.msgid && tys.contains w.packet.ty then
      some (w, (d.modBt n fun l => { l with out := none, tx := l.tx.filter fun o => o.packet != w.packet }).btShow n)
    else none

/-- An ACK at either end (R497, R498, R507). -/
def Dev.btAcked (d : Dev) (n : Nat) (p : BtPacket) : Dev :=
  match d.btAnswered n p [btOffer, btReady, btDissolve, btSwap, btPing] with
  | none => d
  | some (w, d) =>
    let obj := w.packet.objs.getD 0 0
    let v := fieldOf obj 0 16
    let cid := fieldOf obj 16 8
    let ok := p.code == 0
    let d := match w.kind with
      | .offerUp =>
        -- a later request that took the place of the one offered to stays queued
        if ok then ((d.modBt n fun (l : BtLink) => { l with
          queued := if l.place == l.offered then none else l.queued
          offered := none }).putInForce n v cid).btReduce
        else d.modBt n fun l => { l with promised := none, offered := none }
      | .offerDown =>
        if !ok then d.reduceFails n false
        else
          let d := d.modBt n fun l => { l with
            reduceTo := match l.reduceTo with | some r => if v ≤ r then none else some r | none => none }
          (d.putInForce n v cid).btServe
      | .swap => if ok then d.btRoles n else d
      | _ => d
    ((d.btCmdEnd n w.mine (some p.code)).btShow n).btSums

/-- An ANSWER at the sink (R494, R502, R503). -/
def Dev.btAnsweredRequest (d : Dev) (p : BtPacket) : Dev :=
  match d.btAnswered 0 p [btRequest] with
  | none => d
  | some (w, d) =>
    let req := w.packet.objs.getD 0 0
    let d :=
      if p.code = 0 then d.sinkValue (p.objs.getD 0 0)
      else if p.code = Code.wait.val && w.kind == .capRequest then
        d.modBt 0 fun l => { l with holdOff := some (fieldOf req 0 16, fieldOf req 16 16, d.cycles) }
      else d
    d.btCmdEnd 0 w.mine (some p.code)

/-- A DATA answer (R505). -/
def Dev.btDataIn (d : Dev) (n : Nat) (p : BtPacket) : Dev :=
  match d.btAnswered n p [btGet] with
  | none => d
  | some (_, d) => d.each (List.range 4) fun d k => d.setWord (A.BTn_RXOBJk n k) (p.objs.getD k 0)

/-- The outstanding request has failed (R487, R493, R498, R500). -/
def Dev.btFailed (d : Dev) (n : Nat) (w : BtWait) : Dev :=
  let d := d.modBt n fun l => { l with out := none }
  let d := match w.kind with
    | .ping => (d.btEvent n bkLinkLost).btDissolveAt n true
    | .offerDown => d.reduceFails n true
    | .offerUp => (d.btEvent n bkNoResponse).modBt n fun l => { l with promised := none, offered := none }
    | .dissolve => (d.btEvent n bkNoResponse).modBt n fun l => { l with requested := l.requested && !d.btSource }
    | _ => d.btEvent n bkNoResponse
  ((d.btCmdEnd n w.mine none).btShow n).btSums

/-- tRETRY, or 25 ms after an OFFER, without a response (R487). -/
def Dev.btRetry (d : Dev) (n : Nat) : Dev :=
  if !d.btActive n then d
  else match (d.bt n).out with
    | none => d
    | some w =>
      if (d.bt n).tx.any fun o => o.packet == w.packet then d
      else if w.resends < 2 then
        (d.modBt n fun l => { l with
          out := some { w with resends := w.resends + 1 }
          tx := ⟨w.packet, w.kind, w.mine⟩ :: l.tx }).bump (R.BTn_CNT_RESEND n)
      else d.btFailed n w

/-! ## Requests received -/

/-- A packet of type `ty` reaches an active link: a repeated request gets its response again (R487); a new one acts. While Weevil
does not run, a request gets no response (R510). -/
def Dev.btOn (d : Dev) (n : Nat) (f : BtFrame) (ty : Nat) (act : Dev → BtPacket → Dev) : Dev :=
  if !d.btActive n then d
  else match d.btReceive n f with
    | (d, none) => d
    | (d, some p) =>
      if p.ty != ty || (!p.resp && ty != btSrcCap && !d.weevilOn) then d
      else match p.resp, (d.bt n).served with
        | false, some (id, r) =>
          if id == p.msgid && ty != btSrcCap then d.modBt n fun l => { l with tx := l.tx ++ [⟨r, .again, false⟩] } else act d p
        | _, _ => act d p

/-- OFFER at the sink (R496, R498). -/
def Dev.sinkOffer (d : Dev) (q : BtPacket) : Dev := (d.sinkValue (q.objs.getD 0 0)).btAckWith 0 q .accepted

/-- READY at the sink (R496, R502). -/
def Dev.sinkReady (d : Dev) (q : BtPacket) : Dev :=
  let obj := q.objs.getD 0 0
  let d := (d.setContract 0 (fieldOf obj 0 16) (fieldOf obj 16 8)).modBt 0 fun l => { l with granted := none }
  d.btAckWith 0 q .accepted

/-- DISSOLVE at either end (R499, R511). -/
def Dev.btDissolved (d : Dev) (n : Nat) (q : BtPacket) : Dev :=
  let d := d.btAckWith n q .accepted
  if d.btSource then d.btDissolveAt n false
  else
    let mine := (d.bt n).tx.any fun o => o.kind == .dissolve && o.mine
    let d := d.modBt n fun l => { l with tx := l.tx.filter fun o => o.kind != .dissolve }
    (d.btCmdEnd n mine none).sinkDissolved.btShow n

/-- SWAP at either end (R507). -/
def Dev.btSwapAsked (d : Dev) (n : Nat) (q : BtPacket) : Dev :=
  let l := d.bt n
  let busy : Bool := match l.out with
    | some w => w.kind == .offerUp || w.kind == .offerDown || w.kind == .request || w.kind == .capRequest || w.kind == .ready
    | none => false
  if !d.on R.BT_CFG_SWAP_EN then d.btAckWith n q .mode
  else if busy then d.btAckWith n q .wait
  else if l.has .swap && d.btSource then d.btAckWith n q .wait
  else
    let d := if l.has .swap then (d.modBt n fun l => l.withdraw [.swap]).btCmdEnd n (l.owns .swap) none else d
    d.btRespond n q .swapAck btAck 0 []

/-- GET at the data device (R505, R506). -/
def Dev.btGetAsked (d : Dev) (n : Nat) (q : BtPacket) : Dev :=
  let objs := if d.btSource then [d.word (A.BRn_STATE n), d.word (A.BRn_MEAS_V n), d.word (A.BRn_MEAS_I n),
      d.word A.BR_SCALE]
    else (List.range 4).map fun k => d.word (A.BT_TOBJk k)
  d.btRespond n q .response btData 0 objs

/-- tKEEP without an exchange (R493). -/
def Dev.btPingSend (d : Dev) (n : Nat) : Dev :=
  if d.btSource && d.btActive n && !(d.bt n).has .ping then d.btReq n .ping btPing [] else d

/-- The period of the data host's GET (R505). -/
def Dev.btGetSend (d : Dev) (n : Nat) : Dev :=
  if d.btActive n && d.on (R.BTn_STATE_DHOST n) && !(d.bt n).has .get then d.btReq n .get btGet [] else d

/-! ## Commands (BTn_CMD, R499, R503, R507, R508) -/

def Dev.btRes (d : Dev) (n cmd : Nat) (c : Code) (done : Bool) : Dev :=
  (((d.putCode (R.BTn_CMD_RES_CODE n) c).put (R.BTn_CMD_RES_CMD n) cmd).putB (R.BTn_CMD_RES_DONE n) done)

/-- A command that starts an exchange. What an earlier command started is not its own. -/
def Dev.btCommand (d : Dev) (n cmd : Nat) (ok : Bool) (act : Dev → Dev) : Dev :=
  let d := (d.btRes n cmd (if ok then .accepted else .mode) !ok).modBt n fun l => l.own none
  if ok then act d else d

/-- DISSOLVE: the source counts the contract as 0 at once. -/
def Dev.btCmdDissolve (d : Dev) (n : Nat) : Dev :=
  d.btCommand n 1 (d.btActive n) fun d =>
    if d.btSource then d.btDissolveAt n true true
    else if (d.bt n).has .dissolve then d.modBt n fun l => l.own (some .dissolve)
    else d.btReq n .dissolve btDissolve [] true

/-- SWAP: with SWAP_EN = 1 in the last SRC_CAP. -/
def Dev.btCmdSwap (d : Dev) (n : Nat) : Dev :=
  d.btCommand n 2 (d.btActive n && d.on (R.BTn_PEER_SWAP_EN n)) fun d =>
    if (d.bt n).has .swap then d.modBt n fun l => l.own (some .swap) else d.btReq n .swap btSwap [] true

/-- TEST (R508). -/
def Dev.btCmdTest (d : Dev) (n : Nat) : Dev :=
  let ok := d.btSource && d.lk n == lkDetect && (d.bt n).stable == 5 && d.mode.afterBoot
  d.btCommand n 3 ok fun d =>
    let d := (d.modBt n BtLink.fresh).put (R.BTn_STATE_LINK n) lkTest
    (d.clr (R.BTn_STATE_SIG n)).btReq n .loop btLoop (List.replicate 7 0x55555555)

/-- REQUEST (R503). -/
def Dev.btCmdRequest (d : Dev) (n : Nat) : Dev :=
  d.btCommand n 4 (d.isRole .tray && d.btActive n) fun d =>
    d.sinkRequest (d.get R.BT_SINK_REQ_P_REQ) (d.get R.BT_SINK_REQ_P_MIN) false

/-- The loopback test ends (R508): the idle level in mV, whether every read-back sample agreed, the packet received. -/
def Dev.btTestDone (d : Dev) (n mv : Nat) (samples : Bool) (f : BtFrame) : Dev :=
  if !d.btSource || d.lk n != lkTest then d
  else
    let crcOk := f.crc == btCrc f.header f.objs
    let formed := btFormed f && fieldOf f.header 0 4 == btLoop
    let d := if !crcOk then d.bump (R.BTn_CNT_CRC_ERR n) else if !formed then d.bump (R.BTn_CNT_BAD n) else d
    let pass := samples && crcOk && formed && f.objs == List.replicate 7 0x55555555
      && decide (2400 ≤ mv) && decide (mv ≤ 3400)
    let d := (d.put R.BT_TEST_RES_HIGH (min mv 4095)).putB R.BT_TEST_RES_PASS pass |>.put R.BT_TEST_RES_LINK n
    let d := if pass then d else d.btEvent n bkTestFail
    (d.set1 (R.BTn_CMD_RES_DONE n)).btToDetect n

/-- Weevil runs in the DIST and TRAY roles from step 7 of R617 on (R509), while its clocks are not stopped (R535, R537) and it does
not restart (R510). When it comes back it does what has become due meanwhile. -/
def Dev.showWeevil (d : Dev) : Dev :=
  let was := d.weevilOn
  let run := (d.isRole .dist || d.isRole .tray) && d.boot.running.isSome && !d.sup.stopped && d.batten.restart.isNone
  (d.putB R.BT_WEEVIL_RUN run).when (run && !was) fun d => (d.each (List.range 8) Dev.btReadyDue).btShare

/-- Weevil's watchdog expires (R510): it is restarted within 1 ms, 200,000 cycles, of which the spec does not say the length. -/
def Dev.weevilRestart (d : Dev) : Dev :=
  if !d.weevilOn then d
  else
    let k := Config.free .weevilRestart [d.cycles] % 200001
    let d := { d with batten := { d.batten with restart := some (d.cycles + k), extended := d.batten.extended + k } }
    (d.showWeevil.bump R.BT_WEEVIL_RESTARTS).report 11

/-- A restart of Weevil ends. -/
def Dev.weevilBack (d : Dev) : Dev :=
  match d.batten.restart with
  | some t => if t ≤ d.cycles then ({ d with batten := { d.batten with restart := none } }).showWeevil else d
  | none => d

end Sys2Proof.Machine
end

