-- ==== Sys2Proof/Machine/Pwm.lean ====
section
/-!
DEFINITION. Sys2Proof/Machine/Pwm.lean: the operations of the PWM array (spec/04_pwm_array.md): carriers, phases,
offsets, the words in effect, the edges and where they are placed, gates, truncation, the hold and the forced safe levels.
-/

namespace Sys2Proof.Machine

/-- One carrier period in the units of the carrier accumulator (R170). -/
def carUnits : Nat := 2 ^ 48

/-- The channels of the array (R163). -/
def Dev.chan (d : Dev) (n : Nat) : Chan :=
  d.pwm.chans.getD n .rest

def Dev.modChan (d : Dev) (n : Nat) (f : Chan → Chan) : Dev :=
  { d with pwm := { d.pwm with chans := updAt d.pwm.chans n f } }

/-- The phase set of channel `n` (R164, R165); none for SET = 15. -/
def Dev.setOf (d : Dev) (n : Nat) : Option Nat :=
  let s := d.get (R.PWMn_CFG_SET n)
  if s < 12 then some s else none

/-- The channels of the phase set of stage `s`, ascending. -/
def Dev.phaseSet (d : Dev) (s : Nat) : List Nat := idxs 32 fun n => d.get (R.PWMn_CFG_SET n) == s

/-- Channel `n` is the odd channel of a complementary pair (R185). -/
def Dev.isComp (d : Dev) (n : Nat) : Bool := n % 2 == 1 && d.on (R.PWMn_CFG_COMP n)

/-- DRIVEN of PWMn_STATUS: the channel is in a set whose stage is running (R263, R300), and does not stand at its safe
level. -/
def Dev.driven (d : Dev) (n : Nat) : Bool :=
  match d.setOf n with
  | some s => d.on (R.STAGEs_LOOP_STATUS_RUN s) && !(d.chan n).atSafe
  | none => false

/-- Carrier ratio of synthesiser `s` (R168). -/
def Dev.ratio (d : Dev) (s : Nat) : Nat := d.get (R.CARs_CFG_K s)

/-- Bits [47:0] of the rack-angle accumulator (R171). -/
def Dev.reedFrac (d : Dev) : Nat := d.ridge.acc.toNat % 2 ^ 48

/-- The rack rate word (R118). -/
def Dev.rate (d : Dev) : Nat := d.get R.RIDGE_RATE_RATE

/-- The increment of a carrier accumulator per CLK200 cycle (R170). -/
def Dev.carInc (d : Dev) (s : Nat) : Nat := d.ratio s * d.rate

/-- Load a carrier accumulator with K × A (R171). -/
def Dev.loadCarrier (d : Dev) (s : Nat) : Dev :=
  { d with pwm := { d.pwm with cars := updAt d.pwm.cars s fun _ => ⟨BitVec.ofNat 48 (d.ratio s * d.reedFrac)⟩ } }

/-- Bring the run bit of every synthesiser in line with R173: K ≠ 0 and SRC ≠ NONE. A synthesiser that starts is loaded
(R171). -/
def Dev.runCarriers (d : Dev) : Dev :=
  d.each (List.range 12) fun d s =>
    let run := d.ratio s != 0 && d.get R.RIDGE_STATUS_SRC != 0
    if run && !d.on (R.CARs_STATUS_RUN s) then (d.loadCarrier s).set1 (R.CARs_STATUS_RUN s)
    else d.putB (R.CARs_STATUS_RUN s) run

/-- Load every running carrier, as the cycle of a rack-angle step does (R171). -/
def Dev.reloadCarriers (d : Dev) : Dev :=
  d.each (idxs 12 fun s => d.on (R.CARs_STATUS_RUN s)) fun d s => d.loadCarrier s

/-- The effective offset that the registers give channel `n` (R174). -/
def Dev.ofsEff (d : Dev) (n : Nat) : Word := d.word A.PWM_SHELF_OFS + d.word (A.PWMn_OFS n)

/-- Carrier phase P_n of channel `n` (R175), from 0 to 2^48 - 1. -/
def Dev.phase (d : Dev) (n : Nat) : Nat :=
  match d.setOf n with
  | none => 0
  | some s =>
    let c := d.chan n
    let sh : Int := if d.on (R.PWMn_CFG_SHIFT_EN n) then c.shift else 0
    (((d.ratio s : Int) * ((d.reedFrac : Int) - (c.ofsNow.toNat : Int) * 2 ^ 16) - sh * 2 ^ 24) % (carUnits : Nat)).toNat

/-- The on-edge and the off-edge of a duty word, in units of 2^-24 of a period (R178); TRAIL ends at 2^24, the carrier
zero of the next period. A half unit of CENTER goes one way or the other. -/
def edges (align duty : Nat) : Nat × Nat :=
  match align with
  | 0 => (0, duty)
  | 1 => ((Config.round .centerEdge ((2 ^ 24 - duty : Nat) : Int) 2).toNat,
      (Config.round .centerEdge ((2 ^ 24 + duty : Nat) : Int) 2).toNat)
  | _ => (2 ^ 24 - duty, 2 ^ 24)

/-! ## Edges (R178 to R180, R182, R185, R187) -/

/-- A position of R178 as a carrier phase. -/
def posPhase (x : Nat) : Nat := x * 2 ^ 24

/-- The waveform between two carrier zeros: its level from the carrier zero on, and its on-edge and off-edge after it. The
on-edge of LEAD and the off-edge of TRAIL lie at a carrier zero (R178); words at the ends of the range have no edge (R179);
a test pulse has its on-edge at the carrier zero (R307). -/
def Dev.periodPlan (d : Dev) (n : Nat) : Bool × Option Nat × Option Nat :=
  let c := d.chan n
  let duty := d.get (R.PWMn_DUTY_DUTY n)
  let al := d.get (R.PWMn_CFG_ALIGN n)
  let e := edges al duty
  if c.pulse ≠ 0 then (true, none, some (c.pulse * (match d.setOf n with | some s => d.carInc s | none => 0)))
  else if duty = 0 then (false, none, none)
  else if 0xFFFFC0 ≤ duty then (true, none, none)
  else match al with
    | 0 => (true, none, some (posPhase e.2))
    | 1 => (false, some (posPhase e.1), some (posPhase e.2))
    | _ => (false, some (posPhase e.1), none)

/-- Now, in steps of 78.125 ps: 64 to a CLK200 cycle (R180, R181). -/
def Dev.step64 (d : Dev) : Int := 64 * d.cycles

/-- The step nearest to the instant at which a phase that is at `p` now, and gains `inc` in a cycle, comes to `x` (R180). An
instant midway between two steps takes the later one (log entry 287). -/
def Dev.instantOf (d : Dev) (p inc x : Nat) : Int :=
  d.step64 + (if inc = 0 then 0 else (2 * 64 * ((x : Int) - p) + inc) / (2 * inc))

/-- Channel `n` leads a complementary pair (R185). -/
def Dev.leadsPair (d : Dev) (n : Nat) : Bool := n % 2 == 0 && d.isComp (n + 1)

/-- An instant and a dead time of `dt` steps after it have passed by `now`. -/
def passedBy (t : Option Int) (dt : Nat) (now : Int) : Bool :=
  match t with
  | some t => decide (t + dt ≤ now)
  | none => false

/-- Channel `n` gives its edges to its output: it is driven and gated on (R178, R188), or gives a test pulse (R307). -/
def Dev.givesEdges (d : Dev) (n : Nat) : Bool :=
  (d.driven n && !d.on (R.PWMn_STATUS_GATED n)) || (d.chan n).pulse != 0

/-- w of channel `n` takes level `b` at instant `t`. SUPPRESS is set where the interval that ends so is no longer than the
dead time of the output it would have turned on (R187); with the falling edge ends a truncation of the odd output. -/
def Dev.waveTo (d : Dev) (n : Nat) (b : Bool) (t : Int) : Dev :=
  let w := (d.chan n).wave
  if w.level = b then d
  else
    let short := match (if b then w.fall else w.rise) with
      | some from_ => decide (t ≤ from_ + d.get (if b then R.PWMn_DT_DT_B n else R.PWMn_DT_DT_A n))
      | none => false
    let d := d.modChan n fun c => { c with wave :=
      if b then { c.wave with level := true, rise := some t } else { c.wave with level := false, fall := some t } }
    let d := d.when (b && d.givesEdges n) fun d => d.modChan n fun c => { c with lastOn := some t }
    let d := d.when (!b && d.leadsPair n) fun d =>
      let on := d.givesEdges (n + 1)
      d.modChan (n + 1) fun c => { c with truncated := false, lastOn := if on then some t else c.lastOn }
    d.when (short && d.leadsPair n && d.driven n) fun d => d.set1 (R.PWMn_FLAGS_SUPPRESS n)

/-- A period of w begins: its level at the carrier zero, and the edges to come. -/
def Dev.newPeriod (d : Dev) (n : Nat) : Dev :=
  let inc := match d.setOf n with
    | some s => d.carInc s
    | none => 0
  let p := d.phase n
  let zero := if p ≤ 2 * inc then d.instantOf p inc 0 else d.step64
  let plan := d.periodPlan n
  let fresh := (d.chan n).wave.fall.isNone && (d.chan n).wave.rise.isNone
  let d := if fresh then d.modChan n fun c => { c with wave := { c.wave with fall := some zero } } else d
  let d := d.modChan n fun c => { c with again := 0, wave := { c.wave with
    on := plan.2.1, off := plan.2.2, onDone := plan.1, offDone := false, lateOn := false, lateOff := false } }
  d.waveTo n plan.1 zero

/-- The edges of w that fall into the present cycle, in their order, and those that are late, which fire in the next cycle at
tap 0 (R180, R182). -/
def Dev.waveEdges (d : Dev) (n inc : Nat) : Dev :=
  let p := d.phase n
  let due (x : Option Nat) : Bool := match x with
    | some x => decide (x < p + inc)
    | none => false
  let w := (d.chan n).wave
  let on := due w.on
  let d := if on then
      (d.waveTo n true (d.instantOf p inc (w.on.getD 0))).modChan n fun c =>
        { c with wave := { c.wave with on := none, onDone := true } }
    else d
  let d := if due w.off && (on || w.onDone) then
      (d.waveTo n false (d.instantOf p inc (w.off.getD 0))).modChan n fun c =>
        { c with wave := { c.wave with off := none, offDone := true } }
    else d
  let next := d.step64 + 64
  let d := if w.lateOn then d.waveTo n true next else d
  let d := if w.lateOff then d.waveTo n false next else d
  d.modChan n fun c => { c with wave := { c.wave with
    lateOn := false, lateOff := false, onDone := c.wave.onDone || w.lateOn, offDone := c.wave.offDone || w.lateOff } }

/-- One CLK200 cycle of channel `n`, before its phase advances: a carrier zero that no CARRIER_ZERO has served begins its
period all the same; the edges of the cycle fire; a wrap in the cycle is noted. -/
def Dev.waveTick (d : Dev) (n : Nat) : Dev :=
  match d.setOf n with
  | none => d
  | some s =>
    let inc := d.carInc s
    if !d.on (R.CARs_STATUS_RUN s) || (d.chan n).atSafe then d
    else
      let d := if (d.chan n).zeroDue && (d.chan n).again != 2 then d.newPeriod n else d
      let wrap := decide (carUnits ≤ d.phase n + inc)
      let d := if (d.chan n).again = 0 then d.waveEdges n inc else d
      d.modChan n fun c => { c with zeroDue := wrap, again := if c.zeroDue then 0 else c.again }

/-- The present output level of channel `n`, true for active, where no safe level governs (R196): gate, truncation, dead time,
edges. A tested channel gives its pulse alone (R307). -/
def Dev.chanActive (d : Dev) (n : Nat) : Bool :=
  let c := d.chan n
  if (d.setOf n).isNone || c.atSafe || d.on (R.PWMn_STATUS_GATED n) then false
  else if c.pulse ≠ 0 then c.wave.level
  else if d.isComp n then
    let base := d.chan (n - 1)
    !base.wave.level && !c.truncated && !base.idle && passedBy base.wave.fall (d.get (R.PWMn_DT_DT_B (n - 1))) d.step64
  else if d.leadsPair n then c.wave.level && passedBy c.wave.rise (d.get (R.PWMn_DT_DT_A n)) d.step64
  else c.wave.level

/-! ## New words (R182, R183) -/

/-- An edge under R182: where it has passed it stays so; ahead of the phase `p` it moves; at or behind it, it is late. -/
def retimeEdge (done : Bool) (x : Option Nat) (p : Int) : Option Nat × Bool :=
  if done then (none, false)
  else match x with
    | none => (none, false)
    | some x => if p < x then (some x, false) else (none, true)

/-- The edges to come get new positions at phase `p` (R182): `on` and `off` are those of the new word or shift, none for an edge
that it does not have. An off-edge comes only after an on-edge. Answers the waveform and whether an edge is late. -/
def Wave.retime (w : Wave) (on off : Option Nat) (p : Int) : Wave × Bool :=
  let a := retimeEdge w.onDone on p
  let b := if w.onDone || w.lateOn || on.isSome then retimeEdge w.offDone off p else (none, false)
  ({ w with on := a.1, off := b.1, lateOn := w.lateOn || a.2, lateOff := w.lateOff || b.2 }, a.2 || b.2)

/-- The positions that a word gives the edges of the period under way (R178, R179, R182). -/
def wordEdges (al duty : Nat) : Option Nat × Option Nat :=
  let e := edges al duty
  if duty = 0 then (none, some (posPhase e.2))
  else if 0xFFFFC0 ≤ duty then (some 0, none)
  else (some (posPhase e.1), if al = 0 ∨ al = 1 then some (posPhase e.2) else none)

/-- A duty word takes effect within the period of channel `n` (R182). -/
def Dev.dutyNow (d : Dev) (n duty : Nat) : Dev :=
  let d := (d.put (R.PWMn_DUTY_DUTY n) duty).modChan n fun c => { c with idle := false }
  if (d.chan n).atSafe || (d.chan n).zeroDue || (d.chan n).again != 0 then d
  else
    let e := wordEdges (d.get (R.PWMn_CFG_ALIGN n)) duty
    let r := (d.chan n).wave.retime e.1 e.2 (d.phase n)
    (d.modChan n fun c => { c with wave := r.1 }).when (r.2 && d.driven n) fun d => d.set1 (R.PWMn_FLAGS_LATE n)

/-- A shift takes effect within the period of channel `n` (R175, R182): the phase moves against its edges. A phase that moves on
over a carrier zero has wrapped; one that moves back behind the last one comes to it again, and its period runs on. CARs_SHIFT
shows the shift that has taken effect last on a channel of its set (log entry 288). -/
def Dev.shiftNow (d : Dev) (n : Nat) (shift : Int) : Dev :=
  let c := d.chan n
  let p : Int := (d.phase n : Int) - (shift - c.shift) * 2 ^ 24
  let d := d.modChan n fun c => { c with shift := shift, idle := false }
  let d := match d.setOf n with
    | some s => d.putS (R.CARs_SHIFT_SHIFT s) shift
    | none => d
  if c.atSafe || c.zeroDue || c.again != 0 then d
  else if p < 0 then d.modChan n fun c => { c with again := 2 }
  else
    let r := c.wave.retime c.wave.on c.wave.off p
    let d := d.modChan n fun c => { c with wave := r.1, zeroDue := decide (carUnits ≤ p) }
    d.when (r.2 && d.driven n) fun d => d.set1 (R.PWMn_FLAGS_LATE n)

/-- A duty word arrives at channel `n` (R182, R183). The hold discards it (R190), and so does the odd channel of a pair
(R185). -/
def Dev.dutyWord (d : Dev) (n duty : Nat) : Dev :=
  if d.on R.PWM_HOLD_HELD || d.isComp n then d
  else match d.get (R.PWMn_CFG_UPD n) with
    | 0 => d.dutyNow n duty
    | _ => d.modChan n fun c => { c with waitDuty := some duty }

/-- A shift word arrives for set `s` (R175, R182, R183): each SHIFT_EN channel takes it by its own UPD. In a set without such a
channel it has no edge to wait for. -/
def Dev.shiftWord (d : Dev) (s : Nat) (shift : Int) : Dev :=
  let l := (d.phaseSet s).filter fun n => d.on (R.PWMn_CFG_SHIFT_EN n) && !d.isComp n
  if d.on R.PWM_HOLD_HELD then d
  else if l.isEmpty then d.putS (R.CARs_SHIFT_SHIFT s) shift
  else d.each l fun d n =>
    if d.get (R.PWMn_CFG_UPD n) == 0 then d.shiftNow n shift else d.modChan n fun c => { c with waitShift := some shift }

/-- The transfer of the shadow register of channel `n` (R183). A hold discards what comes while it lasts; a word that waited
when it began stays in the shadow register and is transferred at the first carrier zero after the release (log entry 289). -/
def Dev.transfer (d : Dev) (n : Nat) : Dev :=
  let c := d.chan n
  if d.on R.PWM_HOLD_HELD then d
  else
    let d := d.modChan n fun c => { c with waitDuty := none, waitShift := none }
    let d := match c.waitDuty with
      | some duty => d.dutyNow n duty
      | none => d
    match c.waitShift with
    | some sh => d.shiftNow n sh
    | none => d

/-- What waits in the shadow registers is discarded (R354). -/
def Dev.dropWaiting (d : Dev) : Dev :=
  d.each (List.range 32) fun d n => d.modChan n fun c => { c with waitDuty := none, waitShift := none }

/-- One move of the offset of channel `n` at its carrier zero (R176): the shorter way around the period, by at most
1/64 of it. A hold pauses it (R190). -/
def Dev.slewOffset (d : Dev) (n : Nat) : Dev :=
  if !d.on (R.PWMn_STATUS_SLEWING n) || d.on R.PWM_HOLD_HELD then d
  else
    let k := match d.setOf n with
      | some s => d.ratio s
      | none => 0
    let eff := d.ofsEff n
    let now := (d.chan n).ofsNow
    let delta := toSigned 48 ((k * 2 ^ 16 * ((eff - now).toNat)) % carUnits)
    if k == 0 || decide (delta.natAbs ≤ 2 ^ 42) then
      (d.modChan n fun c => { c with ofsNow := eff }).clr (R.PWMn_STATUS_SLEWING n)
    else
      let step : Word := BitVec.ofNat 32 (2 ^ 26 / k)
      d.modChan n fun c => { c with ofsNow := if 0 < delta then now + step else now - step }

/-- An offset word has changed (R176): a driven channel starts to move, another takes its offset at once. -/
def Dev.offsetsChanged (d : Dev) : Dev :=
  d.each (List.range 32) fun d n =>
    if (d.chan n).ofsNow = d.ofsEff n then d.clr (R.PWMn_STATUS_SLEWING n)
    else if d.driven n then d.set1 (R.PWMn_STATUS_SLEWING n)
    else d.modChan n fun c => { c with ofsNow := d.ofsEff n }

/-- A change of gate that is due at the next carrier zero (R188). -/
def Dev.gate (d : Dev) (n : Nat) (on : Bool) : Dev := d.modChan n fun c => { c with waitGate := some on }

/-- The gate change of channel `n` takes effect (R188); with a channel that is gated off ends its test pulse. -/
def Dev.gateTake (d : Dev) (n : Nat) : Dev :=
  match (d.chan n).waitGate with
  | none => d
  | some on => (d.modChan n fun c => { c with waitGate := none, pulse := if on then c.pulse else 0 }).putB
      (R.PWMn_STATUS_GATED n) (!on)

/-- The instant from which BLANK of channel `n` counts: its last on-edge, which for the odd channel of a pair is the off-edge
of w (R185, R189). -/
def Dev.onEdge (d : Dev) (n : Nat) : Option Int :=
  if d.isComp n && (d.chan n).pulse == 0 then (d.chan (n - 1)).wave.fall else (d.chan n).wave.rise

/-- Truncation of channel `n` is due (R189): it is active, and BLANK has passed since its on-edge. -/
def Dev.truncates (d : Dev) (n : Nat) : Bool :=
  d.chanActive n && passedBy (d.onEdge n) (64 * d.get (R.PWMn_BLANK_BLANK n)) d.step64

/-- Truncation of channel `n` (R189): inactive until its next on-edge; w falls, and the complement turns on after DT_B. A duty
word without edges has its next on-edge at the carrier zero, from which BLANK then counts (log entry 290). -/
def Dev.truncate (d : Dev) (n : Nat) : Dev :=
  if !d.truncates n then d
  else
    let d := d.set1 (R.PWMn_FLAGS_TRUNC n)
    if d.isComp n && (d.chan n).pulse == 0 then d.modChan n fun c => { c with truncated := true } else d.waveTo n false d.step64

/-- Channel `n` goes to its safe level. -/
def Dev.restChan (d : Dev) (n : Nat) : Dev :=
  let d := d.modChan n fun c => { Chan.rest with ofsNow := d.ofsEff n, shift := c.shift, lastOn := c.lastOn }
  d.clr (R.PWMn_STATUS_SLEWING n)

/-- Every channel of set `s` goes to its safe level. -/
def Dev.restSet (d : Dev) (s : Nat) : Dev := d.each (d.phaseSet s) Dev.restChan

/-- STAGE_STOP forces every channel of set `s` (R194). -/
def Dev.forceSet (d : Dev) (s : Nat) : Dev := d.restSet s

/-- SAFE forces every channel (R194). -/
def Dev.forceAll (d : Dev) : Dev := d.each (List.range 32) Dev.restChan

/-- FORCED of PWMn_STATUS (R194, R300, R314): the channel stands at its safe level, for its stage in OFF, WAIT, FAULT or
LOCKOUT, or in SAFE. A channel of no set is forced in SAFE only (R165, R194). -/
def Dev.chanForced (d : Dev) (n : Nat) : Bool :=
  d.pwm.balls == .safeOrDriven && (d.chan n).atSafe && ((d.setOf n).isSome || d.mode == .safe)

/-- Stage `s` starts: its channels leave their safe levels at their next carrier zero (R195), gated off. -/
def Dev.releaseSet (d : Dev) (s : Nat) : Dev :=
  d.each (d.phaseSet s) fun d n =>
    if (d.chan n).atSafe then
      (d.modChan n fun c => { c with leaving := true, waitGate := none }).set1 (R.PWMn_STATUS_GATED n)
    else d.modChan n fun c => { c with toSafe := 0, waitGate := some false }

/-- Every channel of set `s` goes to its safe level at its `k`-th carrier zero from now (R301, R314). -/
def Dev.safeAt (d : Dev) (s k : Nat) : Dev :=
  d.each (d.phaseSet s) fun d n => d.modChan n fun c => { c with toSafe := if c.atSafe then 0 else k, leaving := false }

/-- A channel of set `s` has still to go to its safe level. -/
def Dev.goingSafe (d : Dev) (s : Nat) : Bool := (d.phaseSet s).any fun n => (d.chan n).toSafe != 0

/-- Gate every channel of set `s` on or off at its next carrier zero (R188). -/
def Dev.gateSet (d : Dev) (s : Nat) (on : Bool) : Dev := d.each (d.phaseSet s) fun d n => d.gate n on

/-- A channel whose stage has started leaves its safe level at its carrier zero (R195); in SAFE it stays. -/
def Dev.leaveForced (d : Dev) (n : Nat) : Dev :=
  if (d.chan n).leaving && (d.chan n).atSafe && d.mode != .safe then
    d.modChan n fun c => { c with leaving := false, atSafe := false, toSafe := 0, wave := .rest, idle := true }
  else d

/-- A channel on its way to its safe level is one carrier zero nearer to it, or there. -/
def Dev.nearSafe (d : Dev) (n : Nat) : Dev :=
  match (d.chan n).toSafe with
  | 0 => d
  | 1 => d.restChan n
  | k + 1 => d.modChan n fun c => { c with toSafe := k }

/-- What the carrier zero of channel `n` does inside the array (R176, R183, R188, R189, R195). A move of the offset or a shift
that takes the phase back behind the carrier zero lets the period begin when it comes there again; nothing more takes effect
at that second passage. -/
def Dev.carrierZeroChan (d : Dev) (n : Nat) : Dev :=
  match (d.chan n).again with
  | 0 =>
    let d := d.modChan n fun c => { c with zeroDue := true }
    let before := d.phase n
    let d := (d.slewOffset n).leaveForced n
    let d := ((d.nearSafe n).gateTake n).transfer n
    let back := decide (before < 2 ^ 47) && decide (2 ^ 47 ≤ d.phase n)
    let d := d.modChan n fun c => { c with zeroDue := false, again := if back then 1 else 0 }
    if back || (d.chan n).atSafe then d else d.newPeriod n
  | 1 => (d.newPeriod n).modChan n fun c => { c with zeroDue := false }
  | _ => d.modChan n fun c => { c with zeroDue := false, again := 0 }

/-- The hold of R190 begins. -/
def Dev.hold (d : Dev) : Dev :=
  if d.on R.PWM_HOLD_HELD then d
  else { (d.set1 R.PWM_HOLD_HELD).bump R.PWM_HOLD_COUNT with pwm := { d.pwm with holdTimedOut := false } }

/-- The hold is released (R191). -/
def Dev.unhold (d : Dev) : Dev := d.clr R.PWM_HOLD_HELD

/-- The carrier accumulator that R171 requires of synthesiser `s`. -/
def Dev.carExpected (d : Dev) (s : Nat) : BitVec 48 := BitVec.ofNat 48 (d.ratio s * d.reedFrac)

/-- One CLK200 cycle of the carriers and of the half-period transfers (R170, R183), before the rack angle adds its
rate. -/
def Dev.tickCarriers (d : Dev) : Dev :=
  let cars := d.pwm.cars.mapIdx fun s c =>
    if d.on (R.CARs_STATUS_RUN s) then ⟨c.acc + BitVec.ofNat 48 (d.carInc s)⟩ else c
  { d with pwm := { d.pwm with cars := cars } }

/-- Channels with UPD = HALF whose phase passes 2^47 in this cycle take their waiting words (R183). -/
def Dev.tickHalf (before after : Dev) : Dev :=
  after.each (idxs 32 fun n => after.get (R.PWMn_CFG_UPD n) == 2
    && decide (before.phase n < 2 ^ 47) && decide (2 ^ 47 ≤ after.phase n)) fun d n => d.transfer n

/-- The phase of channel `n` has come to `x` with this cycle. -/
def Dev.cameTo (d : Dev) (n x : Nat) : Bool :=
  match d.setOf n with
  | some s => d.on (R.CARs_STATUS_RUN s) && decide ((d.phase n + carUnits - x % carUnits) % carUnits < d.carInc s)
  | none => false

/-- The effective period register (CARs_PERIOD): 2^54 / (K × RATE) rounded down, 0 when off. -/
def Dev.carPeriod (d : Dev) (s : Nat) : Nat :=
  if d.on (R.CARs_STATUS_RUN s) && d.carInc s != 0 then 2 ^ 54 / d.carInc s else 0

end Sys2Proof.Machine
end

