-- ==== Sys2Proof/Machine/Trig.lean ====
section
/-!
DEFINITION. Sys2Proof/Machine/Trig.lean: sine, cosine and the angle of a point, as the grid PLL needs them (R129 to R133
of spec/03_ridge_time_base.md). Angles are in 2^-32 reed, one turn being 2^48; sines are in units of 2^-40. The spec gives
no precision for them: what is formed from them is rounded one way or the other, by the open points of Config.
-/

namespace Sys2Proof.Machine

/-- One quarter turn in 2^-32 reed. -/
def quarterTurn : Nat := 2 ^ 46

/-- π in units of 2^-62. -/
def piQ62 : Int := 14488038916154245684

/-- The series of the sine from the term of order `2k + 1` on, `n` terms: `t` is that term without its sign, `x2` the square
of the angle, in units of 2^-40. -/
def sineTerms (x2 : Int) : Nat → Nat → Int → Int
  | 0, _, _ => 0
  | n + 1, k, t => t - sineTerms x2 n (k + 1) (t * x2 / 2 ^ 40 / (((2 * k + 2) * (2 * k + 3) : Nat) : Int))

/-- sin of an angle of the first quarter turn: its error is below 2^-34. -/
def sinQuarter (x : Nat) : Int :=
  let r : Int := (x : Int) * piQ62 / 2 ^ 69
  sineTerms (r * r / 2 ^ 40) 9 0 r

/-- sin of an angle. -/
def sinTurn (x : Nat) : Int :=
  let r := x % (4 * quarterTurn)
  let h := r % (2 * quarterTurn)
  let v := sinQuarter (if h ≤ quarterTurn then h else 2 * quarterTurn - h)
  if r ≤ 2 * quarterTurn then v else -v

/-- cos of an angle. -/
def cosTurn (x : Nat) : Int := sinTurn (x + quarterTurn)

/-- The whole reeds of the angle of the first quarter whose tangent is `y / x`, found bit by bit. -/
def quarterAngle (y x : Nat) : Nat → Nat → Nat
  | 0, r => r
  | n + 1, r =>
    let q := (r + 2 ^ n) * 2 ^ 32
    quarterAngle y x n (if (x : Int) * sinTurn q ≤ (y : Int) * cosTurn q then r + 2 ^ n else r)

/-- atan2(y, x) in reeds, 0 to 65,535, rounded one way or the other; of no point at all it is open. -/
def angleOf (site : OpenSite) (y x : Int) : Nat :=
  if y = 0 ∧ x = 0 then Config.free site [y, x] % 65536
  else if y = 0 then (if 0 < x then 0 else 32768)
  else if x = 0 then (if 0 < y then 16384 else 49152)
  else
    let q := quarterAngle y.natAbs x.natAbs 14 0 + Config.free site [y, x] % 2
    (if 0 < x then (if 0 < y then q else 65536 - q) else if 0 < y then 32768 - q else 32768 + q) % 65536

end Sys2Proof.Machine
end

