-- ==== Sys2Proof/Machine/Ridge.lean ====
section
/-!
DEFINITION. Sys2Proof/Machine/Ridge.lean: the operations of the mains-angle time base (spec/03_ridge_time_base.md):
sources, steps, the grid PLL and its declarations, the flywheel, the servo of R150 and the angle marks.
-/

namespace Sys2Proof.Machine

/-! ## Sources (R121) -/

def srcNone : Nat := 0
def srcFree : Nat := 1
def srcGrid : Nat := 2
def srcFly : Nat := 3
def srcPull : Nat := 4
def srcVirtual : Nat := 5
def srcDisc : Nat := 6

def Dev.src (d : Dev) : Nat := d.get R.RIDGE_STATUS_SRC

/-- FEED = DC. -/
def Dev.feedDc (d : Dev) : Bool := d.on R.RIDGE_CTRL_FEED

/-- Neither primary manager nor Rinnak worker (R122): a TRAY node, or a node whose profile disables Rinnak. -/
def Dev.standalone (d : Dev) : Bool := d.isRole .tray || !d.on R.RINNAK_CTRL_EN

/-- This node is the primary manager (R57, R394). -/
def Dev.isPrimary (d : Dev) : Bool := d.get R.MGR_STATUS_MROLE == 1

/-- This node is the standby manager. -/
def Dev.isStandby (d : Dev) : Bool := d.get R.MGR_STATUS_MROLE == 2

/-- A manager or standalone node, in the terms of R124. -/
def Dev.leadsAngle (d : Dev) : Bool := d.standalone || d.isPrimary

/-- A Rinnak worker, the standby manager included (R122). -/
def Dev.isWorker (d : Dev) : Bool := !d.leadsAngle

/-! ## Rates -/

/-- The rate word of a frequency in millihertz (R118, R144): round(f × 2^48 / 200,000,000,000). -/
def rateOfMilli (f : Nat) : Nat := (roundHalf ((f : Int) * 2 ^ 48) 200000000000).toNat

/-- The rack rate stays within the 40 Hz and 70 Hz words (R127). -/
def clampRate (r : Int) : Nat := (clampI 56294995 98516242 r).toNat

/-- The present frequency in millihertz of a rate word (R118, R147), to the nearest. -/
def milliOfRate (r : Nat) : Nat := (Config.nearest .freqHalf ((r : Int) * 200000000000) (2 ^ 48)).toNat

def Dev.setRate (d : Dev) (r : Int) : Dev := d.put R.RIDGE_RATE_RATE (clampRate r)

/-- The rate word of VFREQ (R144). -/
def Dev.vRate (d : Dev) : Nat := rateOfMilli (d.get R.RIDGE_VFREQ_VFREQ)

/-- One step of the frequency target (R128): at most 17,592. -/
def slewRate (now target : Nat) : Nat :=
  if now ≤ target then min target (now + 17592) else max target (now - 17592)

/-! ## Change of source -/

/-- Take source `s`. Leaving DISC clears ALIGNED (R152). Carriers run in every source but NONE (R173). -/
def Dev.setSrc (d : Dev) (s : Nat) : Dev :=
  let d := d.when (d.src == srcDisc && s != srcDisc) fun d =>
    { d.clr R.RIDGE_STATUS_ALIGNED with ridge := { d.ridge with near := 0, far := 0 } }
  (d.put R.RIDGE_STATUS_SRC s).runCarriers

def Dev.setTarget (d : Dev) (t : Option Nat) : Dev := { d with ridge := { d.ridge with target := t } }

/-! ## Angle marks (R156-R159) -/

/-- A mark register: MARK0-31 in the first word, MARK32-63 in the second. -/
def markBit (f0 f1 : Fld) (m : Nat) : Fld := if m < 32 then f0.bit m else f1.bit (m - 32)

def firedBit (m : Nat) : Fld := markBit R.RIDGE_MARK_FIRED0_MARK R.RIDGE_MARK_FIRED1_MARK m
def missedBit (m : Nat) : Fld := markBit R.RIDGE_MARK_MISSED0_MARK R.RIDGE_MARK_MISSED1_MARK m

/-- A one-shot target is passed without firing (R159): bit set, EN cleared, EV022 raised. -/
def Dev.markMiss (d : Dev) (m : Nat) : Dev :=
  (((d.set1 (missedBit m)).clr (R.MARKm_CFG_EN m)).set1 R.RIDGE_FLAGS_MARK_MISSED).report 22 m

/-- A one-shot mark that is armed on the given angle (SRC). -/
def Dev.oneShotOn (d : Dev) (grid : Bool) (m : Nat) : Bool :=
  d.on (R.MARKm_CFG_EN m) && d.on (R.MARKm_CFG_ONESHOT m) && (d.on (R.MARKm_CFG_SRC m) == grid)

/-- An angle steps forward by `fwd` reeds from the word `old` (not at all for less than 0): it passes the one-shot targets that it
meets on its way (R159), with the target that the angle has reached in this very cycle, at which the mark does not fire. -/
def Dev.marksPassed (d : Dev) (grid : Bool) (old : Word) (fwd : Int) : Dev :=
  let came := if grid then d.cyc.gridNew else d.cyc.reedNew
  d.each (idxs 64 fun m => d.oneShotOn grid m &&
    (let gap := (d.word (A.MARKm_TGT m) - old).toNat
     decide (((if gap = 0 && !came then 2 ^ 32 else gap : Nat) : Int) ≤ fwd))) fun d m => d.markMiss m

/-- Local grid angle word; 0 while MAINS_EN = 0 (R138). -/
def Dev.gridAngle (d : Dev) : Word := if d.on R.RIDGE_CTRL_MAINS_EN then d.ridge.grid.extractLsb' 32 32 else 0

/-- The angle word a mark runs on. While MAINS_EN = 0 the local grid angle is the 0 that RIDGE_GRID_ANGLE reads (DESIGN CHOICE,
log entry 326). -/
def Dev.markAngle (d : Dev) (m : Nat) : Word := if d.on (R.MARKm_CFG_SRC m) then d.gridAngle else d.angle

/-- A one-shot target written in the past (R159): it lies in the half of the range behind the angle. A write of MARKm_CFG
alone, over an unchanged target that lies behind, counts as such a write too (log entry 38). The EN that it clears still
stands for a crossing of the same cycle (R158). -/
def Dev.markWritten (d : Dev) (m : Nat) : Dev :=
  if d.on (R.MARKm_CFG_EN m) && d.on (R.MARKm_CFG_ONESHOT m)
      && decide (toSigned 32 (d.word (A.MARKm_TGT m) - d.markAngle m).toNat < 0) then
    (d.noteWas (A.MARKm_CFG m)).markMiss m
  else d

/-- Mark `m` reaches its target in this cycle (R157): its angle has come to a new reed without a step (R159), the reed is
that of the target, and the turn fits, or for a one-shot mark the whole word. What the host has written in this very cycle
counts from the next crossing on (R158). A mark fires once in a cycle. -/
def Dev.markDue (d : Dev) (m : Nat) : Bool :=
  let f (x : Fld) : Nat := d.getWas x
  let tgt := d.wordWas (A.MARKm_TGT m)
  let grid := f (R.MARKm_CFG_SRC m) != 0
  let w := if grid then d.ridge.grid.extractLsb' 32 32 else d.angle
  let came := if grid then d.cyc.gridNew && !d.cyc.gridStepped else d.cyc.reedNew && !d.cyc.stepped
  f (R.MARKm_CFG_EN m) != 0 && came && !d.cyc.fired.contains m &&
    (if f (R.MARKm_CFG_ONESHOT m) != 0 then w == tgt
     else w.toNat % 65536 == tgt.toNat % 65536
       && w.toNat / 65536 % (f (R.MARKm_CFG_PERIOD_M1 m) + 1) == f (R.MARKm_CFG_PHASE m))

/-- Mark `m` fires (R157): a one-shot mark clears EN, and IRQ raises a Scarab interrupt. Where the host has written the
register in this cycle, its EN stands (log entry 281). -/
def Dev.markFire (d : Dev) (m : Nat) : Dev :=
  let once := d.getWas (R.MARKm_CFG_ONESHOT m) != 0 && !(d.cyc.was.lookup (A.MARKm_CFG m)).isSome
  let irq := d.getWas (R.MARKm_CFG_IRQ m) != 0
  let d := (d.set1 (firedBit m)).when once fun d => d.clr (R.MARKm_CFG_EN m)
  let d := { d with cyc := { d.cyc with fired := m :: d.cyc.fired } }
  if irq then { d with ridge := { d.ridge with markIrq := d.ridge.markIrq ++ [m] } } else d

/-! ## The accumulators -/

/-- Put the rack accumulator and the era, both copies (R117, R120). -/
def Dev.putAngle (d : Dev) (acc : BitVec 64) (era : Word) : Dev :=
  { d with ridge := { d.ridge with acc := acc, acc2 := acc, era := era, era2 := era } }

/-- The rack time in 2^-32 reed: era, angle word, fraction (R147). -/
def Dev.total (d : Dev) : Nat := d.ridge.era.toNat * 2 ^ 64 + d.ridge.acc.toNat

/-- The count of carrier periods restarts (R209). -/
def Ain.recount (a : Ain) : Ain := { a with left := 0 }
def Sdm.recount (s : Sdm) : Sdm := { s with left := 0 }

/-- A held rack time, moved with a step of the angle by `by_` reeds. -/
def movedBy (by_ : Int) (t : Nat) : Nat := (((t : Int) + by_) % (2 ^ 64 : Nat)).toNat

/-- Spans of time that run over a step of the rack angle (R532, R133 to R136, R149, R367, R374, R388, R389, R427, R440, R604, R611,
R646): a step lets no time pass, and the rack times from which they count move with it (DEDUCED, log entry 327). -/
def Dev.keepSpans (d : Dev) (by_ : Int) : Dev :=
  let mv := movedBy by_
  let seg (s : RidgeSeg) : RidgeSeg := { s with released := s.released.map mv }
  let nseg (s : NetSeg) : NetSeg := { s with
    plcaAt := s.plcaAt.map mv, plcaSince := s.plcaSince.map mv, rxAt := s.rxAt.map mv, base := mv s.base
    errAt := s.errAt.map mv, queue := s.queue.map fun q => { q with acceptedAt := mv q.acceptedAt } }
  { d with
    sup := { d.sup with lgGoodSince := d.sup.lgGoodSince.map mv }
    ridge := { d.ridge with
      segA := seg d.ridge.segA, segB := seg d.ridge.segB
      pll := { d.ridge.pll with
        okSince := d.ridge.pll.okSince.map mv, wrongSince := d.ridge.pll.wrongSince.map mv
        jumpSince := d.ridge.pll.jumpSince.map mv, clampSince := d.ridge.pll.clampSince.map mv } }
    net := { d.net with segA := nseg d.net.segA, segB := nseg d.net.segB }
    coord := { d.coord with
      reallocAt := d.coord.reallocAt.map mv, offsetsAt := d.coord.offsetsAt.map mv, raisedAt := d.coord.raisedAt.map mv
      demandAt := d.coord.demandAt.map mv, scans := d.coord.scans.map fun s => (mv s.1, s.2) }
    thatch := { d.thatch with
      ring := d.thatch.ring.map fun s => (s.1, { s.2 with at_ := mv s.2.at_ })
      lastRaise := d.thatch.lastRaise.map fun r => (r.1, mv r.2.1, r.2.2) }
    boot := { d.boot with standbyAt := mv d.boot.standbyAt } }

/-- The rack angle changes by a step (R125): carriers load (R171), the counts of carrier periods restart (R209), passed one-shot
marks are missed (R159), EV021 is raised. The record of R125 is made at the end of the command. -/
def Dev.stepAngle (d : Dev) (acc : BitVec 64) (era : Word) : Dev :=
  let old := d.angle
  let at_ := d.now
  let d := (d.putAngle acc era).reloadCarriers
  let d := (d.keepSpans ((d.now : Int) - at_)).marksPassed false old ((d.now : Int) - at_)
  let d := { d with
    cyc := { d.cyc with stepped := true }
    sense := { d.sense with ains := d.sense.ains.map Ain.recount, sdms := d.sense.sdms.map Sdm.recount } }
  (({ d with ridge := { d.ridge with stepFrom := some old } }).set1 R.RIDGE_FLAGS_STEP).report 21

/-- The signed difference of R142 in 2^-32 reed: rack angle minus local grid angle minus GRID_OFS, modulo one turn. -/
def Dev.gridDiff (d : Dev) : Int :=
  toSigned 48 ((d.ridge.acc - d.ridge.grid).toNat + 2 ^ 64 - d.get R.RIDGE_GRID_OFS_GRID_OFS * 2 ^ 32)

/-- At most 16 reeds apart (R124). -/
def Dev.gridClose (d : Dev) : Bool := decide (d.gridDiff.natAbs ≤ 16 * 2 ^ 32)

/-- The rate of PULL (R142): 65/64 or 63/64 of the local grid rate, the shorter way unless R127 forbids it. -/
def Dev.pullRate (d : Dev) : Int :=
  let g := d.ridge.gridRate.toNat
  let fast := Config.round .pullRate (g * 65) 64
  let slow := Config.round .pullRate (g * 63) 64
  let fastBad := decide (rateOfMilli 68923 < g)
  let slowBad := decide (g < rateOfMilli 40635)
  if d.gridDiff < 0 then (if fastBad then slow else fast) else (if slowBad then fast else slow)

/-- Enter GRID: the rack angle follows the local grid angle at its rate. After a continuous entry a difference of up to 16
reeds may be left (R124); the spec names nothing that closes it, and it stays (log entry 282). -/
def Dev.enterGrid (d : Dev) : Dev := (d.setSrc srcGrid).setRate d.ridge.gridRate.toNat

/-- Enter PULL (R142). -/
def Dev.enterPull (d : Dev) : Dev := (d.setSrc srcPull).setRate d.pullRate

/-! ## Start, lock and loss -/

/-- The RIDGE section has been applied and SRC is NONE (R124, R128): VIRTUAL on a DC feed for the manager of home ID 0 or
a standalone node, FREE otherwise; era 0, angle 0. -/
def Dev.ridgeStart (d : Dev) : Dev :=
  if d.src != srcNone then d
  else
    let leads := d.standalone || (d.on R.RINNAK_NODE_MGR && d.get R.RINNAK_NODE_NODE_ID == 0)
    let virt := d.feedDc && leads
    let d := d.putAngle 0 0
    let r := if virt then d.vRate else if d.on R.RIDGE_CTRL_FNOM then 84442493 else 70368744
    (d.setRate r).setSrc (if virt then srcVirtual else srcFree)

/-! ## The grid PLL (R129 to R136)

The local grid angle runs at `ridge.gridRate`. Outside a loss it is the PLL's own angle; from a loss to the next lock it is
frozen at its rate while the PLL looks for the mains again (R139, R141). -/

def Dev.modPll (d : Dev) (f : Pll → Pll) : Dev := { d with ridge := { d.ridge with pll := f d.ridge.pll } }

def Dev.mainsEn (d : Dev) : Bool := d.on R.RIDGE_CTRL_MAINS_EN

/-- The rate word of FNOM. -/
def Dev.nominalRate (d : Dev) : Nat := if d.on R.RIDGE_CTRL_FNOM then 84442493 else 70368744

/-- The PLL starts with MAINS_EN: at angle 0 and FNOM, with nothing in its filter but that frequency. -/
def Dev.pllStart (d : Dev) : Dev :=
  let r := BitVec.ofNat 32 d.nominalRate
  { d with ridge := { d.ridge with
      grid := 0, gridRate := r, lossSince := false
      pll := { Pll.rest with rate := r, integ := (d.nominalRate : Int) * 2 ^ 30 } } }

/-- MAINS_EN is cleared (R138): the local grid angle stops, and there is no lock. A rack angle that followed it runs on at
its present rate (log entry 283). -/
def Dev.pllStop (d : Dev) : Dev :=
  let d := { d with ridge := { d.ridge with pll := .rest, lossSince := false } }
  let d := (d.clr R.RIDGE_STATUS_GRID_LOCK).clr R.RIDGE_STATUS_ROT_SEEN
  if d.src == srcGrid || d.src == srcPull then d.setSrc srcFly else d

/-- The voltage at the ball of phase `x` in this cycle, with its gain (R205), in 2^-30 µV. The facility gives it, within the
input range of spec/20_electrical.md. -/
def Dev.mainsVolts (d : Dev) (x : Nat) : Int :=
  Config.between .mainsBall [x, d.cycles] (-1250000) 1250000 * (d.sense.otpMains.getD x 0x40000000 : Nat)

/-- √3 in units of 2^-40. -/
def sqrt3Q40 : Int := (rootBits 2 (3 * 2 ^ 80) 42 0 : Nat)

/-- Step 2 of R130 from 3 v_α and √3 v_β now (a, b) and a quarter turn before (a', b'), where b stands for v_b - v_c: six
times the positive-sequence pair, and six times the negative one, in units of 2^-40. -/
def sequences (a b a' b' : Int) : (Int × Int) × (Int × Int) :=
  ((a * 2 ^ 40 - sqrt3Q40 * b', sqrt3Q40 * b + a' * 2 ^ 40), (a * 2 ^ 40 + sqrt3Q40 * b', sqrt3Q40 * b - a' * 2 ^ 40))

/-- The length of a pair, whole. -/
def pairLength (p : Int × Int) : Nat := rootBits 2 (p.1 * p.1 + p.2 * p.2).toNat 100 0

/-- An amplitude in 2^-8 of 0.01 % of VNOM, from six times itself in 2^-70 µV. -/
def Dev.ampl (d : Dev) (six : Nat) : Nat :=
  (Config.round .pll (six * 10000 * 2 ^ 8 : Nat) (6 * 2 ^ 70 * 1000 * d.get R.RIDGE_MAINS_CFG_VNOM : Nat)).toNat

/-- `pct` per cent of VNOM in the unit of amplitudes. -/
def perCent (pct : Nat) : Nat := pct * 100 * 2 ^ 8

/-- The sample a quarter turn of the PLL angle ago (R130). -/
def Pll.earlier (p : Pll) (cycle : Nat) : Int × Int :=
  match p.hist.findIdx? fun s => decide (quarterTurn ≤ (p.acc - s.at_).toNat) with
  | none => (Config.between .mainsEarlier [0, cycle] (-(2 ^ 53)) (2 ^ 53), Config.between .mainsEarlier [1, cycle] (-(2 ^ 53)) (2 ^ 53))
  | some i =>
    -- the quarter turn ends at this sample, or between it and the next newer one
    let i := if Config.free .mainsEarlier [2, cycle] % 2 = 1 ∧ (p.acc - (p.hist.getD i ⟨0, 0, 0⟩).at_).toNat ≠ quarterTurn
      then i - 1 else i
    let s := p.hist.getD i ⟨0, 0, 0⟩
    (s.a, s.d)

/-- What one sample shows the PLL: V+ and V- (amplitudes), the phase error e in 2^-30, and θ - θ̂ in reeds. -/
structure PllView where
  pos : Nat
  neg : Nat
  negOfPos : Nat
  e : Int
  err : Int
  deriving DecidableEq, Repr

/-- Steps 1 to 4 of R130 on a sample (a, b) and the one a quarter turn before. -/
def Dev.pllView (d : Dev) (a b : Int) (old : Int × Int) : PllView :=
  let (p, n) := sequences a b old.1 old.2
  let th := d.ridge.pll.acc.toNat
  let v := pairLength p
  let s := p.1 * cosTurn th + p.2 * sinTurn th
  let c := p.1 * sinTurn th - p.2 * cosTurn th
  let e := if v = 0 then Config.between .pll [d.cycles] (-(2 ^ 30)) (2 ^ 30) else Config.round .pll s (v * 2 ^ 10 : Nat)
  ⟨d.ampl v, d.ampl (pairLength n),
    if v = 0 then Config.free .pll [d.cycles, 1] else (Config.round .pll (pairLength n * 10000 : Nat) (v : Nat)).toNat,
    clampI (-(2 ^ 30)) (2 ^ 30) e, toSigned 16 (angleOf .pll s c)⟩

/-- Step 5 of R130: the filter of 20 Hz and damping 0.707, one step of 1 µs; the output is clamped to 40 to 70 Hz. 28.28 Hz is
2 × 0.707 × 20 Hz, and the integral part grows by 2π × 400 Hz in a second for e = 1. -/
def Pll.filter (p : Pll) (e : Int) : Pll :=
  let i := p.integ + Config.round .pll (e * piQ62) (2 ^ 12 * 1000000000000)
  let r := Config.round .pll (i * 20000000000 + e * 2828 * 2 ^ 48) (20000000000 * 2 ^ 30)
  { p with integ := i, rate := BitVec.ofNat 32 (clampRate r) }

/-- The time since which a condition holds: `now` where it begins to hold. -/
def sinceWhen (old : Option Nat) (holds : Bool) (now : Nat) : Option Nat := if holds then some (old.getD now) else none

/-- The amplitude of a phase in this cycle: the spec does not say how it is measured. -/
def Dev.phaseAmpl (d : Dev) (x : Nat) : Nat := Config.free .phaseAmpl [x, d.cycles]

/-- The conditions of R133, R135 and R136 at a sample, and the sums of R132 and R136. The rotation is that of the stronger
sequence (log entry 284). -/
def Dev.pllJudge (d : Dev) (v : PllView) (volts : List Int) : Dev :=
  let ph := (List.range 3).map d.phaseAmpl
  let r := d.ridge.pll.rate.toNat
  let clamped := r == 56294995 || r == 98516242
  let wrong := decide (v.pos < v.neg)
  let strong := decide (perCent (d.get R.RIDGE_LOSS_CFG_AMP_OK) ≤ v.pos)
  let ok := strong && ph.all (fun a => decide (perCent (d.get R.RIDGE_LOSS_CFG_PH_LOSS) ≤ a))
    && !clamped && decide (v.err.natAbs ≤ 182) && !wrong
  let bad := wrong && strong
  let jump := decide (d.get R.RIDGE_LOSS_CFG_JUMP * 256 < v.err.natAbs)
  let d := d.putB R.RIDGE_STATUS_ROT_SEEN (d.on R.RIDGE_CTRL_ROT != wrong)
  let shift : List Nat := [0, 65536 - 21845, 65536 - 43691]
  let now := d.now
  let th := d.ridge.grid.toNat
  d.modPll fun p => { p with
    okSince := sinceWhen p.okSince ok now
    wrongSince := sinceWhen p.wrongSince bad now
    wrongRaised := p.wrongRaised && bad
    jumpSince := sinceWhen p.jumpSince jump now
    clampSince := sinceWhen p.clampSince clamped now
    block := ⟨p.block.pos + v.pos, (p.block.phases.zip ph).map fun q => q.1 + q.2, p.block.count + 1⟩
    sums := (p.sums.zip (volts.zip shift)).map fun q =>
      let a := th + q.2.2 * 2 ^ 32
      (q.1.1 + q.2.1 * cosTurn a, q.1.2 + q.2.1 * sinTurn a) }

/-- The rate of PULL follows the local grid rate, and that of GRID is the local grid rate. -/
def Dev.followGrid (d : Dev) : Dev :=
  if d.src == srcGrid then d.setRate d.ridge.gridRate.toNat else if d.src == srcPull then d.setRate d.pullRate else d

/-- A sample of the sense converter, at 1 MSPS (R130): the PLL's steps, what they show, and the rates that follow. With
ROT = A-C-B the PLL takes v_c for v_b (R131); the phases of R132 are those of the balls. -/
def Dev.pllSample (d : Dev) : Dev :=
  let volts := (List.range 3).map d.mainsVolts
  let va := volts.getD 0 0
  let acb := d.on R.RIDGE_CTRL_ROT
  let vb := volts.getD (if acb then 2 else 1) 0
  let vc := volts.getD (if acb then 1 else 2) 0
  let a := 2 * va - vb - vc
  let b := vb - vc
  let v := d.pllView a b (d.ridge.pll.earlier d.cycles)
  let d := d.modPll fun p => { p.filter v.e with
    hist := ⟨p.acc, a, b⟩ :: (p.hist.takeWhile fun s => decide ((p.acc - s.at_).toNat ≤ quarterTurn + 2 ^ 42)) }
  let d := d.pllJudge v volts
  let d := (d.put R.RIDGE_AMPL_POS (Config.fit .pll 16 ((v.pos : Int) / 2 ^ 8))).put R.RIDGE_AMPL_NEG
    (Config.fit .pll 16 v.negOfPos)
  if d.ridge.lossSince then d
  else
    let d := { d with ridge := { d.ridge with gridRate := d.ridge.pll.rate } }
    (d.put R.RIDGE_FREQ_FREQ (milliOfRate d.ridge.gridRate.toNat)).followGrid

/-- The evaluation of R136, every 1,024 reeds: the averages over the last four blocks, a phase error that has lasted 1,024
reeds, a clamp that has lasted 4,096. A loss is found only while GRID_LOCK = 1. -/
def Dev.lossEvaluate (d : Dev) : Dev :=
  let p := d.ridge.pll
  let bs := p.block :: p.blocks
  let n := (bs.map (·.count)).sum
  let below (sum pct : Nat) : Bool := decide (sum < perCent pct * n)
  let lasted (t : Option Nat) (r : Nat) : Bool := match t with
    | some t => decide (r ≤ d.since t)
    | none => false
  let low := below (bs.map (·.pos)).sum (d.get R.RIDGE_LOSS_CFG_AMP_LOSS)
    || (List.range 3).any fun x => below (bs.map fun b => b.phases.getD x 0).sum (d.get R.RIDGE_LOSS_CFG_PH_LOSS)
  let bad := low || lasted p.jumpSince 1024 || lasted p.clampSince 4096
  let lock := d.on R.RIDGE_STATUS_GRID_LOCK
  d.modPll fun p => { p with
    block := .rest, blocks := (p.block :: p.blocks).take 3, lossFound := lock && bad
    track := ((d.ridge.grid, d.cycles) :: p.track).take 80 }

/-- The frozen rate of R139: the mean of the local grid rate over the turn that ended 8,192 reeds before this evaluation, from
the evaluations 8 and 72 back. -/
def Dev.frozenRate (d : Dev) : Nat :=
  match d.ridge.pll.track[8]?, d.ridge.pll.track[72]? with
  | some (g1, c1), some (g0, c0) =>
    if c1 ≤ c0 then d.ridge.gridRate.toNat else (Config.round .frozenRate ((g1 - g0).toNat : Nat) ((c1 - c0 : Nat) : Int)).toNat
  | _, _ => d.ridge.gridRate.toNat

/-- One CLK200 cycle of the PLL: its angle adds its rate, a sample is taken every 200 cycles, and the sums of R132 are set
aside where the local grid angle came to a new turn. Not with MAINS_EN = 0 (R138), nor while the converters are stopped. -/
def Dev.tickPll (d : Dev) (newTurn evaluate : Bool) : Dev :=
  if !d.mainsEn then d
  else
    let d := d.modPll fun p => { p with acc := p.acc + p.rate.setWidth 64 }
    let d := d.when newTurn fun d => d.modPll fun p => { p with ended := some p.sums, sums := [(0, 0), (0, 0), (0, 0)] }
    let d := d.when (d.cycles % 200 == 0 && !d.sup.stopped) Dev.pllSample
    d.when evaluate Dev.lossEvaluate

/-- Phase `x` of R132 at the boundary (θ = 0 there): φ_x + δ_x in reeds. -/
def phaseAngle (x : Nat) (s : Int × Int) : Nat :=
  let phi : Int := match x with
    | 0 => 0
    | 1 => -21845
    | _ => -43691
  ofSigned 16 (phi + (angleOf .phaseAtan s.1 s.2 : Int))

/-- GRID_PHASE_ANGLE (R132): the angles of the phases over the local grid turn just ended. -/
def Dev.gridBoundary (d : Dev) : Dev :=
  match d.ridge.pll.ended with
  | none => d
  | some l =>
    let at_ (x : Nat) : Nat := phaseAngle x (l.getD x (0, 0))
    let d := ((d.put R.RIDGE_PH_AB_PH_A (at_ 0)).put R.RIDGE_PH_AB_PH_B (at_ 1)).put R.RIDGE_PH_C_PH_C (at_ 2)
    d.modPll fun p => { p with ended := none }

/-- The conditions of R133 have held for 2.0 turns. -/
def Dev.lockDue (d : Dev) : Bool :=
  d.mainsEn && !d.on R.RIDGE_STATUS_GRID_LOCK && match d.ridge.pll.okSince with
    | some t => decide (131072 ≤ d.since t)
    | none => false

/-- Lock (R133, R134, R141): after a loss the local grid angle takes the PLL angle in one step. The step is no part of the mean
rate of R139: the angles held for it move along. -/
def Dev.gridLock (d : Dev) : Dev :=
  let p := d.ridge.pll
  let old64 := d.ridge.grid
  let old := old64.extractLsb' 32 32
  let step := toSigned 48 (p.acc - d.ridge.grid).toNat
  let ret := d.ridge.lossSince
  let jump := ret && decide (d.get R.RIDGE_LOSS_CFG_JUMP * 256 * 2 ^ 32 < step.natAbs)
  let d := { d with
    ridge := { d.ridge with grid := p.acc, gridRate := p.rate, lossSince := false }
    cyc := { d.cyc with gridStepped := d.cyc.gridStepped || ret } }
  let moved := p.acc - old64
  let d := d.modPll fun p => { p with track := p.track.map fun t => (t.1 + moved, t.2) }
  let d := d.marksPassed true old (toSigned 32 (d.ridge.grid.extractLsb' 32 32 - old).toNat)
  let d := d.put R.RIDGE_FREQ_FREQ (milliOfRate p.rate.toNat)
  let d := (d.set1 R.RIDGE_STATUS_GRID_LOCK).modPll fun p => { p with lossFound := false }
  let d := d.when jump fun d => (d.set1 R.RIDGE_FLAGS_JUMP).report 19
  let d := (d.set1 R.RIDGE_FLAGS_LOCKED).report 16
  d.when ret fun d => (d.set1 R.RIDGE_FLAGS_RETURN).report 18

/-- PHASE_ROTATION (R135): the wrong rotation has held for 1.0 turn. It is raised once for as long as it holds. -/
def Dev.rotationDue (d : Dev) : Bool :=
  d.mainsEn && !d.ridge.pll.wrongRaised && match d.ridge.pll.wrongSince with
    | some t => decide (65536 ≤ d.since t)
    | none => false

def Dev.rotationBad (d : Dev) : Dev :=
  if d.rotationDue then ((d.modPll fun p => { p with wrongRaised := true }).set1 R.RIDGE_FLAGS_ROT_ERR).report 23 else d

/-- The source after a lock on a manager or standalone node (R124). -/
def Dev.srcAfterLock (d : Dev) : Dev :=
  if !d.leadsAngle then d
  else if d.src == srcFree then
    ((d.clr R.RIDGE_GRID_OFS_GRID_OFS).stepAngle d.ridge.grid d.ridge.era).enterGrid
  else if d.src == srcFly then (if d.gridClose then d.enterGrid else d.enterPull)
  else if d.src == srcVirtual then (d.setTarget none).enterPull
  else d

/-- The evaluation of R136 has found a loss. -/
def Dev.lossDue (d : Dev) : Bool := d.mainsEn && d.on R.RIDGE_STATUS_GRID_LOCK && d.ridge.pll.lossFound

/-- Mains loss (R136, R137, R139, R143): both angles run on at the frozen rate. Where PULL ends with the cycle of the loss, that
row of R124 governs the cycle, and GRID gives way to FLY with the next one (`Dev.gridGivesWay`). -/
def Dev.gridLoss (d : Dev) : Dev :=
  let f := clampRate d.frozenRate
  let d := { d with ridge := { d.ridge with gridRate := BitVec.ofNat 32 f, lossSince := true } }
  let d := d.modPll fun p => { p with lossFound := false }
  let d := (d.clr R.RIDGE_STATUS_GRID_LOCK).put R.RIDGE_FREQ_FREQ (milliOfRate f)
  let d := if d.cyc.pulled || (d.src == srcPull && d.gridClose) then d.enterGrid
    else if d.src == srcGrid || d.src == srcPull then (d.setSrc srcFly).setRate f else d
  (d.set1 R.RIDGE_FLAGS_LOSS).report 17

/-- PULL ends when the difference is at most 16 reeds (R124, R142). -/
def Dev.pullDone (d : Dev) : Dev :=
  if d.src == srcPull && d.gridClose then { d.enterGrid with cyc := { d.enterGrid.cyc with pulled := true } } else d

/-- A loss stands declared while SRC is GRID (R124). -/
def Dev.gridGivesWay (d : Dev) : Dev := d.when (d.src == srcGrid && d.ridge.lossSince) fun d => d.setSrc srcFly

/-- A change of frequency target while the node runs at VFREQ (R128). -/
def Dev.vfreqChanged (d : Dev) : Dev := if d.src == srcVirtual then d.setTarget (some d.vRate) else d

/-- START_TMO turns have passed since angle 0 without lock (R145). A lock that is due governs (R124). -/
def Dev.blackStart (d : Dev) : Dev :=
  if d.src == srcFree && decide (d.get R.RIDGE_CTRL_START_TMO * 65536 ≤ d.now) && !d.on R.RIDGE_STATUS_GRID_LOCK && !d.feedDc && d.on R.RIDGE_CTRL_BLACKSTART && d.leadsAngle && !d.lockDue then
    (d.setSrc srcVirtual).setTarget (some d.vRate)
  else d

/-- The step of R128 is due: the rack angle has come to a reed that is a multiple of 8,192. -/
def Dev.slewDue (d : Dev) : Bool := d.cyc.reedNew && decide (d.reed % 8192 = 0) && !d.cyc.slewed

/-- One step of the rate toward its target (R127, R128). -/
def Dev.rateStep (d : Dev) : Dev :=
  match d.ridge.target with
  | none => d
  | some t =>
    if !d.slewDue then d
    else
      let r := slewRate d.rate (clampRate t)
      let d := { d.setRate r with cyc := { d.cyc with slewed := true } }
      if r = clampRate t then d.setTarget none else d

/-- GRID_OFS at a takeover (R154, R155): the difference of the angles in whole reeds, which way rounded is open. -/
def Dev.takeoverOfs (d : Dev) : Nat :=
  (Config.round .takeoverOfs ((d.ridge.acc - d.ridge.grid).toNat % 2 ^ 48 : Nat) (2 ^ 32)).toNat % 65536

/-- The node becomes primary manager (R154): its angle stays continuous. A node that is still in FREE with no lock stays in
FREE until its first lock (R124); with the PLL locked it goes to GRID like any other, without the step of R124's FREE row
(log entry 285). -/
def Dev.becomeLead (d : Dev) : Dev :=
  if d.src == srcNone then d
  else if d.feedDc then
    if d.src == srcVirtual then d else (d.setSrc srcVirtual).setTarget (some d.vRate)
  else if d.on R.RIDGE_STATUS_GRID_LOCK then (d.put R.RIDGE_GRID_OFS_GRID_OFS d.takeoverOfs).enterGrid
  else if d.src == srcDisc || d.src == srcFly then
    (d.clr R.RIDGE_GRID_OFS_GRID_OFS).setSrc srcFly
  else d

/-- A former primary joins as standby (R61): a worker's angle is DISC, FLY or FREE (R122), so the other sources run on
as a flywheel at the present rate until the next valid beacon. -/
def Dev.becomeFollower (d : Dev) : Dev :=
  if d.src == srcGrid || d.src == srcPull || d.src == srcVirtual then (d.setTarget none).setSrc srcFly else d

/-! ## Discipline (R146-R153) -/

def Dev.seg (d : Dev) (b : Bool) : RidgeSeg := if b then d.ridge.segB else d.ridge.segA

def Dev.modSeg (d : Dev) (b : Bool) (f : RidgeSeg → RidgeSeg) : Dev :=
  if b then { d with ridge := { d.ridge with segB := f d.ridge.segB } }
  else { d with ridge := { d.ridge with segA := f d.ridge.segA } }

/-- A difference of two timestamps, signed, modulo one era (R150). -/
def tsDiff (a b : Nat) : Int := toSigned 64 ((a % 2 ^ 64) + 2 ^ 64 - b % 2 ^ 64)

/-- The path delay of a segment (R149) in 2^-32 reed: the mean of the last four values of d, each held as the sum
(t2 - t1) + (t4 - t3); 0 until the first answer. -/
def pathDelay (s : RidgeSeg) : Int :=
  let l := s.delays.take 4
  if l.isEmpty then 0 else Config.round .servoRound (l.foldl (· + ·) 0) (2 * l.length)

/-- `x` (in 2^-32 reed) in nanoseconds at the present rate: one reed lasts 2^32 / rate cycles of 5 ns. -/
def Dev.toNs (d : Dev) (x : Int) : Int :=
  if d.rate = 0 then (Config.free .ridgeNs [x] : Int) else Config.round .ridgeNs (5 * x) d.rate

/-- RIDGE_OFFSET and ALIGNED after a FOLLOW_UP with error `e` (R152). |e| ≤ 10 ns reads |e| ≤ 2 × rate, since
e ns = 5 × e / rate. -/
def Dev.alignCount (d : Dev) (e : Int) : Dev :=
  let d := d.putS R.RIDGE_OFFSET_OFFSET (clampI (-2147483647) 2147483647 (d.toNs e))
  let near := if e.natAbs ≤ 2 * d.rate then min 16 (d.ridge.near + 1) else 0
  let far := if 4 * d.rate < e.natAbs then min 8 (d.ridge.far + 1) else 0
  let d := { d with ridge := { d.ridge with near := near, far := far } }
  if near = 16 then d.set1 R.RIDGE_STATUS_ALIGNED else if far = 8 then d.clr R.RIDGE_STATUS_ALIGNED else d

/-- A missed beacon (R148, R153): counted; the 8th in a row ends DISC. -/
def Dev.beaconMiss (d : Dev) : Dev :=
  let d := d.bump R.RIDGE_BEACON_MISSED
  if d.src == srcDisc && decide (8 ≤ d.get R.RIDGE_BEACON_MISSED) then
    (((d.setSrc srcFly).set1 R.RINNAK_STATUS_BUS_LOST).set1 R.RIDGE_FLAGS_SYNC_LOST).report 20
  else d

/-- The rate of R150 after the first FOLLOW_UP that follows the step. -/
def firstRate (rate : Nat) (dt1 dt2 : Int) : Int :=
  if dt2 = 0 then (Config.free .servoZero [rate, dt1] : Int) else Config.round .servoRound (rate * dt1) dt2

/-- The receive timestamps held move with the worker's step by -e. -/
def Dev.restamp (d : Dev) (e : Int) : Dev :=
  let mv (t : Nat) : Nat := (((t : Int) - e) % (2 ^ 96 : Nat)).toNat
  let seg (s : RidgeSeg) : RidgeSeg := { s with
    rx := s.rx.map fun x => { x with t2 := mv x.t2 }, last := s.last.map fun p => (p.1, mv p.2) }
  { d with
    ridge := { d.ridge with segA := seg d.ridge.segA, segB := seg d.ridge.segB }
    net := { d.net with inbox := d.net.inbox.map fun m => { m with rxAt := mv m.rxAt } } }

/-- The step of R150 out of FREE: by -e, into the era of t1. -/
def Dev.servoStep (d : Dev) (t1 t2 : Nat) (e : Int) : Dev :=
  let d := d.restamp e
  let acc := BitVec.ofInt 64 ((d.ridge.acc.toNat : Int) - e)
  let d := d.stepAngle acc (BitVec.ofNat 32 (t1 / 2 ^ 64))
  let prev : Nat := (((t2 : Int) - e) % (2 ^ 96 : Nat)).toNat
  let d := { d with ridge := { d.ridge with esum := 0, ref := d.rate, prev := some (t1, prev), firstFu := true } }
  (d.clr R.RIDGE_GRID_OFS_GRID_OFS).setSrc srcDisc

/-- The later FOLLOW_UPs of R150. -/
def Dev.servoTrack (d : Dev) (t1 t2 : Nat) (e : Int) : Dev :=
  let ref : Int := d.ridge.ref
  let esum := d.ridge.esum + e
  -- trim / 8192 = (32 e + Σ e) / (64 × 2^32 × 8192), in reeds
  let den : Int := 64 * 2 ^ 32 * 8192
  let r := Config.round .servoRound (ref * (den - (32 * e + esum))) den
  let lo := Config.round .servoRound (ref * 63) 64
  let hi := Config.round .servoRound (ref * 65) 64
  let ref' := Config.round .servoRound (ref * (den - e)) den
  let d := d.setRate (clampI lo hi r)
  { d with ridge := { d.ridge with esum := esum, ref := ref'.toNat, prev := some (t1, t2) } }

/-- The servo of R150 with the pair of segment `b`: a worker in FREE or DISC runs it; a worker in FLY returns to DISC
(R124). A pair that R150 discards counts as a missed beacon; it counts neither among the FOLLOW_UPs of R152 nor does
RIDGE_OFFSET show it (log entry 286). -/
def Dev.servo (d : Dev) (b : Bool) (t1 t2 : Nat) : Dev :=
  let delay := pathDelay (d.seg b)
  let e := toSigned 64 (ofSigned 64 (tsDiff t2 t1 - delay))
  let d := (d.putB R.RIDGE_STATUS_SEG_B b).clr R.RINNAK_STATUS_BUS_LOST
  let d := { d with ridge := { d.ridge with used := true } }
  if d.src == srcFree then
    ((d.servoStep t1 t2 e).clr R.RIDGE_BEACON_MISSED).alignCount e
  else if d.src == srcDisc || d.src == srcFly then
    let d := d.when (d.src == srcFly) fun d => d.setSrc srcDisc
    if d.on R.RIDGE_STATUS_ALIGNED && decide (2 * 2 ^ 32 < e.natAbs) then d.beaconMiss
    else
      let d := d.clr R.RIDGE_BEACON_MISSED
      match d.ridge.firstFu, d.ridge.prev with
      | true, some (p1, p2) =>
        let r := firstRate d.rate (tsDiff t1 p1) (tsDiff t2 p2)
        let d := d.setRate r
        ({ d with ridge := { d.ridge with ref := d.rate, firstFu := false, prev := some (t1, t2) } }).alignCount e
      | _, _ => (d.servoTrack t1 t2 e).alignCount e
  else d

/-- Ridge's path registers after a DELAY_RESP (R149). -/
def Dev.pathNs (d : Dev) (b : Bool) : Dev :=
  let v := Config.fit .ridgeNs 16 (d.toNs (pathDelay (d.seg b)))
  d.put (if b then R.RIDGE_PATH_B_PATH else R.RIDGE_PATH_A_PATH) v

/-! ## Time goes on -/

/-- The copies of the rack angle, or of the era, differ (R120). -/
def Dev.copiesDiffer (d : Dev) : Bool := decide (d.ridge.acc ≠ d.ridge.acc2) || decide (d.ridge.era ≠ d.ridge.era2)

/-- The copies are compared (R120): EV024 is raised when they come to differ. -/
def Dev.copiesCheck (d : Dev) : Dev :=
  let bad := d.copiesDiffer
  let raise := bad && !d.ridge.differ
  let d := { d with ridge := { d.ridge with differ := bad } }
  d.when raise fun d => (d.set1 R.RIDGE_FLAGS_CHECK).report 24

/-- RIDGE_CHECK: an upset inverts bits of the second copies, and they are compared. -/
def Dev.copiesUpset (d : Dev) (acc : BitVec 64) (era : Word) : Dev :=
  Dev.copiesCheck { d with ridge := { d.ridge with acc2 := d.ridge.acc2 ^^^ acc, era2 := d.ridge.era2 ^^^ era } }

/-- The increment of the rack angle in a CLK200 cycle: its rate, and nothing while SRC is NONE. -/
def Dev.rackInc (d : Dev) : Nat := if d.src == srcNone then 0 else d.rate

/-- The rack angle passes from 0xFFFF_FFFF to 0 in the next cycle (R119). -/
def Dev.wrapsNext (d : Dev) : Bool := decide (2 ^ 64 ≤ d.ridge.acc.toNat + d.rackInc)

/-- One CLK200 cycle of the angles (R117): each accumulator adds its rate word, each copy of the era counts the wraps of its
own accumulator (R119). The local grid angle runs with MAINS_EN = 1 (R138). -/
def Dev.tickAngles (d : Dev) : Dev :=
  let r := d.ridge
  let inc : BitVec 64 := BitVec.ofNat 64 d.rackInc
  let carry (a : BitVec 64) : Word := if 2 ^ 64 ≤ a.toNat + inc.toNat then 1 else 0
  let g := if d.mainsEn then r.grid + r.gridRate.setWidth 64 else r.grid
  let d' := { d with ridge := { r with
    acc := r.acc + inc, acc2 := r.acc2 + inc, era := r.era + carry r.acc, era2 := r.era2 + carry r.acc2, grid := g } }
  { d' with cyc := { d'.cyc with
    reedNew := decide (d.angle ≠ d'.angle)
    gridNew := decide (r.grid.extractLsb' 32 32 ≠ g.extractLsb' 32 32) } }

end Sys2Proof.Machine
end

