-- ==== Sys2Proof/Machine/Sense.lean ====
section
/-!
DEFINITION. Sys2Proof/Machine/Sense.lean: the operations of the converters, window comparators, demodulators and fast
comparators (spec/05_sensing.md). What a result or a trip does outside these blocks (Rafter, stages, branches, the
sequencer) stands with the commands.
-/

namespace Sys2Proof.Machine

/-! ## Gutter's holding instances (R585) -/

/-- Instance `i` holds source `ev` active. -/
def Dev.holdEv (d : Dev) (ev i : Nat) : Dev :=
  if d.gut.holders.contains (ev, i) then d
  else { d with gut := { d.gut with holders := d.gut.holders ++ [(ev, i)] } }

/-- Instance `i` no longer holds source `ev` active. -/
def Dev.unholdEv (d : Dev) (ev i : Nat) : Dev :=
  { d with gut := { d.gut with holders := d.gut.holders.filter fun p => p != (ev, i) } }

/-- An injected check of R595 at this point and instance is due: its check bit reads inverted once. Answers whether it
was, and the state with it used up; DETECTED sets where it is the last request's. -/
def Dev.takeInj (d : Dev) (point index : Nat) : Bool × Dev :=
  if d.gut.armed.contains ⟨point, index⟩ then
    let last := d.gut.armed.getLast? == some ⟨point, index⟩ && d.get R.GUT_INJ_RES_CODE == Code.accepted.val
      && d.get R.GUT_INJ_RES_POINT == point
    let d := { d with gut := { d.gut with armed := d.gut.armed.erase ⟨point, index⟩ } }
    (true, d.when last fun d => d.set1 R.GUT_INJ_RES_DETECTED)
  else (false, d)

/-! ## Lists of units -/

def Dev.ain (d : Dev) (n : Nat) : Ain := d.sense.ains.getD n .rest
def Dev.modAin (d : Dev) (n : Nat) (f : Ain → Ain) : Dev :=
  { d with sense := { d.sense with ains := updAt d.sense.ains n f } }
def Dev.core (d : Dev) (c : Nat) : Core := d.sense.cores.getD c .rest
def Dev.modCore (d : Dev) (c : Nat) (f : Core → Core) : Dev :=
  { d with sense := { d.sense with cores := updAt d.sense.cores c f } }
def Dev.win (d : Dev) (w : Nat) : Win := d.sense.wins.getD w ⟨0, 0⟩
def Dev.modWin (d : Dev) (w : Nat) (f : Win → Win) : Dev :=
  { d with sense := { d.sense with wins := updAt d.sense.wins w f } }
def Dev.sdm (d : Dev) (n : Nat) : Sdm := d.sense.sdms.getD n .rest
def Dev.modSdm (d : Dev) (n : Nat) (f : Sdm → Sdm) : Dev :=
  { d with sense := { d.sense with sdms := updAt d.sense.sdms n f } }
def Dev.cmp (d : Dev) (c : Nat) : Cmp := d.sense.cmps.getD c .rest
def Dev.modCmp (d : Dev) (c : Nat) (f : Cmp → Cmp) : Dev :=
  { d with sense := { d.sense with cmps := updAt d.sense.cmps c f } }

def Dev.modSense (d : Dev) (f : Sense → Sense) : Dev := { d with sense := f d.sense }

/-- The converters, demodulators and comparators operate (R206), except where QUIET or a last gasp has stopped them
(R535, R537). -/
def Dev.sensing (d : Dev) : Bool := d.mode.afterBoot && d.sense.applied && !d.sup.stopped

/-! ## Pairs and cores (R202) -/

/-- The pair of an input. -/
def pairOf (n : Nat) : Nat := n / 12

def Dev.doubled (d : Dev) (p : Nat) : Bool := d.on (R.ADC_CTRL_DOUBLED.bit p)

/-- The doubled-mode input of pair `p` (ADC_DBL). -/
def Dev.dblInput (d : Dev) (p : Nat) : Nat := d.get (⟨A.ADC_DBL, 8 * p, 6⟩ : Fld)

def Dev.calBusy (d : Dev) (c : Nat) : Bool := d.on (R.ADC_STATUS_CAL_BUSY.bit c)

def Dev.pairCal (d : Dev) (p : Nat) : Bool := d.calBusy (2 * p) || d.calBusy (2 * p + 1)

def Dev.plausOff (d : Dev) (p : Nat) : Bool := d.on (R.ADC_STATUS_PLAUS_OFF.bit p)

def Dev.refReady (d : Dev) : Bool := d.on R.ADC_STATUS_REF_RDY

/-- The core (0 even, 1 odd) that the next conversion of an input goes to (R211); a calibrating core leaves it to its
partner (R230). -/
def Dev.nextCore (d : Dev) (n : Nat) : Nat :=
  let p := pairOf n
  let c := match (d.ain n).lastCore with
    | none => d.get (R.AINn_CFG_START_CORE n)
    | some k => 1 - k
  if d.calBusy (2 * p + c) then 1 - c else c

/-! ## Triggers and the cores (R203, R208 to R214)

A trigger waits in one queue in the order of R212; a core that is free takes the first conversion that is its own. A source
event in CLK200 cycle t registers in t + 1 and begins at the earliest in t + 2; the sampling instant is 8 cycles after that, the
core is free after 40, and the result is delivered after 41 (R213). -/

/-- Input `n` has a triggered conversion that no core has begun. -/
def Dev.waits (d : Dev) (n : Nat) : Bool := d.sense.queue.any fun e => e.2 == n

/-- Trigger time first, then input number (R212). -/
def servedFirst (a b : Nat × Nat) : Bool := decide (a.1 < b.1) || a.1 == b.1 && decide (a.2 ≤ b.2)

/-- A source event in cycle `t` triggers input `n` (R212, R214, R222): from its own source, or from a scan (R450, R543, R567).
A check conversion on its core is aborted (R215). -/
def Dev.triggerAt (d : Dev) (t n : Nat) : Dev :=
  if !d.sensing || d.doubled (pairOf n) || decide (48 ≤ n) then d
  else if !d.refReady then d.bump R.ADC_SKIP_SKIP
  else if d.waits n then (d.set1 R.ADC_FLAGS_OVERRUN).report 69 n
  else
    let d := d.modSense fun x => { x with queue := insertBy servedFirst (t, n) x.queue }
    d.modCore (2 * pairOf n + d.nextCore n) fun c => { c with check := none }

def Dev.trigger (d : Dev) (n : Nat) : Dev := d.triggerAt d.cycles n

/-! ## Scans (R450, R451, R543, R545): of the branches in the DIST role, of the strings in the STOR role -/

/-- The rack angle has come to a multiple of 2^log reeds with this cycle, and no scan has been made in it. -/
def Dev.scanDue (d : Dev) (log : Nat) : Bool :=
  d.cyc.reedNew && decide (d.reed % 2 ^ log = 0) && !d.sense.scan.any fun (x : Nat × Bool) => x.1 == d.cycles

/-- One of the inputs waits for its conversion, or is being converted. -/
def Dev.converting (d : Dev) (inputs : List Nat) : Bool :=
  inputs.any fun i => (d.sense.queue.any fun q => q.2 == i) || !(d.ain i).convs.isEmpty

/-- A scan: one trigger for every input. -/
def Dev.scan (d : Dev) (log : Nat) (inputs : List Nat) : Dev :=
  if !d.scanDue log then d
  else
    let d := d.each inputs Dev.trigger
    d.modSense fun x => { x with scan := some (d.cycles, d.converting inputs) }

/-- The last input of a scan has been delivered, and its evaluation is still to come. -/
def Dev.scanDone (d : Dev) (inputs : List Nat) : Bool :=
  (d.sense.scan.any fun (x : Nat × Bool) => x.2) && !d.converting inputs

/-- The evaluation of the scan has come. -/
def Dev.scanOver (d : Dev) : Dev := d.modSense fun x => { x with scan := x.scan.map fun (y : Nat × Bool) => (y.1, false) }

/-- Core `k` of the pair begins a conversion of input `n` in the present cycle. -/
def Dev.beginConv (d : Dev) (n k : Nat) : Dev :=
  let t := d.cycles
  let d := d.modAin n fun a =>
    { a with convs := a.convs ++ [⟨k, t, none, 0, a.skip || a.lastCore.isNone⟩], lastCore := some k, skip := false }
  d.modCore (2 * pairOf n + k) fun c => { c with busyTo := t + 40, check := none }

/-- Core `c` is free to begin a conversion. -/
def Dev.coreFree (d : Dev) (c : Nat) : Bool := decide ((d.core c).busyTo ≤ d.cycles) && !d.calBusy c

/-- The first waiting conversion of core `c` that may begin. -/
def Dev.nextFor (d : Dev) (c : Nat) : Option (Nat × Nat) :=
  d.sense.queue.find? fun e => decide (e.1 + 2 ≤ d.cycles) && pairOf e.2 == c / 2 && d.nextCore e.2 == c % 2

def Dev.coreTick (d : Dev) (c : Nat) : Dev :=
  if d.doubled (c / 2) || !d.coreFree c then d
  else match d.nextFor c with
    | some e => (d.modSense fun x => { x with queue := x.queue.erase e }).beginConv e.2 (c % 2)
    | none => d

/-- The sequence of a doubled pair (R219, R222, R231): the even core every 40 cycles, the odd core 20 after it. It begins when
the pair's cores are free of what they were doing. -/
def Dev.doubledTick (d : Dev) (p : Nat) : Dev :=
  let put (d : Dev) (t : Option Nat) : Dev := d.modSense fun x => { x with doubling := updAt x.doubling p fun _ => t }
  let n := d.dblInput p
  if !d.doubled p || !d.refReady || d.pairCal p then put d none
  else match d.sense.doubling.getD p none with
    | none => if d.coreFree (2 * p) && d.coreFree (2 * p + 1) then (put d (some d.cycles)).beginConv n 0 else d
    | some t =>
      if (d.cycles - t) % 40 = 0 then d.beginConv n 0
      else if (d.cycles - t) % 40 = 20 then d.beginConv n 1
      else d

/-- The turn of the 64-bit timestamp. -/
def Dev.turnCount (d : Dev) : Nat := d.now / 65536

/-- A core that has been idle for 1 µs begins its check conversion, once in a turn (R215). One that a trigger aborted is begun
anew after the next 1 µs (log entry 293). -/
def Dev.checkTick (d : Dev) (c : Nat) : Dev :=
  let k := d.core c
  if d.doubled (c / 2) || d.calBusy c || decide (d.cycles < k.busyTo + 200) || k.check.isSome || k.checked == some d.turnCount
      || d.sense.queue.any (fun e => pairOf e.2 == c / 2 && d.nextCore e.2 == c % 2) then d
  else d.modCore c fun k => { k with check := some d.cycles }

/-- The voltage in µV, in the present cycle, of the reference that REFSEL selects for the cores and the DACs (R221). -/
def Dev.vref (d : Dev) : Int :=
  if d.get R.ADC_CTRL_REFSEL = 0 then 2500000 else Config.between .refBall [d.get R.ADC_CTRL_REFSEL, d.cycles] 0 4000000

/-- The voltage at ball AINn in µV, in the present cycle (R83, R204, R240). -/
def Dev.ainVolts (d : Dev) (n : Nat) : Int := Config.between .ainBall [n, d.cycles] (-300000) 4000000

/-- The code of input AINn before correction, sampled in the present cycle (R204): 16,384 × V_in / V_REF to the nearest. -/
def Dev.rawCode (d : Dev) (n : Nat) : Int :=
  if d.vref ≤ 0 then (Config.free .adcCode [n, d.cycles] % 16384 : Nat) else Config.nearest .adcCode (16384 * d.ainVolts n) d.vref

/-- The sampling instants of the present cycle (R203). -/
def Dev.sampleTick (d : Dev) : Dev :=
  let mark (n : Nat) (k : Conv) : Conv :=
    if k.from_ + 8 = d.cycles then { k with sampled := some d.now, raw := d.rawCode n } else k
  let each (n : Nat) (a : Ain) : Ain := { a with convs := a.convs.map (mark n) }
  d.modSense fun x => { x with ains := x.ains.mapIdx each }

/-- Input or demodulator `i` (64 and above: demodulators) has taken its trigger or result in this cycle. -/
def Dev.serve (d : Dev) (i : Nat) : Dev := { d with cyc := { d.cyc with served := i :: d.cyc.served } }

/-- The own trigger source of input or demodulator `i`, by its TSRC and TIDX, has come to its instant in this cycle, and has not
been served (R208, R209, R236). The chained ones are triggered with the completion of their parents. -/
def Dev.sourceDue (d : Dev) (i tsrc tidx : Nat) : Bool :=
  !d.cyc.served.contains i && (if tsrc = 1 then d.cyc.fired.contains tidx || d.markDue tidx else d.cyc.due.contains i)

/-- ADC_TRIGGER: the trigger source of input `n` fires (R208). -/
def Dev.adcTrigger (d : Dev) (n : Nat) : Dev :=
  if d.sourceDue n (d.get (R.AINn_CFG_TSRC n)) (d.get (R.AINn_CFG_TIDX n)) then (d.serve n).trigger n else d

/-- Carrier points (R208, R209): the phase of channel `tidx` has come to CPOS / 256 of its period; of CDIV + 1 such instants one
counts, the first one after a step of the rack angle and after a change of the settings. Answers how many are still to pass,
and whether this one counts. -/
def Dev.carrierPoint (d : Dev) (tidx cpos cdiv left : Nat) : Nat × Bool :=
  if !d.cameTo tidx (cpos * 2 ^ 40) then (left, false) else if left = 0 then (cdiv, true) else (left - 1, false)

/-- The carrier points of the inputs in the present cycle. -/
def Dev.pointTick (d : Dev) (n : Nat) : Dev :=
  if d.get (R.AINn_CFG_TSRC n) != 2 then d
  else
    let r := d.carrierPoint (d.get (R.AINn_CFG_TIDX n)) (d.get (R.AINn_CFG_CPOS n)) (d.get (R.AINn_CFG_CDIV n)) (d.ain n).left
    let d := d.modAin n fun a => { a with left := r.1 }
    if r.2 then { d with cyc := { d.cyc with due := n :: d.cyc.due } } else d

/-- The result code of R204 and R205: the raw code corrected by the OTP generation and the last calibration run, and
clamped. -/
def Dev.correct (d : Dev) (c : Nat) (raw : Int) : Nat :=
  let g : Int := d.sense.otpGain.getD c 0x40000000 * (d.core c).gain
  let o : Int := d.sense.otpOffset.getD c 0 + (d.core c).offset
  (clampI 0 16383 (Config.round .adcCode (raw * g * 256 + o * 2 ^ 60) (256 * 2 ^ 60))).toNat

/-- The timestamp, in reeds, of the sampling instant of a result that is delivered now: 165 ns, 33 CLK200 cycles earlier
(R213). -/
def Dev.sampleTime (d : Dev) : Nat := ((d.total + 2 ^ 96 - 33 * d.rate) / 2 ^ 32) % 2 ^ 64

/-- The comparison of R216 is made for a result of input `n` sampled at `t`; `skip` exempts it. -/
def Dev.compared (d : Dev) (n : Nat) (skip : Bool) (t : Nat) : Bool :=
  d.on (R.AINn_CFG_PLAUS_EN n) && !d.plausOff (pairOf n) && !skip &&
    match (d.ain n).prev with
    | none => false
    | some (_, t') => decide (reedsDiff t t' ≤ d.get (R.AINn_PL_AGE n) * 64)

/-- Plausibility of a result (R216, R217, R585). Answers the state and PLERR. -/
def Dev.plausibility (d : Dev) (n code : Nat) (skip : Bool) (t : Nat) : Dev × Bool :=
  if !d.compared n skip t then (d, false)
  else
    let p := pairOf n
    let before := match (d.ain n).prev with
      | some (c, _) => c
      | none => code
    let (inj, d) := d.takeInj 0 n
    let bad := decide (d.get (R.AINn_PL_TOL n) < ((code : Int) - before).natAbs) != inj
    if !bad then ((d.modAin n fun a => { a with fails := 0 }).unholdEv (64 + p) p, false)
    else
      let f := (d.ain n).fails + 1
      if f < d.get (R.AINn_PL_NFAIL n) then (d.modAin n fun a => { a with fails := f }, true)
      else
        let d := d.modAin n fun a => { a with fails := 0 }
        (((d.set1 (R.ADC_FLAGS_PLAUS.bit p)).holdEv (64 + p) p).report (64 + p) p 0 inj, true)

/-- A limit of a window, against which a result is judged: the one before a write of the same cycle (R224, R227). -/
def Dev.winLimit (d : Dev) (signed : Bool) (f : Fld) : Int := if signed then toSigned f.w (d.getWas f) else d.getWas f

/-- A result of window source `src` (R224, R225): answers the state and the windows that exit, ascending. `x` is the
value compared. A change of WINw_CFG, EN among it, leaves STATE and the counts of the window as they are (DESIGN CHOICE, log
entry 330). -/
def Dev.windowResult (d : Dev) (src : Nat) (x : Int) : Dev × List Nat :=
  let signed := decide (64 ≤ src)
  let ws := idxs 32 fun w => d.on (R.WINw_CFG_EN w) && d.get (R.WINw_CFG_SRC w) == src
  ws.foldl (fun (acc : Dev × List Nat) w =>
    let (d, ex) := acc
    let out := decide (x < d.winLimit signed (R.WINw_LIM_LO w) ∨ d.winLimit signed (R.WINw_LIM_HI w) < x)
    let st := d.on (R.ADC_WIN_STATE_STATE.bit w)
    let c := d.win w
    if st then
      if out then (d.modWin w fun c => { c with inside := 0 }, ex)
      else if c.inside + 1 < d.get (R.WINw_CFG_NREARM w) then (d.modWin w fun c => { c with inside := c.inside + 1 }, ex)
      else ((d.modWin w fun _ => ⟨0, 0⟩).clr (R.ADC_WIN_STATE_STATE.bit w), ex)
    else
      if !out then (d.modWin w fun c => { c with outside := 0 }, ex)
      else if c.outside + 1 < d.get (R.WINw_CFG_NEXIT w) then
        (d.modWin w fun c => { c with outside := c.outside + 1 }, ex)
      else
        let d := (d.modWin w fun _ => ⟨0, 0⟩).set1 (R.ADC_WIN_STATE_STATE.bit w)
        let d := d.set1 (R.ADC_WIN_FLAGS_EXIT.bit w)
        (d.when (d.on (R.WINw_CFG_TO_GUTTER w)) fun d => d.report 71 w, ex ++ [w])) (d, [])

/-- The suspension of R218 ends for a pair: neither doubled nor calibrating, and one of its cores has completed a
conversion. -/
def Dev.plausResume (d : Dev) (p : Nat) : Dev :=
  if d.plausOff p && !d.doubled p && !d.pairCal p then d.clr (R.ADC_STATUS_PLAUS_OFF.bit p) else d

/-- The result of a conversion `k` of input `n` (R204, R213, R216): the result register. Answers the state and the corrected
code. -/
def Dev.convResult (d : Dev) (n : Nat) (k : Conv) : Dev × Nat :=
  let p := pairOf n
  let code := d.correct (2 * p + k.core) k.raw
  let t := k.sampled.getD d.sampleTime
  let (d, plerr) := d.plausibility n code k.skip t
  let d := ((d.put (R.AINn_RES_CODE n) code).put (R.AINn_RES_CORE n) k.core).putB (R.AINn_RES_PLERR n) plerr
  let d := d.put (R.AINn_RES_TAG n) (t % 65536)
  ((d.modAin n fun a => { a with prev := some (code, t) }).plausResume p, code)

/-- The conversion of input `n` that has been under way longest is complete (R203, R213). -/
def Dev.convDone (d : Dev) (n : Nat) : Option Conv :=
  match (d.ain n).convs with
  | [] => none
  | k :: _ => if d.sensing && decide (k.from_ + 41 ≤ d.cycles) then some k else none

/-- The conversion of input `n` completes; none where none is complete. -/
def Dev.conversion (d : Dev) (n : Nat) : Option (Dev × Nat) :=
  (d.convDone n).map fun k => (d.modAin n fun a => { a with convs := a.convs.drop 1 }).convResult n k

/-- A check conversion of core `c` completes (R215): `code` is its result. -/
def Dev.checkConversion (d : Dev) (c code : Nat) : Dev :=
  match (d.core c).check with
  | none => d
  | some t =>
    if !d.sensing || decide (d.cycles < t + 40) then d
    else
      let turn := d.turnCount
      let d := d.modCore c fun k => { k with check := none, checked := some turn }
      let (inj, d) := d.takeInj 1 c
      let bad := (decide (code < 8192 - 64) || decide (8192 + 64 < code)) != inj
      if !bad then (d.modCore c fun k => { k with checkBad := 0 }).unholdEv 76 c
      else if (d.core c).checkBad = 0 then d.modCore c fun k => { k with checkBad := 1 }
      else ((d.set1 (R.ADC_FLAGS_CORE_CHECK.bit c)).holdEv 76 c).report 76 c 0 inj

/-! ## Reference (R221-R223) -/

/-- OUT of every comparator (R222, R243): the filtered comparison, forced to tripped while REF_RDY = 0. -/
def Dev.cmpOuts (d : Dev) : Dev :=
  d.each (List.range 24) fun d c =>
    d.putB (R.CMPc_STATUS_OUT c) (d.on (R.CMPc_CFG_EN c) && ((d.cmp c).past || !d.refReady))

/-- REF_RDY clears (R222): the comparators' outputs are forced to their tripped state while it reads 0. The run of comparisons of
R223 begins anew with the new reference (DESIGN CHOICE, log entry 331). -/
def Dev.refUnready (d : Dev) : Dev :=
  { (d.clr R.ADC_STATUS_REF_RDY).cmpOuts with sense := { d.sense with refBad := 0, refGood := 0, refSince := some d.cycles } }

def Dev.refSettled (d : Dev) : Dev :=
  if d.sensing then ((d.set1 R.ADC_STATUS_REF_RDY).cmpOuts).modSense fun x => { x with refSince := none } else d

/-- The reference is declared faulty (R223). -/
def Dev.refFault (d : Dev) : Dev := ((d.set1 R.ADC_FLAGS_REF_FAULT).holdEv 68 0).report 68

/-- REF_RDY has not set within 1 ms of clearing, which is 200,000 CLK200 cycles (R223). -/
def Dev.refLate (d : Dev) : Bool := !d.refReady && d.sense.refSince.any fun t => decide (t + 200000 ≤ d.cycles)

/-- The place of the comparison of the reference among what a cycle has served. -/
def refServed : Nat := 98

/-- A comparison with the bandgap is due: the rack angle has come to a multiple of 64 reeds with this cycle (R223). -/
def Dev.refDue (d : Dev) : Bool :=
  d.sensing && d.cyc.reedNew && decide (d.reed % 64 = 0) && !d.cyc.served.contains refServed

/-- A comparison with the bandgap (R223, R585): `far` for a deviation above 2 %. A reference that has not become ready within 1 ms
is declared faulty at the next comparison, once. -/
def Dev.refCheck (d : Dev) (far : Bool) : Dev :=
  if !d.refDue then d
  else
    let d := d.serve refServed
    let bad := if far then min 16 (d.sense.refBad + 1) else 0
    let good := if far then 0 else min 16 (d.sense.refGood + 1)
    let was := d.sense.refBad
    let late := d.refLate
    let d := d.modSense fun x => { x with refBad := bad, refGood := good, refSince := if late then none else x.refSince }
    let d := d.when (good == 16 && d.refReady) fun d => d.unholdEv 68 0
    if (bad = 16 ∧ was ≠ 16) ∨ late then d.refFault else d

/-! ## Calibration (R228-R231) -/

/-- Conversions per second at 70 Hz, as a fraction, that the scans make of input `n`: the branch scan (R450), the
estimator's scan (R543) and the thermal measurement (R567). -/
def Dev.scanRate (d : Dev) (n : Nat) : Nat × Nat :=
  let br := d.isRole .dist && ((decide (n < 16) && d.on (R.BRn_CFG_USE (n / 2)))
    || (decide (16 ≤ n) && decide (n < 24) && d.on (R.BRn_CFG_USE (n - 16)))
    || n == d.get R.BR_SENSE_SPA_IN || n == d.get R.BR_SENSE_SPB_IN)
  let st := d.isRole .stor && (List.range 6).any fun k => d.on (R.STk_CFG_EN k)
    && (d.get (R.STk_CFG_VIN k) == n || d.get (R.STk_CFG_IIN k) == n)
  let th := ((List.range 16).filter fun c => d.get (R.TSc_CFG_KIND c) == 1 && d.get (R.TSc_CFG_IN c) == n).length
  let a := 2 ^ d.get R.BR_SENSE_SCAN_LOG2
  let b := 2 ^ d.get R.ST_CFG_EST_LOG2
  (70 * 65536 * ((if br then b else 0) + (if st then a else 0)) + th * 560 * (a * b), a * b)

/-- Trigger rate of an input at 70 Hz (R210), as a fraction of conversions per second; a CHAIN trigger has its parent's rate, be it
that of a scan; `fuel` bounds the chain. -/
def Dev.trigRate (d : Dev) : Nat → Nat → Nat × Nat
  | 0, _ => (0, 1)
  | fuel + 1, n =>
    let idx := d.get (R.AINn_CFG_TIDX n)
    match d.get (R.AINn_CFG_TSRC n) with
    | 1 => (70, d.get (R.MARKm_CFG_PERIOD_M1 idx) + 1)
    | 2 => match d.setOf idx with
      | some s => (d.ratio s * 70, d.get (R.AINn_CFG_CDIV n) + 1)
      | none => (0, 1)
    | 3 => if d.get (R.AINn_CFG_TSRC idx) = 0 then d.scanRate idx else d.trigRate fuel idx
    | _ => (0, 1)

/-- Sum of the trigger rates of pair `p` (R210), as a fraction. -/
def Dev.pairRate (d : Dev) (p : Nat) : Nat × Nat :=
  let add (a r : Nat × Nat) : Nat × Nat := if r.1 = 0 then a else (a.1 * r.2 + r.1 * a.2, a.2 * r.2)
  (List.range 12).foldl (fun (a : Nat × Nat) k =>
    add (add a (d.trigRate 49 (12 * p + k))) (d.scanRate (12 * p + k))) (0, 1)

/-- A fraction is at most `lim`. -/
def rateAtMost (r : Nat × Nat) (lim : Nat) : Bool := decide (r.1 ≤ lim * r.2)

/-- The answer to a CAL request for core `c` (R228). -/
def Dev.calCode (d : Dev) (c : Nat) : Code :=
  let p := c / 2
  let partner := if c % 2 = 0 then c + 1 else c - 1
  if d.calBusy partner then .busyRun
  else if d.mode.regulating && (d.doubled p || !rateAtMost (d.pairRate p) 4000000) then .busyRun
  else .accepted

/-- The CAL command (R228, R230, R231). A core that calibrates begins anew. -/
def Dev.cal (d : Dev) (c : Nat) : Dev :=
  let code := d.calCode c
  let d := (d.putCode R.ADC_CAL_RESULT_CODE code).put R.ADC_CAL_RESULT_CORE c
  if code = .accepted then
    let d := (d.set1 (R.ADC_STATUS_CAL_BUSY.bit c)).set1 (R.ADC_STATUS_PLAUS_OFF.bit (c / 2))
    let d := (d.modCore c fun k => { k with check := none }).modSense fun x => { x with calLast := some c }
    (d.clr R.ADC_CAL_RESULT_DONE).clr R.ADC_CAL_RESULT_FAIL
  else d

/-- The suspension of R218 is over for pair `p`, or begins: the first conversion of each of its inputs from now on is not
compared, and the count of failed comparisons of R217 begins anew (DESIGN CHOICE, log entry 332). -/
def Dev.skipPair (d : Dev) (p : Nat) : Dev :=
  d.each (List.range 12) fun d k => d.modAin (12 * p + k) fun a => { a with skip := true, fails := 0 }

/-- No conversion is in progress on core `c`, nor waits for its result to be delivered (R213, R230). -/
def Dev.coreRests (d : Dev) (c : Nat) : Bool :=
  decide ((d.core c).busyTo ≤ d.cycles)
    && (List.range 12).all fun k => (d.ain (12 * (c / 2) + k)).convs.all fun x => x.core != c % 2

/-- A calibration ends (R229, R230): `ok` with the new gain and offset, or the old constants stay. It begins when a conversion in
progress on its core has run to completion, and cannot end before. DONE and FAIL tell of the last accepted calibration. The
sequence of a doubled pair begins again with its even core (R231). -/
def Dev.calDone (d : Dev) (c : Nat) (ok : Bool) (gain : Nat) (offset : Int) : Dev :=
  if !d.calBusy c || !d.coreRests c then d
  else
    let d := d.clr (R.ADC_STATUS_CAL_BUSY.bit c)
    let d := d.when (d.sense.calLast == some c) fun d => (d.set1 R.ADC_CAL_RESULT_DONE).putB R.ADC_CAL_RESULT_FAIL (!ok)
    let d := d.skipPair (c / 2)
    if ok then d.modCore c fun k => { k with gain := gain, offset := offset }
    else (d.set1 R.ADC_FLAGS_CAL_FAIL).report 70 c

/-- ADC_CTRL.DOUBLED of pair `p` has changed, or its input in ADC_DBL (R218, R219, R220): the sequence begins anew, what waits
for the pair's cores is dropped, and plausibility is suspended while the pair is doubled. -/
def Dev.doubledChanged (d : Dev) (p : Nat) : Dev :=
  let queue := if d.doubled p then d.sense.queue.filter fun e => pairOf e.2 != p else d.sense.queue
  let d := d.modSense fun x => { x with doubling := updAt x.doubling p fun _ => none, queue := queue }
  (d.when (d.doubled p) fun d => d.set1 (R.ADC_STATUS_PLAUS_OFF.bit p)).skipPair p

/-! ## Demodulators (R233-R239) -/

/-- The clock output `k` over one CLK200 cycle (R233): it starts and stops, and takes its divider, at the end of a whole period.
Periods begin at multiples of the divider, so that two clocks with equal dividers are aligned. -/
def Dev.sdClkTick (d : Dev) (k : Nat) : Dev :=
  let en := d.sensing && d.on (if k = 0 then R.SDM_CLK_EN0 else R.SDM_CLK_EN1)
  let div := d.get (if k = 0 then R.SDM_CLK_DIV0 else R.SDM_CLK_DIV1)
  let t := d.cycles
  let next (c : SdClk) : SdClk :=
    if c.on && decide (c.pos + 1 < c.div) then { c with pos := c.pos + 1 }
    else if en && div != 0 && t % div == 0 then ⟨true, div, 0⟩
    else ⟨false, 0, 0⟩
  d.modSense fun x => { x with sdclk := updAt x.sdclk k next }

/-- The level of SDCLKk: high for half a period, the longer half where the divider is odd (R233). -/
def Dev.sdClkHigh (d : Dev) (k : Nat) : Bool :=
  let c := d.sense.sdclk.getD k ⟨false, 0, 0⟩
  c.on && decide (c.pos < (c.div + 1) / 2)

/-- Input SDn is sampled in the present cycle (R234): SDLY cycles after a rising edge of its clock. -/
def Dev.sdSamples (d : Dev) (n : Nat) : Bool :=
  let c := d.sense.sdclk.getD (d.get (R.SDn_CFG_CLKSEL n)) ⟨false, 0, 0⟩
  d.sensing && d.on (R.SDn_CFG_EN n) && c.on && c.pos == d.get (R.SDn_CFG_SDLY n)

/-- A bit comes into demodulator SDn (R235, R237, R238). -/
def Sdm.take (s : Sdm) (osr : Nat) (b : Bool) : Sdm :=
  let equal := s.bits.head? == some b
  { s with
    bits := (b :: s.bits).take (3 * (osr - 1) + 1)
    same := if equal then min 128 (s.same + 1) else 1
    clocks := match s.clocks with
      | some k => some (min (k + 1) (3 * osr))
      | none => if equal then none else some 0
    count := if s.count + 1 < osr then s.count + 1 else 0 }

/-- The weight of the bit `k` clocks back in the sinc3 kernel (R235): the number of ways to write `k` as a sum of three numbers
below OSR. -/
def sincWeight (osr k : Nat) : Int :=
  let tri (m : Int) : Int := if m < 0 then 0 else (m + 1) * (m + 2) / 2
  tri k - 3 * tri ((k : Int) - osr) + 3 * tri ((k : Int) - 2 * osr)

/-- The filter output y of SDn at its last completed clock (R234, R235): 1 counts +1, 0 counts -1. What the filter takes for
bits before the enable is open. -/
def Dev.sinc (d : Dev) (n : Nat) : Int :=
  let s := d.sdm n
  let osr := d.get (R.SDn_CFG_OSR n)
  let l := s.bits.mapIdx fun k b => (if b then 1 else -1) * sincWeight osr k
  let left : Int := (osr : Int) ^ 3 - ((List.range s.bits.length).map (sincWeight osr)).sum
  l.sum + (if left = 0 then 0 else Config.between .sdBefore [n, d.cycles] (-left) left)

/-- RESULT of a filter output `y` (R235); which way a half unit goes is open. -/
def sdmResult (y : Int) (osr : Nat) : Int :=
  if osr = 0 then 0 else clampI (-131071) 131071 (Config.nearest .sdHalf (y * 2 ^ 17) ((osr : Int) ^ 3))

/-- The bit of SDn in the present cycle, where it is sampled, and the instants of its results (R236). -/
def Dev.sdTick (d : Dev) (n : Nat) : Dev :=
  let note (d : Dev) : Dev := { d with cyc := { d.cyc with due := (64 + n) :: d.cyc.due } }
  let came := d.sdSamples n
  let d := d.when came fun d => d.modSdm n fun s => s.take (d.get (R.SDn_CFG_OSR n)) (Config.free .sdBall [n, d.cycles] % 2 == 1)
  match d.get (R.SDn_TRIG_TSRC n) with
  | 0 => d.when (came && (d.sdm n).count == 0) note
  | 2 =>
    let r := d.carrierPoint (d.get (R.SDn_TRIG_TIDX n)) (d.get (R.SDn_TRIG_CPOS n)) (d.get (R.SDn_TRIG_CDIV n)) (d.sdm n).left
    (d.modSdm n fun s => { s with left := r.1 }).when r.2 note
  | _ => d

/-- A result instant of SDn (R237, R238). While the stream is lost RESULT holds. Answers the state and the value compared by
windows. -/
def Dev.sdmInstant (d : Dev) (n : Nat) : Dev × Int :=
  let r := if (d.sdm n).lost then d.getS (R.SDn_RES_RESULT n) else sdmResult (d.sinc n) (d.get (R.SDn_CFG_OSR n))
  let big := decide (d.get (R.SDn_LIM_OVR_LIM n) ≤ r.natAbs)
  let both := big && (d.sdm n).overLim
  let valid := d.on (R.SDn_RES_VALID n)
  let d := (d.putS (R.SDn_RES_RESULT n) r).modSdm n fun s =>
    { s with overLim := big, resValid := valid, lastValid := if valid then r else s.lastValid }
  let d := d.when both fun d => (d.set1 (R.SDM_FLAGS_OVR.bit n)).report 73 n
  (d, toSigned 16 (ofSigned 18 r / 4))

/-- SDM_LOSS: SDn has held one level for 128 clocks (R238), since the last loss was found at least. RESULT holds from then on. -/
def Dev.sdmLoss (d : Dev) (n : Nat) : Dev :=
  if !d.sensing || !d.on (R.SDn_CFG_EN n) || ((d.sdm n).lost && (d.sdm n).clocks.isNone) || decide ((d.sdm n).same < 128) then d
  else
    let d := (d.set1 (R.SDM_FLAGS_LOSS.bit n)).clr (R.SDn_RES_VALID n)
    ((d.modSdm n fun s => { s with lost := true, clocks := none }).holdEv 72 n).report 72 n

/-- SDM_VALID: 3 × OSR clocks have passed since the enable, or since the next change of level after a loss (R237, R238). -/
def Dev.sdmValid (d : Dev) (n : Nat) : Dev :=
  if !d.sensing || !d.on (R.SDn_CFG_EN n) then d
  else match (d.sdm n).clocks with
    | none => d
    | some k =>
      if k < 3 * d.get (R.SDn_CFG_OSR n) then d
      else ((d.set1 (R.SDn_RES_VALID n)).modSdm n fun s => { s with lost := false }).unholdEv 72 n

/-! ## Fast comparators (R240-R248) -/

/-- CLK200 cycles since the last on-edge of a channel (R242). -/
def Dev.sinceOnEdge (d : Dev) (t : Int) : Nat := ((d.step64 - t) / 64).toNat

/-- The DAC code that the registers and the slope give a comparator (R241, R242); `cref` is the Rafter reference of a stage. -/
def Dev.cmpCode (d : Dev) (cref : Nat → Nat) (c : Nat) : Nat :=
  let base := if d.on (R.CMPc_CFG_DSRC c) then cref (d.get (R.CMPc_CFG_STAGE c)) else d.get (R.CMPc_DAC_CODE c)
  if !d.on (R.CMPc_CFG_SLOPE_EN c) then base
  else match (d.chan (d.get (R.CMPc_CFG_SLOPE_CH c))).lastOn with
    | none => base
    | some t => max (d.get (R.CMPc_SLOPE_FLOOR c)) (base - d.get (R.CMPc_SLOPE_SLOPE c) * d.sinceOnEdge t / 256)

def Dev.crefHeld (d : Dev) (s : Nat) : Nat := d.twin.cref.getD s 0

/-- The hysteresis of HYST in µV. -/
def hystMicro (h : Nat) : Int := [0, 10000, 20000, 40000].getD h 0

/-- The comparison of R240 for an input `v` and a threshold code, in µV: past the threshold it trips; it stays tripped until it
has come back past the hysteresis. -/
def compare240 (below was : Bool) (hyst v vref : Int) (code : Nat) : Bool :=
  let thr : Int := code * vref
  if below then (if was then !decide (thr + 1024 * hyst < 1024 * v) else decide (1024 * v < thr))
  else if was then !decide (1024 * v < thr - 1024 * hyst) else decide (thr < 1024 * v)

/-- The code that the ADC measures for input AINc in the present cycle, scaled to DAC codes (R247). -/
def Dev.adcScaled (d : Dev) (c : Nat) : Nat := (clampI 0 1023 (Config.round .cmpSweep (d.rawCode c) 16)).toNat

/-- The comparison at the present code of the sweep (R247): the first one is that at code 0; the code at which it first differs is
held, with the ADC's measurement at the same time. -/
def Dev.sweepCompared (d : Dev) (c : Nat) (raw : Bool) : Dev :=
  match d.sense.sweepBase with
  | none => d.modSense fun x => { x with sweepBase := some raw }
  | some b =>
    if raw == b || d.sense.sweepFlip.isSome then d
    else d.modSense fun x => { x with sweepFlip := some (x.sweep, d.adcScaled c) }

/-- Comparator `c` in the present cycle (R240 to R243, R247): its DAC takes the code that held at the end of the last cycle, and
the input is compared with it. A DAC that takes a new code takes it into both registers (R246). -/
def Dev.cmpTick (d : Dev) (c : Nat) : Dev :=
  let code := if d.sense.testing = some c then d.sense.sweep else d.cmpCode d.crefHeld c
  let on := d.sensing && d.on (R.CMPc_CFG_EN c)
  let raw := on && compare240 (d.on (R.CMPc_CFG_POL c)) (d.cmp c).raw (hystMicro (d.get (R.CMPc_CFG_HYST c))) (d.ainVolts c)
    d.vref code
  let d := d.modCmp c fun k => { k with
    code := code, dup := if k.code = code then k.dup else code
    raw := raw, past := on && k.past
    held := if raw = (on && k.past) then 0 else min 16 (k.held + 1) }
  d.when (d.sense.testing == some c) fun d => d.sweepCompared c raw

/-- A change of the comparison has held for FILT cycles (R243): to tripped, or back. -/
def Dev.cmpDue (d : Dev) (c : Nat) (trip : Bool) : Bool :=
  let k := d.cmp c
  k.raw == trip && k.past != trip && decide (d.get (R.CMPc_CFG_FILT c) < k.held)

/-- The sweep of R247 goes on once code 0 has been compared; its pace is open. -/
def Dev.sweepTick (d : Dev) : Dev :=
  if d.sense.testing.isNone || d.sense.sweepBase.isNone then d
  else d.modSense fun x => { x with sweep := min 1023 (x.sweep + Config.free .cmpSweep [d.cycles] % 2) }

/-- The comparator's routes act: it is on, it is not under test (R247). -/
def Dev.cmpRoutes (d : Dev) (c : Nat) : Bool := d.on (R.CMPc_CFG_EN c) && d.sense.testing != some c

/-- The routed output of comparator `c` (R222, R244, R246): tripped while the comparison is past the threshold, while a
latched TRIP stands, while REF_RDY = 0, and for good after a DAC error. -/
def Dev.cmpRouted (d : Dev) (c : Nat) : Bool :=
  d.cmpRoutes c && ((d.cmp c).forced || (d.cmp c).past || !d.refReady
    || (d.on (R.CMPc_CFG_LATCH c) && d.on (R.CMPc_STATUS_TRIP c)))

/-- A trip of comparator `c` inside the block (R243, R244): output, TRIP, count, and EV075 where it goes to Gutter. -/
def Dev.cmpTrip (d : Dev) (c : Nat) : Dev :=
  let d := d.modCmp c fun k => { k with past := true, held := 0 }
  let d := (d.set1 (R.CMPc_STATUS_OUT c)).set1 (R.CMPc_STATUS_TRIP c)
  let d := d.bump (R.CMPc_STATUS_COUNT c)
  d.when (d.on (R.CMPc_CFG_TO_GUTTER c) && d.cmpRoutes c) fun d => d.report 75 c

/-- The input of comparator `c` has come back past its hysteresis (R240, R244): OUT falls, and with it the routed output unless
it is latched or forced. -/
def Dev.cmpRelease (d : Dev) (c : Nat) : Dev :=
  let d := d.modCmp c fun k => { k with past := false, held := 0 }
  d.putB (R.CMPc_STATUS_OUT c) (d.on (R.CMPc_CFG_EN c) && !d.refReady)

/-- The DAC's duplicate differs (R246). -/
def Dev.dacError (d : Dev) (c : Nat) (inj : Bool) : Dev :=
  (((d.set1 (R.CMPc_STATUS_DAC_ERR c)).modCmp c fun k => { k with forced := true }).holdEv 74 c).report 74 c 0 inj

/-- The DAC of comparator `c` and its duplicate are compared (R246, R595). Answers whether they differ, or read so by an inverted
check bit, and whether it was that. -/
def Dev.dacDiffers (d : Dev) (c : Nat) : Dev × Bool × Bool :=
  let (inj, d) := d.takeInj 4 c
  (d, decide ((d.cmp c).code ≠ (d.cmp c).dup) != inj, inj)

/-- CMP_TEST (R247, R232). While a test runs another one is refused with BUSY_RUN (log entry 294). -/
def Dev.cmpTest (d : Dev) (c : Nat) : Dev :=
  let code : Code :=
    if d.mode.regulating then .busyRun else if 24 ≤ c then .badProfile
    else if d.sense.testing.isSome then .busyRun else .accepted
  let d := d.putCode R.CMP_TEST_RES_CODE code
  if code = .accepted then
    { ((d.clr R.CMP_TEST_RES_DONE).clr R.CMP_TEST_RES_FAIL) with sense := { d.sense with testing := some c, sweep := 0, sweepBase := none, sweepFlip := none } }
  else d

/-- The code that FLIP takes and the ADC's measurement beside it. The spec gives no code where the output has not changed in the
sweep: it is then a free value (log entry 333), and the measurement is that of the end. -/
def Dev.flipOf (d : Dev) (c : Nat) : Nat × Nat :=
  d.sense.sweepFlip.getD (Config.free .cmpSweep [c, d.cycles] % 1024, d.adcScaled c)

/-- A comparator test ends (R247) when its sweep has come to code 1,023. -/
def Dev.cmpTestDone (d : Dev) : Dev :=
  match d.sense.testing with
  | none => d
  | some c =>
    if d.sense.sweep < 1023 then d
    else
      let x := d.flipOf c
      let fail := decide (8 < ((x.1 : Int) - x.2).natAbs)
      let d := ((d.set1 R.CMP_TEST_RES_DONE).putB R.CMP_TEST_RES_FAIL fail).put R.CMP_TEST_RES_FLIP x.1
      d.modSense fun x => { x with testing := none }

end Sys2Proof.Machine
end

