-- ==== Sys2Proof/Machine/Branch.lean ====
section
/-!
DEFINITION. Sys2Proof/Machine/Branch.lean: the operations of the tray branches (spec/11_branches.md): the branch state
machine, precharge, fusing, the ideal-diode legs, captures and brake lines.
-/

namespace Sys2Proof.Machine

/-! ## States (R452, R465) and kinds (R461, R474) -/

def brEmpty : Nat := 0
def brSeating : Nat := 1
def brInsert : Nat := 2
def brReady : Nat := 3
def brPrecharge : Nat := 4
def brOn : Nat := 5
def brTripped : Nat := 6
def brLockout : Nat := 7

def legOff : Nat := 0
def legClosed : Nat := 1
def legRev : Nat := 2
def legHalf : Nat := 3

def caTripIn : Nat := 1
def caTripCmp : Nat := 2
def caStall : Nat := 3
def caOverload : Nat := 4

def slSeatLoss : Nat := 1
def slDetach : Nat := 2
def slNoFeed : Nat := 7

def Dev.br (d : Dev) (n : Nat) : Branch := d.branches.getD n .rest

def Dev.modBr (d : Dev) (n : Nat) (f : Branch → Branch) : Dev := { d with branches := updAt d.branches n f }

def Dev.bs (d : Dev) (n : Nat) : Nat := d.get (R.BRn_STATE_STATE n)

/-- The branch is in use and its inputs are monitored (R109, R457). -/
def Dev.brLive (d : Dev) (n : Nat) : Bool :=
  d.isRole .dist && decide (n < 8) && d.on (R.BRn_CFG_USE n) && d.mode.afterBoot

/-- The switch balls of a branch (R452, R465): BRn_PRE, BRn_MAIN_A, BRn_MAIN_B. -/
def Dev.brSwitches (d : Dev) (n : Nat) : Bool × Bool × Bool :=
  ((d.br n).pre, d.get (R.BRn_STATE_LEG_A n) == legClosed, d.get (R.BRn_STATE_LEG_B n) == legClosed)

/-- BRn_SEAT_LEG with its kind (R474). -/
def Dev.slEvent (d : Dev) (n k : Nat) : Dev :=
  ((d.put (R.BRn_STATE_SL_KIND n) k).set1 (R.BR_FLAGS_SEAT_LEG.bit n)).report (81 + 2 * n) n k

/-- BRn_FAULT with a trip cause (R474). -/
def Dev.brFault (d : Dev) (n cause : Nat) : Dev :=
  (d.set1 (R.BR_FLAGS_FAULT.bit n)).report (80 + 2 * n) n cause

/-- PRECHARGE or ON. -/
def Dev.energised (d : Dev) (n : Nat) : Bool := d.bs n == brPrecharge || d.bs n == brOn

/-- All three switch balls low. -/
def Dev.brOff (d : Dev) (n : Nat) : Dev :=
  ((d.modBr n fun b => { b with pre := false, overs := 0, reclA := 0, reclB := 0 }).put (R.BRn_STATE_LEG_A n) legOff).put
    (R.BRn_STATE_LEG_B n) legOff

/-- Branch `n` as it was before a row of R453 that a row nearer the top of the same cycle governs. -/
def Dev.brBack (d : Dev) (n : Nat) (w : Word) (b : Branch) : Dev :=
  let take (d : Dev) (f : Fld) : Dev := d.put f (fieldOf w f.lo f.w)
  let d := d.modBr n fun x => { b with seat := x.seat, trip := x.trip, brake := x.brake }
  take (take (take (take (take d (R.BRn_STATE_STATE n)) (R.BRn_STATE_LEG_A n)) (R.BRn_STATE_LEG_B n)) (R.BRn_STATE_TRIES n))
    (R.BRn_STATE_CAUSE n)

/-- Row `row` of R453, counted from the top, where its condition holds: of the rows that apply to a branch in one CLK200 cycle the
one nearest the top governs, whichever came first. -/
def Dev.brRow (d : Dev) (n row : Nat) (cond : Dev → Bool) (act : Dev → Dev) : Dev :=
  let go (e : Dev) : Dev :=
    if cond e then
      act { e with cyc := { e.cyc with brRows := (n, row, e.word (A.BRn_STATE n), e.br n) :: e.cyc.brRows } }
    else d
  match d.cyc.brRows.lookup n with
  | none => go d
  | some (r, w, b) => if row < r then go (d.brBack n w b) else d

/-- The branch leaves for a state with its switches open; an exit from PRECHARGE or ON dissolves the contract (R455). -/
def Dev.brLeave (d : Dev) (n st : Nat) : Dev :=
  let was := d.energised n
  let d := (d.brOff n).put (R.BRn_STATE_STATE n) st
  if was then d.btBranchExit n else d

/-! ## Measurements (R449-R451, R460, R470) -/

/-- Forward current of a leg in codes, floored at 0. -/
def Dev.fwd (d : Dev) (c : Nat) : Nat := c - d.get R.BR_ZERO_ZI

/-- The summed forward current of R460 over the used legs. -/
def Dev.brCurrent (d : Dev) (n : Nat) : Nat :=
  (if d.on (R.BRn_CFG_LEG_A n) then d.fwd (d.get (R.BRn_MEAS_I_IA n)) else 0)
    + (if d.on (R.BRn_CFG_LEG_B n) then d.fwd (d.get (R.BRn_MEAS_I_IB n)) else 0)

/-- The result of a spine half: false for A. -/
def Dev.half (d : Dev) (b : Bool) : Nat := if b then d.get R.BR_SPINE_MEAS_VSPB else d.get R.BR_SPINE_MEAS_VSPA

/-- The half lies within SP_LO to SP_HI. -/
def Dev.halfIn (d : Dev) (b : Bool) : Bool :=
  decide (d.get R.BR_SPINE_WIN_SP_LO ≤ d.half b) && decide (d.half b ≤ d.get R.BR_SPINE_WIN_SP_HI)

def Dev.legUsed (d : Dev) (n : Nat) (b : Bool) : Bool := d.on (if b then R.BRn_CFG_LEG_B n else R.BRn_CFG_LEG_A n)

def legFld (n : Nat) (b : Bool) : Fld := if b then R.BRn_STATE_LEG_B n else R.BRn_STATE_LEG_A n

def Dev.leg (d : Dev) (n : Nat) (b : Bool) : Nat := d.get (legFld n b)

/-- Vsp of R451: none while no used leg has its half in the window. -/
def Dev.vsp (d : Dev) (n : Nat) : Option Nat :=
  match ([false, true].filter fun b => d.legUsed n b && d.halfIn b).map d.half with
  | [] => none
  | x :: t => some (t.foldl max x)

/-- A result of a scanned input (R451): the last code of each sense signal. -/
def Dev.branchResult (d : Dev) (i code : Nat) : Dev :=
  if !d.isRole .dist then d
  else
    let d := if i < 16 && d.on (R.BRn_CFG_USE (i / 2)) then
        d.put (if i % 2 = 0 then R.BRn_MEAS_I_IA (i / 2) else R.BRn_MEAS_I_IB (i / 2)) code
      else if 16 ≤ i && decide (i < 24) && d.on (R.BRn_CFG_USE (i - 16)) then d.put (R.BRn_MEAS_V_VOUT (i - 16)) code
      else d
    let d := if i == d.get R.BR_SENSE_SPA_IN then d.put R.BR_SPINE_MEAS_VSPA code else d
    if i == d.get R.BR_SENSE_SPB_IN then d.put R.BR_SPINE_MEAS_VSPB code else d

/-- The inputs that a scan converts (R450). -/
def Dev.scanInputs (d : Dev) : List Nat :=
  (idxs 48 fun i => (decide (i < 16) && d.on (R.BRn_CFG_USE (i / 2)))
      || (decide (16 ≤ i) && decide (i < 24) && d.on (R.BRn_CFG_USE (i - 16)))
      || i == d.get R.BR_SENSE_SPA_IN || i == d.get R.BR_SENSE_SPB_IN)

/-- A scan instant (R450). -/
def Dev.branchScan (d : Dev) : Dev :=
  if d.isRole .dist then d.scan (d.get R.BR_SENSE_SCAN_LOG2) d.scanInputs else d

/-! ## Trips (R453, R460-R463) -/

/-- The branch trips (R453, R470, R474). -/
def Dev.brTrip (d : Dev) (n cause : Nat) : Dev :=
  let d := (d.put (R.BRn_TRIPCAP_VOUT n) (d.get (R.BRn_MEAS_V_VOUT n))).put (R.BRn_TRIPCAP_ISUM n)
    (min 16383 (d.brCurrent n))
  let d := ((d.put (R.BRn_TRIPCAP_CAUSE n) cause).set1 (R.BRn_TRIPCAP_VALID n)).put (R.BRn_STATE_CAUSE n) cause
  (d.brLeave n brTripped).brFault n cause

/-- BRn_TRIP is at its active level, as TRIP_POL sets it. -/
def Dev.tripActive (d : Dev) (n : Nat) : Bool := (d.br n).trip != d.on (R.BRn_CFG_TRIP_POL n)

/-- A branch in PRECHARGE or ON whose BRn_TRIP is at its active level trips. -/
def Dev.brTripLevel (d : Dev) (n : Nat) : Dev :=
  d.brRow n 3 (fun d => d.brLive n && d.energised n && d.tripActive n) fun d => d.brTrip n caTripIn

/-- BRn_TRIP goes to a level. -/
def Dev.brTripInput (d : Dev) (n : Nat) (high : Bool) : Dev := (d.modBr n fun b => { b with trip := high }).brTripLevel n

/-- The precharge-done condition (R453). -/
def Dev.brDone (d : Dev) (n : Nat) : Bool := (d.vsp n).any fun v => decide (v * 19 ≤ d.get (R.BRn_MEAS_V_VOUT n) * 20)

/-- PRE_WIN has elapsed without precharge-done, which governs where both meet (R459, R475). -/
def Dev.brStall (d : Dev) (n : Nat) : Dev :=
  d.brRow n 5 (fun d => d.brLive n && d.bs n == brPrecharge && !d.brDone n) fun d => d.brTrip n caStall

/-- The retry timer expires (R462, R464). -/
def Dev.brRetry (d : Dev) (n : Nat) : Dev :=
  d.brRow n 15 (fun d => d.brLive n && d.bs n == brTripped) fun d =>
    if d.get (R.BRn_STATE_TRIES n) < d.get (R.BRn_CFG_MAX n) then
      (d.bump (R.BRn_STATE_TRIES n)).put (R.BRn_STATE_STATE n) brReady
    else (d.put (R.BRn_STATE_STATE n) brLockout).brFault n (d.get (R.BRn_STATE_CAUSE n))

/-- CLEAR (R453, R461, R475). -/
def Dev.brClear (d : Dev) (n : Nat) : Dev :=
  (d.putCode (R.BRn_CMD_RES_CODE n) .accepted).brRow n 17 (fun d => d.bs n == brTripped || d.bs n == brLockout) fun d =>
    ((d.put (R.BRn_STATE_STATE n) brReady).clr (R.BRn_STATE_TRIES n)).clr (R.BRn_STATE_CAUSE n)

/-! ## Seat and tray (R453) -/

/-- A used branch whose BRn_SEAT is high. -/
def Dev.seatHigh (d : Dev) (n : Nat) : Dev :=
  if !(d.brLive n && (d.br n).seat) then d
  else
    (d.put (R.BRn_STATE_SEATED n) 1).brRow n 9 (fun d => d.bs n == brEmpty) fun d =>
      (d.put (R.BRn_STATE_STATE n) brSeating).clr (R.BRn_STATE_CAUSE n)

/-- BRn_SEAT goes high. -/
def Dev.seatRise (d : Dev) (n : Nat) : Dev := (d.modBr n fun b => { b with seat := true }).seatHigh n

/-- BRn_SEAT has been low for 250 ns. -/
def Dev.seatLoss (d : Dev) (n : Nat) : Dev :=
  let d := d.modBr n fun b => { b with seat := false }
  if !d.brLive n then d
  else
    let d := d.brRow n 1 (fun d => d.bs n != brEmpty) fun d =>
      let lost := d.energised n
      ((d.brLeave n brEmpty).clr (R.BRn_STATE_TRIES n)).when lost fun d => d.slEvent n slSeatLoss
    (d.clr (R.BRn_STATE_SEATED n)).btSeatLow n

def Dev.seatingDone (d : Dev) (n : Nat) : Dev :=
  d.brRow n 10 (fun d => d.brLive n && d.bs n == brSeating) fun d => d.put (R.BRn_STATE_STATE n) brInsert

def Dev.insertDone (d : Dev) (n : Nat) : Dev :=
  d.brRow n 11 (fun d => d.brLive n && d.bs n == brInsert) fun d => d.put (R.BRn_STATE_STATE n) brReady

/-- Batten declares a detach (R453, R485, R491). -/
def Dev.brDetach (d : Dev) (n : Nat) : Dev :=
  if !(d.btSource && (d.lk n == lkLinked || d.lk n == lkContract)) then d
  else
    (d.brRow n 7 (fun d => d.energised n) fun d => (d.brLeave n brReady).slEvent n slDetach).btToDetect n

/-! ## Legs (R465-R469) -/

/-- No used leg is CLOSED. -/
def Dev.noFeed (d : Dev) (n : Nat) : Bool := d.leg n false != legClosed && d.leg n true != legClosed

/-- A leg opens (R466, R467, R469). -/
def Dev.legOpen (d : Dev) (n : Nat) (b : Bool) (st : Nat) : Dev :=
  let d := d.put (legFld n b) st
  let d := if b then d.modBr n fun x => { x with reclB := 0 } else d.modBr n fun x => { x with reclA := 0 }
  d.slEvent n ((if st == legRev then 3 else 5) + (if b then 1 else 0))

/-- Where the legs have opened or closed by `f`, and none is CLOSED any more, the branch has no feed (R469). -/
def Dev.feedAfter (d : Dev) (n : Nat) (f : Dev → Dev) : Dev :=
  let had := !d.noFeed n
  let d := f d
  d.when (had && d.noFeed n) fun d => d.slEvent n slNoFeed

/-- The reverse comparator of a leg trips (R466). -/
def Dev.legReverse (d : Dev) (n : Nat) (b : Bool) : Dev :=
  if d.brLive n && d.bs n == brOn && d.on (R.BRn_CFG_REV_EN n) && d.leg n b == legClosed then
    d.feedAfter n fun d => d.legOpen n b legRev
  else d

/-- The fast comparators of a DIST node act on their branches (R448, R453, R466). -/
def Dev.branchCmp (d : Dev) (c : Nat) : Dev :=
  if c < 16 then d.legReverse (c / 2) (c % 2 == 1)
  else d.brRow (c - 16) 4 (fun d => d.brLive (c - 16) && d.bs (c - 16) == brOn) fun d => d.brTrip (c - 16) caTripCmp

/-- One scan of a leg in ON (R467, R468). -/
def Dev.legScan (d : Dev) (n : Nat) (b : Bool) : Dev :=
  if !d.legUsed n b then d
  else if d.leg n b == legClosed then (if d.halfIn b then d else d.legOpen n b legHalf)
  else if d.leg n b == legOff then d
  else
    let held := d.cmpRouted (2 * n + (if b then 1 else 0))
    let good := d.halfIn b && decide (d.get (R.BRn_MEAS_V_VOUT n) + d.get (R.BRn_FWD_FWD n) ≤ d.half b)
    let c := if good then (if b then (d.br n).reclB else (d.br n).reclA) + 1 else 0
    let close := decide (d.get (R.BRn_CFG_RECL_N n) ≤ c) && !held && good
    let c := if close then 0 else min c 15
    let d := if b then d.modBr n fun x => { x with reclB := c } else d.modBr n fun x => { x with reclA := c }
    if close then d.put (legFld n b) legClosed else d

/-- Entry to ON (R453, R469). -/
def Dev.brEnterOn (d : Dev) (n : Nat) : Dev :=
  let d := d.put (R.BRn_STATE_STATE n) brOn
  let d := d.modBr n fun b => { b with overs := 0, reclA := 0, reclB := 0 }
  let d := d.each ([false, true].filter fun b => d.legUsed n b && d.halfIn b) fun d b => d.put (legFld n b) legClosed
  let d := d.each ([false, true].filter fun b => d.legUsed n b && !d.halfIn b) fun d b => d.legOpen n b legHalf
  d.btReadyDue n

/-! ## Evaluation (R451, R453, R454) -/

/-- The start condition (R454). -/
def Dev.brStart (d : Dev) (n : Nat) : Bool :=
  let onDly := reeds (d.get (R.BRn_ON_DLY_TURN n)) (d.get (R.BRn_ON_DLY_REED n))
  let modeOk := d.mode == .run || (d.mode == .ramp && d.seq.csSeen && decide (onDly ≤ d.since d.seq.csAt))
  d.on (R.BRn_CFG_USE n) && d.on (R.BRn_CFG_EN n) && modeOk && d.btActive n && (d.vsp n).isSome

/-- Bit 14 of BRn_VRANGE, which is reserved: among the notes of a cycle it says that a scan of the cycle has set the
range. -/
def rangeSet (n : Nat) : Fld := ⟨A.BRn_VRANGE n, 14, 1⟩

/-- A scan of this cycle has set the range of branch `n`. -/
def Dev.rangeNow (d : Dev) (n : Nat) : Bool := fieldOf (d.setsNow (A.BRn_VRANGE n)) (rangeSet n).lo 1 == 1

/-- The captures of a scan in ON (R470). A read of the same cycle leaves what the scan has set (R26). -/
def Dev.brCapture (d : Dev) (n : Nat) : Dev :=
  let v := d.get (R.BRn_MEAS_V_VOUT n)
  let d := ((d.noteSet (rangeSet n)).noteAs (R.BRn_VRANGE_VOUT_MIN n) v).noteAs (R.BRn_VRANGE_VOUT_MAX n) v
  let d := d.putMax (R.BRn_PEAK_IA_PK n) (d.fwd (d.get (R.BRn_MEAS_I_IA n)))
  let d := d.putMax (R.BRn_PEAK_IB_PK n) (d.fwd (d.get (R.BRn_MEAS_I_IB n)))
  let first := (d.br n).rangeRead
  let d := d.put (R.BRn_VRANGE_VOUT_MIN n) (if first then v else min (d.get (R.BRn_VRANGE_VOUT_MIN n)) v)
  let d := d.put (R.BRn_VRANGE_VOUT_MAX n) (if first then v else max (d.get (R.BRn_VRANGE_VOUT_MAX n)) v)
  d.modBr n fun b => { b with rangeRead := false }

/-- Consecutive scans of a branch in ON at or above FUSE_TH, this one included (R460). -/
def Dev.brOvers (d : Dev) (n : Nat) : Nat :=
  if d.get (R.BRn_FUSE_FUSE_TH n) ≤ d.brCurrent n then min 255 ((d.br n).overs + 1) else 0

/-- One evaluation of branch `n` at the delivery of a scan's last input. -/
def Dev.brEvaluate (d : Dev) (n : Nat) : Dev :=
  if !d.brLive n then d
  else
    let d := d.put (R.BRn_MEAS_V_VSP n) ((d.vsp n).getD (Config.free .noVsp [n] % 2 ^ 14))
    let d := d.when (d.bs n == brOn) fun d => d.brCapture n
    let d := d.brRow n 6 (fun d => d.bs n == brOn && decide (d.get (R.BRn_FUSE_FUSE_N n) ≤ d.brOvers n)) fun d =>
      (d.modBr n fun b => { b with overs := d.brOvers n }).brTrip n caOverload
    if d.bs n == brOn then
      (d.modBr n fun b => { b with overs := d.brOvers n }).feedAfter n fun d => (d.legScan n false).legScan n true
    else
      let d := d.brRow n 12 (fun d => d.bs n == brReady && d.brStart n) fun d =>
        (d.put (R.BRn_STATE_STATE n) brPrecharge).modBr n fun b => { b with pre := true }
      d.brRow n 13 (fun d => d.bs n == brPrecharge && d.brDone n) fun d => d.brEnterOn n

def Dev.branchEvaluation (d : Dev) : Dev := d.each (List.range 8) Dev.brEvaluate

/-- 16 reeds after entry to ON (R452). -/
def Dev.preRelease (d : Dev) (n : Nat) : Dev :=
  if d.brLive n && d.bs n == brOn then d.modBr n fun b => { b with pre := false } else d

/-- 64.0 turns in ON (R462). -/
def Dev.brStable (d : Dev) (n : Nat) : Dev :=
  if d.brLive n && d.bs n == brOn then d.clr (R.BRn_STATE_TRIES n) else d

/-- OFF_DLY after the DRAIN common start (R456). -/
def Dev.brOffDly (d : Dev) (n : Nat) : Dev :=
  let dly := reeds (d.get (R.BRn_OFF_DLY_TURN n)) (d.get (R.BRn_OFF_DLY_REED n))
  d.brRow n 7 (fun d => d.brLive n && d.mode == .drain && d.energised n && d.seq.csSeen && decide (dly ≤ d.since d.seq.csAt)) fun d =>
    d.brLeave n brReady

/-! ## Modes and levels -/

/-- What a change of mode does to the branches (R453). -/
def Dev.branchesMode (d : Dev) (m : Mode) : Dev :=
  d.each (List.range 8) fun d n =>
    let rest := m == .standby || m == .safe
    let d := if d.energised n && rest then d.brLeave n brReady else d
    let d := d.brRow n 8 (fun d => m == .drain && d.bs n == brPrecharge) fun d => d.brLeave n brReady
    if d.bs n == brTripped && !(m == .ramp || m == .run || m == .ride) then d.put (R.BRn_STATE_STATE n) brReady else d

/-- USE, EN, BRn_SEAT and BRn_TRIP as levels (R453, R457). -/
def Dev.branchLevels (d : Dev) : Dev :=
  if !d.isRole .dist then d
  else d.each (List.range 8) fun d n =>
    if !d.on (R.BRn_CFG_USE n) then
      if d.bs n == brEmpty then d else (d.brLeave n brEmpty).clr (R.BRn_STATE_SEATED n)
    else
      let d := (d.seatHigh n).brTripLevel n
      d.brRow n 7 (fun d => d.energised n && !d.on (R.BRn_CFG_EN n)) fun d => d.brLeave n brReady

/-! ## Brake lines (R471-R473) -/

/-- The 4-bit reversal of a slot number. -/
def rev4 (j : Nat) : Nat := j % 2 * 8 + j / 2 % 2 * 4 + j / 4 % 2 * 2 + j / 8 % 2

/-- The combined level on BRKn. -/
def Dev.brakeLevel (d : Dev) (n : Nat) : Nat := d.get (R.BRK_LEVEL_LEVELS.part (4 * n) 4)

/-- The slot that the rack angle is in. -/
def Dev.brakeSlot (d : Dev) : Nat := d.reed / 2 ^ d.get R.BRK_CFG_SLOT_LOG2 % 16

/-- BRKn takes the state of its level for the present slot; low in BOOT, STANDBY and SAFE. -/
def Dev.brakeNow (d : Dev) (n : Nat) : Dev :=
  let high := d.isRole .dist && d.mode.regulating && decide (rev4 d.brakeSlot < d.brakeLevel n)
  d.modBr n fun b => { b with brake := high }

def Dev.brakesNow (d : Dev) : Dev := d.each (List.range 8) Dev.brakeNow

/-- A rising edge on BRK0 (R473), whose pause lasts `len` CLK200 cycles. -/
def Dev.brakePause (d : Dev) (len : Nat) : Dev :=
  if d.isRole .tray && d.mode.afterBoot then
    { d.bump R.BRK_OBS_PAUSES with shelf := { d.shelf with left := len } }
  else d

/-- One CLK200 cycle of the observation of BRK0; at a turn boundary the share of the turn that has ended is shown. -/
def Dev.tickBrake (d : Dev) (boundary : Bool) : Dev :=
  if !(d.isRole .tray && d.mode.afterBoot) then d
  else
    let s := d.shelf
    let high := s.high + (if 0 < s.left then 1 else 0)
    let all := s.cycles + 1
    let d := { d with shelf := ⟨s.left - 1, if boundary then 0 else high, if boundary then 0 else all⟩ }
    d.when boundary fun d =>
      d.put R.BRK_OBS_HIGH (Config.fit .brakeHigh 8 (Config.round .brakeHigh (256 * high : Nat) (all : Nat)))

end Sys2Proof.Machine
end

