-- ==== Sys2Proof/Machine/Net.lean ====
section
/-!
DEFINITION. Sys2Proof/Machine/Net.lean: the operations of Rinnak (spec/10_rinnak_network.md): bus IDs and the cycle plan,
frames, queues and admission, reception and its checks, keys and segments. What a delivered message does stands with the
chapters that own it.
-/

namespace Sys2Proof.Machine

/-! ## Message types and classes (R419) -/

def tBeacon : Nat := 0x01
def tFollowUp : Nat := 0x02
def tDelayReq : Nat := 0x03
def tDelayResp : Nat := 0x04
def tPresence : Nat := 0x05
def tRideReport : Nat := 0x10
def tSliceSet : Nat := 0x11
def tChargeSet : Nat := 0x12
def tTakeover : Nat := 0x13
def tShelfReport : Nat := 0x20
def tDemandReport : Nat := 0x21
def tOffsetSet : Nat := 0x22
def tShareTrim : Nat := 0x23
def tMgrState : Nat := 0x24
def tProfileLoad : Nat := 0x25
def tAck : Nat := 0x26
def tThatchFwd : Nat := 0x30

def clUrgent : Nat := 0
def clNormal : Nat := 1
def clBulk : Nat := 2
def clSync : Nat := 3

/-- The classes that R419 allows a TYPE; none for a reserved TYPE. -/
def classesOf (ty : Nat) : List Nat :=
  if 0x01 ≤ ty ∧ ty ≤ 0x05 then [clSync]
  else if ty = tRideReport ∨ ty = tTakeover then [clUrgent]
  else if ty = tSliceSet ∨ ty = tChargeSet then [clUrgent, clNormal]
  else if 0x20 ≤ ty ∧ ty ≤ 0x26 then [clNormal]
  else if ty = tThatchFwd then [clBulk]
  else []

/-- Destinations of R417: both managers, and every node. -/
def dstManagers : Nat := 0xFE
def dstAll : Nat := 0xFF

/-! ## This node on the bus -/

def Dev.nseg (d : Dev) (b : Bool) : NetSeg := if b then d.net.segB else d.net.segA

def Dev.modNseg (d : Dev) (b : Bool) (f : NetSeg → NetSeg) : Dev :=
  if b then { d with net := { d.net with segB := f d.net.segB } }
  else { d with net := { d.net with segA := f d.net.segA } }

def Dev.modNet (d : Dev) (f : Net → Net) : Dev := { d with net := f d.net }

def upFld (b : Bool) : Fld := if b then R.RINNAK_STATUS_UP_B else R.RINNAK_STATUS_UP_A
def cycFld (b : Bool) : Fld := if b then R.RINNAK_STATUS_CYC_B else R.RINNAK_STATUS_CYC_A

def Dev.segUp (d : Dev) (b : Bool) : Bool := d.on (upFld b)

/-- Counter `i` of a segment (R445). -/
def cntFld (b : Bool) (i : Nat) : Fld := if b then R.RINNAK_CNT_Bi_COUNT i else R.RINNAK_CNT_Ai_COUNT i

def ncRxOk : Nat := 0
def ncTx : Nat := 1
def ncFcs : Nat := 2
def ncColl : Nat := 3
def ncForeign : Nat := 4
def ncStrange : Nat := 5
def ncAuth : Nat := 6
def ncLate : Nat := 7

/-- The ports serve: not TRAY, EN = 1, a mode after BOOT, and not stopped by QUIET or a last gasp (R67, R405, R535,
R537). -/
def Dev.netOn (d : Dev) : Bool :=
  !d.isRole .tray && d.role.isSome && d.on R.RINNAK_CTRL_EN && d.mode.afterBoot && !d.sup.stopped

def Dev.busId (d : Dev) : Nat := d.get R.RINNAK_STATUS_BUS_ID

/-- Take a bus ID (R394, R408); ID 0 is the PLCA coordinator. -/
def Dev.setBusId (d : Dev) (i : Nat) : Dev :=
  let d := d.put R.RINNAK_STATUS_BUS_ID i
  let d := d.when (d.on R.RINNAK_NODE_MGR) fun d => d.put R.MGR_STATUS_BUS_ID i
  d.putB R.RINNAK_STATUS_COORD (i == 0 && d.on R.RINNAK_NODE_MGR)

def Dev.coordinator (d : Dev) : Bool := d.on R.RINNAK_STATUS_COORD

def Dev.nodes (d : Dev) : Nat := d.get R.RINNAK_CTRL_NODES

/-- The foreign IDs (R413, R415). -/
def Dev.isForeign (d : Dev) (i : Nat) : Bool := tbit (d.get R.RINNAK_FOREIGN_MASK) i

/-! ## The cycle plan (R411-R415) -/

/-- F of R413. -/
def planF (nodes : Nat) : Nat := (4980 - 32 * nodes) / 8

/-- C_c of R413, as a signed number: a mask of many foreign nodes may bring it below 0. -/
def planC (nodes mask c : Nat) : Int :=
  let w := ((List.range nodes).filter fun i => i != 0 && !mask.testBit i && i % 12 == c).length
  let f := ((List.range nodes).filter fun i => mask.testBit i).length
  (planF nodes : Int) - 108 * (w + f : Nat)

/-- C_min of R414. -/
def planMin (nodes mask : Nat) : Int := (List.range 12).foldl (fun a c => min a (planC nodes mask c)) (planC nodes mask 0)

/-- CFRAME of R414. -/
def planFrame (nodes mask : Nat) : Int := min 256 (planMin nodes mask - 20)

/-- RINNAK_BUDGET follows the NET section. -/
def Dev.showBudget (d : Dev) : Dev :=
  let n := d.nodes
  let m := d.get R.RINNAK_FOREIGN_MASK
  (d.put R.RINNAK_BUDGET_C_MIN (planMin n m).toNat).put R.RINNAK_BUDGET_CFRAME (planFrame n m).toNat

/-! ## Stamps and keys (R417, R432-R435) -/

/-- STAMP: the era's low 16 bits, then the rack turn. -/
def Dev.stampNow (d : Dev) : Nat := d.ridge.era.toNat % 65536 * 65536 + d.turn

def Dev.authOn (d : Dev) : Bool := d.on R.RINNAK_CTRL_AUTH_EN

/-- AUTH_EN = 1 with no key in force (R74, R435). -/
def Dev.keyless (d : Dev) : Bool := d.authOn && d.net.key.isNone

/-- Signed distance of two stamps modulo 2^32. -/
def stampDiff (a b : Nat) : Int := toSigned 32 (a + 2 ^ 32 - b % 2 ^ 32)

/-- The key for a frame with this STAMP (R434). -/
def Dev.keyFor (d : Dev) (stamp : Nat) : Option (List Byte) :=
  let from_ (t : Nat) : Bool := decide (0 ≤ stampDiff stamp t)
  if d.net.nextKey.isSome && from_ d.net.actStamp then d.net.nextKey
  else if d.net.oldKey.isSome && !from_ d.net.oldAct then d.net.oldKey
  else d.net.key

/-- The state as it judges a frame of this cycle: under the keys before a commit of the cycle (R443). -/
def Dev.judging (d : Dev) : Dev :=
  match d.cyc.keys with
  | none => d
  | some k => d.modNet fun n => { n with
      key := k.key, oldKey := k.oldKey, nextKey := k.nextKey, actStamp := k.actStamp, oldAct := k.oldAct }

/-! ## Frames (R417, R418) -/

def rinnakDa : List Byte := [0x03, 0x00, 0x52, 0x4B, 0x00, 0x00]

/-- Bytes 0 to 25 + LEN of a frame with the plan index of its cycle. -/
def frameBody (m : NetMsg) (auth : Bool) (cyc : Nat) : List Byte :=
  rinnakDa ++ [0x02, 0x00, 0x52, 0x4B, 0x00, BitVec.ofNat 8 m.src] ++ [0x88, 0xB5]
    ++ [BitVec.ofNat 8 (0x10 + m.cls * 4 + (if auth then 2 else 0)), BitVec.ofNat 8 m.ty, BitVec.ofNat 8 m.src,
        BitVec.ofNat 8 m.dst, BitVec.ofNat 8 cyc, BitVec.ofNat 8 m.payload.length]
    ++ beBytes 2 m.seq ++ beBytes 4 m.stamp ++ m.payload

/-- The frame on the wire, from DA to FCS. -/
def frameBytes (m : NetMsg) (key : Option (List Byte)) (cyc : Nat) : List Byte :=
  let body := frameBody m key.isSome cyc
  let tag := match key with
    | some k => (hmac256 k body).take 8
    | none => []
  let f := padTo 60 (body ++ tag)
  f ++ leBytes 4 (crc32 f)

/-- Frame length L of a payload. -/
def frameLen (len : Nat) (auth : Bool) : Nat := max 60 (26 + len + (if auth then 8 else 0)) + 4

/-- The longest payload that this node may send (R418). -/
def Dev.maxLen (d : Dev) : Nat :=
  let head := if d.authOn then 38 else 30
  if d.coordinator then d.get R.RINNAK_BUDGET_CFRAME - head else 88 - head

/-! ## Queues and admission (R424, R426-R430) -/

/-- The place of a message's kind in the sending order of R427. -/
def kindRank (coord : Bool) (m : NetMsg) : Nat :=
  if coord then
    if m.ty = tBeacon ∨ m.ty = tFollowUp then 0
    else if m.cls = clUrgent then 1 else if m.ty = tDelayResp then 2 else if m.cls = clNormal then 3 else 4
  else
    if m.cls = clUrgent then 0 else if m.cls = clNormal then 1
    else if m.ty = tDelayReq then 2 else if m.ty = tPresence then 3 else 4

/-- The promise of a message in reeds (R426). -/
def promiseOf (m : NetMsg) : Option Nat :=
  if m.cls = clUrgent then some 32768 else if m.cls = clNormal then some 131072
  else if m.ty = tDelayResp then some 65536 else none

/-- Frames of the same or a higher kind queued ahead on a segment (R428); what was queued while it was down does not
count (R441). -/
def Dev.ahead_ (d : Dev) (b : Bool) (m : NetMsg) : Nat :=
  ((d.nseg b).queue.filter fun q => q.counted && decide (kindRank d.coordinator q.msg ≤ kindRank d.coordinator m)).length

/-- The bound of R428 for a message with `n` frames ahead. -/
def boundHolds (coord : Bool) (m : NetMsg) (n : Nat) : Bool :=
  match promiseOf m with
  | none => true
  | some dl =>
    let b := dl / 8192 + 1
    let cycles :=
      if coord then (if m.cls = clNormal then n + b + 17 else n + b + 1)
      else (if m.cls = clUrgent then 12 * (n + 1) + 1 else 12 * (n + 3) + 1)
    decide (cycles * 2294 ≤ dl)

/-- Types whose new content replaces the old in place (R424). -/
def replaces (ty : Nat) : Bool := ty == tShelfReport || ty == tDemandReport || ty == tRideReport || ty == tMgrState

/-- A queued message of the same type on a segment. -/
def Dev.queuedType (d : Dev) (b : Bool) (ty : Nat) : Bool := (d.nseg b).queue.any fun q => q.msg.ty == ty

/-- A message may enter segment `b`: it replaces its predecessor there, or the bound holds. -/
def Dev.admits (d : Dev) (b : Bool) (m : NetMsg) : Bool :=
  (replaces m.ty && d.queuedType b m.ty) || boundHolds d.coordinator m (d.ahead_ b m)

/-! ### The copy at the managers (R395, R419, R420) -/

/-- The items of a complete copy (R420): BUDGET, then items 1 to 4 of every home ID. -/
def copyKeys : List Nat := 0 :: (List.range 128).map (· + 32)

/-- An item as 6 bytes. -/
def itemBytes (k v : Nat) : List Byte := [BitVec.ofNat 8 (k % 32), BitVec.ofNat 8 (k / 32)] ++ beBytes 4 v

/-- CRC-32 of a complete copy. -/
def copyCrc (value : Nat → Nat) : Nat := crc32 (copyKeys.flatMap fun k => itemBytes k (value k))

/-- The items of an MGR_STATE payload (R419), by key. -/
def stateItems (p : List Byte) : List (Nat × Nat) :=
  let items := (List.range (byteAt p 8)).map fun i => slice p (10 + i * 6) 6
  (items.filter fun e => e.length == 6 && decide (byteAt e 0 < 32) && decide (byteAt e 1 < 5)).map fun e =>
    (byteAt e 1 * 32 + byteAt e 0, beAt e 2 4)

/-- The items of an MGR_STATE are applied in order (R421). -/
def applyState (copy : Sparse Nat) (p : List Byte) : Sparse Nat :=
  (stateItems p).foldl (fun m e => swrite 0 m e.1 e.2) copy

/-- The copy agrees with the CRC-32 of the payload (R421). -/
def copyAgrees (copy : Sparse Nat) (p : List Byte) : Bool := copyCrc (fun k => sread 0 copy k) == beAt p 4 4

/-- The items that wait in a queued MGR_STATE (R424). -/
def Dev.stateWaiting (d : Dev) : List Nat :=
  ([d.net.segA, d.net.segB].flatMap fun s => s.queue.filter fun q => q.msg.ty == tMgrState).flatMap fun q =>
    (stateItems q.msg.payload).map (·.1)

/-- An MGR_STATE has gone out: the standby's copy takes its items. COPY_OK at the primary tells of what it has put on a line
(DESIGN CHOICE, log entry 342). -/
def Dev.stateSent (d : Dev) (p : List Byte) : Dev :=
  let c := applyState d.coord.copy p
  let left := d.coord.unsent.filter fun k => !((stateItems p).any fun e => e.1 == k)
  ({ d with coord := { d.coord with copy := c, unsent := left } }).putB R.MGR_STATUS_COPY_OK
    (d.on R.MGR_STATUS_PEER && left.isEmpty && copyAgrees c p)

/-- Put a message into the queue of segment `b`. -/
def Dev.enqueue (d : Dev) (b : Bool) (m : NetMsg) : Dev :=
  let repl := replaces m.ty && d.queuedType b m.ty
  let up := d.segUp b
  d.modNseg b fun s =>
    if repl then
      { s with queue := s.queue.map fun q => if q.msg.ty == m.ty then { q with msg := m } else q }
    else { s with queue := s.queue ++ [⟨m, d.now, promiseOf m, 0, up⟩] }

/-- RINNAK_QUEUE: per class the larger of the two segments. -/
def Dev.showQueue (d : Dev) : Dev :=
  let n (c : Nat) : Nat :=
    let k (b : Bool) := ((d.nseg b).queue.filter fun q => q.msg.cls == c).length
    min 63 (max (k false) (k true))
  let d := d.put R.RINNAK_QUEUE_URG (n clUrgent)
  let d := d.put R.RINNAK_QUEUE_NRM (n clNormal)
  (d.put R.RINNAK_QUEUE_SYNC (n clSync)).put R.RINNAK_QUEUE_BULK (n clBulk)

/-- The next frame sequence number (R417). -/
def Dev.nextSeq (d : Dev) : Nat × Dev := (d.net.seq, d.modNet fun n => { n with seq := (n.seq + 1) % 65536 })

/-- RINNAK_ADMIT after an admission. -/
def Dev.showAdmit (d : Dev) (m : NetMsg) (c : Code) (segs : Nat) : Dev :=
  (((d.putCode R.RINNAK_ADMIT_CODE c).put R.RINNAK_ADMIT_TYPE m.ty).put R.RINNAK_ADMIT_CLASS m.cls).put
    R.RINNAK_ADMIT_SEGS segs

/-- The segments that a message goes to: those that are up; a BEACON and its FOLLOW_UP go on both (R405, R441). -/
def Dev.segsFor (d : Dev) (ty : Nat) : List Bool :=
  [false, true].filter fun b => ty == tBeacon || ty == tFollowUp || d.segUp b

/-- A message is accepted or refused as R428 gives, and queued on the segments it goes to (R405). A node that may not
send (R74, R435) queues nothing. -/
def Dev.send (d : Dev) (ty cls dst : Nat) (payload : List Byte) : Dev × Code :=
  let (q, d1) := d.nextSeq
  let m : NetMsg := ⟨ty, cls, d.busId, dst, q, d.stampNow, payload⟩
  let segs := d.segsFor ty
  if !d.netOn then (d, .late)
  else if d.keyless then (d, .lock)
  else
    let fails := segs.filter fun b => !d.admits b m
    let mask := (if fails.contains false then 1 else 0) + (if fails.contains true then 2 else 0)
    if segs.isEmpty ∨ !fails.isEmpty then (d.showAdmit m .late mask, .late)
    else ((d1.each segs fun d b => d.enqueue b m).showAdmit m .accepted 0 |>.showQueue, .accepted)

/-- A message on one segment alone (DELAY_REQ, DELAY_RESP: R423). -/
def Dev.sendOn (d : Dev) (b : Bool) (ty dst : Nat) (payload : List Byte) : Dev × Code :=
  let (q, d1) := d.nextSeq
  let m : NetMsg := ⟨ty, clSync, d.busId, dst, q, d.stampNow, payload⟩
  if !d.netOn || d.keyless || !d.segUp b then (d, .late)
  else if !d.admits b m then (d.showAdmit m .late (if b then 2 else 1), .late)
  else ((d1.enqueue b m).showAdmit m .accepted 0 |>.showQueue, .accepted)

/-- Messages of one reallocation are admitted together (R429): all are queued, or none. -/
def Dev.sendAll (d : Dev) : List (Nat × Nat × Nat × List Byte) → Dev × Code
  | [] => (d, .accepted)
  | (ty, cls, dst, p) :: t =>
    match d.send ty cls dst p with
    | (d1, .accepted) =>
      match d1.sendAll t with
      | (d2, .accepted) => (d2, .accepted)
      | (d2, c) => ({ d with regs := d2.regs }.showQueue, c)
    | (d1, c) => (d1, c)

/-- Messages that have been admitted are queued (R429). -/
def Dev.queueAdmitted (d : Dev) (l : List (Nat × Nat × Nat × List Byte)) : Dev :=
  let one (d : Dev) (x : Nat × Nat × Nat × List Byte) : Dev :=
    let (q, d) := d.nextSeq
    d.each (d.segsFor x.1) fun d b => d.enqueue b ⟨x.1, x.2.1, d.busId, x.2.2.1, q, d.stampNow, x.2.2.2⟩
  (d.each l one).showQueue

/-- Entries of a list message split over as many messages as they need (R422): the entry count, a reserved byte, the
entries. -/
def listPayloads : Nat → Nat → List (List Byte) → List (List Byte)
  | 0, _, _ => []
  | fuel + 1, per, l =>
    if l.isEmpty then []
    else
      let h := l.take (max 1 per)
      ([BitVec.ofNat 8 h.length, 0] ++ h.flatten) :: listPayloads fuel per (l.drop (max 1 per))

def Dev.listMsgs (d : Dev) (ty cls entry : Nat) (l : List (List Byte)) : List (Nat × Nat × Nat × List Byte) :=
  (listPayloads 64 ((d.maxLen - 2) / entry) l).map fun p => (ty, cls, dstAll, p)

/-! ## Sending (R411-R413, R427, R430) -/

/-- The queued message that goes next on a segment: the highest kind, and within it the first accepted. -/
def nextOut (coord : Bool) : List OutMsg → Option OutMsg
  | [] => none
  | q :: t =>
    match nextOut coord t with
    | none => some q
    | some r => if kindRank coord q.msg ≤ kindRank coord r.msg then some q else some r

/-- A message that goes late (R430): counted. -/
def Dev.lateCount (d : Dev) (b : Bool) : Dev := (d.bump (cntFld b ncLate)).set1 R.RINNAK_FLAGS_LATE

/-- What the moment of sending adds to a message: a FOLLOW_UP carries t1 of its BEACON (R147). -/
def Dev.stampOut (d : Dev) (b : Bool) (m : NetMsg) : NetMsg :=
  if m.ty == tFollowUp then { m with payload := m.payload.take 2 ++ beBytes 12 ((d.nseg b).t1) } else m

/-- The rack times of the errors on a segment within the last 1.0 turn (R440). -/
def Dev.recentErrs (d : Dev) (b : Bool) : List Nat := (d.nseg b).errAt.filter fun t => decide (d.since t < 65536)

/-- FCS_ERR and COLL together have reached ERR_LIM within one turn (R440). -/
def Dev.errsFull (d : Dev) (b : Bool) : Bool := decide (d.get R.RINNAK_CTRL_ERR_LIM ≤ (d.recentErrs b).length)

/-- `n` reeds have passed since `t`, or since ever. -/
def Dev.past (d : Dev) (n : Nat) (t : Option Nat) : Bool := t.all fun t => decide (n ≤ d.since t)

/-- What takes a segment down (R440): errors; at the coordinator no frame for 1.0 turn, elsewhere no PLCA beacon for 4,096 reeds. -/
def Dev.segFails (d : Dev) (b : Bool) : Bool :=
  let s := d.nseg b
  d.errsFull b || if d.coordinator then d.past 65536 (some s.base) && d.past 65536 s.rxAt
    else d.past 4096 (some s.base) && d.past 4096 s.plcaAt

/-- What brings a segment up (R440): 1.0 turn with fewer than ERR_LIM errors, at the coordinator with a frame received in it,
elsewhere with PLCA beacons present. -/
def Dev.segGood (d : Dev) (b : Bool) : Bool :=
  let s := d.nseg b
  !d.errsFull b && d.past 65536 (some s.base) && if d.coordinator then !d.past 65537 s.rxAt
    else s.plcaSince.isSome && d.past 65536 s.plcaSince && !d.past 4096 s.plcaAt

/-- A segment is declared down where it fails (R440). -/
def Dev.segDown (d : Dev) (b : Bool) : Dev :=
  if !d.netOn || !d.segUp b || !d.segFails b then d
  else
    let d := d.modNseg b fun s => { s with wasDown := true, base := d.now }
    ((d.clr (upFld b)).set1 (if b then R.RINNAK_FLAGS_DOWN_B else R.RINNAK_FLAGS_DOWN_A)).report 120

/-- An error on a segment: FCS_ERR and COLL together that reach ERR_LIM within a turn take it down (R440). -/
def Dev.errCount (d : Dev) (b : Bool) : Dev :=
  let l := d.recentErrs b
  let d := d.modNseg b fun s => { s with errAt := d.now :: l }
  d.when (d.errsFull b) fun d => d.segDown b

/-- One frame goes out on segment `b`. -/
def Dev.transmit (d : Dev) (b : Bool) (q : OutMsg) (collided : Bool) : Dev :=
  let m := d.stampOut b q.msg
  let key := if d.authOn && m.ty != tPresence then d.keyFor m.stamp else none
  let bytes := frameBytes m key (d.get (cycFld b))
  let late := match q.bound with
    | some x => decide (x + q.ext < d.since q.acceptedAt)
    | none => false
  let d := d.modNseg b fun s => { s with
    queue := s.queue.erase q
    sent := s.sent ++ [bytes]
    t1 := if m.ty == tBeacon then d.total % 2 ^ 96 else s.t1 }
  let d := (d.bump (cntFld b ncTx)).when late fun d => d.lateCount b
  let d := d.when (m.ty == tMgrState && d.isPrimary && !collided) fun d => d.stateSent m.payload
  let d := d.when collided fun d => (d.bump (cntFld b ncColl)).errCount b
  -- a DELAY_REQ leaves now: t3, with the last beacon of the segment (R149)
  let d := if m.ty == tDelayReq then
      let (t1, t2) := (d.seg b).last.getD (0, 0)
      d.modSeg b fun s => { s with out := some ⟨beAt m.payload 2 2, d.total, t1, t2⟩ }
    else d
  d.showQueue

/-- The coordinator's burst (R409, R413): up to 4 frames within the budget of the cycle; without a key in force it sends none
(R74). Bit 0 of `collided` tells of the first frame that a collision destroys it, bit 1 of the second, and so on (R436). -/
def Dev.burst (d : Dev) (b : Bool) (collided : Nat) : Nat → Nat → Dev
  | 0, _ => d
  | n + 1, room =>
    match nextOut true (d.nseg b).queue with
    | none => d
    | some q =>
      let cost := frameLen q.msg.payload.length d.authOn + 20
      if room < cost || d.keyless then d else (d.transmit b q (tbit collided 0)).burst b (collided / 2) n (room - cost)

/-- PRESENCE (R419, R427): in a right that nothing else uses, at most once per turn, and on no segment that is down (R441). -/
def Dev.presence (d : Dev) (b : Bool) : Dev :=
  let t := d.now / 65536
  if d.isPrimary || d.net.presenceAt == some t || !d.segUp b then d
  else
    let (q, d) := d.nextSeq
    let flags := d.get R.SYS_MODE_ROLE + (if d.on R.RINNAK_NODE_MGR then 8 else 0) + (if d.net.key.isSome then 16 else 0)
    let m : NetMsg := ⟨tPresence, clSync, d.busId, dstManagers, q, d.stampNow,
      [BitVec.ofNat 8 d.homeId, BitVec.ofNat 8 flags, BitVec.ofNat 8 d.mode.code, 0]⟩
    let d := d.modNet fun n => { n with presenceAt := some t }
    d.each ([false, true].filter d.segUp) fun d c => d.enqueue c m

/-- A forwarded record (R442): in a right that no other message uses, with FWD_EN = 1, on a node other than the primary.
-/
def Dev.forward (d : Dev) (b : Bool) : Dev :=
  if !d.on R.RINNAK_CTRL_FWD_EN || d.isPrimary || d.keyless || !d.segUp b then d
  else match d.fwdNext with
    | none => d
    | some (i, s) =>
      let (q, d) := d.nextSeq
      let m : NetMsg := ⟨tThatchFwd, clBulk, d.busId, dstManagers, q, d.stampNow, [1, 0, 0, 0] ++ s.record.bytes⟩
      let d := d.markForwarded i
      d.each ([false, true].filter d.segUp) fun d c => d.enqueue c m

/-- This node's right on segment `b` has come: the plan allows it to send (R411, R412). -/
def Dev.hasRight (d : Dev) (b : Bool) : Bool :=
  d.netOn && !d.net.listening
    && (d.coordinator || ((d.nseg b).adopted && d.get (cycFld b) == d.busId % 12))

/-- A queued frame is within the length of R414 and R418 as it would go out now. -/
def Dev.fitsNow (d : Dev) (q : OutMsg) : Bool :=
  decide (frameLen q.msg.payload.length (d.authOn && q.msg.ty != tPresence)
    ≤ if d.coordinator then d.get R.RINNAK_BUDGET_CFRAME else 88)

/-- The message that a worker sends next: without a key in force only PRESENCE, whatever waits before it (R435). -/
def Dev.workerOut (d : Dev) (b : Bool) : Option OutMsg :=
  if d.keyless then (d.nseg b).queue.find? fun q => q.msg.ty == tPresence else nextOut false (d.nseg b).queue

/-- A transmit opportunity (R412, R413, R427). Frames that were queued while AUTH_EN was 0, or under another plan, and that have
become too long are dropped (DESIGN CHOICE, log entry 343). What was queued while AUTH_EN was 0 stays queued, unsent, while
AUTH_EN = 1 stands without a key, and PRESENCE goes before it (DESIGN CHOICE, log entry 344). -/
def Dev.opportunity (d : Dev) (b : Bool) (collided : Nat) : Dev :=
  if !d.hasRight b then d
  else
    let d := d.modNseg b fun s => { s with sent := [], queue := s.queue.filter d.fitsNow }
    if d.coordinator then
      (d.burst b collided 4 (planC d.nodes (d.get R.RINNAK_FOREIGN_MASK) (d.get (cycFld b))).toNat).showQueue
    else
      let d := d.when (d.workerOut b).isNone fun d => d.presence b
      let d := d.when (d.nseg b).queue.isEmpty fun d => d.forward b
      match d.workerOut b with
      | none => d.showQueue
      | some q => d.transmit b q (tbit collided 0)

/-! ## Reception (R423, R431-R439) -/

def Dev.refuseRx (d : Dev) (ty src : Nat) (c : Code) : Dev :=
  (((d.putCode R.RINNAK_REFUSE_CODE c).put R.RINNAK_REFUSE_TYPE ty).put R.RINNAK_REFUSE_SRC src).set1
    R.RINNAK_FLAGS_REFUSED

/-- A strange or unauthenticated frame (R437, R439): counted, and EV123 at STR_LIM in a turn, at most once per turn. -/
def Dev.strange (d : Dev) (b auth : Bool) : Dev :=
  let d := d.bump (cntFld b (if auth then ncAuth else ncStrange))
  let t := d.now / 65536
  let d := d.modNseg b fun s => if s.strTurn = t then { s with strs := s.strs + 1 } else { s with strTurn := t, strs := 1 }
  let s := d.nseg b
  if decide (d.get R.RINNAK_CTRL_STR_LIM ≤ s.strs) && s.strRaised != some t
      && (d.net.segA.strRaised != some t && d.net.segB.strRaised != some t) then
    let d := d.modNseg b fun s => { s with strRaised := some t }
    (d.set1 (if auth then R.RINNAK_FLAGS_AUTH_FAIL else R.RINNAK_FLAGS_STRANGER)).report 123
  else d

/-- An ID clash (R438). -/
def Dev.idClash (d : Dev) : Dev := (d.set1 R.RINNAK_FLAGS_ID_CLASH).report 123

/-- The message that a frame carries. -/
def parseFrame (l : List Byte) : NetMsg :=
  let len := byteAt l 19
  { ty := byteAt l 15, cls := byteAt l 14 / 4 % 4, src := byteAt l 16 % 32, dst := byteAt l 17,
    seq := beAt l 20 2, stamp := beAt l 22 4, payload := slice l 26 len }

/-- A frame with the Rinnak DA and EtherType is strange (R437). -/
def Dev.isStrange (d : Dev) (l : List Byte) : Bool :=
  let m := parseFrame l
  let auth := byteAt l 14 / 2 % 2 == 1
  byteAt l 14 / 16 != 1 || l.length != frameLen (byteAt l 19) auth || decide (l.length < 64) || decide (256 < l.length)
    || !(classesOf m.ty).contains m.cls || decide (d.nodes ≤ m.src) || d.isForeign m.src

/-- The tag and the STAMP of a frame hold (R432). -/
def Dev.authOk (d : Dev) (l : List Byte) : Bool :=
  let m := parseFrame l
  let auth := byteAt l 14 / 2 % 2 == 1
  let near := decide ((stampDiff m.stamp d.stampNow).natAbs ≤ 4)
  if m.ty == tPresence && !auth then near
  else match auth, d.keyFor m.stamp with
    | true, some k => near && slice l (26 + m.payload.length) 8 == (hmac256 k (l.take (26 + m.payload.length))).take 8
    | _, _ => false

/-- The pair (STAMP, SEQ) is newer than the last one accepted from its SRC (R433). -/
def Dev.pairNewer (d : Dev) (m : NetMsg) : Bool :=
  match d.net.lastPair.find? fun p => p.1 == m.src with
  | none => true
  | some (_, st, sq) =>
    let ds := stampDiff m.stamp st
    decide (0 < ds) || (ds == 0 && decide (0 < toSigned 16 (m.seq + 65536 - sq)))

/-- The message is for this node (R417). -/
def Dev.addressed (d : Dev) (m : NetMsg) : Bool :=
  m.dst == d.busId || m.dst == dstAll || (m.dst == dstManagers && decide (d.busId < 2))

/-- The receiver adopts the plan index of a frame from bus ID 0, but for the coordinator, which keeps the index: one that differs
from the next cycle on (R443). Another sender's is counted where it disagrees (R411, R437). -/
def Dev.takeCyc (d : Dev) (b : Bool) (src cyc : Nat) : Dev :=
  if src == 0 then
    if d.coordinator then d
    else if cyc % 12 == d.get (cycFld b) then d.modNseg b fun s => { s with adopted := true, cycDue := none }
    else d.modNseg b fun s => { s with cycDue := some (cyc % 12) }
  else if (d.coordinator || (d.nseg b).adopted) && cyc != d.get (cycFld b) then d.strange b false
  else d

/-- The message waits for its delivery (R423, R431). -/
def Dev.deliver (d : Dev) (b : Bool) (m : NetMsg) (first angleOnly : Bool) : Dev :=
  if d.addressed m then
    d.modNet fun n => { n with inbox := n.inbox ++ [⟨m, b, d.total % 2 ^ 96, first, angleOnly⟩] }
  else d

/-- A home ID behind a bus ID, as PRESENCE tells it; another one than before is a clash (R438). -/
def Dev.homeHeard (d : Dev) (src home : Nat) : Dev :=
  let known := d.net.homes.any fun h => h.1 == src
  let clash := d.net.homes.any fun h => h.1 == src && h.2 != home
  (if known then d else d.modNet fun n => { n with homes := n.homes ++ [(src, home)] }).when clash Dev.idClash

/-- A frame arrives on segment `b` (R436-R439, R423, R432-R435); `collided` for one that a collision has destroyed, which is counted
in COLL alone (DESIGN CHOICE, log entry 345). A node that is no manager compares the home IDs of PRESENCE here. -/
def Dev.receive (d : Dev) (b collided : Bool) (l : List Byte) : Dev :=
  if !d.netOn then d
  else if collided then (d.bump (cntFld b ncColl)).errCount b
  else if l.length < 18 || leAt l (l.length - 4) 4 != crc32 (l.take (l.length - 4)) then
    (d.bump (cntFld b ncFcs)).errCount b
  else
  let d := d.modNseg b fun s => { s with rxAt := some d.now }
  if slice l 0 6 != rinnakDa || beAt l 12 2 != 0x88B5 then d.bump (cntFld b ncForeign)
  else if d.isStrange l then d.strange b false
  else
    let m := parseFrame l
    let d := d.when (m.src == d.busId && !d.net.listening) fun d => d.idClash
    let sync := m.ty == tBeacon || m.ty == tFollowUp
    let dup := d.net.delivered.contains (m.src, m.stamp, m.seq)
    if d.judging.keyless then
      if sync then
        let d := d.takeCyc b m.src (byteAt l 18 % 16)
        let d := d.when (!dup) fun d => (d.bump (cntFld b ncRxOk)).modNet fun n => { n with
          delivered := (m.src, m.stamp, m.seq) :: n.delivered }
        d.deliver b m (!dup) true
      else d.refuseRx m.ty m.src .lock
    else if (d.authOn && !d.judging.authOk l) || !(dup || d.pairNewer m) then d.strange b true
    else
      let d := d.takeCyc b m.src (byteAt l 18 % 16)
      if dup then (if sync then d.deliver b m false false else d)
      else
        let d := (d.bump (cntFld b ncRxOk)).modNet fun n => { n with
          lastPair := (m.src, m.stamp, m.seq) :: n.lastPair.filter fun p => p.1 != m.src
          delivered := (m.src, m.stamp, m.seq) :: n.delivered }
        (d.when (m.ty == tPresence && !d.isPrimary && !d.isStandby) fun d => d.homeHeard m.src (byteAt m.payload 0 % 32)).deliver b
          m true false

/-- Take the first delivered message of a type out of the inbox. -/
def Dev.takeMsg (d : Dev) (ty : Nat) : Option (RxMsg × Dev) :=
  match d.net.inbox.find? fun r => r.msg.ty == ty with
  | none => none
  | some r => some (r, d.modNet fun n => { n with inbox := n.inbox.erase r })

/-! ## PLCA beacons and segments (R396, R411, R430, R440, R441) -/

/-- The interval in reeds for which neither segment has carried a PLCA beacon; 0 where none was ever seen. -/
def Dev.plcaQuiet (d : Dev) : Nat :=
  match d.net.segA.plcaAt, d.net.segB.plcaAt with
  | some x, some y => min (d.since x) (d.since y)
  | some x, none => d.since x
  | none, some y => d.since y
  | none, none => 0

/-- That interval where it is longer than the 500 µs of R416: 500 µs are 100,000 cycles, and `gap` reeds last
gap × 2^32 / rate cycles. -/
def Dev.plcaGap (d : Dev) : Nat := if 100000 * d.rate < d.plcaQuiet * 2 ^ 32 then d.plcaQuiet else 0

/-- A PLCA beacon ends an interval without one: the bounds of the accepted messages are extended by it (R430). -/
def Dev.extendBounds (d : Dev) : Dev :=
  let ext (s : NetSeg) : NetSeg := { s with queue := s.queue.map fun q => { q with ext := q.ext + d.plcaGap } }
  d.modNet fun n => { n with segA := ext n.segA, segB := ext n.segB }

/-- A PLCA beacon from bus ID 0 begins a cycle on segment `b`; the cycle that has ended lasted `len` units of 100 ns. -/
def Dev.plcaBeacon (d : Dev) (b : Bool) (len : Nat) : Dev :=
  if !d.netOn then d
  else
    let d := d.extendBounds.modNet fun n => { n with heard := n.heard || n.listening }
    let max := if b then R.RINNAK_CYCLE_MAX_B else R.RINNAK_CYCLE_MAX_A
    let d := d.putMax max (min len 65535)
    let s := d.nseg b
    let d := d.put (cycFld b) ((s.cycDue.getD (d.get (cycFld b)) + 1) % 12)
    d.modNseg b fun s => { s with
      adopted := s.adopted || s.cycDue.isSome
      cycDue := none
      plcaSince := if d.past 4096 s.plcaAt then some d.now else s.plcaSince
      plcaAt := some d.now }

/-- A segment is declared up where it serves (R440); where it comes up again, a node other than the coordinator waits for a plan
index (R411). -/
def Dev.segUpNow (d : Dev) (b : Bool) : Dev :=
  if !d.netOn || d.segUp b || !d.segGood b then d
  else
    let d := d.set1 (upFld b)
    let again := (d.nseg b).wasDown && !d.coordinator
    d.modNseg b fun s => { s with
      adopted := s.adopted && !again
      cycDue := if again then none else s.cycDue
      wasDown := false
      base := d.now }

/-- With no segment up, queued Urgent and Normal frames whose bound has passed are discarded (R441). -/
def Dev.lateDiscard (d : Dev) : Dev :=
  if d.segUp false || d.segUp true then d
  else
    let passed (q : OutMsg) : Bool := (q.msg.cls == clUrgent || q.msg.cls == clNormal) && (match q.bound with
      | some x => decide (x + q.ext < d.since q.acceptedAt)
      | none => false)
    let d := d.each [false, true] fun d b =>
      let n := ((d.nseg b).queue.filter passed).length
      let d := d.modNseg b fun s => { s with queue := s.queue.filter fun q => !passed q }
      if n = 0 then d else (d.bump (cntFld b ncLate) n).set1 R.RINNAK_FLAGS_LATE
    d.showQueue

/-! ## Keys (R434, R435) -/

/-- RINNAK_KEYk: four bytes of the staged key. -/
def Dev.stageKey (d : Dev) (k : Nat) (w : Word) : Dev :=
  d.modNet fun n => { n with staged := updAt n.staged k fun _ => w }

def Dev.stagedKey (d : Dev) : List Byte := d.net.staged.flatMap fun w => beBytes 4 w.toNat

/-- The answer to a commit of the staged key. -/
def Dev.keyCode (d : Dev) (stamp : Nat) : Code :=
  if !d.authOn then .mode
  else if d.net.key.isSome && decide (stampDiff stamp d.stampNow < 2) then .late
  else .accepted

/-- A DELAY_REQ on segment `b` (R149), with the next request sequence number. -/
def Dev.delayReq (d : Dev) (b : Bool) : Dev :=
  let q := (d.seg b).reqSeq
  let d := d.modSeg b fun s => { s with reqSeq := (s.reqSeq + 1) % 65536 }
  (d.sendOn b tDelayReq 0 ([BitVec.ofNat 8 d.busId, 0] ++ beBytes 2 q)).1

/-- Both segments (R149). -/
def Dev.delayReqs (d : Dev) : Dev := (d.delayReq false).delayReq true

/-- A key has come into force on a worker that has stepped (R149, R435). -/
def Dev.keyInForce (d : Dev) : Dev :=
  let d := d.set1 R.RINNAK_STATUS_KEY_OK
  if d.isWorker && (d.src == srcDisc || d.src == srcFly) then d.delayReqs else d

/-- RINNAK_KEY_ACT (R434). -/
def Dev.keyCommit (d : Dev) (stamp : Nat) : Dev :=
  let c := d.keyCode stamp
  let n := d.net
  let before := d.cyc.keys.getD ⟨n.key, n.oldKey, n.nextKey, n.actStamp, n.oldAct⟩
  let d := { d.putCode R.RINNAK_KEY_RES_CODE c with cyc := { d.cyc with keys := some before } }
  if c != .accepted then d
  else if d.net.key.isNone then
    (d.modNet fun n => { n with key := some d.stagedKey, actStamp := stamp }).keyInForce
  else
    (d.modNet fun n => { n with nextKey := some d.stagedKey, actStamp := stamp }).set1 R.RINNAK_STATUS_KEY_PEND

/-- The activation STAMP is reached. -/
def Dev.keyActivate (d : Dev) : Dev :=
  match d.net.nextKey with
  | none => d
  | some k =>
    if stampDiff d.stampNow d.net.actStamp < 0 then d
    else (d.modNet fun n => { n with oldKey := n.key, key := some k, nextKey := none, oldAct := n.actStamp }).clr
      R.RINNAK_STATUS_KEY_PEND

/-- 4 turns after activation the old key is erased. -/
def Dev.keyErase (d : Dev) : Dev :=
  if stampDiff d.stampNow d.net.oldAct < 4 then d else d.modNet fun n => { n with oldKey := none }

/-! ## Reports of this node (R367, R382) -/

/-- The shelf output power as SHELF_REPORT carries it (R723). -/
def Dev.powerBytes (d : Dev) : List Byte := beBytes 2 (d.get R.COORD_POWER_POWER)

/-- The content of a SHELF_REPORT (R419). -/
def Dev.shelfPayload (d : Dev) : List Byte :=
  [BitVec.ofNat 8 d.mode.code,
   BitVec.ofNat 8 (d.get R.COORD_CFG_ILV_GROUP + 16 * d.get R.COORD_CFG_SHARE_GRP)]
    ++ beBytes 2 (d.get R.COORD_CFG_ILV_K)
    ++ [BitVec.ofNat 8 (d.get R.COORD_CFG_ILV_M), BitVec.ofNat 8 (d.get R.SYS_MODE_ROLE)]
    ++ beBytes 2 (d.get R.COORD_RATING_RATING) ++ d.powerBytes

end Sys2Proof.Machine
end

