-- ==== Sys2Proof/Machine/Bf18.lean ====
section
/-!
DEFINITION. Sys2Proof/Machine/Bf18.lean: the arithmetic of the loop engine (R251 to R258 of spec/06_rafter_engine.md).
A value on its way between two writebacks is an exact dyadic number.
-/

namespace Sys2Proof.Machine

/-- An exact dyadic number n × 2^x. -/
structure Dy where
  n : Int
  x : Int
  deriving DecidableEq, Repr

def Dy.zero : Dy := ⟨0, 0⟩

def Dy.ofInt (i : Int) : Dy := ⟨i, 0⟩

def Dy.mul (a b : Dy) : Dy := ⟨a.n * b.n, a.x + b.x⟩

/-- The mantissa of `a` at exponent `x`, where `x` is at most its own. -/
def Dy.at (a : Dy) (x : Int) : Int := a.n * 2 ^ (a.x - x).toNat

def Dy.add (a b : Dy) : Dy := let x := min a.x b.x; ⟨a.at x + b.at x, x⟩

def Dy.neg (a : Dy) : Dy := ⟨-a.n, a.x⟩

def Dy.sub (a b : Dy) : Dy := a.add b.neg

def Dy.abs (a : Dy) : Dy := ⟨a.n.natAbs, a.x⟩

/-- a ≤ b. -/
def Dy.le (a b : Dy) : Bool := decide ((a.sub b).n ≤ 0)

/-- a < b. -/
def Dy.lt (a b : Dy) : Bool := decide ((a.sub b).n < 0)

def Dy.min (a b : Dy) : Dy := if a.le b then a else b

def Dy.max (a b : Dy) : Dy := if a.le b then b else a

def Dy.clamp (lo hi v : Dy) : Dy := if v.lt lo then lo else if hi.lt v then hi else v

/-- num / den rounded to nearest, ties to even (R255). -/
def rne (num den : Int) : Int :=
  let q := num / den
  let r := num % den
  if 2 * r < den then q else if den < 2 * r then q + 1 else if q % 2 = 0 then q else q + 1

/-- `v` in units of 2^x, rounded to nearest, ties to even. -/
def Dy.rneAt (v : Dy) (x : Int) : Int :=
  if x ≤ v.x then v.at x else rne v.n (2 ^ (x - v.x).toNat)

/-- `v` in units of 2^x, rounded to nearest; which way a half goes is open (R270, R274). -/
def Dy.nearestAt (v : Dy) (x : Int) : Int :=
  if x ≤ v.x then v.at x else Config.nearest .wordHalf v.n (2 ^ (x - v.x).toNat)

/-- `v` in units of 2^x, rounded down. -/
def Dy.floorAt (v : Dy) (x : Int) : Int :=
  if x ≤ v.x then v.at x else v.n / 2 ^ (x - v.x).toNat

/-! ## BF18 -/

/-- The value of a BF18 number (R251). -/
def Bf.val (b : Bf) : Dy := ⟨b.m, b.e - 17⟩

def Bf.zero : Bf := ⟨0, -32⟩

/-- The 24-bit word of a BF18 number (R252). -/
def Bf.word (b : Bf) : Nat := ofSigned 18 b.m + 2 ^ 18 * ofSigned 6 b.e

/-- The BF18 number of a 24-bit word (R252). -/
def Bf.ofWord (w : Nat) : Bf := ⟨toSigned 18 w, toSigned 6 (w / 2 ^ 18)⟩

/-- The mantissa's bits 17 and 16 differ, or it is 0 (R253). -/
def Bf.normal (b : Bf) : Bool := decide (b.m = 0 ∨ 65536 ≤ b.m ∨ b.m < -65536)

/-- Shift left until normalised or e = -32 (R253). -/
def Bf.normalise : Nat → Bf → Bf
  | 0, b => b
  | fuel + 1, b => if b.normal || decide (b.e ≤ -32) then b else Bf.normalise fuel ⟨b.m * 2, b.e - 1⟩

/-- The normalised form of a coefficient (R253): at most 63 shifts. -/
def Bf.norm (b : Bf) : Bf := Bf.normalise 63 b

/-- Every member's mantissa at exponent `e` lies in [-65,536, 65,535] (R255). -/
def groupFits (vs : List Dy) (e : Int) : Bool :=
  vs.all fun v => let m := v.rneAt (e - 17); decide (-65536 ≤ m ∧ m ≤ 65535)

/-- The smallest exponent from `e` on that fits; +31 where none does (R255). -/
def groupExp (vs : List Dy) : Nat → Int → Int
  | 0, e => e
  | fuel + 1, e => if groupFits vs e then e else groupExp vs fuel (e + 1)

/-- A group written back (R255): its exponent, its mantissas, and whether EXP sets. At the largest exponent a member that does
not fit its 18 bits saturates. -/
def writeback (vs : List Dy) : Int × List Int × Bool :=
  let e := groupExp vs 63 (-32)
  let ms := vs.map fun v => v.rneAt (e - 17)
  if groupFits vs e then (e, ms, false) else (e, ms.map (clampI (-131072) 131071), true)

/-- One value written back as a group of its own. -/
def wb1 (v : Dy) : Bf × Bool :=
  let (e, ms, x) := writeback [v]
  (⟨ms.getD 0 0, e⟩, x)

/-- An exact product (R256): mantissa m_a × m_b with exponent e_a + e_b. -/
def Bf.prod (a b : Bf) : Int × Int := (a.m * b.m, a.e + b.e)

/-- 1.0 as a factor: m = 2^16 with e = 1. -/
def Bf.one : Bf := ⟨65536, 1⟩

/-- An accumulation of products (R256, R257): each aligned to the largest exponent, ties to even, nothing beyond 35 bits;
saturation at 44 bits. Answers the value and whether ACC sets. -/
def accumulate (ps : List (Int × Int)) : Dy × Bool :=
  match ps with
  | [] => (Dy.zero, false)
  | p :: rest =>
    let e := rest.foldl (fun (e : Int) q => max e q.2) p.2
    let step (a : Int × Bool) (q : Int × Int) : Int × Bool :=
      let k := (e - q.2).toNat
      let t := if 35 < k then 0 else rne q.1 (2 ^ k)
      let s := a.1 + t
      if 2 ^ 43 - 1 < s then (2 ^ 43 - 1, true) else if s < -(2 ^ 43) then (-(2 ^ 43), true) else (s, a.2)
    let (s, sat) := ps.foldl step (0, false)
    (⟨s, e - 34⟩, sat)

/-- The reciprocal q of R258 for x > 0: a BF18 number within a relative error of 2^-16; which one is open, also where 1 / x is a
BF18 number itself. -/
def recip (x : Bf) : Bf :=
  let n := x.norm
  let pick := Config.free .recip [x.m, x.e]
  if n.m ≤ 0 then ⟨131071, 31⟩
  else if n.m = 65536 then
    [(⟨65536, 2 - n.e⟩ : Bf), ⟨65537, 2 - n.e⟩, ⟨131071, 1 - n.e⟩, ⟨131070, 1 - n.e⟩].getD (pick % 4) ⟨65536, 2 - n.e⟩
  else
    let q := (2 ^ 33) / n.m
    let c := q + ((pick % 4 : Nat) : Int) - 1
    -- |c × m - 2^33| / 2^33 ≤ 2^-16
    if (c * n.m - 2 ^ 33).natAbs ≤ 2 ^ 17 ∧ c ≤ 131071 then ⟨c, 1 - n.e⟩ else ⟨q, 1 - n.e⟩

/-- sin of a quarter-wave reed (0 to 16,384) in units of 2^-34, by its series: the error is below 2^-23. -/
def quarterSine (r : Nat) : Int :=
  let one : Int := 2 ^ 34
  -- π × r / 32768 in units of 2^-34
  let x : Int := (r : Int) * 3141592653589793 * one / (32768 * 1000000000000000)
  let x2 := x * x / one
  let t3 := x * x2 / one / 6
  let t5 := t3 * x2 / one / 20
  let t7 := t5 * x2 / one / 42
  let t9 := t7 * x2 / one / 72
  let t11 := t9 * x2 / one / 110
  x - t3 + t5 - t7 + t9 - t11

/-- Entry `k` of the quarter-wave table of R272, in 2^-17: the sine of 16 × k reeds, to the nearest, which way a half is rounded
left open; the largest mantissa where it is 1. -/
def sineEntry (k : Nat) : Int :=
  if k = 0 then 0 else clampI 0 131071 (Config.nearest .sine (quarterSine (16 * k)) (2 ^ 17))

/-- sin of a reed (R272) as a BF18 number with e = 0: linear interpolation between the 1,024 entries of the table and the crest;
which way the interpolated value is rounded is open. -/
def sineOf (reed : Nat) : Bf :=
  let r := reed % 65536
  let h := r % 32768
  let q := if h ≤ 16384 then h else 32768 - h
  let a := sineEntry (q / 16)
  let mag := a + Config.round .sine ((sineEntry (q / 16 + 1) - a) * (q % 16 : Nat)) 16
  ⟨if r ≤ 32768 then mag else -mag, 0⟩

/-- sqrt of a nonnegative dyadic number as a dyadic number with at least 17 significant bits, rounded one way or the
other (R281). -/
def sqrtDy (v : Dy) : Dy :=
  if v.n ≤ 0 then Dy.zero
  else
    let x : Int := 2 * ((v.x - 40) / 2)
    let n := (v.at x).toNat
    let r := rootBits 2 n 80 0
    ⟨(r : Int) + (if r * r = n then 0 else ((Config.free .generator [v.n, v.x] % 2 : Nat) : Int)), x / 2⟩

/-- num / den for den ≠ 0, in units of 2^-40 of the quotient's scale, rounded one way or the other (R281). -/
def quotDy (num den : Dy) : Dy :=
  if den.n = 0 then Dy.zero
  else
    let s : Int := if den.n < 0 then -1 else 1
    ⟨Config.round .generator (s * num.n * 2 ^ 40) den.n.natAbs, num.x - den.x - 40⟩

/-- The BF18 number with one guard bit (R255) next to `v` on its lower side, or on its upper side. -/
def nearSide (v : Dy) (lower : Bool) : Bf :=
  let e := groupExp [v] 63 (-32)
  let cut (e : Int) : Int := if lower then v.floorAt (e - 17) else -(v.neg.floorAt (e - 17))
  if -65536 ≤ cut e ∧ cut e ≤ 65535 then ⟨cut e, e⟩ else ⟨clampI (-131072) 131071 (cut (min 31 (e + 1))), min 31 (e + 1)⟩

/-- A value as a BF18 number: its own group exponent, the mantissa rounded one way or the other. -/
def bfRound (site : OpenSite) (v : Dy) : Bf :=
  let e := groupExp [v] 63 (-32)
  let x := e - 17
  let m := v.floorAt x
  let exact := ((Dy.sub v ⟨m, x⟩).n == 0)
  ⟨clampI (-131072) 131071 (m + (if exact then 0 else ((Config.free site [v.n, v.x] % 2 : Nat) : Int))), e⟩

end Sys2Proof.Machine
end

