-- ==== Sys2Proof/Machine/Rafter.lean ====
section
/-!
DEFINITION. Sys2Proof/Machine/Rafter.lean: the operations of the loop engine (spec/06_rafter_engine.md): the start of an
update, the loop structures, the clamps and the freeze, the profile generator, and the conversion of the outputs.
-/

namespace Sys2Proof.Machine

/-! ## A stage's loop -/

def Dev.loop (d : Dev) (s : Nat) : Loop :=
  d.rafter.loops.getD s ⟨[], [], Bf.zero, Bf.zero, Bf.zero, 0, 0, 0, 0, 0, []⟩

def Dev.modLoop (d : Dev) (s : Nat) (f : Loop → Loop) : Dev :=
  { d with rafter := { d.rafter with loops := updAt d.rafter.loops s f } }

/-- Coefficient `i` of stage `s` as its word, and as a BF18 number (R295). -/
def Dev.coefWord (d : Dev) (s i : Nat) : Nat := (d.loop s).coefs.getD i 0
def Dev.coef (d : Dev) (s i : Nat) : Bf := Bf.ofWord (d.coefWord s i)

/-! Coefficient indices of R295. -/
def cG (i : Nat) : Nat := i
def cZ (i : Nat) : Nat := 6 + i
def cSec (k : Nat) : Nat := 12 + 7 * k
def cUmin : Nat := 40
def cUmax : Nat := 41
def cRmin : Nat := 42
def cRmax : Nat := 43
def cKff : Nat := 44
def cKdroop : Nat := 45
def cKbal : Nat := 46
def cKvg : Nat := 47
def cXmin : Nat := 48
def cKcref : Nat := 49
def cCrefOfs : Nat := 50
def cDfix : Nat := 51
def cSpMin : Nat := 52
def cSpMax : Nat := 53
def cTrimMax : Nat := 54

/-- Loop structures (R266). -/
def stOff : Nat := 0
def stCascade : Nat := 1
def stVi : Nat := 2
def stPfc : Nat := 3
def stDab : Nat := 4

def Dev.struct (d : Dev) (s : Nat) : Nat := d.get (R.STAGEs_LOOP_CFG_STRUCT s)

/-- The input that slot `i` of stage `s` maps to (R260): 0-47 an AIN, 64-71 a demodulator, 127 unused. -/
def Dev.slot (d : Dev) (s i : Nat) : Nat :=
  if i < 4 then d.get (⟨A.STAGEs_IN_MAP0 s, 8 * i, 7⟩ : Fld) else d.get (⟨A.STAGEs_IN_MAP1 s, 8 * (i - 4), 7⟩ : Fld)

/-- The slots that the structure of stage `s` uses (R266). -/
def Dev.usedSlots (d : Dev) (s : Nat) : List Nat :=
  let iff := d.on (R.STAGEs_LOOP_CFG_IFF_EN s)
  match d.struct s with
  | 1 => [0]
  | 2 => [0, 1] ++ (if iff then [2] else []) ++ (if d.get (R.STAGEs_LOOP_CFG_FFM s) != 0 then [3] else [])
  | 3 => [0, 1, 2, 3, 4]
  | 4 => [0, 1] ++ (if iff then [2] else [])
  | _ => []

/-- Updates run for the stage (R263): STAGEs_LOOP_STATUS.RUN. -/
def Dev.updates (d : Dev) (s : Nat) : Bool := d.on (R.STAGEs_LOOP_STATUS_RUN s)

/-- The last result of an input was delivered invalid (R237, R262). -/
def Dev.inputInvalid (d : Dev) (src : Nat) : Bool := decide (64 ≤ src ∧ src < 72) && !(d.sdm (src - 64)).resValid

/-- An input of stage `s` has delivered an invalid last result: STAGEs_LOOP_STATUS.STALE (R262). -/
def Dev.stale (d : Dev) (s : Nat) : Bool := (d.usedSlots s).any fun i => d.inputInvalid (d.slot s i)

/-- The code that an update takes from an input (R259, R262): the last result, or the last valid one of a demodulator
whose last result is invalid. -/
def Dev.inputCode (d : Dev) (src : Nat) : Int :=
  if src < 48 then d.get (R.AINn_RES_CODE src)
  else if src < 72 then
    if d.inputInvalid src then (d.sdm (src - 64)).lastValid else d.getS (R.SDn_RES_RESULT (src - 64))
  else 0

/-! ## Setpoint words -/

def Dev.spTarget (d : Dev) (s : Nat) : Bf := Bf.ofWord (d.get (R.STAGEs_SP_TARGET_VALUE s))
def Dev.trimWord (d : Dev) (s : Nat) : Bf := Bf.ofWord (d.get (R.STAGEs_TRIM_VALUE s))
def Dev.capWord (d : Dev) (s : Nat) : Bf := Bf.ofWord (d.get (R.STAGEs_CAP_VALUE s))

/-! ## Start and stop of a stage's updates (R263, R284) -/

/-- The section state at a start. -/
def SecState.zero : SecState := ⟨[0, 0, 0], [0, 0, 0], -32⟩

/-- The target of the generator: SP_TARGET, and STOP_VAL in STOPPING (R313). -/
def Dev.genTarget (d : Dev) (s : Nat) : Bf :=
  if d.get (R.STAGEs_STATE_STATE s) == 7 then Bf.ofWord (d.get (R.STAGEs_STOP_VAL_VALUE s)) else d.spTarget s

/-- The target of the generator as the reference group can hold it: of the numbers with a guard bit (R255) the one next to the
target on the side on which r stands, so that r does not go beyond the target (R281; log entry 295). -/
def Dev.genGoal (d : Dev) (s : Nat) : Bf :=
  let t := (d.genTarget s).val
  nearSide t ((d.loop s).r.val.le t)

/-- MOVING (R281): r has not come to the target, or v is not 0. -/
def Dev.moving (d : Dev) (s : Nat) : Bool :=
  ((d.loop s).r.val.sub (d.genGoal s).val).n != 0 || (d.loop s).v.m != 0

/-- The generator's output is shown in STAGEs_SP_NOW. -/
def Dev.showGen (d : Dev) (s : Nat) : Dev := d.put (R.STAGEs_SP_NOW_R s) (d.loop s).r.word

/-- Updates of stage `s` start (R263, R284): section states zero, the generator at `r0` with v = 0 and a = 0. Up to the first update
SP_NOW shows the start value, SAT_OUT and SAT_REF read 0, and FROZEN_A and FROZEN_B stay (DESIGN CHOICE, log entry 337). -/
def Dev.startLoop (d : Dev) (s : Nat) (r0 : Bf) : Dev :=
  let d := d.modLoop s fun l =>
    ⟨l.coefs, List.replicate 12 SecState.zero, r0, Bf.zero, Bf.zero, d.total, 0, 0, d.total, d.cycles, [false, false, false]⟩
  let d := (d.set1 (R.STAGEs_LOOP_STATUS_RUN s)).clr (R.STAGEs_LOOP_STATUS_SAT_OUT s)
  (d.clr (R.STAGEs_LOOP_STATUS_SAT_REF s)).showGen s

/-- Updates of stage `s` cease at once (R263); a ready one is discarded. -/
def Dev.stopLoop (d : Dev) (s : Nat) : Dev :=
  let d := d.clr (R.STAGEs_LOOP_STATUS_RUN s)
  { d with rafter := { d.rafter with ready := d.rafter.ready.filter fun x => x != s } }

/-! ## An update becomes ready (R261, R264, R265) -/

/-- A result of input `src` counts toward the wait masks of the running stages (R261). -/
def Dev.delivered (d : Dev) (src : Nat) : Dev :=
  d.each (List.range 12) fun d s =>
    if !d.updates s then d
    else
      let mask := (idxs 6 fun i => d.slot s i == src).foldl (fun m i => m ||| 2 ^ i) (d.loop s).seen
      d.modLoop s fun l => { l with seen := mask }

/-- Every wait input of stage `s` has delivered. -/
def Dev.waitMet (d : Dev) (s : Nat) : Bool :=
  let w := d.get (R.STAGEs_LOOP_CFG_WAIT s)
  w != 0 && (d.loop s).seen &&& w == w

/-- Stages with a structure. -/
def Dev.loopStages (d : Dev) : List Nat := idxs 12 fun s => d.struct s != stOff

/-- An engine is ACTIVE: it alone reports what R277 and R264 flag (R293, R348). -/
def Dev.engineReports (d : Dev) : Bool := d.get R.RAFTER_TWIN_STATUS_ST_A == 1 || d.get R.RAFTER_TWIN_STATUS_ST_B == 1

/-- Of two stages whose updates are ready, the one that starts first (R264): in order of readiness, in one cycle by number. -/
def Dev.startsFirst (d : Dev) (a b : Nat) : Bool :=
  let ta := (d.loop a).readyCycle
  let tb := (d.loop b).readyCycle
  decide (ta < tb) || ta == tb && decide (a ≤ b)

/-- An update of stage `s` becomes ready (R261, R264). -/
def Dev.updateReady (d : Dev) (s : Nat) : Dev :=
  if !d.updates s || !d.waitMet s || d.struct s == stOff then d
  else
    let again := d.rafter.ready.contains s
    let d := d.modLoop s fun l => { l with
      seen := 0
      gridReed := d.gridAngle.toNat % 65536
      readyAt := d.total
      readyCycle := d.cycles }
    let others := d.rafter.ready.filter fun x => x != s
    let d := { d with rafter := { d.rafter with ready := insertBy d.startsFirst s others } }
    if again && d.engineReports then
      ((d.set1 (R.STAGEs_LOOP_FLAGS_OVERRUN s)).set1 R.RAFTER_FLAGS_OVR_EV).report 26 s
    else d

/-! ## Arithmetic that sets the flags of R277 -/

/-- EXP, ACC and DIV seen so far in an update. -/
structure Sat where
  exp : Bool
  acc : Bool
  div : Bool
  deriving DecidableEq, Repr

def Sat.none : Sat := ⟨false, false, false⟩

/-- An accumulation of products, written back. -/
def sumBf (f : Sat) (ps : List (Int × Int)) : Bf × Sat :=
  let (v, a) := accumulate ps
  let (b, x) := wb1 v
  (b, ⟨f.exp || x, f.acc || a, f.div⟩)

/-- A negated product. -/
def negProd (p : Int × Int) : Int × Int := (-p.1, p.2)

/-- A number as a product with 1. -/
def Bf.term (b : Bf) : Int × Int := b.prod Bf.one
def Bf.nterm (b : Bf) : Int × Int := negProd b.term

/-- q = 1 / max(x, X_MIN) (R258). -/
def quotBf (f : Sat) (x xmin : Bf) : Bf × Sat :=
  if x.val.lt xmin.val then (recip xmin, { f with div := true }) else (recip x, f)

/-- A clamp (R278): the value and whether the clamp was active. -/
def clampBf (lo hi v : Bf) : Bf × Bool :=
  if v.val.lt lo.val then (lo, true) else if hi.val.lt v.val then (hi, true) else (v, false)

def minBf (a b : Bf) : Bf := if a.val.le b.val then a else b

/-- The scaled input of slot `i` (R259). -/
def Dev.scaled (d : Dev) (s i : Nat) (f : Sat) : Bf × Sat :=
  let z : Int := (d.coef s (cZ i)).val.rneAt 0
  let g := d.coef s (cG i)
  let (b, x) := wb1 (g.val.mul (Dy.ofInt (d.inputCode (d.slot s i) - z)))
  (b, { f with exp := f.exp || x })

/-! ## Sections (R267, R279) -/

/-- One section on input `x`: `frozen` holds the previous output (R279). Answers the output as the state group holds it (DEDUCED,
log entry 71), the new state, the flags. -/
def section1 (c : Nat → Bf) (three frozen : Bool) (st : SecState) (x : Bf) (f : Sat) : Bf × SecState × Sat :=
  let bx (i : Nat) : Bf := ⟨st.xs.getD i 0, st.e⟩
  let by_ (i : Nat) : Bf := ⟨st.ys.getD i 0, st.e⟩
  let ps := [(c 0).prod x, (c 1).prod (bx 0), (c 2).prod (bx 1)]
    ++ (if three then [(c 3).prod (bx 2)] else [])
    ++ [negProd ((c 4).prod (by_ 0)), negProd ((c 5).prod (by_ 1))]
    ++ (if three then [negProd ((c 6).prod (by_ 2))] else [])
  let (v, a) := accumulate ps
  let y : Dy := if frozen then (by_ 0).val else v
  let (e, ms, xs) := writeback [x.val, (bx 0).val, (bx 1).val, y, (by_ 0).val, (by_ 1).val]
  let st' : SecState := ⟨ms.take 3, (ms.drop 3).take 3, e⟩
  (⟨st'.ys.getD 0 0, e⟩, st', ⟨f.exp || xs, f.acc || (a && !frozen), f.div⟩)

/-- Run sections `ks` in order on `x`, with state set `j`; `frz` is the section that is frozen. -/
def Dev.runSections (d : Dev) (s j : Nat) (frz : Option Nat) (f : Sat) :
    List Nat → Bf → List SecState → Bf × List SecState × Sat
  | [], x, st => (x, st, f)
  | k :: ks, x, st =>
    let i := 3 * k + j
    let (y, st', f') := section1 (fun n => d.coef s (cSec k + n)) (tbit (d.get (R.STAGEs_LOOP_CFG_ORD s)) k) (frz == some k)
      (st.getD i SecState.zero) x f
    let (y', sts, f'') := d.runSections s j frz f' ks y (st.set i st')
    (y', sts, f'')

def Dev.na (d : Dev) (s : Nat) : Nat := d.get (R.STAGEs_LOOP_CFG_NA s) + 1
def Dev.nb (d : Dev) (s : Nat) : Nat := d.get (R.STAGEs_LOOP_CFG_NB s)

def Dev.chainA (d : Dev) (s : Nat) : List Nat := List.range (d.na s)
def Dev.chainB (d : Dev) (s : Nat) : List Nat := (List.range (d.nb s)).map (· + d.na s)

/-! ## Profile generator (R281) -/

/-- One step of the generator over Δ reeds. -/
def generator (r v a target vmax amax jmax : Dy) (delta : Dy) : Dy × Dy × Dy :=
  let e := target.sub r
  if e.n = 0 ∧ v.n = 0 ∧ a.n = 0 then (r, v, a)
  else
    let mag := Dy.min vmax (sqrtDy ((Dy.mul ⟨2, 0⟩ amax).mul e.abs))
    let vdes := if e.n < 0 then mag.neg else if e.n = 0 then Dy.zero else mag
    let ades := Dy.clamp amax.neg amax (quotDy (vdes.sub v) delta)
    let jd := jmax.mul delta
    let a' := a.add (Dy.clamp jd.neg jd (ades.sub a))
    let v' := Dy.clamp vmax.neg vmax (v.add (a'.mul delta))
    let r' := r.add (v'.mul delta)
    if (0 < e.n ∧ target.le r') ∨ (e.n < 0 ∧ r'.le target) then (target, Dy.zero, Dy.zero) else (r', v', a')

/-- A set point of an update: what the host has written in the cycle in which the update starts is not yet used (R282). -/
def Dev.setpoint (d : Dev) (f : Fld) : Bf := Bf.ofWord (d.getWas f)

/-- VMAX of an update: SP_VMAX, and min(SP_VMAX, SS_VMAX) in SOFT and STOPPING (R311, R313). -/
def Dev.genVmax (d : Dev) (s : Nat) : Bf :=
  let v := d.setpoint (R.STAGEs_SP_VMAX_VALUE s)
  let st := d.get (R.STAGEs_STATE_STATE s)
  if st == 3 || st == 7 then minBf v (Bf.ofWord (d.get (R.STAGEs_SS_VMAX_VALUE s))) else v

/-- The generator of stage `s` moves once (R281, R282), and its group is written back (R255); the rounding does not carry r
beyond the target (R281; log entry 295). The interval is that of the rack angle at the moments of readiness, PFC included (DESIGN
CHOICE, log entry 336). -/
def Dev.genStep (d : Dev) (s : Nat) (f : Sat) : Dev × Sat :=
  let l := d.loop s
  let delta : Dy := ⟨((l.readyAt + 2 ^ 96 - l.last % 2 ^ 96) % 2 ^ 96 : Nat), -32⟩
  let goal := if d.get (R.STAGEs_STATE_STATE s) == 7 then d.genTarget s else d.setpoint (R.STAGEs_SP_TARGET_VALUE s)
  let up := l.r.val.le goal.val
  let target := (nearSide goal.val up).val
  let (r, v, a) := generator l.r.val l.v.val l.a.val target (d.genVmax s).val
    (d.setpoint (R.STAGEs_SP_AMAX_VALUE s)).val (d.setpoint (R.STAGEs_SP_JMAX_VALUE s)).val delta
  let (e, ms, x) := writeback [r, v, a]
  let m := ms.getD 0 0
  let past (m : Int) : Bool := (target.sub l.r.val).n != 0
    && if up then target.lt (⟨m, e⟩ : Bf).val else (⟨m, e⟩ : Bf).val.lt target
  let d := d.modLoop s fun l => { l with
    r := ⟨if past m then (if up then m - 1 else m + 1) else m, e⟩
    v := ⟨ms.getD 1 0, e⟩
    a := ⟨ms.getD 2 0, e⟩
    last := l.readyAt }
  (d.showGen s, { f with exp := f.exp || x })

/-! ## Structures (R268-R273) -/

/-- What an update computes: the outputs U0-U2 as clamped, the clamp of each, the reference clamp, the comparator code, the
section states, the flags. -/
structure Outputs where
  us : List Bf
  clamped : List Bool
  refSat : Bool
  cref : Nat
  secs : List SecState
  sat : Sat

/-- r_eff of R268. -/
def Dev.refEff (d : Dev) (s : Nat) (f : Sat) : Bf × Sat :=
  let base := [(d.loop s).r.term, (d.trimWord s).term]
  if d.on (R.STAGEs_LOOP_CFG_DROOP_EN s) then
    let (i, f) := d.scaled s 1 f
    sumBf f (base ++ [negProd ((d.coef s cKdroop).prod i)])
  else sumBf f base

/-- e = ref - fb, exchanged with NEG = 1. -/
def Dev.errOf (d : Dev) (s : Nat) (f : Sat) (ref fb : Bf) : Bf × Sat :=
  if d.on (R.STAGEs_LOOP_CFG_NEG s) then sumBf f [fb.term, ref.nterm] else sumBf f [ref.term, fb.nterm]

/-- The section of chain A frozen in this update (R278). -/
def Dev.frozenA (d : Dev) (s : Nat) : Option Nat :=
  let vp := d.struct s == stVi || d.struct s == stPfc
  let was := if vp then d.on (R.STAGEs_LOOP_STATUS_SAT_REF s) else d.on (R.STAGEs_LOOP_STATUS_SAT_OUT s)
  if was && d.on (R.STAGEs_LOOP_CFG_FRZ_A_EN s) then some (d.get (R.STAGEs_LOOP_CFG_FRZ_A s)) else none

/-- The section of chain B frozen in this update for duty `j` (R278, R279). -/
def Dev.frozenB (d : Dev) (s j : Nat) : Option Nat :=
  let vp := d.struct s == stVi || d.struct s == stPfc
  if vp && (d.loop s).clamped.getD j false && d.on (R.STAGEs_LOOP_CFG_FRZ_B_EN s) then
    some (d.get (R.STAGEs_LOOP_CFG_FRZ_B s)) else none

/-- CASCADE (R269). -/
def Dev.runCascade (d : Dev) (s : Nat) : Outputs :=
  let (ref, f) := d.refEff s Sat.none
  let (x0, f) := d.scaled s 0 f
  let (e, f) := d.errOf s f ref x0
  let (y, st, f) := d.runSections s 0 (d.frozenA s) f (d.chainA s) e (d.loop s).secs
  let (u, c) := clampBf (d.coef s cUmin) (d.coef s cUmax) y
  ⟨[u], [c], false, 0, st, f⟩

/-- min(R_MAX, CAP) (R270). -/
def Dev.refTop (d : Dev) (s : Nat) : Bf := minBf (d.coef s cRmax) (d.capWord s)

/-- The string whose stage this is (R542). -/
def Dev.stringOf (d : Dev) (s : Nat) : Option Nat :=
  if d.isRole .stor then (List.range 6).find? fun k => d.on (R.STk_CFG_EN k) && d.get (R.STk_CFG_STAGE k) == s else none

/-- The reference clamp of step 2 of R270, with the estimator's part in it (R554, R562). -/
def Dev.refRange (d : Dev) (s : Nat) : Bf × Bf :=
  let lo := d.coef s cRmin
  let hi := d.refTop s
  match d.stringOf s with
  | none => (lo, hi)
  | some k =>
    let dir := d.on (R.STk_CFG_DIR k)
    let neg (b : Bf) : Bf := ⟨-b.m, b.e⟩
    let maxBf (a b : Bf) : Bf := if a.val.le b.val then b else a
    if d.on (R.STk_STATE_DRILL k) then
      let i := Bf.ofWord (d.get (R.STk_IDRILL_VALUE k))
      let v := if dir then i else neg i
      (v, v)
    else
      let ichg := if d.on (R.STk_STATE_CHG_INH k) then Bf.zero else Bf.ofWord (d.get (R.STk_ICHG_VALUE k))
      let noDis := d.on (R.STk_STATE_DIS_INH k)
      let lo' := if dir then (if noDis then maxBf lo Bf.zero else lo) else maxBf lo (neg ichg)
      let hi' := if dir then minBf hi ichg else (if noDis then minBf hi Bf.zero else hi)
      if hi'.val.lt lo'.val then (hi', hi') else (lo', hi')

/-- VI (R270). -/
def Dev.runVi (d : Dev) (s : Nat) : Outputs :=
  let (ref, f) := d.refEff s Sat.none
  let (x0, f) := d.scaled s 0 f
  let (x1, f) := d.scaled s 1 f
  let (ev, f) := d.errOf s f ref x0
  let (ya, st, f) := d.runSections s 0 (d.frozenA s) f (d.chainA s) ev (d.loop s).secs
  let (pre, f) :=
    if d.on (R.STAGEs_LOOP_CFG_IFF_EN s) then
      let (x2, f) := d.scaled s 2 f
      sumBf f [ya.term, (d.coef s cKff).prod x2]
    else (ya, f)
  let (iref, cr) := clampBf (d.refRange s).1 (d.refRange s).2 pre
  let (ei, f) := sumBf f [iref.term, x1.nterm]
  let (yb, st, f) := d.runSections s 0 (d.frozenB s 0) f (d.chainB s) ei st
  let xmin := d.coef s cXmin
  let (dff, f) : List (Int × Int) × Sat :=
    match d.get (R.STAGEs_LOOP_CFG_FFM s) with
    | 1 => let (x3, f) := d.scaled s 3 f; let (q, f) := quotBf f x3 xmin; ([x0.prod q], f)
    | 2 => let (x3, f) := d.scaled s 3 f; let (q, f) := quotBf f x0 xmin
           ([Bf.one.term, negProd (x3.prod q)], f)
    | _ => ([], f)
  let (dd, f) := sumBf f (yb.term :: dff)
  let (u, c) := clampBf (d.coef s cUmin) (d.coef s cUmax) dd
  let acc : Dy × Bool := if d.on (R.STAGEs_LOOP_CFG_CREF_EN s) then
    accumulate [(d.coef s cKcref).prod iref, (d.coef s cCrefOfs).term] else (Dy.zero, false)
  let cref : Nat :=
    if d.on (R.STAGEs_LOOP_CFG_CREF_EN s) then
      (clampI 0 1023 (acc.1.nearestAt 0)).toNat
    else 0
  ⟨[u], [c], cr, cref, st, { f with acc := f.acc || acc.2 }⟩

/-- One phase of PFC (R271, steps 3 to 8). -/
def Dev.pfcPhase (d : Dev) (s j : Nat) (iamp q d0 : Bf) (st : List SecState) (f : Sat) :
    Bf × Bool × List SecState × Sat :=
  let ofs : Int := match j with
    | 0 => 0
    | 1 => -21845
    | _ => -43691
  let reed := ofSigned 16 (((d.loop s).gridReed : Int) + d.getS (R.STAGEs_PF_PF_OFS s) + ofs)
  let sn := sineOf reed
  let (iref, f) := sumBf f [iamp.prod sn]
  let (ix, f) := d.scaled s j f
  let (e, f) := sumBf f [iref.term, ix.nterm]
  let (u, st, f) := d.runSections s j (d.frozenB s j) f (d.chainB s) e st
  let vplus : Bf := (⟨d.get R.RIDGE_AMPL_POS, 17⟩ : Bf)
  let (kv, f) := sumBf f [(d.coef s cKvg).prod vplus]
  let (vx, f) := sumBf f [kv.prod sn]
  let av : Bf := ⟨vx.m.natAbs, vx.e⟩
  let pos := decide (reed ≤ 32768)
  let t (b : Bf) : Int × Int := if pos then b.term else b.nterm
  let (dx, f) := sumBf f [Bf.one.term, negProd (av.prod q), t u, t d0]
  let (o, c) := clampBf (d.coef s cUmin) (d.coef s cUmax) dx
  (o, c, st, f)

/-- PFC (R271). -/
def Dev.runPfc (d : Dev) (s : Nat) : Outputs :=
  let (ref, f) := d.refEff s Sat.none
  let (x3, f) := d.scaled s 3 f
  let (x4, f) := d.scaled s 4 f
  let (ev, f) := sumBf f [ref.term, x3.nterm, x4.nterm]
  let (ya, st, f) := d.runSections s 0 (d.frozenA s) f (d.chainA s) ev (d.loop s).secs
  let (iamp, cr) := clampBf (d.coef s cRmin) (d.refTop s) ya
  let half : Bf := ⟨65536, 0⟩
  let (vh, f) := sumBf f [x3.prod half, x4.prod half]
  let (q, f) := quotBf f vh (d.coef s cXmin)
  let (dv, f) := sumBf f [x3.term, x4.nterm]
  let (d0, f) := sumBf f [(d.coef s cKbal).prod dv]
  let (ua, ca, st, f) := d.pfcPhase s 0 iamp q d0 st f
  let (ub, cb, st, f) := d.pfcPhase s 1 iamp q d0 st f
  let (uc, cc, st, f) := d.pfcPhase s 2 iamp q d0 st f
  ⟨[ua, ub, uc], [ca, cb, cc], cr, 0, st, f⟩

/-- DAB (R273). -/
def Dev.runDab (d : Dev) (s : Nat) : Outputs :=
  let (ref, f) := d.refEff s Sat.none
  let (x0, f) := d.scaled s 0 f
  let (e, f) := d.errOf s f ref x0
  let (y, st, f) := d.runSections s 0 (d.frozenA s) f (d.chainA s) e (d.loop s).secs
  let (phi, f) :=
    if d.on (R.STAGEs_LOOP_CFG_IFF_EN s) then
      let (x1, f) := d.scaled s 1 f
      let (x2, f) := d.scaled s 2 f
      let (q, f) := quotBf f x2 (d.coef s cXmin)
      let (kx, f) := sumBf f [(d.coef s cKff).prod x1]
      sumBf f [y.term, kx.prod q]
    else (y, f)
  let (u, c) := clampBf (d.coef s cUmin) (d.coef s cUmax) phi
  ⟨[u], [c], false, 0, st, f⟩

/-- The structure of stage `s` runs on its inputs. -/
def Dev.runStruct (d : Dev) (s : Nat) : Option Outputs :=
  match d.struct s with
  | 1 => some (d.runCascade s)
  | 2 => some (d.runVi s)
  | 3 => some (d.runPfc s)
  | 4 => some (d.runDab s)
  | _ => none

/-! ## Outputs (R274, R275) -/

/-- The duty word of a duty fraction (R274). -/
def dutyOf (u : Bf) : Nat := (clampI 0 0xFFFFFF (u.val.floorAt (-24))).toNat

/-- The shift word of φ (R274), to the nearest. -/
def shiftOf (u : Bf) : Int := clampI (-8388608) 8388607 (u.val.nearestAt (-24))

/-- The words of stage `s` reach the PWM array (R274, R275). -/
def Dev.sendOutputs (d : Dev) (s : Nat) (us : List Bf) : Dev :=
  let set := d.phaseSet s
  match d.struct s with
  | 3 => d.each ((List.range set.length).zip set) fun d p =>
      d.dutyWord p.2 (dutyOf (us.getD (d.get (R.STAGEs_OUT_MAP_MAP s) / 4 ^ p.1 % 4) Bf.zero))
  | 4 =>
    let d := d.each set fun d n => d.dutyWord n (dutyOf (d.coef s cDfix))
    d.shiftWord s (shiftOf (us.getD 0 Bf.zero))
  | _ => d.each set fun d n => d.dutyWord n (dutyOf (us.getD 0 Bf.zero))

/-! ## Cost (R286, R287) -/

/-- MAC count C of an update (R286). -/
def Dev.macs (d : Dev) (s : Nat) : Nat :=
  let st := d.struct s
  let ord := d.get (R.STAGEs_LOOP_CFG_ORD s)
  let sec (k : Nat) : Nat := if tbit ord k then 7 else 5
  let bit (f : Fld) : Nat := if d.on f then 1 else 0
  let iff := bit (R.STAGEs_LOOP_CFG_IFF_EN s)
  let ffm := if d.get (R.STAGEs_LOOP_CFG_FFM s) != 0 then 1 else 0
  let a := ((d.chainA s).map sec).sum
  let b := ((d.chainB s).map sec).sum
  let base := 2 + (d.usedSlots s).length + 4 + bit (R.STAGEs_LOOP_CFG_DROOP_EN s) + a
  match st with
  | 1 => base + 1
  | 2 => base + b + iff + 5 * ffm + 1 + bit (R.STAGEs_LOOP_CFG_CREF_EN s)
  | 3 => base + 3 * b + iff + 9 + 7 + 1 + 3
  | 4 => base + iff + 5 * iff + 1
  | _ => 0

/-- Occupancy O (R287). -/
def Dev.occupancy (d : Dev) (s : Nat) : Nat := (d.macs s + 1) / 2 + 2

/-! ## The update itself -/

/-- The sticky flags of R277 and R262 that an update sets, and EV025 when EXP, ACC or DIV goes from 0 to 1 (R280). -/
def Dev.satFlags (d : Dev) (s : Nat) (f : Sat) (outSat refSat stale : Bool) : Dev :=
  if !d.engineReports then d
  else
    let new (b : Bool) (x : Fld) : Bool := b && !d.on x
    let rise := new f.exp (R.STAGEs_LOOP_FLAGS_EXP s) || new f.acc (R.STAGEs_LOOP_FLAGS_ACC s)
      || new f.div (R.STAGEs_LOOP_FLAGS_DIV s)
    let flag (d : Dev) (p : Bool × Fld) : Dev := d.when p.1 fun d => d.set1 p.2
    let d := d.each [(f.exp, R.STAGEs_LOOP_FLAGS_EXP s), (f.acc, R.STAGEs_LOOP_FLAGS_ACC s), (f.div, R.STAGEs_LOOP_FLAGS_DIV s),
      (outSat, R.STAGEs_LOOP_FLAGS_OUT_SAT s), (refSat, R.STAGEs_LOOP_FLAGS_REF_SAT s),
      (stale, R.STAGEs_LOOP_FLAGS_STALE s)] flag
    d.when rise fun d => (d.set1 R.RAFTER_FLAGS_SAT_EV).report 25 s

/-- The update of stage `s` (R266 to R281, R290): generator, structure, clamps, the group of the outputs (R254, R255), registers.
Answers the state, the outputs and whether ACC has set. -/
def Dev.runUpdate (d : Dev) (s : Nat) : Dev × List Bf × Bool :=
  let frA := (d.frozenA s).isSome
  let frB := (d.frozenB s 0).isSome || (d.frozenB s 1).isSome || (d.frozenB s 2).isSome
  let stale := d.stale s
  let (d, gs) := d.genStep s Sat.none
  match d.runStruct s with
  | none => (d, [], false)
  | some o =>
    let satOut := o.clamped.any id
    let (e, ms, xo) := writeback (o.us.map Bf.val)
    let us : List Bf := ms.map fun m => ⟨m, e⟩
    let d := d.modLoop s fun l => { l with secs := o.secs, clamped := o.clamped }
    let u (i : Nat) : Nat := (us.getD i ⟨0, 0⟩).word
    let d := ((d.put (R.STAGEs_U0_VALUE s) (u 0)).put (R.STAGEs_U1_VALUE s) (u 1)).put (R.STAGEs_U2_VALUE s) (u 2)
    let d := d.put (R.STAGEs_CREF_CODE s) o.cref
    let d := (d.putB (R.STAGEs_LOOP_STATUS_SAT_OUT s) satOut).putB (R.STAGEs_LOOP_STATUS_SAT_REF s) o.refSat
    let d := (d.putB (R.STAGEs_LOOP_STATUS_FROZEN_A s) frA).putB (R.STAGEs_LOOP_STATUS_FROZEN_B s) frB
    let lat := (d.cycles - (d.loop s).readyCycle) + d.occupancy s + 6
    let d := d.put (R.STAGEs_LAT_LAST s) (min lat 2047)
    let d := d.putMax (R.STAGEs_LAT_MAX s) (min lat 2047)
    (d.satFlags s ⟨o.sat.exp || gs.exp || xo, o.sat.acc, o.sat.div⟩ satOut o.refSat stale, us, o.sat.acc)

/-- A change of STAGEs_LOOP_CFG: what the structure does not have reads 0 (R270 and the table of STAGEs_U0). -/
def Dev.loopChanged (d : Dev) (s : Nat) : Dev :=
  let st := d.struct s
  let d := d.when (!(st == stVi && d.on (R.STAGEs_LOOP_CFG_CREF_EN s))) fun d => d.clr (R.STAGEs_CREF_CODE s)
  let d := d.when (st != stPfc) fun d => (d.clr (R.STAGEs_U1_VALUE s)).clr (R.STAGEs_U2_VALUE s)
  d.when (st == stOff) fun d => d.clr (R.STAGEs_U0_VALUE s)

/-- The Rafter reference of a stage for the comparators (R241). -/
def Dev.crefOf (d : Dev) (s : Nat) : Nat := d.get (R.STAGEs_CREF_CODE s)

end Sys2Proof.Machine
end

