-- ==== Sys2Proof/Machine/Stage.lean ====
section
/-!
DEFINITION. Sys2Proof/Machine/Stage.lean: the operations of the stage supervisor (spec/07_stage_control.md): the state
machine of R301, the pre-start check, the fault timer, shedding, load steps, burst mode and the share unit.
-/

namespace Sys2Proof.Machine

/-! ## States (R300) and kinds (R296) -/

def ssOff : Nat := 0
def ssWait : Nat := 1
def ssCheck : Nat := 2
def ssSoft : Nat := 3
def ssRun : Nat := 4
def ssSleep : Nat := 5
def ssPause : Nat := 6
def ssStopping : Nat := 7
def ssFault : Nat := 8
def ssLockout : Nat := 9

def kNone : Nat := 0
def kVienna : Nat := 1
def kDab : Nat := 2
def kBuckboost : Nat := 3
def kTrayconv : Nat := 4

def Dev.ss (d : Dev) (s : Nat) : Nat := d.get (R.STAGEs_STATE_STATE s)
def Dev.setSs (d : Dev) (s st : Nat) : Dev := d.put (R.STAGEs_STATE_STATE s) st
def Dev.ssIn (d : Dev) (s : Nat) (l : List Nat) : Bool := l.contains (d.ss s)

def Dev.kind (d : Dev) (s : Nat) : Nat := d.get (R.STAGEs_CFG_KIND s)

def Dev.stage (d : Dev) (s : Nat) : Stage :=
  d.stages.getD s .rest

def Dev.modStage (d : Dev) (s : Nat) (f : Stage → Stage) : Dev := { d with stages := updAt d.stages s f }

/-- Phase width W of a kind (R296); the whole set for VIENNA and NONE. -/
def Dev.phaseWidth (d : Dev) (s : Nat) : Nat :=
  match d.kind s with
  | 2 => 8
  | 3 => 2
  | 4 => 4
  | _ => (d.phaseSet s).length

/-- NPH of R297. -/
def Dev.nph (d : Dev) (s : Nat) : Nat :=
  let w := d.phaseWidth s
  if w = 0 then 0 else (d.phaseSet s).length / w

/-- The channels of phase `p` of stage `s` (R297). -/
def Dev.phaseChans (d : Dev) (s p : Nat) : List Nat :=
  ((d.phaseSet s).drop (p * d.phaseWidth s)).take (d.phaseWidth s)

/-- NACT of R324: shown while the stage's phases are gated. -/
def Dev.showNact (d : Dev) (s : Nat) : Dev :=
  let n := (idxs (d.nph s) fun p => tbit (d.stage s).phases p).length
  d.put (R.STAGEs_STATE_NACT s) (if d.ssIn s [ssSoft, ssRun, ssStopping] then n else 0)

/-- Gate every phase of the stage on (R312). -/
def Dev.allPhasesOn (d : Dev) (s : Nat) : Dev :=
  ((d.modStage s fun g => { g with phases := 2 ^ d.nph s - 1 }).gateSet s true).showNact s

/-- Gate the phases that are on; the shed ones stay off. -/
def Dev.gatePhases (d : Dev) (s : Nat) : Dev :=
  d.each (List.range (d.nph s)) fun d p =>
    d.each (d.phaseChans s p) fun d n => d.gate n (tbit (d.stage s).phases p)

/-! ## Events of a stage (R316) -/

/-- A kind event: its bit in STAGEs_FLAGS and LAST_EV. -/
def Dev.stageEv (d : Dev) (s ev : Nat) : Dev :=
  ((d.set1 ((R.STAGEs_FLAGS_EV s).bit (ev - 44))).put (R.STAGEs_STATE_LAST_EV s) ev).report ev s

/-- A kind event together with the summary of the stage (EV044-EV050). -/
def Dev.stageFault (d : Dev) (s ev : Nat) : Dev := (d.stageEv s ev).report (32 + s) s

/-! ## Changes of state -/

/-- Burst mode ends (R334). -/
def Dev.burstEnd (d : Dev) (s : Nat) : Dev :=
  let d := d.modStage s fun g => { g with burstSince := none }
  if d.on (R.STAGEs_STATE_BURST s) then (d.clr (R.STAGEs_STATE_BURST s)).stageEv s 54 else d

/-- The stage has left every running state: no update, no test, burst over (R334). A stop that is pending stays so (R302). -/
def Dev.quietStage (d : Dev) (s : Nat) : Dev :=
  let d := (d.stopLoop s).burstEnd s
  d.modStage s fun g => { g with
    dlyDone := false
    chkStart := none
    vinDone := false
    nodeDone := false
    nodeCode := none
    pulse := none
    chkFailed := false
    shedSince := none
    ending := false }

/-- Enter OFF: nothing is left for a pending stop to do. -/
def Dev.stageOff (d : Dev) (s : Nat) : Dev :=
  (((d.quietStage s).clr (R.STAGEs_STATE_STOP_PEND s)).setSs s ssOff).showNact s

/-- Enter WAIT (R301): START_DLY starts to count. -/
def Dev.stageWait (d : Dev) (s : Nat) : Dev :=
  let d := d.quietStage s
  ((d.clr (R.STAGEs_STATE_START_LATCHED s)).setSs s ssWait).showNact s

/-- When stage `t` enters FAULT, the stages that depend on it and run raise EV050 (R306). -/
def Dev.depLost (d : Dev) (t : Nat) : Dev :=
  d.each (idxs 12 fun s => d.get (R.STAGEs_CFG_DEP s) == t && d.kind s != kNone
    && d.ssIn s [ssSoft, ssRun, ssSleep, ssStopping]) fun d s => d.stageFault s 50

/-- Enter FAULT (R301, R306); the caller forces the set, or lets it go at the next carrier zero. -/
def Dev.stageToFault (d : Dev) (s : Nat) : Dev :=
  let d := d.quietStage s
  let d := ((d.clr (R.STAGEs_STATE_START_LATCHED s)).setSs s ssFault).showNact s
  (d.bump (R.STAGEs_COUNT_FAULTS s)).depLost s

/-- Gutter commands STAGE_STOP for stage `s` (R194, R301, R587). -/
def Dev.stageStopReaction (d : Dev) (s : Nat) : Dev :=
  if d.ssIn s [ssOff, ssFault, ssLockout] then d else (d.forceSet s).stageToFault s

/-- A check step that failed takes the stage to FAULT where no STAGE_STOP has done so (R301): safe levels at the next
carrier zero. -/
def Dev.checkFailures (d : Dev) : Dev :=
  d.each (idxs 12 fun s => (d.stage s).chkFailed && d.ss s == ssCheck) fun d s => (d.stageToFault s).safeAt s 1

/-- Gutter commands SAFE (R301): every stage goes to OFF. -/
def Dev.stagesSafe (d : Dev) : Dev :=
  d.each (List.range 12) fun d s =>
    if d.ss s == ssOff then d.modStage s fun g => { g with ending := false }
    else (d.clr (R.STAGEs_STATE_START_LATCHED s)).stageOff s

/-- The mode has left RAMP, RUN and RIDE: a stage in FAULT goes to OFF (R301). -/
def Dev.stagesLeaveRun (d : Dev) : Dev :=
  d.each (idxs 12 fun s => d.ss s == ssFault) fun d s => d.stageOff s

/-- The stop of R302 for a stage in SOFT or RUN: pending for STOP_DLY. -/
def Dev.stopPend (d : Dev) (s : Nat) : Dev := (d.burstEnd s).set1 (R.STAGEs_STATE_STOP_PEND s)

/-- A stop (R301, R302). -/
def Dev.stageStop (d : Dev) (s : Nat) : Dev :=
  if d.ssIn s [ssSoft, ssRun] then d.stopPend s
  else if d.ssIn s [ssWait, ssCheck, ssSleep, ssPause] then
    (d.stageOff s).safeAt s 1
  else d

/-- STOPPING ends (R314): updates cease, the gates fall at the next carrier zero, safe levels follow one period later. -/
def Dev.stoppingEnd (d : Dev) (s : Nat) : Dev :=
  let latched := d.on (R.STAGEs_STATE_START_LATCHED s)
  let d := ((d.stageOff s).gateSet s false).safeAt s 2
  (d.putB (R.STAGEs_STATE_START_LATCHED s) latched).modStage s fun g => { g with ending := true }

/-- Enter STOPPING (R301, R306): burst mode is over (R334), and dependent stages that run receive a stop. A stage whose r is at
STOP_VAL already has nothing to wait for. -/
def Dev.stageStopping (d : Dev) (s : Nat) : Dev :=
  let d := (((d.burstEnd s).clr (R.STAGEs_STATE_STOP_PEND s)).setSs s ssStopping).showNact s
  let d := d.modStage s fun g => { g with shedSince := none }
  let d := (d.showGen s).each (idxs 12 fun t => d.get (R.STAGEs_CFG_DEP t) == s && d.kind t != kNone
    && d.ssIn t [ssSoft, ssRun, ssSleep]) fun d t => d.stageStop t
  if d.moving s then d else d.stoppingEnd s

/-- STOP_DLY has ended (R302). -/
def Dev.stopDlyEnd (d : Dev) (s : Nat) : Dev :=
  if !d.on (R.STAGEs_STATE_STOP_PEND s) then d
  else
    let d := d.clr (R.STAGEs_STATE_STOP_PEND s)
    if d.ssIn s [ssSoft, ssRun] then d.stageStopping s
    else if d.ssIn s [ssWait, ssCheck, ssSleep, ssPause] then (d.stageOff s).safeAt s 1
    else if d.ss s == ssFault then d.stageOff s
    else d

/-- A start may act on stage `s` (R301, R303, R35). -/
def Dev.startable (d : Dev) (s : Nat) : Bool :=
  d.kind s != kNone && !(d.kind s == kVienna && d.feedDc)
    && (d.mode == .ramp || d.mode == .run || d.mode == .ride)

/-- OFF goes to WAIT; the outputs of a set that has just stopped go to their safe levels as R314 has begun it. -/
def Dev.offToWait (d : Dev) (s : Nat) : Dev := d.stageWait s

/-- A start (R301, R302): OFF goes to WAIT, STOPPING latches it, a pending stop is cleared. A stage in LOCKOUT or FAULT
takes none (R304). -/
def Dev.stageStart (d : Dev) (s : Nat) : Dev :=
  if !d.startable s then d
  else if d.ss s == ssOff then d.offToWait s
  else if d.ss s == ssStopping then d.set1 (R.STAGEs_STATE_START_LATCHED s)
  else d.clr (R.STAGEs_STATE_STOP_PEND s)

/-- The stage that must run first is in RUN or SLEEP (R306). -/
def Dev.depMet (d : Dev) (s : Nat) : Bool :=
  let t := d.get (R.STAGEs_CFG_DEP s)
  if t < 12 then d.ssIn t [ssRun, ssSleep] else true

/-- The routed output of a comparator with STAGE_RT = s is tripped now. -/
def Dev.routedHit (d : Dev) (s : Nat) : Bool :=
  (List.range 24).any fun c => d.get (R.CMPc_CFG_STAGE_RT c) == s && d.cmpRouted c

/-- WAIT ends (R301): CHECK, FT cleared (R317), the set leaves its safe levels at the next carrier zero, gated off. -/
def Dev.waitDone (d : Dev) (s : Nat) : Dev :=
  if d.ss s == ssWait && (d.stage s).dlyDone && d.depMet s then
    let d := (d.setSs s ssCheck).clr (R.STAGEs_MON_FT s)
    let d := d.modStage s fun g => { g with
      chkStart := none
      vinDone := false
      nodeDone := false
      nodeCode := none
      pulse := none
      hit := d.routedHit s
      ocArmed := true
      ending := false }
    d.releaseSet s
  else d

/-- Stages in WAIT whose condition has come true. -/
def Dev.waitsDone (d : Dev) : Dev := d.each (List.range 12) Dev.waitDone

/-- START_DLY has elapsed (R301). -/
def Dev.startDlyEnd (d : Dev) (s : Nat) : Dev :=
  if d.ss s == ssWait then (d.modStage s fun g => { g with dlyDone := true }).waitDone s else d

/-! ## Soft start (R305, R310, R311) -/

/-- The start value (R310): START_VAL, or the feedback of the structure; within SP_MIN to SP_MAX. -/
def Dev.startValue (d : Dev) (s : Nat) : Bf :=
  let fb : Bf :=
    if d.struct s == stPfc then
      (wb1 ((d.scaled s 3 Sat.none).1.val.add (d.scaled s 4 Sat.none).1.val)).1
    else (d.scaled s 0 Sat.none).1
  let v := if d.on (R.STAGEs_CFG_START_SRC s) then fb else Bf.ofWord (d.get (R.STAGEs_START_VAL_VALUE s))
  (clampBf (d.coef s cSpMin) (d.coef s cSpMax) v).1

/-- Duty and shift of every channel of the set load 0; its outputs stay inactive until the first word of the run (R305). -/
def Dev.zeroWords (d : Dev) (s : Nat) : Dev :=
  (d.clr (R.CARs_SHIFT_SHIFT s)).each (d.phaseSet s) fun d n =>
    (d.modChan n fun c => { c with
      waitDuty := none, waitShift := none, shift := 0, pulse := 0, idle := true, again := 0
      wave := { Wave.rest with fall := some d.step64 } }).clr (R.PWMn_DUTY_DUTY n)

/-- MOVING = 0 ends SOFT (R311). -/
def Dev.softDone (d : Dev) (s : Nat) : Dev :=
  if d.ss s == ssSoft && !d.moving s then ((d.setSs s ssRun).showNact s).waitsDone else d

/-- Enter SOFT: every enabled check step has passed. The window of L begins empty (DESIGN CHOICE, log entry 340), and a start value
that is the target already ends SOFT at once (R301, R311). -/
def Dev.stageSoft (d : Dev) (s : Nat) : Dev :=
  let r0 := d.startValue s
  let d := (d.setSs s ssSoft).zeroWords s
  let d := (d.bump (R.STAGEs_COUNT_STARTS s)).put (R.STAGEs_SHARE_S_S s) Bf.zero.word
  let d := d.modStage s fun g => { g with pulse := none, loads := [], shedSince := none, burstSince := none }
  ((d.startLoop s r0).allPhasesOn s).softDone s

/-- SOFT has lasted SS_TMO (R311). -/
def Dev.softTmo (d : Dev) (s : Nat) : Dev :=
  if d.ss s != ssSoft then d
  else if d.moving s then d.stageFault s 49 else d.softDone s

/-- STOPPING has lasted SS_TMO (R314): EV057 where r has not reached STOP_VAL; it ends regardless. -/
def Dev.stopTmo (d : Dev) (s : Nat) : Dev :=
  if d.ss s != ssStopping then d
  else (d.when (d.moving s) fun d => d.stageEv s 57).stoppingEnd s

/-! ## Pre-start check (R307) -/

/-- The masked channels of the pulse test, ascending. -/
def Dev.pulseChans (d : Dev) (s : Nat) : List Nat :=
  let set := d.phaseSet s
  ((List.range set.length).zip set).filterMap fun p =>
    if tbit (d.get (R.STAGEs_CHK_IN_MASK s)) p.1 then some p.2 else none

/-- A check step fails: its kind event with the summary; FAULT follows in the same step. -/
def Dev.checkFail (d : Dev) (s ev : Nat) : Dev :=
  (d.modStage s fun g => { g with chkFailed := true }).stageFault s ev

/-- Steps 1 and 2 have passed or are not enabled. -/
def Dev.checkInputsDone (d : Dev) (s : Nat) : Bool :=
  let g := d.stage s
  g.chkStart.isSome && (g.vinDone || !d.on (R.STAGEs_CHK_CFG_VIN_EN s))
    && (g.nodeDone || !d.on (R.STAGEs_CHK_CFG_NODE_EN s))

/-- The check goes on after step 1 or 2, or at its first carrier zero: to the pulse test, or to SOFT. -/
def Dev.checkNext (d : Dev) (s : Nat) : Dev :=
  if d.ss s != ssCheck || (d.stage s).chkFailed || !d.checkInputsDone s || (d.stage s).pulse.isSome then d
  else if d.on (R.STAGEs_CHK_CFG_PULSE_EN s) && !(d.pulseChans s).isEmpty then
    d.modStage s fun g => { g with pulse := some ⟨0, 0⟩ }
  else d.stageSoft s

/-- SETTLE has passed since the first carrier zero of CHECK. -/
def Dev.settled (d : Dev) (s : Nat) : Bool :=
  match (d.stage s).chkStart with
  | none => false
  | some t => decide (d.get (R.STAGEs_CHK_CFG_SETTLE s) ≤ d.since t)

/-- Step 2 of the check is judged, once step 1 has passed or is not enabled (R307). -/
def Dev.checkNode (d : Dev) (s : Nat) : Dev :=
  let ready := !(d.stage s).chkFailed && !(d.stage s).nodeDone
    && ((d.stage s).vinDone || !d.on (R.STAGEs_CHK_CFG_VIN_EN s))
  match (d.stage s).nodeCode with
  | none => d
  | some c =>
    if !ready then d
    else if c ≤ d.get (R.STAGEs_CHK_LIM_NODE_MAX s) then d.modStage s fun g => { g with nodeDone := true }
    else d.checkFail s 47

/-- A result of AIN `n` with code `c` comes to the check of stage `s` (R307): steps 1 and 2 each use the first result of
their input after SETTLE, and are judged in order. -/
def Dev.checkResult (d : Dev) (s n c : Nat) : Dev :=
  if d.ss s != ssCheck || !d.settled s || (d.stage s).chkFailed then d
  else
    let vin := d.on (R.STAGEs_CHK_CFG_VIN_EN s) && !(d.stage s).vinDone && d.get (R.STAGEs_CHK_IN_VIN_IN s) == n
    let d := if !vin then d
      else if d.get (R.STAGEs_CHK_LIM_VIN_MIN s) ≤ c then d.modStage s fun g => { g with vinDone := true }
      else d.checkFail s 48
    let node := d.on (R.STAGEs_CHK_CFG_NODE_EN s) && (d.stage s).nodeCode.isNone && d.get (R.STAGEs_CHK_IN_NODE_IN s) == n
    let d := d.when node fun d => d.modStage s fun g => { g with nodeCode := some c }
    (d.checkNode s).checkNext s

/-- A test pulse of `width` steps of 5 ns begins on channel `n` at its carrier zero, gated on, or ends there (`width` = 0). -/
def Dev.pulseAt (d : Dev) (n width : Nat) : Dev :=
  let d := d.modChan n fun c => { c with pulse := width, truncated := false, wave := .rest, waitGate := none }
  (d.putB (R.PWMn_STATUS_GATED n) (width == 0)).newPeriod n

/-- The pulse test at the carrier zero of channel `n` (R307, step 3). DEDUCED: a comparator whose routed output stands
tripped at the on-edge fails the step as one that trips after it. -/
def Dev.pulseZero (d : Dev) (s n : Nat) : Dev :=
  match (d.stage s).pulse with
  | none => d
  | some p =>
    let chans := d.pulseChans s
    if d.ss s != ssCheck || (d.stage s).chkFailed || chans.getD p.place 32 != n then d
    else match p.phase with
      | 0 =>
        if d.cmpRouted (d.get (R.PWMn_CFG_TRUNC_CMP n)) then d.checkFail s 47
        else (d.pulseAt n (d.get (R.STAGEs_CHK_CFG_PULSE s))).modStage s fun g => { g with pulse := some ⟨p.place, 1⟩ }
      | 1 => (d.pulseAt n 0).modStage s fun g => { g with pulse := some ⟨p.place, 2⟩ }
      | _ =>
        if p.place + 1 < chans.length then d.modStage s fun g => { g with pulse := some ⟨p.place + 1, 0⟩ }
        else d.stageSoft s

/-- A comparator trips during a test pulse: the check fails (R307). -/
def Dev.pulseTrip (d : Dev) (s c : Nat) : Dev :=
  match (d.stage s).pulse with
  | some ⟨place, 1⟩ =>
    let n := (d.pulseChans s).getD place 32
    if d.ss s == ssCheck && d.get (R.PWMn_CFG_TRUNC_CMP n) == c && !(d.stage s).chkFailed then d.checkFail s 47 else d
  | _ => d

/-! ## Fault timer (R317) -/

/-- Fault detection runs in these states (R319). -/
def Dev.guarded (d : Dev) (s : Nat) : Bool := d.ssIn s [ssCheck, ssSoft, ssRun, ssSleep, ssStopping]

/-- A hit of the present carrier period (R317). -/
def Dev.stageHit (d : Dev) (s : Nat) : Dev := d.modStage s fun g => { g with hit := true }


/-- The end of a carrier period of the stage (R317). -/
def Dev.faultTimer (d : Dev) (s : Nat) : Dev :=
  let hit := (d.stage s).hit
  let d := d.modStage s fun g => { g with hit := d.routedHit s }
  if !d.guarded s then d
  else
    let ft := d.get (R.STAGEs_MON_FT s)
    let lim := d.get (R.STAGEs_FT_FT_LIM s)
    let ft' := if hit then min lim (ft + d.get (R.STAGEs_FT_FT_UP s)) else ft - 1
    let d := d.put (R.STAGEs_MON_FT s) ft'
    if ft' = 0 then d.modStage s fun g => { g with ocArmed := true }
    else if lim ≤ ft' ∧ (d.stage s).ocArmed then (d.modStage s fun g => { g with ocArmed := false }).stageFault s 44
    else d

/-- The set has come to the safe levels that end STOPPING; a START latched meanwhile then leads to WAIT (R303, R314). -/
def Dev.stoppingSafe (d : Dev) (s : Nat) : Dev :=
  if !(d.stage s).ending || d.goingSafe s then d
  else
    let d := d.modStage s fun g => { g with ending := false }
    if d.on (R.STAGEs_STATE_START_LATCHED s) && d.startable s then d.stageWait s
    else d.clr (R.STAGEs_STATE_START_LATCHED s)

/-- The stage's part of a carrier zero of channel `n`: the pulse test, the end of STOPPING, and on the lowest channel of the
set, whose carrier zeros bound the stage's carrier periods (log entry 291), the fault timer and the start of the check. -/
def Dev.stageZero (d : Dev) (s n : Nat) : Dev :=
  let d := (d.pulseZero s n).stoppingSafe s
  if (d.phaseSet s).head? != some n then d
  else
    let d := d.faultTimer s
    if d.ss s == ssCheck && (d.stage s).chkStart.isNone then
      (d.modStage s fun g => { g with chkStart := some d.now }).checkNext s
    else d

/-! ## Mains loss and return (R335) -/

/-- EV017 is declared: a VIENNA stage pauses (R301): its set is gated off at the next carrier zero, out of the safe levels of
WAIT too (log entry 292). -/
def Dev.viennaPause (d : Dev) : Dev :=
  d.each (idxs 12 fun s => d.kind s == kVienna) fun d s =>
    if d.ssIn s [ssWait, ssCheck, ssSoft, ssRun, ssSleep] then
      let d := ((d.quietStage s).setSs s ssPause).showNact s
      let d := (d.gateSet s false).each ((d.phaseSet s).filter fun n => (d.chan n).atSafe) fun d n =>
        (d.modChan n fun c => { c with leaving := true }).set1 (R.PWMn_STATUS_GATED n)
      d.stageEv s 56
    else if d.ss s == ssStopping then d.stoppingEnd s
    else d

/-- EV018 is raised: PAUSE goes to WAIT, with safe levels at the next carrier zero (R301). -/
def Dev.viennaResume (d : Dev) : Dev :=
  d.each (idxs 12 fun s => d.ss s == ssPause) fun d s => (d.stageWait s).safeAt s 1

/-! ## Load, shedding, burst (R323-R334) -/

/-- The unit of a slot's thresholds (R324): 1 code of an AIN, 4 codes of a demodulator. -/
def Dev.slotUnit (d : Dev) (s i : Nat) : Nat := if 64 ≤ d.slot s i then 4 else 1

/-- |c - Z1| of the present IN1 code (R324). -/
def Dev.loadNow (d : Dev) (s : Nat) : Nat :=
  (d.inputCode (d.slot s 1) - (d.coef s (cZ 1)).val.rneAt 0).natAbs

/-- The load L compared with a threshold: sum over the window against threshold × count × unit. -/
def Dev.loadSum (d : Dev) (s : Nat) : Nat × Nat :=
  let l := (d.stage s).loads.take (2 ^ d.get (R.STAGEs_SHED_HOLD_AVG s))
  (l.sum, l.length * d.slotUnit s 1)

/-- L in the units of R324, rounded down (STAGEs_MON). -/
def Dev.loadMean (d : Dev) (s : Nat) : Nat := let (a, n) := d.loadSum s; if n = 0 then 0 else min 65535 (a / n)

def Dev.loadAtMost (d : Dev) (s th : Nat) : Bool := let (a, n) := d.loadSum s; decide (a ≤ th * n)
def Dev.loadAtLeast (d : Dev) (s th : Nat) : Bool := let (a, n) := d.loadSum s; decide (th * n ≤ a)

/-- Shedding acts on this stage (R323). -/
def Dev.sheds (d : Dev) (s : Nat) : Bool :=
  (d.kind s == kBuckboost || d.kind s == kTrayconv) && decide (2 ≤ d.nph s) && d.get (R.STAGEs_SHED_SHED_TH s) != 0

/-- A condition that has held since a moment: since now when it starts, none when it fails. -/
def Dev.heldSince (d : Dev) (c : Bool) (t : Option Nat) : Option Nat :=
  if c then some (t.getD d.now) else none

/-- It has held for an interval. -/
def Dev.heldFor (d : Dev) (t : Option Nat) (iv : Nat) : Bool :=
  match t with
  | none => false
  | some t => decide (iv ≤ d.since t)

/-- The interval of a T.r register with REED and TURN fields. -/
def Dev.interval (d : Dev) (a : Nat) : Nat := d.get (⟨a, 16, 8⟩ : Fld) * 65536 + d.get (⟨a, 0, 16⟩ : Fld)

/-- Shed or add at an update in RUN with BURST = 0 (R325). A load step in the same cycle governs, and nothing is shed (R340). -/
def Dev.shedEval (d : Dev) (s : Nat) : Dev :=
  if !d.sheds s || d.on (R.STAGEs_STATE_BURST s) then d
  else
    let n := d.nph s
    let on := (d.stage s).phases
    let nact := (idxs n fun p => tbit on p).length
    let add := decide (nact < n) && d.loadAtLeast s (d.get (R.STAGEs_SHED_ADD_TH s) * nact)
    let cond := decide (d.get (R.STAGEs_CFG_NMIN s) < nact) && d.loadAtMost s (d.get (R.STAGEs_SHED_SHED_TH s) * (nact - 1))
    let since := d.heldSince cond (d.stage s).shedSince
    if add then
      match (idxs n fun p => !tbit on p).head? with
      | none => d
      | some p =>
        let d := d.modStage s fun g => { g with phases := sbit on p true, shedSince := none }
        ((d.each (d.phaseChans s p) fun d c => d.gate c true).showNact s).stageEv s 53
    else if cond && !d.cyc.loadSteps.contains s && d.heldFor since (d.interval (A.STAGEs_SHED_HOLD s)) then
      match (idxs n fun p => tbit on p).getLast? with
      | none => d
      | some p =>
        let d := d.modStage s fun g => { g with phases := sbit on p false, shedSince := none }
        ((d.each (d.phaseChans s p) fun d c => d.gate c false).showNact s).stageEv s 53
    else d.modStage s fun g => { g with shedSince := since }

/-- Burst entry and exit at an update in RUN (R331, R334). -/
def Dev.burstEval (d : Dev) (s : Nat) : Dev :=
  let bin := d.get (R.STAGEs_BURST_BURST_IN s)
  if bin = 0 ∨ d.kind s = kVienna then d
  else if d.on (R.STAGEs_STATE_BURST s) then
    if d.loadAtLeast s (d.get (R.STAGEs_BURST_BURST_OUT s)) then d.burstEnd s else d
  else
    let nact := d.get (R.STAGEs_STATE_NACT s)
    let cond := d.loadAtMost s bin
    let since := d.heldSince cond (d.stage s).burstSince
    let least := !d.sheds s || nact == d.get (R.STAGEs_CFG_NMIN s)
    if cond && least && !d.on (R.STAGEs_STATE_STOP_PEND s) && d.heldFor since (d.interval (A.STAGEs_BURST_ENT s)) then
      ((d.modStage s fun g => { g with burstSince := none }).set1 (R.STAGEs_STATE_BURST s)).stageEv s 54
    else d.modStage s fun g => { g with burstSince := since }

/-- What an update decides for its stage (R311, R313, R324, R325, R331). -/
def Dev.stageAfterUpdate (d : Dev) (s : Nat) : Dev :=
  if d.ss s == ssSoft then d.softDone s
  else if d.ss s == ssStopping then
    if d.moving s then d else d.stoppingEnd s
  else if d.ss s == ssRun then
    let d := d.modStage s fun g => { g with loads := (d.loadNow s :: g.loads).take 128 }
    let d := d.put (R.STAGEs_MON_L s) (d.loadMean s)
    (d.burstEval s).shedEval s
  else d

/-- SLEEP to RUN (R301, R333): gated on at the next carrier zero, nothing reset. -/
def Dev.wake (d : Dev) (s : Nat) : Dev :=
  if d.ss s == ssSleep then
    let d := (d.setSs s ssRun).set1 (R.STAGEs_LOOP_STATUS_RUN s)
    (d.gatePhases s).showNact s
  else d

/-- RUN to SLEEP (R301, R332). -/
def Dev.sleep (d : Dev) (s : Nat) : Dev :=
  let d := ((d.stopLoop s).setSs s ssSleep).gateSet s false
  d.showNact s

/-- A load step (R328). -/
def Dev.loadStep (d : Dev) (s : Nat) : Dev :=
  if !d.ssIn s [ssRun, ssSleep] then d
  else
    let d := d.modStage s fun g => { g with phases := 2 ^ d.nph s - 1, shedSince := none, burstSince := none }
    let d := { d with cyc := { d.cyc with loadSteps := s :: d.cyc.loadSteps } }
    let d := if d.ss s == ssSleep then d.wake s else d.gatePhases s
    ((d.burstEnd s).showNact s).stageEv s 52

/-- A result of input `src` with value `c` reaches stage `s` (R327, R332). -/
def Dev.stageResult (d : Dev) (s src : Nat) (c : Int) : Dev :=
  let th := d.get (R.STAGEs_STEP_STEP_TH s)
  let z : Int := (d.coef s (cZ 1)).val.rneAt 0
  let d := if d.kind s != kNone && d.slot s 1 == src && th != 0
      && decide (th * d.slotUnit s 1 ≤ (c - z).natAbs) then d.loadStep s else d
  if d.kind s != kNone && d.slot s 0 == src && d.on (R.STAGEs_STATE_BURST s) then
    let u : Int := d.slotUnit s 0
    let hi : Int := d.get (R.STAGEs_WAKE_WAKE_HI s) * u
    let lo : Int := d.get (R.STAGEs_WAKE_WAKE_LO s) * u
    let neg := d.on (R.STAGEs_LOOP_CFG_NEG s)
    let enter := if neg then decide (c ≤ hi) else decide (hi ≤ c)
    let leave := if neg then decide (lo ≤ c) else decide (c ≤ lo)
    if d.ss s == ssRun && enter then d.sleep s
    else if d.ss s == ssSleep && leave then d.wake s
    else d
  else d

/-- The action of stage `s` on an exit of window `w` (R318). -/
def Dev.winAct (d : Dev) (s w : Nat) : Nat :=
  if w < 16 then d.get (⟨A.STAGEs_WINACT0 s, 2 * w, 2⟩ : Fld) else d.get (⟨A.STAGEs_WINACT1 s, 2 * (w - 16), 2⟩ : Fld)

/-- Window `w` exits through a result above HI (`above`) or below LO (R226, R318, R327). -/
def Dev.windowExit (d : Dev) (w : Nat) (above : Bool) : Dev :=
  let s := d.get (R.WINw_CFG_STAGE w)
  if 12 ≤ s then d
  else match d.winAct s w with
    | 1 => if d.guarded s then d.stageFault s (if above then 45 else 46) else d
    | 2 => d.loadStep s
    | _ => d

/-! ## Retry (R320, R321) and commands (R303) -/

/-- The retry timer expires (R320): its start clears a pending stop (R302). -/
def Dev.retry (d : Dev) (s : Nat) : Dev :=
  if d.ss s != ssFault then d
  else if !(d.mode == .ramp || d.mode == .run || d.mode == .ride) then d.stageOff s
  else
    let tries := d.get (R.STAGEs_STATE_TRIES s)
    if tries < d.get (R.STAGEs_RETRY_MAX s) then ((d.put (R.STAGEs_STATE_TRIES s) (tries + 1)).clr (R.STAGEs_STATE_STOP_PEND s)).stageWait s
    else ((d.quietStage s).setSs s ssLockout).stageEv s 51

/-- RUN or SLEEP for 64.0 turns (R321). -/
def Dev.runStable (d : Dev) (s : Nat) : Dev := if d.ssIn s [ssRun, ssSleep] then d.clr (R.STAGEs_STATE_TRIES s) else d

/-- The answer to a START command (R303). -/
def Dev.startCode (d : Dev) (s : Nat) : Code :=
  if !(d.mode == .ramp || d.mode == .run || d.mode == .ride) then .mode
  else if d.kind s == kVienna && d.feedDc then .mode
  else if d.kind s == kNone then .badProfile
  else if d.ss s == ssLockout then .mode
  else .accepted

def Dev.stageRes (d : Dev) (s cmd : Nat) (c : Code) : Dev :=
  (d.putCode (R.STAGEs_CMD_RES_CODE s) c).put (R.STAGEs_CMD_RES_CMD s) cmd

/-- START of R303. -/
def Dev.cmdStart (d : Dev) (s : Nat) : Dev :=
  let c := d.startCode s
  let d := d.stageRes s 1 c
  if c != .accepted then d
  else if d.ss s == ssOff then (d.clr (R.STAGEs_STATE_TRIES s)).stageStart s
  else d.stageStart s

/-- STOP of R303. -/
def Dev.cmdStop (d : Dev) (s : Nat) : Dev :=
  let d := (d.stageRes s 2 .accepted).clr (R.STAGEs_STATE_START_LATCHED s)
  if d.ss s == ssFault then d.stageOff s else d.stageStop s

/-- CLEAR of R303. -/
def Dev.cmdClear (d : Dev) (s : Nat) : Dev :=
  let d := d.stageRes s 3 .accepted
  if d.ssIn s [ssFault, ssLockout] then (d.clr (R.STAGEs_STATE_TRIES s)).stageOff s else d

/-! ## Sharing (R336-R338) -/

/-- A value written to a BF18 register of the share unit. -/
def shareBf (v : Dy) : Bf := bfRound .share v

/-- Members of share group `g` (R336). -/
def Dev.shareMembers (d : Dev) (g : Nat) : List Nat := idxs 12 fun s => d.get (R.STAGEs_CFG_SHARE s) == g + 1

/-- A member counts in RUN with BURST = 0 (R337). -/
def Dev.shareCounts (d : Dev) (s : Nat) : Bool := d.ss s == ssRun && !d.on (R.STAGEs_STATE_BURST s)

/-- I_k of R337. -/
def Dev.shareCurrent (d : Dev) (s : Nat) : Dy :=
  (d.coef s (cG 1)).val.mul (Dy.ofInt (d.inputCode (d.slot s 1) - (d.coef s (cZ 1)).val.rneAt 0))

/-- One tick of the share unit (R337). -/
def Dev.shareTick (d : Dev) (g : Nat) : Dev :=
  if !d.on (R.STG_SHAREg_CFG_EN g) then d
  else
    let members := d.shareMembers g
    let counting := members.filter d.shareCounts
    if counting.length < 2 then d
    else
      let sum := counting.foldl (fun (a : Dy) s => a.add (d.shareCurrent s)) Dy.zero
      let mean := quotDy sum (Dy.ofInt counting.length)
      let ksh := (Bf.ofWord (d.get (R.STG_SHAREg_KSH_VALUE g))).val
      let smax := (Bf.ofWord (d.get (R.STG_SHAREg_MAX_VALUE g))).val
      let gt := (Bf.ofWord (d.get (R.STG_SHAREg_TRIM_VALUE g))).val
      -- SHARE_LIM is the bit of EV055 in STAGEs_FLAGS
      let lim (d : Dev) (s : Nat) : Dev := d.stageEv s 55
      let d := d.each counting fun d s =>
        let raw := (Bf.ofWord (d.get (R.STAGEs_SHARE_S_S s))).val.sub (ksh.mul ((d.shareCurrent s).sub mean))
        let v := Dy.clamp smax.neg smax raw
        let d := d.put (R.STAGEs_SHARE_S_S s) (shareBf v).word
        d.when ((raw.sub v).n != 0) fun d => lim d s
      d.each members fun d s =>
        let raw := gt.add (Bf.ofWord (d.get (R.STAGEs_SHARE_S_S s))).val
        let tmax := (d.coef s cTrimMax).val
        let v := Dy.clamp tmax.neg tmax raw
        let d := d.put (R.STAGEs_TRIM_VALUE s) (shareBf v).word
        d.when ((raw.sub v).n != 0) fun d => lim d s

end Sys2Proof.Machine
end

