-- ==== Sys2Proof/Machine/Coord.lean ====
section
/-!
DEFINITION. Sys2Proof/Machine/Coord.lean: the operations of rack coordination (spec/09_rack_coordination.md): reports and
the member table, interleave, rack trim, ride-through, the power cap and the manager pair.
-/

namespace Sys2Proof.Machine

def Dev.modCoord (d : Dev) (f : Coord → Coord) : Dev := { d with coord := f d.coord }

/-- A manager: an MGR node that has taken a role (R394). -/
def Dev.isManager (d : Dev) : Bool := d.isPrimary || d.isStandby

def Dev.member (d : Dev) (j : Nat) : Member := d.coord.members.getD j .rest

def Dev.modMember (d : Dev) (j : Nat) (f : Member → Member) : Dev :=
  d.modCoord fun c => { c with members := updAt c.members j f }

/-- The home ID that goes with a bus ID, and the reverse: the two managers' IDs may be exchanged (R394). -/
def Dev.homeOf (d : Dev) (bus : Nat) : Nat :=
  if bus < 2 && d.on R.RINNAK_NODE_MGR && decide (d.busId < 2) && d.busId != d.homeId then 1 - bus else bus

/-- TICK in force here (R722). -/
def Dev.tickTurns (d : Dev) : Nat :=
  if d.isPrimary then d.get R.MGR_TICK_TICK else d.coord.tick.getD (d.get R.MGR_TICK_TICK)

/-! ## The member table (R370, R371, R377, R384, R387) -/

def homes : List Nat := List.range 32

def Dev.fresh (d : Dev) (j : Nat) : Bool := d.on (R.MGR_MEMBj_FRESH j)

def Dev.memberMode (d : Dev) (j : Nat) : Mode := Mode.ofCode (d.get (R.MGR_MEMBj_MODE j))

def Dev.memberRole (d : Dev) (j : Nat) : Option Role := Role.ofCode (d.get (R.MGR_MEMBj_ROLE j))

/-- Fresh members of a role in one of some modes. -/
def Dev.membersIn (d : Dev) (r : Role) (ms : List Mode) : List Nat :=
  homes.filter fun j => d.fresh j && d.memberRole j == some r && ms.contains (d.memberMode j)

/-- The members of interleave group `g`, ascending (R371). -/
def Dev.ilvMembers (d : Dev) (g : Nat) : List Nat :=
  homes.filter fun j => d.fresh j && d.get (R.MGR_MEMBj_ILV_GROUP j) == g
    && [Mode.ramp, .run, .ride].contains (d.memberMode j)

/-- A member counts in the rack trim (R377). -/
def Dev.trimCounts (d : Dev) (j : Nat) : Bool :=
  d.fresh j && d.memberMode j == .run && (d.member j).rating != 0 && (d.member j).shareGrp != 0

/-- Every RECT member that last reported RUN reports RIDE, and there is one (R384). -/
def Dev.allRide (d : Dev) : Bool :=
  let l := homes.filter fun j => d.fresh j && d.memberRole j == some .rect && (d.member j).lastMain == Mode.run.code
  !l.isEmpty && l.all fun j => d.memberMode j == .ride

/-- B_eff (R384). -/
def Dev.effBudget (d : Dev) : Nat :=
  let b := d.get R.MGR_BUDGET_BUDGET
  if d.allRide then min b ((d.membersIn .stor [.run]).foldl (fun a j => a + (d.member j).rating) 0) else b

/-- The members that an allocation counts (R387). -/
def Dev.allocSet (d : Dev) : List Nat × List Nat × List Nat :=
  (d.membersIn .dist [.ramp, .run, .ride], d.membersIn .stor [.run],
    homes.filter fun j => d.memberRole j == some .dist && d.fresh j)

/-- EFFECTIVE follows the member table; a change of it asks for a reallocation (R388). -/
def Dev.showEff (d : Dev) : Dev :=
  let e := d.effBudget
  if d.get R.MGR_BUDGET_EFFECTIVE == e then d
  else (d.put R.MGR_BUDGET_EFFECTIVE e).modCoord fun c => { c with reallocDue := true }

/-- Coordination raises EV122 (R403). -/
def Dev.coordCheck (d : Dev) (f : Fld) : Dev := (d.set1 f).report 122

/-- The member table changes by `f`; what follows from it at a manager: trims of members that stop counting (R379), B_eff
(R384), and what is now due (R374, R388). -/
def Dev.memberChange (d : Dev) (f : Dev → Dev) : Dev :=
  if !d.isManager then d
  else
    let groups (d : Dev) : List (List Nat) := (List.range 8).map d.ilvMembers
    let d' := f d
    let d' := d'.each homes fun x j => if x.trimCounts j then x else x.clr (R.MGR_GTj_GT j)
    let ilv := groups d' != groups d
    let alloc := d'.allocSet != d.allocSet || d'.allRide != d.allRide
    (d'.modCoord fun c => { c with
      offsetsDue := c.offsetsDue || ilv
      reallocDue := c.reallocDue || alloc }).showEff

/-- The member that gives ILV_K and ILV_M (R373): the one with the lowest home ID, among those whose report has been received
here: a copy holds neither (DESIGN CHOICE, log entry 346). -/
def Dev.ilvLead (d : Dev) (ms : List Nat) : Option Nat := ms.find? fun j => (d.member j).known

/-- A SHELF_REPORT of the member of home `j` (R367, R370, R373, R419). -/
def Dev.memberReport (d : Dev) (j : Nat) (p : List Byte) : Dev :=
  let mode := byteAt p 0 % 8
  let role := Role.ofCode (byteAt p 5 % 8)
  let raw := beAt p 8 2
  let rep := role == some .rect || role == some .stor
  let put (d : Dev) : Dev :=
    let d := (d.put (R.MGR_MEMBj_MODE j) mode).put (R.MGR_MEMBj_ILV_GROUP j) (byteAt p 1 % 16)
    let d := (d.put (R.MGR_MEMBj_ROLE j) (byteAt p 5 % 8)).set1 (R.MGR_MEMBj_FRESH j)
    let d := d.modMember j fun m => { m with
      known := true, ilvK := beAt p 2 2, ilvM := byteAt p 4, shareGrp := byteAt p 1 / 16 % 4, rating := beAt p 6 2
      power := if rep then toSigned 16 raw else raw
      lastMain := if mode == Mode.ride.code then m.lastMain else mode }
    d.when rep fun d => d.put (R.MGR_NODEj_REPORT j) raw
  let d := d.memberChange put
  match d.ilvLead (d.ilvMembers (d.get (R.MGR_MEMBj_ILV_GROUP j))) with
  | some k =>
    let (a, b) := (d.member k, d.member j)
    if d.isPrimary && (d.ilvMembers (d.get (R.MGR_MEMBj_ILV_GROUP j))).contains j
        && decide (d.get (R.MGR_MEMBj_ILV_GROUP j) < 8) && (a.ilvK != b.ilvK || a.ilvM != b.ilvM) then
      d.coordCheck R.COORD_FLAGS_ILV_MISMATCH
    else d
  | none => d

/-- A RIDE_REPORT (R382, R384). -/
def Dev.memberRide (d : Dev) (j : Nat) (entered : Bool) : Dev :=
  d.memberChange fun d => d.put (R.MGR_MEMBj_MODE j) (if entered then Mode.ride.code else Mode.run.code)

/-- A DEMAND_REPORT (R387, R388): contracts held and requests answered WAIT. -/
def Dev.memberDemand (d : Dev) (j held waiting : Nat) : Dev :=
  if !d.isManager then d
  else
    let x := held + waiting
    let d := (d.modMember j fun m => { m with demand := x }).put (R.MGR_NODEj_REPORT j) (Config.fit .mgrSum 16 x)
    d.modCoord fun c => { c with reallocDue := true }

/-- A member's last report is older than 4 × TICK turns (R370). The other manager's absence shows in PEER. -/
def Dev.memberStale (d : Dev) (j : Nat) : Dev :=
  if d.isManager && decide (j < 32) && d.fresh j then
    let d := d.memberChange fun d => d.clr (R.MGR_MEMBj_FRESH j)
    d.when (decide (j < 2) && j != d.homeId) fun d => (d.clr R.MGR_STATUS_PEER).clr R.MGR_STATUS_COPY_OK
  else d

/-! ## Reports of this node (R367, R382, R722) -/

/-- A SHELF_REPORT of this node: a manager passes it to itself (R368), and every node but the primary sends it (R419). -/
def Dev.shelfReport (d : Dev) : Dev :=
  let p := d.shelfPayload
  let d := d.memberReport d.homeId p
  if d.isPrimary then d else (d.send tShelfReport clNormal dstManagers p).1

/-- The report of every TICK turns; a node that has accepted no BEACON sends none (R722). -/
def Dev.shelfTick (d : Dev) : Dev :=
  if !d.netOn then d
  else if d.isPrimary || d.coord.tick.isSome then d.shelfReport
  else d

/-- A RIDE_REPORT of this node. -/
def Dev.rideReport (d : Dev) (entered : Bool) : Dev :=
  if d.isRole .rect || d.isRole .dist then
    let d := d.memberRide d.homeId entered
    (d.send tRideReport clUrgent dstManagers [if entered then 1 else 0, 0]).1
  else d

/-- A changed demand is reported, at most once per 1.0 (R367). -/
def Dev.demandSend (d : Dev) : Dev :=
  let free := match d.coord.demandAt with
    | none => true
    | some t => decide (65536 ≤ d.since t)
  if !(d.coord.demandPend && free && d.netOn) then d
  else
    let (h, w) := d.coord.demandSeen
    let done (d : Dev) : Dev := d.modCoord fun c => { c with demandPend := false, demandAt := some d.now }
    let d := d.memberDemand d.homeId h w
    if d.isPrimary then done d
    else match d.send tDemandReport clNormal dstManagers (beBytes 2 h ++ beBytes 2 w) with
      | (d, .accepted) => done d
      | (d, _) => d

/-- The demand of a DIST node is compared with the one seen last. -/
def Dev.demandCheck (d : Dev) : Dev :=
  if !d.isRole .dist then d
  else
    let x := (d.get R.BT_SUM_HELD, d.get R.BT_SUM_WAITING)
    let moved := x.1 + x.2 != d.coord.demandSeen.1 + d.coord.demandSeen.2
    let d := d.modCoord fun c => { c with demandSeen := x, demandPend := c.demandPend || moved }
    d.demandSend

/-! ## Shelf power (R389, R723) -/

/-- A sample of the power of stage or string `i`: n × 2^x W. -/
def Dev.powerSample (d : Dev) (i : Nat) (v : Dy) : Dev :=
  d.modCoord fun c => { c with powers := updAt c.powers i fun p =>
    let s := Dy.add ⟨p.n, p.x⟩ v
    ⟨s.n, s.x, p.count + 1⟩ }

/-- The power in 100 W, as a field of 16 bits. -/
def powerField (signed : Bool) (num den : Int) : Nat :=
  let v := Config.round .shelfPower num den
  if signed then ofSigned 16 (Config.fitS .shelfPower 16 v) else Config.fit .shelfPower 16 v

/-- The shelf output power is formed at a rack turn boundary (R723). -/
def Dev.powerForm (d : Dev) : Dev :=
  let rest (d : Dev) : Dev := d.modCoord fun c => { c with powers := c.powers.map fun _ => ⟨0, 0, 0⟩ }
  match d.role with
  | some .rect | some .stor =>
    -- the means over one common denominator, in 2^-80 W
    let l := d.coord.powers.filter fun p => p.count != 0
    let den := l.foldl (fun a p => a * p.count) 1
    let num := l.foldl (fun (a : Int) p => a + Dy.rneAt ⟨p.n, p.x⟩ (-80) * ((den / p.count : Nat) : Int)) 0
    rest (d.put R.COORD_POWER_POWER (powerField true num (den * 100 * 2 ^ 80)))
  | some .dist =>
    let (n, c) := d.coord.pShelf
    d.put R.COORD_POWER_POWER (if c = 0 then 0 else powerField false n (c * 100 * 2 ^ 33))
  | _ => d

/-- The power of a branch at a scan in 2^-33 W (R389, R449, R451): the mean of the two spine halves times the currents of
the used legs. -/
def Dev.branchPower (d : Dev) (n : Nat) : Int :=
  let v : Int := (d.get R.BR_SPINE_MEAS_VSPA + d.get R.BR_SPINE_MEAS_VSPB : Nat)
  let i (b : Bool) (c : Nat) : Int := if d.legUsed n b then (c : Int) - d.get R.BR_ZERO_ZI else 0
  v * d.get R.BR_SCALE_KV * (i false (d.get (R.BRn_MEAS_I_IA n)) + i true (d.get (R.BRn_MEAS_I_IB n)))
    * d.get R.BR_SCALE_KI

/-- The scans of the last 256 reeds. -/
def Dev.recentScans (d : Dev) : List (Nat × List Int) := d.coord.scans.filter fun x => decide (d.since x.1 ≤ 256)

/-- A scan has been evaluated: its powers are kept for R389. -/
def Dev.scanPower (d : Dev) : Dev :=
  if !d.isRole .dist then d
  else
    let x := (d.now, (List.range 8).map d.branchPower)
    let l := d.recentScans
    d.modCoord fun c => { c with scans := l ++ [x] }

/-! ## The power cap at a DIST worker (R389, R390, R392, R393) -/

def capFld (n : Nat) : Fld := R.COORD_BRK_LEVELS.part (4 * n) 4

/-- Branches with a contract. -/
def Dev.capBranches (d : Dev) : List Nat := idxs 8 fun n => d.contract n != 0

/-- The sum over the last 256 reeds of the power of a branch, in 2^-33 W. -/
def branchSum (l : List (Nat × List Int)) (n : Nat) : Int := l.foldl (fun a x => a + x.2.getD n 0) 0

/-- 100 W in units of 2^-33 W. -/
def hundredWatts : Int := 100 * 2 ^ 33

/-- One evaluation (R389): none while the slice in force is 0 or none has been received (R390), or while no scan lies in
the last 256 reeds. -/
def Dev.capEvaluation (d : Dev) : Dev :=
  let slice := d.get R.COORD_ALLOT_SLICE
  let l := d.recentScans
  if !d.isRole .dist || !d.mode.afterBoot || slice == 0 || !d.on R.COORD_ALLOT_HELD || l.isEmpty then d
  else
    let n : Int := l.length
    let p := d.capBranches.foldl (fun a b => a + branchSum l b) 0
    let d := d.modCoord fun c => { c with pShelf := (p, l.length) }
    if (slice : Int) * hundredWatts * n < p then
      let above := d.capBranches.filter fun b => decide ((d.contract b : Int) * hundredWatts * n < branchSum l b)
      let up := if above.isEmpty then d.capBranches else above
      let d := (d.set1 R.COORD_FLAGS_OVER).modCoord fun c => { c with relax := 0, overSlice := true }
      d.each up fun d b => d.bump (capFld b)
    else
      let d := d.modCoord fun c => { c with overSlice := false, capRaised := false }
      if p * 256 ≤ (slice : Int) * hundredWatts * n * (256 - d.get R.COORD_CAP_CFG_HYST) then
        let k := d.coord.relax + 1
        if d.get R.COORD_CAP_CFG_RELAX ≤ k then
          (d.modCoord fun c => { c with relax := 0 }).each (List.range 8) fun d b => d.put (capFld b) (d.get (capFld b) - 1)
        else d.modCoord fun c => { c with relax := k }
      else d.modCoord fun c => { c with relax := 0 }

/-- CAP_TMO turns above the slice with every branch that has a contract at level 15 (R393). -/
def Dev.capTimeout (d : Dev) : Dev :=
  if d.isRole .dist && d.coord.overSlice && !d.coord.capRaised && (d.capBranches.all fun b => d.get (capFld b) == 15) then
    (d.coordCheck R.COORD_FLAGS_CAP_TMO).modCoord fun c => { c with capRaised := true }
  else d

/-- The level of a branch (R385, R392): the largest of the cap level, RIDE_LEVEL in RIDE on a branch that holds a
contract, and the thermal level. -/
def Dev.levelOf (d : Dev) (n : Nat) : Nat :=
  let ride := if d.mode == .ride && d.contract n != 0 then d.get R.COORD_RATING_RIDE_LEVEL else 0
  max (max (d.get (capFld n)) ride) (d.get (R.THERM_LEVEL_LEVELS.part (4 * n) 4))

/-- BRK_LEVEL follows, and a changed level acts on its line (R472). -/
def Dev.combineLevels (d : Dev) : Dev :=
  if !d.isRole .dist then d
  else
    let d' := d.each (List.range 8) fun d n => d.put (R.BRK_LEVEL_LEVELS.part (4 * n) 4) (d.levelOf n)
    d'.brakesNow

/-- A slice comes into force (R369, R390, R391). -/
def Dev.sliceInForce (d : Dev) (v : Nat) : Dev :=
  let d := (d.put R.COORD_ALLOT_SLICE v).set1 R.COORD_ALLOT_HELD
  let d := if v = 0 then (d.clr R.COORD_BRK_LEVELS).modCoord fun c => { c with relax := 0, overSlice := false, capRaised := false }
    else d
  d.btSlice

/-- A charge allowance comes into force (R369). -/
def Dev.allowanceInForce (d : Dev) (v : Nat) : Dev := (d.put R.COORD_ALLOT_SLICE v).set1 R.COORD_ALLOT_HELD

/-- The slice or allowance given to this shelf, by its role. -/
def Dev.allotInForce (d : Dev) (v : Nat) : Dev :=
  if d.isRole .dist then d.sliceInForce v else if d.isRole .stor then d.allowanceInForce v else d

/-! ## Settings that a worker receives (R369, R378) -/

/-- The entry of this node in a list message (R422), without its bus ID. -/
def Dev.ownEntry (d : Dev) (size : Nat) (p : List Byte) : Option (List Byte) :=
  let es := (List.range (byteAt p 0)).map fun i => slice p (2 + i * size) size
  (es.find? fun e => e.length == size && byteAt e 0 == d.busId).map (·.drop 1)

/-- OFFSET_SET (R369, R374): the offset moves under R176. -/
def Dev.takeOffset (d : Dev) (w : Nat) : Dev :=
  if d.get R.COORD_CFG_ILV_GROUP == 15 then d else ((d.noteNet A.PWM_SHELF_OFS).setWord A.PWM_SHELF_OFS (BitVec.ofNat 32 w)).offsetsChanged

/-- The in-shelf groups that SHARE_GRP names. -/
def Dev.shareGroups (d : Dev) : List Nat := [0, 1].filter fun g => tbit (d.get R.COORD_CFG_SHARE_GRP) g

/-- SHARE_TRIM (R378). -/
def Dev.takeTrim (d : Dev) (w : Nat) : Dev :=
  d.each d.shareGroups fun d g =>
    let d := d.noteNet (A.STG_SHAREg_TRIM g)
    match d.shareMembers g with
    | [] => d.put (R.STG_SHAREg_TRIM_VALUE g) w
    | s :: t =>
      let lim := t.foldl (fun (a : Bf) k => if ((d.coef k cTrimMax).val.lt a.val) then d.coef k cTrimMax else a)
        (d.coef s cTrimMax)
      let v := (Bf.ofWord w).val
      let out : Option Nat := if lim.val.lt v then some lim.word
        else if v.lt lim.val.neg then some (Bf.mk (-lim.m) lim.e).word else none
      match out with
      | some x => (d.put (R.STG_SHAREg_TRIM_VALUE g) x).set1 R.COORD_FLAGS_TRIM_LIM
      | none => d.put (R.STG_SHAREg_TRIM_VALUE g) w

/-- A worker writes 0 as its group trim at each entry to RAMP (R379). -/
def Dev.trimRamp (d : Dev) : Dev := d.each d.shareGroups fun d g => d.clr (R.STG_SHAREg_TRIM_VALUE g)

/-! ## Interleave (R371-R374) -/

/-- O_i of R372. -/
def ilvOffset (k m n i : Nat) : Nat := ofSigned 32 (roundHalf ((i : Int) * 2 ^ 32) ((k * n * m : Nat) : Int))

/-- A list message that goes out at once; own entries are passed by `own` (R368). -/
def Dev.sendList (d : Dev) (ty entry : Nat) (l : List (Nat × List Byte)) (own : Dev → Dev) : Dev × Code :=
  let others := l.filter fun e => e.1 != d.homeId
  match d.sendAll (d.listMsgs ty clNormal entry (others.map fun e => BitVec.ofNat 8 (d.homeOf e.1) :: e.2)) with
  | (d, .accepted) => (if l.any fun e => e.1 == d.homeId then own d else d, .accepted)
  | (d, c) => (d, c)

/-- The offsets are recomputed (R374). -/
def Dev.ilvRecompute (d : Dev) : Dev :=
  let free := match d.coord.offsetsAt with
    | none => true
    | some t => decide (16 * 65536 ≤ d.since t)
  if !(d.isPrimary && d.coord.offsetsDue && free) then d
  else
    let groups := (List.range 8).map d.ilvMembers
    let vals : List (Nat × Nat × Nat) := groups.flatMap fun ms =>
      match (d.ilvLead ms).or ms.head? with
      | none => []
      | some k => ms.mapIdx fun i j => (j, i, ilvOffset (d.member k).ilvK (d.member k).ilvM ms.length i)
    let changed := vals.filter fun (j, _, o) => d.get (R.MGR_OFSj_OFS j) != o
    let own (d : Dev) : Dev :=
      match changed.find? fun e => e.1 == d.homeId with
      | some (_, _, o) => d.takeOffset o
      | none => d
    match d.sendList tOffsetSet 6 (changed.map fun (j, _, o) => (j, 0 :: beBytes 4 o)) own with
    | (d, .accepted) =>
      let d := d.each homes fun d j => d.clr (R.MGR_MEMBj_INDEX j)
      let d := d.each vals fun d (j, i, o) => (d.put (R.MGR_MEMBj_INDEX j) i).put (R.MGR_OFSj_OFS j) o
      d.modCoord fun c => { c with offsetsDue := false, offsetsAt := some d.now }
    | (d, _) => d.modCoord fun c => { c with offsetsAt := some d.now }

/-! ## Rack trim (R377) -/

/-- One share class. -/
def Dev.trimClass (d : Dev) (r : Role) : Dev :=
  let ms := homes.filter fun j => d.trimCounts j && d.memberRole j == some r
  if ms.length < 2 then d
  else
    let sumP := ms.foldl (fun a j => a + (d.member j).power) 0
    let sumR := ms.foldl (fun a j => a + (d.member j).rating) 0
    let krs := (Bf.ofWord (d.get R.MGR_KRS_VALUE)).val
    let lim := (Bf.ofWord (d.get R.MGR_GTMAX_VALUE)).val
    let d := d.each ms fun d j =>
      let x := krs.mul (Dy.ofInt ((d.member j).power * sumR - sumP * (d.member j).rating))
      let q : Dy := ⟨Config.round .rackTrim (x.n * 2 ^ 40) sumR, x.x - 40⟩
      let v := Dy.clamp lim.neg lim ((Bf.ofWord (d.get (R.MGR_GTj_GT j))).val.sub q)
      d.put (R.MGR_GTj_GT j) (bfRound .rackTrim v).word
    (d.sendList tShareTrim 4 (ms.map fun j => (j, beBytes 3 (d.get (R.MGR_GTj_GT j))))
      fun d => d.takeTrim (d.get (R.MGR_GTj_GT d.homeId))).1

/-- Every TICK turns at the primary. -/
def Dev.rackTrim (d : Dev) : Dev := if d.isPrimary then (d.trimClass .rect).trimClass .stor else d

/-! ## Allocation (R386-R388, R429) -/

/-- A write of MGR_BUDGET (R386). -/
def Dev.budgetWrite (d : Dev) (v : Nat) : Dev :=
  let res (d : Dev) (c : Code) : Dev := (d.putCode R.MGR_CMD_RES_CODE c).clr R.MGR_CMD_RES_CMD
  if !d.isPrimary then res d .mode
  else if v < d.get R.MGR_POLICY_RESERVE then res d .budget
  else
    let old := d.get R.MGR_BUDGET_BUDGET
    let d := (res d .accepted).put R.MGR_BUDGET_BUDGET v
    (d.modCoord fun c => { c with reallocDue := true, oldBudget := c.oldBudget <|> some old }).showEff

/-- The values that a reallocation assigns (R387), by home ID: D, and the new slices and allowances. -/
def Dev.allocate (d : Dev) : Nat × List (Nat × Nat) :=
  let dist := d.membersIn .dist [.ramp, .run, .ride]
  let stor := d.membersIn .stor [.run]
  let absent := homes.filter fun j => !d.fresh j
  let spent := absent.foldl (fun a j => a + d.get (R.MGR_NODEj_ALLOT j)) 0
  let a := d.effBudget - d.get R.MGR_POLICY_RESERVE - spent
  let dem := dist.foldl (fun x j => x + (d.member j).demand) 0
  let slice (j : Nat) : Nat := if dem ≤ a then (d.member j).demand else a * (d.member j).demand / dem
  let sumS := dist.foldl (fun x j => x + slice j) 0
  let c := if d.allRide then 0 else min (d.get R.MGR_POLICY_CHG_MAX) (a - sumS)
  let sumR := stor.foldl (fun x j => x + (d.member j).rating) 0
  let value (j : Nat) : Nat :=
    if dist.contains j then slice j else if stor.contains j then c * (d.member j).rating / sumR else 0
  (dem, (homes.filter d.fresh).map fun j => (j, value j))

/-- Members that take a slice or an allowance. -/
def Dev.takesAllot (d : Dev) (j : Nat) : Bool := d.memberRole j == some .dist || d.memberRole j == some .stor

/-- The list messages of some values: SLICE_SET for DIST, CHARGE_SET for STOR. -/
def Dev.allotMsgs (d : Dev) (cls : Nat) (l : List (Nat × Nat)) : List (Nat × Nat × Nat × List Byte) :=
  let part (ty : Nat) (r : Role) : List (Nat × Nat × Nat × List Byte) :=
    d.listMsgs ty cls 4 ((l.filter fun e => d.memberRole e.1 == some r && e.1 != d.homeId).map fun e =>
      [BitVec.ofNat 8 (d.homeOf e.1), 0] ++ beBytes 2 e.2)
  part tSliceSet .dist ++ part tChargeSet .stor

/-- Values queued: they are given, and this shelf's own value is in force at once (R368). -/
def Dev.giveAll (d : Dev) (l : List (Nat × Nat)) : Dev :=
  d.each l fun d (j, v) =>
    let d := d.modMember j fun m => { m with given := v }
    if j == d.homeId then d.allotInForce v else d

/-- A reallocation (R387, R388, R429). -/
def Dev.reallocate (d : Dev) : Dev :=
  let free := match d.coord.reallocAt with
    | none => true
    | some t => decide (65536 ≤ d.since t)
  if !(d.isPrimary && d.coord.reallocDue && free) then d
  else
    let (dem, l) := d.allocate
    let vals := l.filter fun e => d.takesAllot e.1
    let low := vals.filter fun e => decide (e.2 < (d.member e.1).given)
    let high := vals.filter fun e => decide ((d.member e.1).given < e.2)
    match d.sendAll (d.allotMsgs clUrgent low ++ d.allotMsgs clNormal high) with
    | (all, .accepted) =>
      -- the lowered values are queued now, the raised ones by RAISED_VALUES_SEND: both have been admitted (R388, R429)
      let d := (d.sendAll (d.allotMsgs clUrgent low)).1.setWord A.RINNAK_ADMIT (all.word A.RINNAK_ADMIT)
      let d := d.each vals fun d e => d.put (R.MGR_NODEj_ALLOT e.1) e.2
      let sum := homes.foldl (fun a j => a + d.get (R.MGR_NODEj_ALLOT j)) 0
      let d := (d.put R.MGR_SUM_ALLOC (Config.fit .mgrSum 16 sum)).put R.MGR_SUM_DEMAND (Config.fit .mgrSum 16 dem)
      let d := d.modCoord fun c => { c with
        reallocDue := false, reallocAt := some d.now, oldBudget := none, raisedVals := high
        raisedAt := if low.isEmpty then none else some d.now }
      d.giveAll low
    | (d, _) =>
      let old := d.coord.oldBudget
      let d := d.modCoord fun c => { c with reallocAt := some d.now, oldBudget := none }
      match old with
      | none => d
      | some b => ((d.put R.MGR_BUDGET_BUDGET b).putCode R.MGR_CMD_RES_CODE .late).showEff

/-- The raised values go out (R388): they were admitted with the lowered ones (R429). -/
def Dev.sendRaised (d : Dev) : Dev :=
  let due := match d.coord.raisedAt with
    | none => true
    | some t => decide (32768 ≤ d.since t)
  if !(d.isPrimary && due && d.netOn && !d.keyless && (d.segUp false || d.segUp true)) then d
  else ((d.queueAdmitted (d.allotMsgs clNormal d.coord.raisedVals)).giveAll d.coord.raisedVals).modCoord fun c =>
    { c with raisedVals := [] }

/-! ## Ride-through at a RECT node (R380, R381) -/

/-- RIDE entry with RIDE_DAB = 1: each DAB stage in SOFT or RUN is stopped and marked. -/
def Dev.rideStop (d : Dev) : Dev :=
  if !(d.isRole .rect && d.on R.COORD_CFG_RIDE_DAB) then d
  else d.each (idxs 12 fun s => d.kind s == kDab && d.ssIn s [ssSoft, ssRun]) fun d s =>
    (d.stageStop s).modCoord fun c => { c with marks := sbit c.marks s true }

/-- RIDE to RUN: marked stages start again. -/
def Dev.rideStart (d : Dev) : Dev :=
  let m := d.coord.marks
  let d := d.modCoord fun c => { c with marks := 0 }
  d.each (idxs 12 fun s => tbit m s && d.ss s != ssFault && d.ss s != ssLockout) fun d s => d.stageStart s

def Dev.rideClear (d : Dev) : Dev := d.modCoord fun c => { c with marks := 0 }

/-! ## The manager pair (R394-R401, R419-R421) -/

/-- The present value of an item at this manager, by key. -/
def Dev.itemValue (d : Dev) (k : Nat) : Nat :=
  let j := k % 32
  match k / 32 with
  | 0 => (d.word A.MGR_BUDGET).toNat
  | 1 => d.get (R.MGR_NODEj_ALLOT j)
  | 2 => d.get (R.MGR_OFSj_OFS j)
  | 3 => d.get (R.MGR_GTj_GT j)
  | _ => (d.word (A.MGR_MEMBj j)).toNat % 65536 + d.get (R.MGR_NODEj_REPORT j) * 65536

/-- The items that the standby has not been sent as they now stand (R421). -/
def Dev.itemsChanged (d : Dev) : List Nat :=
  copyKeys.filter fun k => d.coord.unsent.contains k || sread 0 d.coord.copy k != d.itemValue k

/-- MGR_STATE (R395, R421). One that is still queued gives up its place, and its items go with the new ones (R424). COPY_OK
reads 1 again when it has gone out. -/
def Dev.sendState (d : Dev) : Dev :=
  let changed := d.itemsChanged
  let room := min 255 ((d.maxLen - 10) / 6)
  let take := (changed ++ (copyKeys.filter d.stateWaiting.contains).filter fun k => !changed.contains k).take room
  let rot := copyKeys.drop d.coord.refresh ++ copyKeys.take d.coord.refresh
  let fill := (rot.filter fun k => !take.contains k).take (room - take.length)
  let items := take ++ fill
  let p := beBytes 2 (d.get R.MGR_STATUS_EPOCH) ++ beBytes 2 d.coord.stateSeq ++ beBytes 4 (copyCrc d.itemValue)
    ++ [BitVec.ofNat 8 items.length, 0] ++ items.flatMap fun k => itemBytes k (d.itemValue k)
  match (d.clr R.MGR_STATUS_COPY_OK).send tMgrState clNormal 1 p with
  | (d, .accepted) => d.modCoord fun c => { c with
      stateSeq := (c.stateSeq + 1) % 65536
      refresh := (c.refresh + fill.length) % copyKeys.length }
  | (d, _) => d

/-- MGR_STATE at the standby (R421). -/
def Dev.takeState (d : Dev) (p : List Byte) : Dev :=
  if !d.isStandby then d
  else
    let copy := applyState d.coord.copy p
    let d := d.modCoord fun c => { c with copy := copy, copyHeld := true, stateSeq := beAt p 2 2 }
    let d := d.put R.MGR_STATUS_EPOCH (beAt p 0 2)
    d.putB R.MGR_STATUS_COPY_OK (copyAgrees copy p)

/-- A BEACON at the standby: its copy is older now (R395). -/
def Dev.copyAges (d : Dev) : Dev := if d.isStandby then d.clr R.MGR_STATUS_COPY_OK else d

/-- The copy comes into force (R397). -/
def Dev.copyInForce (d : Dev) : Dev :=
  if !d.coord.copyHeld then d
  else
    let v (k : Nat) : Nat := sread 0 d.coord.copy k
    let d := d.setWord A.MGR_BUDGET (BitVec.ofNat 32 (v 0))
    d.each homes fun d j =>
      let d := (d.put (R.MGR_NODEj_ALLOT j) (v (32 + j))).put (R.MGR_OFSj_OFS j) (v (64 + j))
      let d := (d.put (R.MGR_GTj_GT j) (v (96 + j))).setWord (A.MGR_MEMBj j) (BitVec.ofNat 32 (v (128 + j) % 65536))
      let d := d.put (R.MGR_NODEj_REPORT j) (v (128 + j) / 65536)
      let raw := v (128 + j) / 65536
      let dist := d.memberRole j == some .dist
      d.modMember j fun m => { m with
        given := v (32 + j)
        demand := if dist then raw else m.demand
        power := if dist then m.power else toSigned 16 raw }

/-- The node becomes primary (R57, R154, R394). -/
def Dev.takePrimary (d : Dev) : Dev :=
  let d := (d.setBusId 0).put R.MGR_STATUS_MROLE 1
  let d := d.becomeLead.extendBounds
  let d := d.modNet fun n => { n with
    segA := { n.segA with plcaAt := some d.now, base := d.now }, segB := { n.segB with plcaAt := some d.now, base := d.now }
    homes := n.homes.filter fun h => decide (2 ≤ h.1) }
  d.modCoord fun c => { c with
    beacons := 0, rival := none, swapDue := false, raisedVals := [], reallocDue := false, oldBudget := none, unsent := copyKeys }

/-- The node becomes standby (R61, R394). -/
def Dev.takeStandby (d : Dev) : Dev :=
  let d := ((d.setBusId 1).put R.MGR_STATUS_MROLE 2).clr R.MGR_STATUS_COPY_OK
  let d := d.becomeFollower
  let d := d.modNet fun n => { n with
    segA := { n.segA with base := d.now }, segB := { n.segB with base := d.now }
    homes := n.homes.filter fun h => decide (2 ≤ h.1) }
  d.modCoord fun c => { c with
    swapDue := false, rival := none, raisedVals := [], reallocDue := false, oldBudget := none, copy := [], copyHeld := false }

/-- EV121 (R403). -/
def Dev.mgrChange (d : Dev) : Dev := (d.set1 R.COORD_FLAGS_TAKEOVER).report 121

/-- The listen after STANDBY entry ends with 4,096 reeds (R394). -/
def Dev.listenEnd (d : Dev) : Dev :=
  if !d.net.listening || decide (d.since d.boot.standbyAt < 4096) then d
  else
    let heard := d.net.heard
    let d := d.modNet fun n => { n with listening := false, heard := false }
    if heard || d.homeId != 0 then d.takeStandby else d.takePrimary

/-- A BEACON of an instant goes on both segments with its FOLLOW_UP (R146, R147, R419): the sequence number, the
scheduled era and angle word, the source, TICK and the rack frequency. -/
def Dev.queueBeacon (d : Dev) (instant : Nat) : Dev :=
  let q := (d.coord.beaconSeq + 1) % 65536
  let p := beBytes 2 q ++ beBytes 4 (instant / 2 ^ 32) ++ beBytes 4 instant
    ++ [BitVec.ofNat 8 d.src, BitVec.ofNat 8 (d.get R.MGR_TICK_TICK)] ++ beBytes 4 (milliOfRate d.rate)
  match d.send tBeacon clSync dstAll p with
  | (d, .accepted) =>
    let d := ((d.send tFollowUp clSync dstAll (beBytes 2 q ++ List.replicate 12 0)).1).put R.RIDGE_BEACON_SEQ q
    d.modCoord fun c => { c with beaconSeq := q, lastInstant := instant, beacons := min 8 (c.beacons + 1) }
  | (d, _) => d

/-- The standby takes over (R397, R154). After a swap the former primary is the standby, and present (R400). -/
def Dev.takeOver (d : Dev) (swap : Bool) : Dev :=
  let last := d.now / 8192 * 8192
  let missed := decide (d.coord.lastInstant < last)
  let d := d.takePrimary.copyInForce.modCoord fun c => { c with copy := [], copyHeld := false }
  let d := d.when (!swap) fun d => d.clr R.MGR_STATUS_PEER
  let d := (d.clr R.MGR_STATUS_COPY_OK).put R.MGR_STATUS_EPOCH (d.get R.MGR_STATUS_EPOCH + 1)
  let d := d.when missed fun d => (d.queueBeacon last).sendState
  let d := (d.send tTakeover clUrgent dstAll (beBytes 2 (d.get R.MGR_STATUS_EPOCH) ++ [BitVec.ofNat 8 d.homeId, 0])).1
  d.mgrChange

/-- No PLCA beacon from bus ID 0 for 600 µs (R396), after one has been seen. -/
def Dev.primaryFailed (d : Dev) : Dev :=
  if d.isStandby && d.netOn && (d.net.segA.plcaAt.isSome || d.net.segB.plcaAt.isSome)
      && decide (120000 * d.rate ≤ d.plcaQuiet * 2 ^ 32) then d.takeOver false else d

/-- No primary in 16.0 turns after STANDBY entry (R399). -/
def Dev.noPrimary (d : Dev) : Dev :=
  if d.isStandby && d.netOn && d.net.segA.plcaAt.isNone && d.net.segB.plcaAt.isNone
      && decide (16 * 65536 ≤ d.since d.boot.standbyAt) then
    (d.takeOver false).set1 R.COORD_FLAGS_NO_PRIMARY
  else d

/-- No standby within 8 beacons (R64, R399). -/
def Dev.noStandby (d : Dev) : Dev :=
  if d.isPrimary && d.coord.beacons == 8 && !d.on R.MGR_STATUS_PEER then
    (d.set1 R.COORD_FLAGS_NO_STANDBY).report 121
  else d

/-- The primary yields or hands over (R398, R400). -/
def Dev.yieldRole (d : Dev) : Dev := d.takeStandby.mgrChange

/-- SWAP (R400). -/
def Dev.mgrSwap (d : Dev) : Dev :=
  let ok := d.isPrimary && d.on R.MGR_STATUS_PEER && d.on R.MGR_STATUS_COPY_OK
  let d := (d.putCode R.MGR_CMD_RES_CODE (if ok then .accepted else .mode)).put R.MGR_CMD_RES_CMD 1
  if ok then d.modCoord fun c => { c with swapDue := true } else d

/-- The primary has accepted a SWAP (R400): the standby takes over at the next beacon instant. How it learns of that the spec does
not say (DESIGN CHOICE, log entry 347). -/
def Dev.swapHeard (d : Dev) : Dev := if d.isStandby then d.modCoord fun c => { c with swapDue := true } else d

/-- The place of the beacon instant among what a cycle has served. -/
def instantServed : Nat := 97

/-- The rack angle has come to a multiple of 8,192 reeds with this cycle, and its instant has not been served (R146). -/
def Dev.instantNow (d : Dev) : Bool :=
  d.cyc.reedNew && decide (d.reed % 8192 = 0) && !d.cyc.served.contains instantServed

/-- A beacon instant (R146, R395, R400): the primary sends its BEACON, or hands over; a standby takes over where a swap is due. -/
def Dev.beaconInstant (d : Dev) : Dev :=
  if !(d.netOn && d.instantNow) then d
  else if d.isPrimary then
    let d := d.serve instantServed
    if d.coord.swapDue then d.yieldRole else (d.queueBeacon d.now).sendState
  else if d.isStandby && d.coord.swapDue then (d.serve instantServed).takeOver true
  else d

/-- A BEACON at a primary (R398). A BEACON carries no EPOCH: the EPOCH and home ID of the other primary are those of its
MGR_TAKEOVER; where that has not been heard, its EPOCH is free and its home ID is the other one (log entry 119). -/
def Dev.rivalBeacon (d : Dev) : Dev :=
  let (e, h) := d.coord.rival.getD (Config.free .rivalEpoch [d.now] % 65536, 1 - d.homeId)
  let own := d.get R.MGR_STATUS_EPOCH
  if own < e || (own == e && decide (h < d.homeId)) then d.yieldRole.put R.MGR_STATUS_EPOCH (max own e) else d

/-- MGR_TAKEOVER (R397, R398). The managers have exchanged bus IDs: what PRESENCE told of them no longer holds. -/
def Dev.takeoverHeard (d : Dev) (p : List Byte) : Dev :=
  let e := beAt p 0 2
  let d := d.modNet fun n => { n with homes := n.homes.filter fun h => decide (2 ≤ h.1) }
  if d.isPrimary then d.modCoord fun c => { c with rival := some (e, byteAt p 2) }
  else if d.isStandby then d.put R.MGR_STATUS_EPOCH e
  else d

/-- A message of the other manager shows its presence (PEER). A standby that comes has been sent nothing yet. -/
def Dev.peerSeen (d : Dev) (src : Nat) : Dev :=
  if d.isManager && decide (src < 2) && src != d.busId && !d.on R.MGR_STATUS_PEER then
    (d.set1 R.MGR_STATUS_PEER).modCoord fun c => { c with unsent := copyKeys }
  else d

/-- PRESENCE (R402, R438): the home ID behind a bus ID. -/
def Dev.presenceHeard (d : Dev) (src home : Nat) : Dev :=
  if !d.isManager then d
  else
    let twice := home == d.homeId && src != d.busId || d.net.homes.any fun h => h.1 != src && h.2 == home
    let known := d.net.homes.any fun h => h.1 == src
    (d.homeHeard src home).when (twice && !known) fun d => d.coordCheck R.COORD_FLAGS_ILV_MISMATCH

/-- The reports of a node whose home ID another node reported first, or is the manager's own, do not count (R368, R402). -/
def Dev.reportCounts (d : Dev) (src : Nat) : Bool :=
  match d.net.homes.find? fun h => h.1 == src with
  | none => true
  | some (_, home) => home != d.homeId && !((d.net.homes.takeWhile fun h => h.1 != src).any fun h => h.2 == home)

end Sys2Proof.Machine
end

