-- ==== Sys2Proof/Machine/Store.lean ====
section
/-!
DEFINITION. Sys2Proof/Machine/Store.lean: the operations of the battery state estimator (spec/14_storage_estimator.md).
The estimator's part of the stage clamp (R554) stands in Machine/Rafter.lean.
-/

namespace Sys2Proof.Machine

def Dev.str (d : Dev) (k : Nat) : Str := d.strings.getD k .rest

def Dev.modStr (d : Dev) (k : Nat) (f : Str → Str) : Dev := { d with strings := updAt d.strings k f }

/-- The string is estimated (R542). -/
def Dev.strOn (d : Dev) (k : Nat) : Bool := d.isRole .stor && decide (k < 6) && d.on (R.STk_CFG_EN k)

/-- Charge inhibits (STk_STATE.CHG_INH) and discharge inhibits (DIS_INH), by bit. -/
def ciFull : Nat := 0
def ciTemp : Nat := 1
def ciRange : Nat := 2
def ciTbad : Nat := 3
def diEmpty : Nat := 0
def diRange : Nat := 1

/-- A storage event (R564). -/
def Dev.stEvent (d : Dev) (k ev : Nat) : Dev :=
  let d := d.set1 ((R.STk_FLAGS_EV k).bit (ev - 104))
  ((d.put R.ST_EVT_STRING k).put R.ST_EVT_EVENT ev).report ev k

/-- The inputs that the estimator scan converts (R543). -/
def Dev.estInputs (d : Dev) : List Nat :=
  idxs 48 fun i => (idxs 6 d.strOn).any fun k => d.get (R.STk_CFG_VIN k) == i || d.get (R.STk_CFG_IIN k) == i

/-- An estimator scan instant (R543). -/
def Dev.estScan (d : Dev) : Dev := if d.isRole .stor then d.scan (d.get R.ST_CFG_EST_LOG2) d.estInputs else d

/-! ## Measurements (R544) -/

/-- V in 2^-16 V. -/
def Dev.strV (d : Dev) (k : Nat) : Int :=
  ((d.get (R.STk_SCALE_KV k) * d.get (R.AINn_RES_CODE (d.get (R.STk_CFG_VIN k))) : Nat) : Int)

/-- I in 2^-16 A, positive while charging. -/
def Dev.strI (d : Dev) (k : Nat) : Int :=
  let i : Int := (d.get (R.STk_SCALE_KI k) : Int)
    * ((d.get (R.AINn_RES_CODE (d.get (R.STk_CFG_IIN k))) : Int) - d.get (R.STk_ZERO_ZI k))
  if d.on (R.STk_CFG_IPOL k) then -i else i

/-- I > I_IDLE; I_IDLE in mA. -/
def Dev.charging (d : Dev) (k : Nat) : Bool := decide ((d.get (R.STk_CUR_I_IDLE k) : Int) * 65536 < d.strI k * 1000)

/-- I < -I_IDLE. -/
def Dev.discharging (d : Dev) (k : Nat) : Bool :=
  decide (d.strI k * 1000 < -((d.get (R.STk_CUR_I_IDLE k) : Int) * 65536))

/-- V_c in 2^-16 V × 10^-5: R_L counts in 10 µΩ. -/
def Dev.strVc (d : Dev) (k : Nat) : Int := d.strV k * 100000 - d.strI k * d.get (R.STk_RES_R k)

/-- A limit of 0.1 V in the units of V_c. -/
def vcLimit (x : Nat) : Int := (x : Int) * 655360000

def Dev.capL (d : Dev) (k : Nat) : Int := (d.get (R.STk_CAP_VALUE k) : Int)

def Dev.strQ (d : Dev) (k : Nat) : Int := d.getS (R.STk_Q_VALUE k)

def Dev.putQ (d : Dev) (k : Nat) (q : Int) : Dev := d.putS (R.STk_Q_VALUE k) (Config.fitS .charge 32 q)

/-- U_ANCH, or a staged U, in mC. -/
def Dev.uOf (d : Dev) (k pc : Nat) : Int := Config.round .soc ((pc : Int) * d.capL k) 10000

/-! ## Steps of the evaluation (R545) -/

/-- Step 1. -/
def Dev.estRange (d : Dev) (k : Nat) : Dev :=
  let v := d.strV k * 10
  let out := decide (v < (d.get (R.STk_VABS_V_LO k) : Int) * 65536 ∨ (d.get (R.STk_VABS_V_HI k) : Int) * 65536 < v)
  let was := d.on ((R.STk_STATE_CHG_INH k).bit ciRange)
  if out then
    let d := d.modStr k fun s => { s with inRange := 0 }
    let d := (d.set1 ((R.STk_STATE_CHG_INH k).bit ciRange)).set1 ((R.STk_STATE_DIS_INH k).bit diRange)
    if was then d else d.stEvent k 111
  else d.modStr k fun s => { s with inRange := min 15 (s.inRange + 1) }

/-- A LEARN commit takes effect (R558, R559, R563). -/
def Dev.estLearn (d : Dev) (k : Nat) : Dev :=
  match (d.str k).learn with
  | none => d
  | some (q, c, r, u, age) =>
    let d := ((d.put (R.STk_Q_VALUE k) q).put (R.STk_CAP_VALUE k) c).put (R.STk_RES_R k) r
    let d := (d.put (R.STk_STATE_AGE k) age).set1 (R.STk_STATE_Q_KNOWN k)
    let u := d.uOf k u
    let d := d.modStr k fun s => { s with
      learn := none, lastAnchor := none, residue := 0, u := u, uRes := 0, aged := decide (d.get R.ST_CFG_AGE_LIM ≤ age) }
    if d.get R.ST_CFG_AGE_LIM ≤ age then (d.set1 (R.STk_STATE_STALE k)).stEvent k 107 else d

/-- Step 2: the count (R546, R547). -/
def Dev.estCount (d : Dev) (k : Nat) : Dev :=
  match (d.str k).prevCycle with
  | none => d
  | some c =>
    let s := d.str k
    let n : Int := (d.cycles : Int) - c
    let tot := s.residue + d.strI k * n
    -- 1 mC = 65,536 × 200,000 units of 2^-16 mA × 5 ns
    let unit : Int := 65536 * 200000
    let dq := Config.round .charge tot unit
    let ug := s.uRes + dq.natAbs * d.get R.ST_UNC_UGROW
    let du := Config.round .soc ug 65536
    (d.putQ k (d.strQ k + dq)).modStr k fun s => { s with
      residue := tot - dq * unit
      ta := s.ta + dq
      u := s.u + du
      uRes := ug - du * 65536 }

/-- Step 3: resistance learning (R552). -/
def Dev.estResistance (d : Dev) (k : Nat) : Dev :=
  match (d.str k).prev with
  | none => d
  | some (v0, i0) =>
    let di := d.strI k - i0
    let dv := d.strV k - v0
    -- STEP_MIN counts in 10 mA
    if di = 0 ∨ (di.natAbs : Int) * 100 < (d.get (R.STk_CUR_STEP_MIN k) : Int) * 65536 then d
    else
      let r : Int := d.get (R.STk_RES_R k)
      -- R_m = dv / di in ohms = 100,000 × dv / di in 10 µΩ, over the positive denominator |di|
      let num := 100000 * (if 0 < di then dv else -dv)
      let den : Int := di.natAbs
      if r * den ≤ 4 * num ∧ num ≤ 4 * r * den then
        let step := Config.round .resistance (num - r * den) (16 * den)
        (d.put (R.STk_RES_R k) (Config.fit .resistance 16 (r + step))).bump (R.STk_RES_RCOUNT k)
      else d.stEvent k 109

/-- Capacity learning at an anchor (R551). -/
def Dev.estCapacity (d : Dev) (k : Nat) (full : Bool) : Dev :=
  if (d.str k).lastAnchor != some (!full) then d
  else
    let c := d.capL k
    let m : Int := (d.str k).ta.natAbs
    if c ≤ 2 * m ∧ 4 * m ≤ 5 * c then d.put (R.STk_CAP_VALUE k) (c + Int.tdiv (m - c) 4).toNat
    else d.stEvent k 109

/-- A drill ends (R562). -/
def Dev.drillEnd (d : Dev) (k : Nat) (ok : Bool) : Dev :=
  ((d.clr (R.STk_STATE_DRILL k)).putB (R.STk_STATE_DRILL_OK k) ok).stEvent k 110

/-- An anchor is set (R548, R549). -/
def Dev.anchor (d : Dev) (k : Nat) (full : Bool) : Dev :=
  let d := d.estCapacity k full
  let d := d.putQ k (if full then d.capL k else 0)
  let u := d.uOf k (d.get R.ST_UNC_U_ANCH)
  let d := d.modStr k fun s => { s with
    ta := 0
    residue := 0
    u := u
    uRes := 0
    lastAnchor := some full
    aged := false
    eoc := 0
    eod := 0 }
  let d := ((d.clr (R.STk_STATE_AGE k)).clr (R.STk_STATE_STALE k)).clr (R.STk_STATE_DISAGREE k)
  let d := d.set1 (R.STk_STATE_Q_KNOWN k)
  let d := if full then d.set1 ((R.STk_STATE_CHG_INH k).bit ciFull) else d.set1 ((R.STk_STATE_DIS_INH k).bit diEmpty)
  let d := d.stEvent k (if full then 104 else 105)
  d.when (full && d.on (R.STk_STATE_DRILL k)) fun d => d.drillEnd k true

/-- Step 4: the anchors. -/
def Dev.estAnchors (d : Dev) (k : Nat) : Dev :=
  let hi := d.charging k && decide (vcLimit (d.get (R.STk_VEND_V_EOC k)) ≤ d.strVc k)
  let lo := d.discharging k && decide (d.strVc k ≤ vcLimit (d.get (R.STk_VEND_V_EOD k)))
  let d := d.modStr k fun s => { s with
    eoc := if hi then min 15 (s.eoc + 1) else 0
    eod := if lo then min 15 (s.eod + 1) else 0 }
  let n := d.get (R.STk_ANCH_N_ANCH k)
  if hi && decide (n ≤ (d.str k).eoc) then d.anchor k true
  else if lo && decide (n ≤ (d.str k).eod) then d.anchor k false
  else d

/-- Step 5: disagreement (R550). -/
def Dev.estDisagree (d : Dev) (k : Nat) : Dev :=
  let low := d.discharging k && decide (d.strQ k ≤ 0)
    && decide (vcLimit (d.get (R.STk_VEND_V_EOD k)) < d.strVc k)
  let high := d.charging k && decide (d.capL k ≤ d.strQ k)
    && decide (d.strVc k < vcLimit (d.get (R.STk_VEND_V_EOC k)))
  if d.on (R.STk_STATE_Q_KNOWN k) && (low || high) && !d.on (R.STk_STATE_DISAGREE k) then
    (d.set1 (R.STk_STATE_DISAGREE k)).stEvent k 106
  else d

/-- Step 6: the inhibits (R553). -/
def Dev.estInhibits (d : Dev) (k : Nat) : Dev :=
  let c := d.capL k
  let q := d.strQ k
  let ch (i : Nat) : Fld := (R.STk_STATE_CHG_INH k).bit i
  let dis (i : Nat) : Fld := (R.STk_STATE_DIS_INH k).bit i
  let d := d.when (decide (256 * q ≤ c * (256 - d.get (R.STk_ANCH_RECHG k)))) fun d => d.clr (ch ciFull)
  let d := d.when (decide (c * d.get (R.STk_ANCH_REDIS k) ≤ 256 * q)) fun d => d.clr (dis diEmpty)
  let d := d.when (decide (d.get (R.STk_ANCH_N_ANCH k) ≤ (d.str k).inRange)) fun d =>
    (d.clr (ch ciRange)).clr (dis diRange)
  let ts := d.get (R.STk_CFG_TSEL k)
  let t := d.getS (R.TSc_T_T ts)
  let lo := d.getS (R.STk_TEMP_CHG_TLO k)
  let hi := d.getS (R.STk_TEMP_CHG_THI k)
  let d := d.putB (ch ciTbad) (!d.on (R.TSc_T_VALID ts))
  if t < lo ∨ hi < t then (if d.on (ch ciTemp) then d else (d.set1 (ch ciTemp)).stEvent k 108)
  else if lo + 20 ≤ t ∧ t ≤ hi - 20 then d.clr (ch ciTemp)
  else d

/-- 0.01 % of C_L, saturating at 10,000. -/
def Dev.share100 (d : Dev) (k : Nat) (x : Int) : Nat :=
  if d.capL k = 0 then Config.free .soc [x] % 10001 else (clampI 0 10000 (Config.round .soc (10000 * x) (d.capL k))).toNat

/-- Step 7: the report (R547, R557) and the measurements of STk_MEAS and STk_IMEAS. -/
def Dev.estReport (d : Dev) (k : Nat) : Dev :=
  let soc := if d.on (R.STk_STATE_Q_KNOWN k) then d.share100 k (d.strQ k) else 0x3FFF
  let d := (d.put (R.STk_SOC_SOC k) soc).put (R.STk_SOC_U k) (d.share100 k (d.str k).u)
  let d := (d.putB (R.STk_STATE_CHARGING k) (d.charging k)).putB (R.STk_STATE_DISCHARGING k) (d.discharging k)
  let d := d.put (R.STk_MEAS_V k) (Config.fit .stringMeas 16 (Config.round .stringMeas (10 * d.strV k) 65536))
  let d := d.put (R.STk_MEAS_VC k) (Config.fit .stringMeas 16 (Config.round .stringMeas (d.strVc k) 655360000))
  d.putS (R.STk_IMEAS_I k) (Config.round .stringMeas (1000 * d.strI k) 65536)

/-- The conditions of R562 that an evaluation judges: a charge inhibit other than FULL, and ICHG below I_DRILL, as the registers
stood before this cycle. A drill that this cycle has accepted waits for the next evaluation (R563). -/
def Dev.estDrill (d : Dev) (k : Nat) : Dev :=
  let old (f : Fld) : Dy := (Bf.ofWord (d.getWas f)).val
  let bad := (old (R.STk_ICHG_VALUE k)).lt (old (R.STk_IDRILL_VALUE k)) || d.get (R.STk_STATE_CHG_INH k) / 2 != 0
  if d.on (R.STk_STATE_DRILL k) && (d.str k).drillAt != some d.cycles && bad then d.drillEnd k false else d

/-- The evaluation of string `k` (R545). -/
def Dev.estString (d : Dev) (k : Nat) : Dev :=
  let d := d.modStr k fun s => { s with inhWas := some (d.cycles, d.get (R.STk_STATE_CHG_INH k)) }
  let d := d.estRange k
  let d := d.estLearn k
  let d := d.estCount k
  let d := d.estResistance k
  let d := d.estAnchors k
  let d := d.estDisagree k
  let d := d.estInhibits k
  let d := d.estDrill k
  let d := d.estReport k
  d.modStr k fun s => { s with prev := some (d.strV k, d.strI k), prevCycle := some d.cycles }

def Dev.estEvaluation (d : Dev) : Dev := d.each (idxs 6 d.strOn) Dev.estString

/-! ## Age, power-up, QUIET (R557, R559, R560) -/

/-- AGE has reached AGE_LIM (R559): EV107 is raised once for it, also where STALE is still set. -/
def Dev.anchorStale (d : Dev) : Dev :=
  d.each (idxs 6 d.strOn) fun d k =>
    if d.get R.ST_CFG_AGE_LIM ≤ d.get (R.STk_STATE_AGE k) && !(d.str k).aged then
      ((d.set1 (R.STk_STATE_STALE k)).modStr k fun s => { s with aged := true }).stEvent k 107
    else d

/-- An era increment (R559). -/
def Dev.anchorAge (d : Dev) : Dev :=
  (d.each (idxs 6 d.strOn) fun d k => d.bump (R.STk_STATE_AGE k)).anchorStale

/-- What every enabled string holds at the end of BOOT (R557). -/
def Dev.estStart (d : Dev) : Dev :=
  d.each (idxs 6 d.strOn) fun d k =>
    let d := (d.put (R.STk_CAP_VALUE k) (d.get (R.STk_CNOM_VALUE k))).put (R.STk_RES_R k) (d.get (R.STk_RNOM_R k))
    d.modStr k fun s => { s with u := (d.get (R.STk_CNOM_VALUE k) : Int) }

/-- The end of QUIET (R560): the count goes on from the first scan. -/
def Dev.estQuietEnd (d : Dev) : Dev :=
  (d.when (d.isRole .stor) Dev.scanOver).each (idxs 6 d.strOn) fun d k =>
    (d.set1 (R.STk_FLAGS_QUIET_GAP k)).modStr k fun s => { s with prev := none, prevCycle := none }

/-! ## Commands (R558, R561, R562) -/

def Dev.stRes (d : Dev) (cmd k : Nat) (c : Code) : Dev :=
  ((d.putCode R.ST_CMD_RES_CODE c).put R.ST_CMD_RES_CMD cmd).put R.ST_CMD_RES_STRING k

/-- LEARN. -/
def Dev.cmdLearn (d : Dev) (k : Nat) : Dev :=
  if !d.isRole .stor then d
  else
    let q := d.getS R.ST_LEARN_Q_VALUE
    let c := d.get R.ST_LEARN_CAP_VALUE
    let r := d.get R.ST_LEARN_RES_R
    if !d.strOn k ∨ c = 0 ∨ r = 0 ∨ q < 0 ∨ (c : Int) < q then d.stRes 1 k .badProfile
    else if !d.mode.afterBoot then d.stRes 1 k .mode
    else (d.modStr k fun s => { s with
      learn := some (q.toNat, c, r, d.get R.ST_LEARN_U_U, d.get R.ST_LEARN_RES_AGE) }).stRes 1 k .accepted

def Dev.ichg (d : Dev) (k : Nat) : Dy := (Bf.ofWord (d.get (R.STk_ICHG_VALUE k))).val
def Dev.idrill (d : Dev) (k : Nat) : Dy := (Bf.ofWord (d.get (R.STk_IDRILL_VALUE k))).val

/-- The stage of a string is in RUN or SLEEP. -/
def Dev.strStageRuns (d : Dev) (k : Nat) : Bool :=
  let s := d.get (R.STk_CFG_STAGE k)
  d.ss s == ssRun || d.ss s == ssSleep

/-- CHG_INH as a command of this cycle finds it: before an evaluation of the cycle (R563). -/
def Dev.inhFound (d : Dev) (k : Nat) : Nat :=
  match (d.str k).inhWas with
  | some (c, x) => if c = d.cycles then x else d.get (R.STk_STATE_CHG_INH k)
  | none => d.get (R.STk_STATE_CHG_INH k)

/-- The answer to DRILL (R561). -/
def Dev.drillCode (d : Dev) (k : Nat) : Code :=
  let inh (i : Nat) : Bool := tbit (d.inhFound k) i
  if k ≥ 6 then .badProfile
  else if !d.strOn k || d.mode != .run || !d.strStageRuns k || (List.range 6).any (fun j => d.on (R.STk_STATE_DRILL j)) then
    .mode
  else if inh ciTemp || inh ciTbad then .temp
  else if inh ciFull || inh ciRange then .mode
  else if (d.ichg k).lt (d.idrill k) then .budget
  else .accepted

/-- DRILL. -/
def Dev.cmdDrill (d : Dev) (k : Nat) : Dev :=
  if !d.isRole .stor then d
  else
    let c := d.drillCode k
    let d := d.stRes 2 k c
    if c == .accepted then (d.set1 (R.STk_STATE_DRILL k)).modStr k fun s => { s with drillAt := some d.cycles } else d

/-- DRILL_STOP. -/
def Dev.cmdDrillStop (d : Dev) (k : Nat) : Dev :=
  if !d.isRole .stor then d
  else if k ≥ 6 then d.stRes 3 k .badProfile
  else
    let d := d.stRes 3 k .accepted
    if d.on (R.STk_STATE_DRILL k) then d.drillEnd k false else d

/-- DRILL_TMO eras have passed (R562). -/
def Dev.drillTimeout (d : Dev) : Dev :=
  d.each (idxs 6 fun k => d.strOn k && d.on (R.STk_STATE_DRILL k)) fun d k => d.drillEnd k false

/-- The node or the stage leaves what a drill needs (R562, R563). -/
def Dev.drillLevels (d : Dev) : Dev :=
  d.each (idxs 6 fun k => d.strOn k && d.on (R.STk_STATE_DRILL k)) fun d k =>
    if d.mode != .run || !d.strStageRuns k then d.drillEnd k false else d

/-- ICHG_UPDATE (R555): `per` gives the allowance in force in the reference unit of each string's stage, as BF18 words;
an allowance of 0 gives 0. -/
def Dev.ichgUpdate (d : Dev) (per : List Nat) : Dev :=
  let on := idxs 6 d.strOn
  let sum := on.foldl (fun a k => a + d.get (R.STk_CAP_VALUE k)) 0
  d.each on fun d k =>
    let tot := if d.get R.COORD_ALLOT_SLICE = 0 || !d.on R.COORD_ALLOT_HELD then Dy.zero
      else (Bf.ofWord (per.getD k 0)).val.max Dy.zero
    -- tot × C_L / ΣC_L, with 40 bits below the exponent of the allowance
    let c := d.get (R.STk_CAP_VALUE k)
    let v : Dy := if sum = 0 then Dy.zero else ⟨Config.round .ichg (tot.n * c * 2 ^ 40) sum, tot.x - 40⟩
    d.put (R.STk_ICHG_VALUE k) (bfRound .ichg v).word

end Sys2Proof.Machine
end

