-- ==== Sys2Proof/Machine/Therm.lean ====
section
/-!
DEFINITION. Sys2Proof/Machine/Therm.lean: the operations of thermal management (spec/15_thermal.md): the temperature of a
reading, conditions, slope, throttling and the write window.
-/

namespace Sys2Proof.Machine

def Dev.therm_ (d : Dev) (c : Nat) : Therm := d.therm.getD c .rest

def Dev.modTherm (d : Dev) (c : Nat) (f : Therm → Therm) : Dev := { d with therm := updAt d.therm c f }

/-- The die channel (R566). -/
def dieCh : Nat := 16

/-- KIND; the die sensor has none. -/
def Dev.tsKind (d : Dev) (c : Nat) : Nat := d.get (R.TSc_CFG_KIND c)

/-- The channel is enabled (R566). -/
def Dev.tsOn (d : Dev) (c : Nat) : Bool := c == dieCh || d.tsKind c == 1 || d.tsKind c == 2

/-! ## Temperatures (R566) -/

/-- A fixed-point unit for logarithms: 2^64. -/
def lnUnit : Int := 2 ^ 64

/-- ln 2 in units of 2^-64. -/
def ln2 : Int := 12786308645202655660

/-- The series of 2 × atanh: the sum of y^(2i+1) / (2i+1) × 2, y in units of 2^-64. -/
def atanhGo (y2 : Int) : Nat → Int → Int → Int
  | 0, _, _ => 0
  | n + 1, p, k => 2 * p / k + atanhGo y2 n (p * y2 / lnUnit) (k + 2)

/-- The largest power of two at most num / den, or its reciprocal: the exponent e with 2^e ≤ num / den < 2^(e+1). -/
def ratioExp (num den : Nat) : Int := (Nat.log2 num : Int) - Nat.log2 den

/-- ln(num / den) in units of 2^-64; both positive. -/
def lnRatio (num den : Nat) : Int :=
  let e := ratioExp num den
  let (n, m) := if 0 ≤ e then (num, den * 2 ^ e.toNat) else (num * 2 ^ (-e).toNat, den)
  let y : Int := ((n : Int) - m) * lnUnit / (n + m)
  e * ln2 + atanhGo (y * y / lnUnit) 30 y 1

/-- The temperature of an NTC code in 0.1 °C (R566); none where the formula has no value. -/
def ntcTemp (r0 rp b code : Nat) : Option Int :=
  if r0 = 0 ∨ rp = 0 ∨ b = 0 ∨ code = 0 ∨ 16384 ≤ code then none
  else
    let l := lnRatio (rp * code) (r0 * (16384 - code))
    -- 1/T = 1/298.15 + l/B; T in 0.1 K = 10 × 29815 × B / (100 × B + 29815 × l), less 2731.5, in units of 2^-64
    let den := 100 * (b : Int) * lnUnit + 29815 * l
    if den ≤ 0 then none
    else some (Config.round .temperature (20 * 29815 * (b : Int) * lnUnit - 5463 * den) (2 * den))

/-- The temperature of a diode pair in 0.1 °C (R566): q / k = 11,604.51812 K/V. -/
def diodeTemp (eta uv : Nat) : Option Int :=
  if eta = 0 then none
  else
    -- T = 11,604.51812 × ΔV / (η ln 10), η in 1/4,096; the 0.05 K of 273.15 goes into the rounding
    let ln10 := lnRatio 10 1
    let num : Int := (1160451812 : Int) * uv * 4096 * lnUnit
    let den : Int := (eta : Int) * ln10 * 100000 * 100000
    some (Config.round .temperature (2 * num - 5463 * den) (2 * den))

/-- The temperature of channel `c` for the measured number `n`; where the formula has no value it is open. -/
def openTemp (c n : Nat) (v : Option Int) : Int := v.getD (toSigned 16 (Config.free .temperature [c, n]))

/-- The reading of NTC channel `c` at the result `k` of its input (R566, R568): none for an invalid one. -/
def Dev.ntcReading (d : Dev) (c k : Nat) : Option Int :=
  if k < 16 ∨ 16368 < k ∨ !d.refReady then none
  else some (openTemp c k (ntcTemp (d.get (R.TSc_NTC_R0 c)) (d.get (R.TSc_NTC_RP c)) (d.get (R.TSc_B_B c)) k))

/-- The reading of a diode channel, or of the die sensor, by the dedicated converter (R566, R568): none for an invalid one. -/
def Dev.tsReading (d : Dev) (c : Nat) : ThermIn → Option Int
  | .die t => if c = dieCh then some t else none
  | .diode uv => if c = dieCh then none else some (openTemp c uv (diodeTemp (d.get (R.TSc_CFG_ETA c)) uv))
  | .broken => none

/-! ## Events (R578) -/

def tkCold : Nat := 1
def tkHot : Nat := 2
def tkDie : Nat := 3
def tkSensor : Nat := 4

def Dev.thEvent (d : Dev) (c ev kind : Nat) : Dev :=
  let d := d.set1 (R.THERM_FLAGS_EV.bit (ev - 112))
  ((d.put R.THERM_STATUS_CH c).put R.THERM_STATUS_KIND kind).report ev c kind

/-! ## Conditions (R570-R574) -/

def coColdStop : Nat := 0
def coThrottle : Nat := 1
def coHotStop : Nat := 2
def coHotCrit : Nat := 3

def Dev.cond (d : Dev) (c i : Nat) : Bool := d.on ((R.TSc_T_COND c).bit i)
def Dev.setCond (d : Dev) (c i : Nat) (b : Bool) : Dev := d.putB ((R.TSc_T_COND c).bit i) b

/-- The channel's limits: STOP_LO, WARN_LO, THR_HI, STOP_HI, CRIT_HI. -/
def Dev.limits (d : Dev) (c : Nat) : List Int :=
  [d.getS (R.TSc_LIM0_STOP_LO c), d.getS (R.TSc_LIM0_WARN_LO c), d.getS (R.TSc_LIM1_THR_HI c),
    d.getS (R.TSc_LIM1_STOP_HI c), d.getS (R.TSc_LIM2_CRIT_HI c)]

/-- The order of R570. -/
def ordered : List Int → Bool
  | a :: b :: t => decide (a < b) && ordered (b :: t)
  | _ => true

/-- A condition below a limit, with its hysteresis. -/
def below (was : Bool) (t lim hyst : Int) : Bool := decide (t < lim) || (was && decide (t < lim + hyst))

/-- A condition at or above a limit, with its hysteresis. -/
def above (was : Bool) (t lim hyst : Int) : Bool := decide (lim ≤ t) || (was && decide (lim - hyst < t))

/-- f(T) of R575. -/
def throttle (t thr stop : Int) : Nat :=
  if stop ≤ thr then 0
  else (clampI 0 15 (-((-(15 * (t - thr))) / (stop - thr)))).toNat

/-- The sources that the channel holds active (R574, R585). -/
def Dev.thHolds (d : Dev) (c : Nat) : Dev :=
  let h := (d.therm_ c).hotEv
  let h113 := d.cond c coColdStop || (d.cond c coHotStop && h == 113)
  let h114 := d.cond c coHotCrit || (d.cond c coHotStop && h == 114) || (d.therm_ c).dieCrit
  let d := if h113 then d.holdEv 113 c else d.unholdEv 113 c
  if h114 then d.holdEv 114 c else d.unholdEv 114 c

/-- What the channel contributes to the thermal levels (R575): FAIL_LVL while it is invalid. -/
def Dev.thLevelOf (d : Dev) (c : Nat) : Nat :=
  if d.on (R.TSc_T_VALID c) then (d.therm_ c).level else d.get R.THERM_CFG_FAIL_LVL

/-- The conditions of R570 at a valid reading; VALID is still that of the reading before. Answers the state and whether the OFF command of R572 is issued. -/
def Dev.thConditions (d : Dev) (c : Nat) (t : Int) : Dev × Bool :=
  let l := d.limits c
  if !ordered l then (d, false)
  else
    let lim (i : Nat) : Int := l.getD i 0
    let h : Int := d.get R.THERM_CFG_HYST
    let was := d
    let cw := below (d.therm_ c).coldWarn t (lim 1) h
    let cs := below (d.cond c coColdStop) t (lim 0) h
    let th := above (d.cond c coThrottle) t (lim 2) h
    let hs := above (d.cond c coHotStop) t (lim 3) h
    let hc := above (d.cond c coHotCrit) t (lim 4) h
    let s := d.getS (R.TSc_SLOPE_S c)
    let soon := decide (0 < s) && decide (lim 4 - t < (d.get R.THERM_CFG_T_DRAIN : Int) * s)
    let newCw := cw && !(was.therm_ c).coldWarn
    let newCs := cs && !was.cond c coColdStop
    let newTh := th && !was.cond c coThrottle
    let newHs := hs && !was.cond c coHotStop
    let newHc := hc && !was.cond c coHotCrit
    let ev := if newHs then (if newHc then 0 else if soon then 114 else 113) else (was.therm_ c).hotEv
    let d := d.modTherm c fun x => { x with coldWarn := cw, hotEv := ev }
    let d := (((d.setCond c coColdStop cs).setCond c coThrottle th).setCond c coHotStop hs).setCond c coHotCrit hc
    let d := d.when newCw fun d => d.thEvent c 112 tkCold
    let d := d.when newCs fun d => d.thEvent c 113 tkCold
    let d := d.when newTh fun d => d.thEvent c 112 tkHot
    let d := d.when (newHs && ev != 0) fun d => d.thEvent c ev tkHot
    let d := d.when newHc fun d => d.thEvent c 114 tkHot
    let g := throttle t (lim 2) (lim 3)
    let d := d.modTherm c fun x => { x with level := max g (min (was.thLevelOf c) (throttle (t + h) (lim 2) (lim 3))) }
    (d, newCs || newHs)

/-- The die condition of R573. -/
def Dev.dieCondition (d : Dev) (t : Int) : Dev :=
  let was := (d.therm_ dieCh).dieCrit
  let crit := decide (1350 ≤ t) || (was && decide (1250 ≤ t))
  let d := d.modTherm dieCh fun x => { x with dieCrit := crit }
  d.when (crit && !was) fun d => d.thEvent dieCh 114 tkDie

/-- The mean of the turn that has ended, and the slope (R569), at the first reading of a new turn. -/
def Dev.thTurn (d : Dev) (c : Nat) : Dev :=
  let x := d.therm_ c
  let t := d.now / 65536
  if x.turn = t then d
  else
    let m : Option Int := if x.count = 0 then none else some (Config.round .thermMean x.sum x.count)
    let d := match m, x.mean with
      | some a, some b => d.putS (R.TSc_SLOPE_S c) (Config.fitS .thermMean 16 (a - b))
      | _, _ => d
    d.modTherm c fun x => { x with turn := t, sum := 0, count := 0, mean := m }

/-- A reading of channel `c` (R568-R573). Answers the state and whether OFF is issued. -/
def Dev.thReading (d : Dev) (c : Nat) (v : Option Int) : Dev × Bool :=
  let d := d.thTurn c
  match v with
  | none =>
    let was := d.on (R.TSc_T_VALID c)
    ((d.clr (R.TSc_T_VALID c)).when was fun d => d.thEvent c 115 tkSensor, false)
  | some t =>
    let d := (d.putS (R.TSc_T_T c) t).modTherm c fun x => { x with sum := x.sum + t, count := x.count + 1 }
    let (d, off) := d.thConditions c t
    let d := d.set1 (R.TSc_T_VALID c)
    let d := if c = dieCh then d.dieCondition t else d
    (d.thHolds c, off)

/-! ## Levels and windows (R572, R575, R576) -/

/-- The thermal levels of the branches (R575). -/
def Dev.thLevels (d : Dev) : Dev :=
  if !d.isRole .dist then d
  else d.each (List.range 8) fun d n =>
    let cs := idxs 17 fun c => d.tsOn c && tbit (d.get (R.TSc_CFG_BRMASK c)) n
    let l := cs.foldl (fun a c => max a (d.thLevelOf c)) 0
    d.put (R.THERM_LEVEL_LEVELS.part (4 * n) 4) l

/-- HOLD of R572. -/
def Dev.thHoldNow (d : Dev) : Bool := (List.range 17).any fun c => d.cond c coColdStop || d.cond c coHotStop

/-- The die temperature in 0.1 °C. -/
def Dev.dieTemp (d : Dev) : Int := d.getS (R.TSc_T_T dieCh)

/-- WR_INH of R576. -/
def Dev.writeWindow (d : Dev) : Dev :=
  let t := d.dieTemp
  let out := decide (t < d.getS R.THERM_WIN_WR_TLO ∨ d.getS R.THERM_WIN_WR_THI < t)
  d.putB R.THERM_STATUS_WR_INH (d.on (R.TSc_T_VALID dieCh) && out)

/-- Readings of channels, in order (R568-R576): the levels, the hold of R572 with its OFF command, which takes effect with the
next cycle (R517), and the write window follow. -/
def Dev.thTake (d : Dev) (l : List (Nat × Option Int)) : Dev :=
  if l.isEmpty then d
  else
    let (d, off) := l.foldl (fun (acc : Dev × Bool) x =>
      let (d, off) := acc.1.thReading x.1 x.2
      (d, acc.2 || off)) (d, false)
    let d := d.putB R.THERM_STATUS_HOLD d.thHoldNow
    (({ d with seq := { d.seq with offDue := d.seq.offDue || off } }).thLevels).writeWindow

/-- Channel `c` is read by a conversion (R566). -/
def Dev.tsNtc (d : Dev) (c : Nat) : Bool := decide (c < dieCh) && d.tsKind c == 1

/-- The result `k` of input `i` has been delivered to the NTC channels that wait for it (R567). -/
def Dev.thermInput (d : Dev) (i k : Nat) : Dev :=
  let cs := idxs dieCh fun c => d.tsNtc c && d.get (R.TSc_CFG_IN c) == i && (d.therm_ c).awaits
  let l := cs.map fun c => (c, d.ntcReading c k)
  (d.each cs fun d c => d.modTherm c fun x => { x with awaits := false }).thTake l

/-- The place of the thermal measurement among what a cycle has served. -/
def thermServed : Nat := 96

/-- Every enabled channel is measured where the rack angle has come to a multiple of 8,192 reeds with this cycle (R567). The
inputs of NTC channels are triggered as those of a scan, and their readings come with the results; without a ready reference
such a reading is invalid at once (R568). The dedicated converter reads the other channels. -/
def Dev.thermalMeasure (d : Dev) (xs : List ThermIn) : Dev :=
  if !(d.mode.afterBoot && d.cyc.reedNew && decide (d.reed % 8192 = 0)) || d.cyc.served.contains thermServed then d
  else
    let d := d.serve thermServed
    let ntc := idxs dieCh d.tsNtc
    let d := d.each (ntc.map fun c => d.get (R.TSc_CFG_IN c)).eraseDups Dev.trigger
    let bad := d.sensing && !d.refReady
    let d := d.each ntc fun d c => d.modTherm c fun x => { x with awaits := d.sensing && d.refReady }
    let now := idxs 17 fun c => d.tsOn c && (!d.tsNtc c || bad)
    d.thTake (now.map fun c => (c, if d.tsNtc c then none else d.tsReading c (xs.getD c .broken)))

/-- Programming of fuses is inhibited (R576). -/
def Dev.otpInhibited (d : Dev) : Bool :=
  d.on R.THERM_STATUS_WR_INH || (d.on (R.TSc_T_VALID dieCh) && decide (d.dieTemp < 0 ∨ 850 < d.dieTemp))

end Sys2Proof.Machine
end

