-- ==== Sys2Proof/Machine/Seq.lean ====
section
/-!
DEFINITION. Sys2Proof/Machine/Seq.lean: the operations of the mode machine, the sequencer and the last gasp
(spec/13_modes_sequencer.md) and of the supply inputs (spec/02_package_supply.md).
-/

namespace Sys2Proof.Machine

def Dev.modSeq (d : Dev) (f : Seq → Seq) : Dev := { d with seq := f d.seq }

def Dev.modSup (d : Dev) (f : Supply → Supply) : Dev := { d with sup := f d.sup }

/-! ## Slots, rails and reset outputs (R524-R528, R534) -/

def Dev.railUse (d : Dev) (r : Nat) : Bool := d.on (R.RAILr_CFG_USE r)

/-- The slot rail of stage `s`. -/
def Dev.slotOf (d : Dev) (s : Nat) : Nat :=
  d.get (if s < 8 then R.SEQ_STG_SLOT0_SLOTS.part (4 * s) 4 else R.SEQ_STG_SLOT1_SLOTS.part (4 * (s - 8)) 4)

/-- A stage that the sequencer starts and stops in its slot. -/
def Dev.stageAuto (d : Dev) (s : Nat) : Bool := d.kind s != kNone && d.on (R.STAGEs_CFG_AUTO s)

/-- The stages of slot `r`. -/
def Dev.slotStages (d : Dev) (r : Nat) : List Nat := idxs 12 fun s => d.stageAuto s && d.slotOf s == r

/-- The reset outputs that follow rail `r`. -/
def Dev.rstosOf (d : Dev) (r : Nat) : List Nat := idxs 4 fun k => d.on (R.RSTOk_CFG_EN k) && d.get (R.RSTOk_CFG_TRIG k) == r

/-- Rail `r` is a used slot (R524). -/
def Dev.usedSlot (d : Dev) (r : Nat) : Bool := d.railUse r || !(d.slotStages r).isEmpty || !(d.rstosOf r).isEmpty

def Dev.slotOn (d : Dev) (r : Nat) : Bool := tbit d.seq.slotOn r

/-- RAILr_EN: the enable state of a rail with USE = 1. -/
def Dev.railEn (d : Dev) (r : Nat) : Bool := d.railUse r && d.slotOn r

def Dev.railPg (d : Dev) (r : Nat) : Bool := d.on (R.SEQ_RAIL_LEVEL_PG.bit r)

/-- STRETCH starts for the reset outputs of rail `r` that are asserted. -/
def Dev.rstoStart (d : Dev) (r : Nat) : Dev :=
  d.each (d.rstosOf r) fun d k =>
    if tbit d.seq.rstoReleased k then d else d.modSeq fun s => { s with rstoStretch := sbit s.rstoStretch k true }

/-- RSTOk asserts. So does one whose EN or TRIG changes: it holds with EN = 0, and follows a rail from that rail's next rise on
(R534; DESIGN CHOICE for a change of TRIG, log entry 335). -/
def Dev.rstoHold (d : Dev) (k : Nat) : Dev :=
  d.modSeq fun s => { s with rstoReleased := sbit s.rstoReleased k false, rstoStretch := sbit s.rstoStretch k false }

/-- The reset outputs of rail `r` assert. -/
def Dev.rstoAssert (d : Dev) (r : Nat) : Dev := d.each (d.rstosOf r) Dev.rstoHold

/-- The enable state of slot `r` turns off (R524, R534, R585). -/
def Dev.slotOff (d : Dev) (r : Nat) : Dev :=
  let was := d.slotOn r
  let d := d.modSeq fun s =>
    { s with slotOn := sbit s.slotOn r false, pgWait := sbit s.pgWait r false, noUp := sbit s.noUp r false }
  let d := (d.clr (R.SEQ_RAIL_LEVEL_EN.bit r)).unholdEv 117 r
  d.when was fun d => d.rstoAssert r

/-- The enable state of slot `r` turns on. -/
def Dev.slotEnable (d : Dev) (r : Nat) : Dev :=
  let d := d.modSeq fun s => { s with slotOn := sbit s.slotOn r true, noUp := sbit s.noUp r false }
  let d := d.when (d.railUse r) fun d => d.set1 (R.SEQ_RAIL_LEVEL_EN.bit r)
  if d.railUse r && d.on (R.RAILr_CFG_PG_EN r) then
    if d.railPg r then d.rstoStart r else d.modSeq fun s => { s with pgWait := sbit s.pgWait r true }
  else d

/-- Every slot off, every rail low. -/
def Dev.slotsOff (d : Dev) : Dev := d.each (List.range 16) Dev.slotOff

/-- Entry to SAFE (R524, R528): SAFE_LVL for a rail with USE = 1, off for the others. -/
def Dev.slotsSafe (d : Dev) : Dev :=
  d.each (List.range 16) fun d r =>
    if d.railUse r && d.on (R.RAILr_CFG_SAFE_LVL r) then (if d.slotOn r then d else d.slotEnable r) else d.slotOff r

/-! ## Start conditions (R516) -/

/-- The input of R521 is EV017 and EV018. -/
def Dev.mainsInput (d : Dev) : Bool := d.isRole .rect && !d.feedDc

/-- Start condition `i` fails. -/
def Dev.blocked (d : Dev) : Nat → Bool
  | 0 => d.src == srcNone || d.src == srcFree
  | 1 => d.on R.SYS_CFG_LIVE_REQ && !d.on R.PROF_COUNT_LIVE
  | 2 => d.on R.RAFTER_TWIN_CTRL_TWIN_REQ && !d.on R.RAFTER_TWIN_STATUS_SPARE
  | 3 => d.isRole .tray && d.on R.BT_CFG_START_NEED && decide (d.contract 0 < max 1 (d.get R.BT_SINK_REQ_P_MIN))
  | 4 => d.sup.shtdn
  | 5 => d.on R.SEQ_STATUS_MINOFF
  | 6 =>
    if d.mainsInput then !d.on R.RIDGE_STATUS_GRID_LOCK
    else d.on R.SEQ_CTRL_IN_EN && (match d.seq.inputNow with
      | none => true
      | some x => decide (x < d.get R.SEQ_INPUT_RIDE_TH))
  | _ => d.quiet

/-- BLOCK shows the conditions that fail. -/
def Dev.showBlock (d : Dev) : Dev :=
  if !d.mode.afterBoot then d
  else d.put R.SEQ_STATUS_BLOCK ((List.range 8).foldl (fun a i => sbit a i (d.blocked i)) 0)

/-! ## Changes of mode (R518) -/

/-- QUIET ends (R536): the stopped blocks come back with SERVICE_RESTORED. -/
def Dev.quietEnd (d : Dev) : Dev := if d.quiet then (d.clr R.SYS_MODE_QUIET).estQuietEnd else d

/-- An on request (R515). A thermal off hold that still stands in the next cycle discards it then (R572). -/
def Dev.onRequest (d : Dev) : Dev :=
  if d.mode == .dark || d.mode == .safe then d
  else ((d.set1 R.SEQ_STATUS_ON_LATCH).quietEnd).modSeq fun s => { s with onFresh := true }

/-- The node takes mode `m`: what every change of mode brings (R301, R367, R382, R453, R491, R497, R503). -/
def Dev.enter (d : Dev) (m : Mode) : Dev :=
  let was := d.mode
  let d := d.setMode m
  let d := d.branchesMode m
  let d := d.when (!(m == .ramp || m == .run || m == .ride)) Dev.stagesLeaveRun
  let d := d.when (m == .standby || m == .safe) Dev.btRest
  let d := d.when (m != .standby) Dev.quietEnd
  if was == .ride then
    (if m == .run then (d.rideStart.btServe).btSums else d.rideClear).rideReport false
  else if m == .ride then (d.rideStop).rideReport true
  else d.shelfReport

/-- A common start (R519). -/
def Dev.commonStart (d : Dev) : Dev :=
  (d.put R.SEQ_CS_ANGLE d.angle.toNat).modSeq fun s => { s with csSeen := true, csAt := d.now }

/-- A rail whose on-slot comes in the cycle of an entry to DRAIN is not enabled (R539). -/
def Dev.onSlotsUndone (d : Dev) : Dev :=
  let l := idxs 16 (tbit d.cyc.onSlots)
  d.each l fun d r => (d.slotOff r).modSeq fun s => { s with onReached := sbit s.onReached r false }

/-- Entry to DRAIN (R519, R526). -/
def Dev.drain (d : Dev) : Dev :=
  let d := (d.onSlotsUndone.enter .drain).commonStart
  let d := d.modSeq fun s => { s with offPassed := 0 }
  d.each (idxs 12 fun s => d.kind s != kNone && !d.ssIn s [ssOff, ssFault, ssLockout]
    && !(d.on (R.STAGEs_CFG_AUTO s) && tbit d.seq.onReached (d.slotOf s))) fun d s => d.stageStop s

/-- SHELF_DRAIN, an off request or a lost input from a regulating mode (R518). -/
def Dev.drainFrom (d : Dev) (ms : List Mode) : Dev := if ms.contains d.mode then d.drain else d

def Dev.shelfDrain (d : Dev) : Dev := d.drainFrom [.ramp, .run, .ride]

/-- An off request (R515). -/
def Dev.offRequest (d : Dev) : Dev := (d.clr R.SEQ_STATUS_ON_LATCH).shelfDrain

/-- Entry to STANDBY, with the on request of AUTO_ON from BOOT and SAFE (R515). -/
def Dev.standby (d : Dev) : Dev :=
  let auto := d.on R.SEQ_CTRL_AUTO_ON && (d.mode == .boot || d.mode == .safe)
  let d := d.modSup fun s => { s with lgHeld := false }
  let d := (d.slotsOff.enter .standby).modSeq fun s => { s with csSeen := false, onReached := 0, offPassed := 0 }
  d.when auto Dev.onRequest

/-- The rows of R518 nearest the top that lead to SAFE: Gutter and the last gasp. -/
def topCause (c : SafeCause) : Bool := c == .gutter || c == .lastGasp

/-- The first cause of SAFE (R532): of two in one cycle, that of the row of R518 nearer the top. -/
def Dev.safeAgain (d : Dev) (c : SafeCause) (src : Option Nat) : Dev :=
  if !(topCause c && d.cyc.lowSafe) then d
  else
    let d := (d.put R.SEQ_STATUS_SAFE_CAUSE c.code).modSeq fun s => { s with safeSource := src }
    { d with cyc := { d.cyc with lowSafe := false } }

/-- Entry to SAFE from a mode of BOOT to DRAIN (R518, R532, R533); `src` is the source that forced it. -/
def Dev.safe (d : Dev) (c : SafeCause) (src : Option Nat) : Dev :=
  if d.mode == .dark then d
  else if d.mode == .safe then d.safeAgain c src
  else
    let d := { d with cyc := { d.cyc with lowSafe := !topCause c } }
    let d := (d.put R.SEQ_STATUS_SAFE_CAUSE c.code).clr R.SEQ_STATUS_ON_LATCH
    let d := (d.modSeq fun s => { s with safeSource := src, csSeen := false }).forceAll
    (d.stagesSafe.slotsSafe).enter .safe

/-- The thermal manager holds the node off (R572): a STOP condition stands, or its OFF command is still to take effect. -/
def Dev.heldOff (d : Dev) : Bool := d.thHoldNow || d.seq.offDue

/-- RAMP_START (R516, R518, R379, R572). -/
def Dev.rampStart (d : Dev) : Dev :=
  if d.mode == .standby && d.on R.SEQ_STATUS_ON_LATCH && !d.heldOff && (List.range 8).all (fun i => !d.blocked i) then
    let d := (d.enter .ramp).modSeq fun s => { s with csSeen := false, onReached := 0, offPassed := 0 }
    d.trimRamp
  else d

/-- A mark has fired: the common start of RAMP (R519). -/
def Dev.seqMark (d : Dev) (m : Nat) : Dev :=
  if d.mode == .ramp && !d.seq.csSeen && m == d.get R.SEQ_CTRL_CS_MARK then d.commonStart else d

/-- A slot's delay after the common start has passed (R524). -/
def Dev.slotDue (d : Dev) (turn reed : Fld) : Bool :=
  d.seq.csSeen && decide (reeds (d.get turn) (d.get reed) ≤ d.since d.seq.csAt)

/-- On-slot of rail `r` (R525, R534). -/
def Dev.railOnSlot (d : Dev) (r : Nat) : Dev :=
  if !(d.mode == .ramp && d.slotDue (R.RAILr_ON_TURN r) (R.RAILr_ON_REED r) && decide (r < 16) && d.usedSlot r
      && !tbit d.seq.onReached r) then d
  else
    let d := d.modSeq fun s => { s with onReached := sbit s.onReached r true }
    let d := { d with cyc := { d.cyc with onSlots := sbit d.cyc.onSlots r true } }
    let d := d.slotEnable r
    let d := d.when (!(d.railUse r && d.on (R.RAILr_CFG_PG_EN r))) fun d => d.rstoStart r
    d.each (d.slotStages r) Dev.stageStart

/-- Off-slot of rail `r` (R526). -/
def Dev.railOffSlot (d : Dev) (r : Nat) : Dev :=
  if !(d.mode == .drain && d.slotDue (R.RAILr_OFF_TURN r) (R.RAILr_OFF_REED r) && decide (r < 16) && d.usedSlot r
      && tbit d.seq.onReached r && !tbit d.seq.offPassed r) then d
  else
    let d := d.modSeq fun s => { s with offPassed := sbit s.offPassed r true }
    (d.slotOff r).each (d.slotStages r) Dev.stageStop

/-- Every used slot's on-delay has passed. -/
def Dev.slotsPassed (d : Dev) : Bool :=
  d.seq.csSeen && (List.range 16).all fun r => !d.usedSlot r || tbit d.seq.onReached r

/-- RAMP is complete (R520, first case). -/
def Dev.rampComplete (d : Dev) : Bool :=
  d.mode == .ramp && d.slotsPassed && (List.range 12).all fun s =>
    !d.stageAuto s || (d.kind s == kVienna && d.feedDc) || d.ssIn s [ssRun, ssSleep, ssPause, ssFault, ssLockout]

/-- DRAIN is complete (R526). -/
def Dev.drainComplete (d : Dev) : Bool :=
  d.mode == .drain
    && (List.range 16).all (fun r => !(d.usedSlot r && tbit d.seq.onReached r) || tbit d.seq.offPassed r)
    && (List.range 12).all (fun s => d.ssIn s [ssOff, ssFault, ssLockout])
    && (List.range 8).all (fun n => !d.energised n)

/-- RAMP and DRAIN end as soon as they are complete (R518, R531). -/
def Dev.seqLevels (d : Dev) : Dev :=
  if d.rampComplete then d.enter .run
  else if d.drainComplete then d.standby.putB R.SEQ_STATUS_MINOFF (d.get R.SEQ_CTRL_MIN_OFF != 0)
  else d

/-- RAMP_TMO (R520). -/
def Dev.rampTimeout (d : Dev) : Dev :=
  if d.mode == .ramp && d.slotsPassed then ((d.set1 R.SEQ_FLAGS_RAMP_LATE).report 119).enter .run else d

/-- RIDE_TMO (R518). -/
def Dev.rideTimeout (d : Dev) : Dev :=
  if d.mode == .ride && d.get R.SEQ_CTRL_RIDE_TMO != 0 then ((d.set1 R.SEQ_FLAGS_RIDE_LATE).report 119).drain else d

def Dev.minOffEnd (d : Dev) : Dev := d.clr R.SEQ_STATUS_MINOFF

/-! ## Input (R521, R522) -/

/-- The input is lost (R518). -/
def Dev.inputLost (d : Dev) (stop : Bool) : Dev :=
  if d.mode == .ramp then d.drain
  else if d.mode == .run then (if stop then d.drain else d.enter .ride)
  else if d.mode == .ride && stop then d.drain
  else d

/-- EV017 and EV018 on a RECT node with FEED = AC. -/
def Dev.mainsLost (d : Dev) : Dev := if d.mainsInput && d.mode != .ride then d.inputLost false else d

/-- The input has returned (R522): RIDE goes to RUN with the next cycle, where no row of R518 nearer the top has acted in
this one (R539; DESIGN CHOICE, log entry 334). -/
def Dev.rideOver (d : Dev) : Dev := d.modSeq fun s => { s with rideBack := true }

def Dev.mainsBack (d : Dev) : Dev := if d.mainsInput && d.mode == .ride then d.rideOver else d

/-- A result of the supervised input (R521). -/
def Dev.seqInput (d : Dev) (i code : Nat) : Dev :=
  let mine := if d.isRole .dist then i == d.get R.BR_SENSE_SPA_IN || i == d.get R.BR_SENSE_SPB_IN
    else i == d.get R.SEQ_IN_SRC_IN_AIN
  if d.mainsInput || !d.on R.SEQ_CTRL_IN_EN || !mine then d
  else
    let x := if d.isRole .dist then max (d.half false) (d.half true) else code
    let low := decide (x < d.get R.SEQ_INPUT_RIDE_TH)
    let stop := decide (x < d.get R.SEQ_INPUT_STOP_TH)
    let br := if low then min 4 (d.seq.belowRide + 1) else 0
    let bs := if stop then min 4 (d.seq.belowStop + 1) else 0
    let d := d.modSeq fun s => { s with belowRide := br, belowStop := bs, inputBack := !low, inputNow := some x }
    if br == 4 || bs == 4 then d.inputLost (bs == 4) else d

/-- 2.0 turns at or above RIDE_TH (R522). -/
def Dev.rideReturn (d : Dev) : Dev := if d.mode == .ride && !d.mainsInput && d.seq.inputBack then d.rideOver else d

/-! ## Power-good and reset outputs (R527, R534) -/

/-- RAILr_PG rises. -/
def Dev.pgRise (d : Dev) (r : Nat) : Dev :=
  if !(d.railUse r && decide (r < 16)) then d
  else
    let d := (d.set1 (R.SEQ_RAIL_LEVEL_PG.bit r)).unholdEv 117 r
    let d := d.modSeq fun s => { s with pgWait := sbit s.pgWait r false }
    d.when (d.slotOn r && d.on (R.RAILr_CFG_PG_EN r) && !tbit d.seq.noUp r) fun d => d.rstoStart r

/-- The rail waits for power-good (R527). -/
def Dev.pgWaits (d : Dev) (r : Nat) : Bool := decide (r < 16) && tbit d.seq.pgWait r && d.railEn r

/-- PG_TMO has passed. Where power-good does not rise in this cycle, the rail has failed to come up (R539; DESIGN CHOICE, log
entry 334). -/
def Dev.railNoUp (d : Dev) (r : Nat) : Dev :=
  if d.pgWaits r then d.modSeq fun s => { s with noUpDue := sbit s.noUpDue r true } else d

/-- The rail has failed to come up (R527, R534). -/
def Dev.railFailed (d : Dev) (r : Nat) : Dev :=
  if !d.pgWaits r then d
  else
    let d := d.modSeq fun s => { s with pgWait := sbit s.pgWait r false, noUp := sbit s.noUp r true }
    (d.set1 (R.SEQ_RAIL_FAIL_NOUP.bit r)).report 116 r

/-- RAILr_PG falls. -/
def Dev.railLost (d : Dev) (r : Nat) : Dev :=
  if !(d.railUse r && decide (r < 16)) then d
  else
    let d := d.clr (R.SEQ_RAIL_LEVEL_PG.bit r)
    if d.railEn r && d.on (R.RAILr_CFG_PG_EN r) && (d.mode == .run || d.mode == .ride) then
      ((((d.set1 (R.SEQ_RAIL_FAIL_LOST.bit r)).rstoAssert r).report 117 r)).holdEv 117 r
    else d

/-- STRETCH has passed. -/
def Dev.rstoRelease (d : Dev) (k : Nat) : Dev :=
  if decide (k < 4) && tbit d.seq.rstoStretch k then
    d.modSeq fun s => { s with rstoReleased := sbit s.rstoReleased k true, rstoStretch := sbit s.rstoStretch k false }
  else d

/-! ## Commands (R517) -/

def Dev.seqRes (d : Dev) (cmd : Nat) (c : Code) : Dev := (d.putCode R.SEQ_CMD_RES_CODE c).put R.SEQ_CMD_RES_CMD cmd

def Dev.cmdOn (d : Dev) : Dev :=
  if !d.mode.afterBoot then d
  else if d.mode == .safe then d.seqRes 1 .mode
  else (d.seqRes 1 .accepted).onRequest

def Dev.cmdOff (d : Dev) : Dev := if d.mode.afterBoot then (d.seqRes 2 .accepted).offRequest else d

/-- What the last cycle has left to this one: rails that have failed to come up (R527), the return from RIDE (R522), an on request
accepted while a STOP condition holds, which is discarded, and the OFF command of such a condition (R517, R572, R577). -/
def Dev.seqSteps (d : Dev) : Dev :=
  let s := d.seq
  let d := d.modSeq fun s => { s with offDue := false, onFresh := false, rideBack := false, noUpDue := 0 }
  let d := d.each (idxs 16 (tbit s.noUpDue)) Dev.railFailed
  let d := d.when (s.rideBack && d.mode == .ride) fun d => d.enter .run
  let d := d.when (s.onFresh && d.thHoldNow) fun d => (d.clr R.SEQ_STATUS_ON_LATCH).bump R.THERM_STATUS_ON_DROP
  d.when s.offDue Dev.cmdOff

/-- The cause of SAFE is gone (R532, R588); never once CLK200 has been lost (R116). -/
def Dev.causeGone (d : Dev) : Bool :=
  let c := d.get R.SEQ_STATUS_SAFE_CAUSE
  if d.sup.clockLost then false
  else if c == SafeCause.gutter.code then
    match d.seq.safeSource with
    | some ev => !((d.gut.holders.any fun h => h.1 == ev) || d.cyc.raised.contains ev)
    | none => true
  else if c == SafeCause.lastGasp.code then
    match d.sup.lgGoodSince with
    | some t => decide (65536 ≤ d.since t) && (!d.bypass || d.sup.railOk.all id)
    | none => false
  else c == SafeCause.none.code

def Dev.cmdClearSafe (d : Dev) : Dev :=
  if !d.mode.afterBoot then d
  else if d.mode != .safe then d.seqRes 3 .accepted
  else if d.causeGone then
    let d := (d.seqRes 3 .accepted).modSeq fun s => { s with safeSource := none }
    d.standby
  else d.seqRes 3 .mode

/-- QUIET (R535): the stopped blocks; Ridge leaves DISC for FLY. -/
def Dev.cmdQuiet (d : Dev) : Dev :=
  if !d.mode.afterBoot then d
  else if d.mode == .standby && !d.isPrimary && !d.isStandby then
    let d := ((d.seqRes 4 .accepted).set1 R.SYS_MODE_QUIET).modSup fun s => { s with stopped := true, quietStop := true }
    let d := d.showWeevil
    if d.src == srcDisc then d.setSrc srcFly else d
  else d.seqRes 4 .mode

/-- The stopped blocks are back (R536, R538): a port adopts a plan index anew before it sends (R411). -/
def Dev.serviceRestored (d : Dev) : Dev :=
  if d.sup.stopped && !d.quiet && d.mode.afterBoot && !d.sup.lgHeld then
    let d := (d.modSup fun s => { s with stopped := false, quietStop := false }).showWeevil
    d.modNet fun n => { n with segA := { n.segA with adopted := false }, segB := { n.segB with adopted := false } }
  else d

/-! ## SHTDN (R107) -/

def Dev.shtdnHigh (d : Dev) : Dev :=
  if d.mode == .dark then d
  else (d.modSup fun s => { s with shtdn := true, shtdnOff := true, lgGoodSince := if d.bypass then none else s.lgGoodSince }).offRequest

/-- SHTDN falls: an on request, where it had been an off request. With BYPASS = 1 the last-gasp trigger is ready again
and the cause of R532 begins to be gone. -/
def Dev.shtdnFall (d : Dev) : Dev :=
  if d.mode == .dark then d
  else
    let was := d.sup.shtdnOff
    let d := d.modSup fun s => { s with shtdn := false, shtdnOff := false }
    let d := d.when d.bypass fun d => d.modSup fun s => { s with lgArmed := true, lgGoodSince := some d.now }
    d.when was Dev.onRequest

/-! ## Last gasp (R98-R101, R537, R538) -/

/-- The trigger. A commit that runs goes on to its end, whatever VAUX does (R101). -/
def Dev.lgTrigger (d : Dev) : Dev :=
  if d.mode == .dark || !d.sup.lgArmed then d
  else if d.sup.lgRunning then d.modSup fun s => { s with lgArmed := false, lgGoodSince := none }
  else
    let toNvm := d.on R.TH_CTRL_NVM_EN && d.on R.TH_STATUS_LG_READY
    let d := (d.safe .lastGasp none).when toNvm Dev.abortQspi
    let d := { d with boot := { d.boot with otpCut := d.boot.otpOp.isSome } }
    let d := d.modSup fun s => { s with
      lgArmed := false, lgRunning := true, lgToNvm := toNvm, lgGoodSince := none, stopped := true, lgHeld := true }
    let d := (d.clr R.SEQ_STATUS_LG_DONE).set1 R.SEQ_FLAGS_LAST_GASP
    (d.showWeevil.lgStart).report 118

/-- VAUX is above the re-arm threshold (R100). -/
def Dev.lgRearm (d : Dev) : Dev :=
  if (d.mode == .dark && !d.sup.powered) || d.bypass then d
  else d.modSup fun s => { s with lgArmed := true, lgGoodSince := some d.now }

/-- The record has been written. -/
def Dev.lgDone (d : Dev) : Dev :=
  if !d.sup.lgRunning then d
  else
    let d := d.lgCommit d.sup.lgToNvm
    (d.modSup fun s => { s with lgRunning := false }).set1 R.SEQ_STATUS_LG_DONE

/-! ## Clock and rails (R115, R584, R585) -/

/-- CLK200 is lost: SAFE from the internal oscillator until reset. -/
def Dev.clockLoss (d : Dev) : Dev :=
  if d.mode == .dark || d.sup.clockLost then d
  else ((d.modSup fun s => { s with clockLost := true }).report 0).safe .clock none

/-- A core rail is below 90 % of nominal for 2 µs. In DARK, with the supply there, it only keeps the reset (R105). -/
def Dev.railFault (d : Dev) (rail : Nat) : Dev :=
  if !d.sup.powered || decide (3 ≤ rail) then d
  else
    let d := d.modSup fun s => { s with railOk := updAt s.railOk rail fun _ => false }
    if d.mode == .dark then d else (d.report 1).holdEv 1 0

/-- All three rails are good again. -/
def Dev.railReturn (d : Dev) : Dev :=
  if d.sup.powered then (d.modSup fun s => { s with railOk := [true, true, true] }).unholdEv 1 0 else d

end Sys2Proof.Machine
end

