-- ==== Sys2Proof/Machine/Twin.lean ====
section
/-!
DEFINITION. Sys2Proof/Machine/Twin.lean: the twin logic (spec/08_twin_failover.md): engine states, failed checks,
switchover, swap, arbitration, self-test and resync. An engine is named by a Bool: false = Rafter A, true = Rafter B.
-/

namespace Sys2Proof.Machine

/-! Engine states (R343). -/
def enOff : Nat := 0
def enActive : Nat := 1
def enSynced : Nat := 2
def enResync : Nat := 3
def enTest : Nat := 4
def enFailed : Nat := 5
def enTakeover : Nat := 6

/-! Causes (R350). -/
def caDed : Nat := 0
def caResidue : Nat := 1
def caAcc : Nat := 4
def caKat : Nat := 5
def caCe : Nat := 6
def caXcmp : Nat := 7

def Dev.en (d : Dev) (b : Bool) : Nat :=
  if b then d.get R.RAFTER_TWIN_STATUS_ST_B else d.get R.RAFTER_TWIN_STATUS_ST_A

/-- SPARE: one engine is ACTIVE and the other SYNCED. -/
def Dev.showSpare (d : Dev) : Dev :=
  d.putB R.RAFTER_TWIN_STATUS_SPARE
    ((d.en false == enActive && d.en true == enSynced) || (d.en true == enActive && d.en false == enSynced))

def Dev.setEn (d : Dev) (b : Bool) (st : Nat) : Dev :=
  let d := if b then d.put R.RAFTER_TWIN_STATUS_ST_B st else d.put R.RAFTER_TWIN_STATUS_ST_A st
  (d.putB R.RAFTER_TWIN_STATUS_ACT_B (d.en true == enActive)).showSpare

/-- The engine in a state, if any. -/
def Dev.engineIn (d : Dev) (st : Nat) : Option Bool :=
  if d.en false == st then some false else if d.en true == st then some true else none

def Dev.activeEngine (d : Dev) : Option Bool := d.engineIn enActive

def Dev.switching (d : Dev) : Bool := d.on R.RAFTER_TWIN_STATUS_SWITCHING

/-- The twin logic is in use (R344). -/
def Dev.twinUsed (d : Dev) : Bool := d.isRole .rect || d.isRole .stor || d.isRole .tray

/-- A cause bit of RAFTER_TWIN_CAUSE. -/
def Dev.cause (d : Dev) (b : Bool) (c : Nat) : Dev :=
  d.set1 ((if b then R.RAFTER_TWIN_CAUSE_CAUSE_B else R.RAFTER_TWIN_CAUSE_CAUSE_A).bit c)

/-- EV027, EV028, EV029 with their flags; the instance is the engine. -/
def Dev.evSwitch (d : Dev) (b : Bool) (inj : Bool := false) : Dev :=
  (d.set1 R.RAFTER_TWIN_FLAGS_SWITCH).report 27 (if b then 1 else 0) 0 inj
def Dev.evStandby (d : Dev) (b : Bool) (inj : Bool := false) : Dev :=
  (d.set1 R.RAFTER_TWIN_FLAGS_STBY_FAULT).report 28 (if b then 1 else 0) 0 inj
def Dev.evLost (d : Dev) (inj : Bool := false) : Dev :=
  ((d.set1 R.RAFTER_TWIN_FLAGS_LOST).holdEv 29 0).report 29 noIdx 0 inj

/-- The codes of the comparators follow the engine unless they are held (R354). -/
def Dev.showCref (d : Dev) (s : Nat) : Dev :=
  if d.switching then d
  else { d with twin := { d.twin with cref := d.twin.cref.set s (d.crefOf s) } }

/-- The hold of step 1 of R354. t0 is the present cycle: that in which the active engine gives up control (R354), that of the
failed compare (R358), or that of the command (R362). -/
def Dev.beginHold (d : Dev) (why : HoldFor) (array : Bool) : Dev :=
  let d := (d.when array Dev.hold).set1 R.RAFTER_TWIN_STATUS_SWITCHING
  { d with twin := { d.twin with holdFor := why, t0 := d.cycles, standbyBad := false } }

/-- The hold is released (R354 step 3, R355): RAFTER_TWIN_LAST in 5 ns units; EV031 is held no longer (R585). -/
def Dev.endHold (d : Dev) : Dev :=
  let gap := min (d.cycles - d.twin.t0) 8000
  let d := d.when (d.on R.PWM_HOLD_HELD) fun d => d.unhold.put R.RAFTER_TWIN_LAST_GAP gap
  let d := d.clr R.RAFTER_TWIN_STATUS_SWITCHING
  ({ d with twin := { d.twin with holdFor := .none } }).unholdEv 31 0

/-- No engine can take control (R357): the array stays held until reset. -/
def Dev.twinLost (d : Dev) (inj : Bool := false) : Dev := (d.beginHold .lost true).evLost inj

/-- The engine runs: QUIET stops both (R535), a last gasp the standby (R537). -/
def Dev.engineRuns (d : Dev) (b : Bool) : Bool :=
  !d.sup.stopped || (!d.sup.quietStop && [enActive, enTakeover].contains (d.en b))

/-- An engine that is ACTIVE, SYNCED, RESYNC or TAKEOVER is checked (R350) while it runs. -/
def Dev.checked (d : Dev) (b : Bool) : Bool :=
  [enActive, enSynced, enResync, enTakeover].contains (d.en b) && d.engineRuns b

/-- The swap fails (R362): the standby is FAILED with KAT, the former active engine keeps control. -/
def Dev.swapFails (d : Dev) (b : Bool) (inj : Bool := false) : Dev :=
  let d := (((d.setEn b enFailed).cause b caKat).evStandby b inj).set1 R.RAFTER_TWIN_CMD_RES_DONE
  d.endHold

/-- A check of engine `b` fails with cause `c` (R352, R353, R357, R362, R364). -/
def Dev.engineFails (d : Dev) (b : Bool) (c : Nat) (inj : Bool := false) : Dev :=
  if !d.checked b then d
  else
    let st := d.en b
    -- in a swap the TAKEOVER engine fails with cause KAT alone (R362)
    let d := d.cause b (if st = enTakeover ∧ d.twin.holdFor = .swap then caKat else c)
    if st = enActive then
      -- its pending words are discarded (R354); a SWAP under way ends, for the switchover takes its place
      let d := ((d.setEn b enFailed).dropWaiting).when (d.twin.holdFor == .swap) fun d => d.set1 R.RAFTER_TWIN_CMD_RES_DONE
      if d.en (!b) == enSynced || d.en (!b) == enTakeover then
        ((d.setEn (!b) enTakeover).beginHold .switchover true).evSwitch (!b) inj
      else d.twinLost inj
    else if st = enTakeover then
      match d.twin.holdFor with
      | .swap => d.swapFails b inj
      | .arbitration =>
        let d := (d.setEn b enFailed).evStandby b inj
        { d with twin := { d.twin with standbyBad := true } }
      | _ => ((d.setEn b enFailed).evStandby b inj).twinLost inj
    else (d.setEn b enFailed).evStandby b inj

/-- Control passes to the TAKEOVER engine (R354 step 3). -/
def Dev.takeControl (d : Dev) (b : Bool) : Dev :=
  let d := (d.setEn b enActive).bump R.RAFTER_TWIN_COUNT_SWITCHES
  d.endHold

/-- The takeover check ends (R354, R357, R362). -/
def Dev.takeoverDone (d : Dev) (pass : Bool) : Dev :=
  match d.engineIn enTakeover with
  | none => d
  | some b =>
    match d.twin.holdFor with
    | .switchover =>
      if pass then d.takeControl b
      else ((d.setEn b enFailed).cause b caKat).twinLost
    | .swap =>
      if pass then
        let d := ((d.setEn (!b) enSynced).takeControl b).evSwitch b
        d.set1 R.RAFTER_TWIN_CMD_RES_DONE
      else d.swapFails b
    | _ => d

/-- A compare fails (R349, R358, R360). -/
def Dev.compareFail (d : Dev) : Dev :=
  if d.switching || !(d.engineRuns false && d.engineRuns true) then d
  else match d.activeEngine with
    | none => d
    | some a =>
      if d.en (!a) == enSynced then (d.setEn (!a) enTakeover).beginHold .arbitration true
      else if d.en (!a) == enResync then
        if d.twin.copying then d else ((d.setEn (!a) enFailed).cause (!a) caXcmp).evStandby (!a)
      else d

/-- The outcome of an arbitration (R358). For a standby that has failed a check in its course EV028 has been raised then (R353),
and is not raised again (log entry 296). -/
def Dev.arbitrate (d : Dev) (active standby : Bool) : Dev :=
  if d.twin.holdFor != .arbitration then d
  else match d.activeEngine with
    | none => d
    | some a =>
      let s := !a
      match active, standby && !d.twin.standbyBad with
      | false, true =>
        let d := ((d.setEn a enFailed).cause a caXcmp).cause a caKat
        (d.dropWaiting.evSwitch s).takeControl s
      | true, false =>
        let d' := ((d.setEn s enFailed).cause s caXcmp).cause s caKat
        (d'.when (!d.twin.standbyBad) fun d => d.evStandby s).endHold
      | true, true =>
        let d := ((d.set1 R.RAFTER_TWIN_FLAGS_MISMATCH).bump R.RAFTER_TWIN_COUNT_MISMATCHES).evStandby s
        let d := d.setEn s enResync
        ({ d with twin := { d.twin with copying := true } }).endHold
      | false, false =>
        let d := ((d.setEn a enFailed).setEn s enFailed)
        let d := (((d.cause a caXcmp).cause a caKat).cause s caXcmp).cause s caKat
        d.twinLost

/-- One known-answer update of an engine, with the single-bit errors corrected since the last one (R350, R351). -/
def Dev.knownAnswer (d : Dev) (b : Bool) (ok : Bool) (corrected : Nat) : Dev :=
  if !d.checked b then d
  else
    let d := d.bump (if b then R.RAFTER_TWIN_CE_CE_B else R.RAFTER_TWIN_CE_CE_A) corrected
    let lim := d.get R.RAFTER_TWIN_CTRL_CE_LIM
    if !ok then d.engineFails b caKat
    else if lim ≠ 0 ∧ lim < corrected then d.engineFails b caCe
    else d

/-! ## Commands (R359, R362) -/

def Dev.twinRes (d : Dev) (cmd : Nat) (c : Code) : Dev :=
  (d.putCode R.RAFTER_TWIN_CMD_RES_CODE c).put R.RAFTER_TWIN_CMD_RES_CMD cmd

def Dev.locked (d : Dev) (b : Bool) : Bool :=
  d.on (if b then R.RAFTER_TWIN_STATUS_LOCK_B else R.RAFTER_TWIN_STATUS_LOCK_A)

/-- The answer to TEST (R344, R359). -/
def Dev.testCode (d : Dev) : Code :=
  if !d.twinUsed || d.switching then .mode
  else match d.activeEngine with
    | none => .mode
    | some a =>
      let st := d.en (!a)
      if st == enTest || st == enResync || st == enTakeover || st == enOff then .mode
      else if d.locked (!a) then .lock
      else .accepted

/-- TEST: the engine that is not ACTIVE runs the full self-test. -/
def Dev.twinTest (d : Dev) : Dev :=
  let c := d.testCode
  let d := d.twinRes 1 c
  match c, d.activeEngine with
  | .accepted, some a =>
    ((d.setEn (!a) enTest).clr R.RAFTER_TWIN_CMD_RES_DONE).clr R.RAFTER_TWIN_CMD_RES_FAIL
  | _, _ => d

/-- The full self-test of an engine has failed (R350, R363). -/
def Dev.selfTestFailed (d : Dev) (b : Bool) : Dev :=
  (d.cause b caKat).bump (if b then R.RAFTER_TWIN_COUNT_TFAIL_B else R.RAFTER_TWIN_COUNT_TFAIL_A)

/-- An engine that has failed FAIL_MAX self-tests is locked (R363); FAIL_MAX = 0 stands only while no boot profile is
applied, and locks none. -/
def Dev.lockCheck (d : Dev) : Dev :=
  let lim := d.get R.RAFTER_TWIN_CTRL_FAIL_MAX
  let d := d.when (lim != 0 && decide (lim ≤ d.get R.RAFTER_TWIN_COUNT_TFAIL_A)) fun d => d.set1 R.RAFTER_TWIN_STATUS_LOCK_A
  d.when (lim != 0 && decide (lim ≤ d.get R.RAFTER_TWIN_COUNT_TFAIL_B)) fun d => d.set1 R.RAFTER_TWIN_STATUS_LOCK_B

/-- The self-test ends (R359, R360, R363). -/
def Dev.selfTestDone (d : Dev) (pass : Bool) : Dev :=
  match (d.engineIn enTest).filter d.engineRuns with
  | none => d
  | some b =>
    let d := (d.set1 R.RAFTER_TWIN_CMD_RES_DONE).putB R.RAFTER_TWIN_CMD_RES_FAIL (!pass)
    if pass then
      if d.activeEngine.isNone then d.setEn b enFailed
      else { d.setEn b enResync with twin := { d.twin with copying := true } }
    else
      (((d.setEn b enFailed).selfTestFailed b).lockCheck).evStandby b

/-- The resync copy ends in time, or has not ended within 0.8192 (R360). Without an ACTIVE engine there is nothing to copy, and no
engine returns to service (R357). -/
def Dev.resyncCopied (d : Dev) (inTime : Bool) : Dev :=
  match (d.engineIn enResync).filter d.engineRuns with
  | none => d
  | some b =>
    if !d.twin.copying || (inTime && d.activeEngine.isNone) then d
    else if inTime then { d with twin := { d.twin with copying := false } }
    else ((d.setEn b enFailed).cause b caXcmp).evStandby b

/-- 1.0 turn of lockstep has passed with every compare agreeing (R360). -/
def Dev.resyncDone (d : Dev) : Dev :=
  match (d.engineIn enResync).filter d.engineRuns with
  | none => d
  | some b => if d.twin.copying || d.activeEngine.isNone then d else d.setEn b enSynced

/-- A write of the STAGE blocks or of a coefficient while an engine is in RESYNC: the copy of what it changes starts again
(R364). -/
def Dev.recopy (d : Dev) : Dev :=
  if (d.engineIn enResync).isSome then { d with twin := { d.twin with copying := true } } else d

/-- The answer to SWAP (R344, R362). -/
def Dev.swapCode (d : Dev) : Code :=
  if d.twinUsed && d.on R.RAFTER_TWIN_STATUS_SPARE && !d.switching then .accepted else .mode

/-- SWAP: the array is held for it in RAMP, RUN, RIDE and DRAIN. -/
def Dev.twinSwap (d : Dev) : Dev :=
  let c := d.swapCode
  let d := d.twinRes 2 c
  match c, d.activeEngine with
  | .accepted, some a =>
    let d := (d.clr R.RAFTER_TWIN_CMD_RES_DONE).setEn (!a) enTakeover
    d.beginHold .swap d.mode.regulating
  | _, _ => d

/-! ## An update through the twin logic (R349, R595) -/

/-- Injected residue and SECDED checks of R595 that are due fail their engine. -/
def Dev.engineInjections (d : Dev) : Dev :=
  d.each [(5, false, caResidue), (5, true, caResidue), (6, false, caDed), (6, true, caDed)] fun d p =>
    let (pt, b, c) := p
    if d.checked b then
      let (inj, d) := d.takeInj pt (if b then 1 else 0)
      if inj then d.engineFails b c true else d
    else d

/-- The engine starts the update that has been ready longest (R264), unless no engine runs. ACC fails the engine that
runs it (R350, R364). -/
def Dev.rafterUpdate (d : Dev) : Dev :=
  match d.rafter.ready with
  | [] => d
  | s :: rest =>
    let d := { d with rafter := { d.rafter with ready := rest } }
    if (d.activeEngine.isNone && (d.engineIn enTakeover).isNone) || !d.updates s then d
    else
      let d := d.engineInjections
      let (d, us, acc) := d.runUpdate s
      let d := match d.activeEngine.or (d.engineIn enTakeover) with
        | some a => if acc then d.engineFails a caAcc else d
        | none => d
      ((d.sendOutputs s us).showCref s).stageAfterUpdate s

/-- A check of an engine fails (R352). Where ACC sets in the active engine, EV025 is raised with it (R280, R364); in which stage it sets
is open (log entry 341). -/
def Dev.checkFails (d : Dev) (b : Bool) (c : Nat) : Dev :=
  let l := d.loopStages
  let acc := c == caAcc && d.en b == enActive && d.checked b
  (d.when acc fun d => l[Config.free .accStage [d.cycles] % l.length]?.elim d fun s => d.satFlags s ⟨false, true, false⟩ false false false).engineFails b c

/-- A compare fails at the update that is ready (R349): its words are withheld. ACC at the same update is a failed check of the active
engine, which goes before (R364). -/
def Dev.updateWithheld (d : Dev) : Dev :=
  let before := d.switching
  let d := d.compareFail
  if before || !d.switching then d
  else match d.rafter.ready with
    | [] => d
    | s :: rest =>
      let d := { d with rafter := { d.rafter with ready := rest } }
      if !d.updates s then d
      else
        let (d, _, acc) := d.runUpdate s
        let d := match d.activeEngine with
          | some a => if acc then d.engineFails a caAcc else d
          | none => d
        d.stageAfterUpdate s

end Sys2Proof.Machine
end

