-- ==== Sys2Proof/Machine/Gutter.lean ====
section
/-!
DEFINITION. Sys2Proof/Machine/Gutter.lean: the operations of Gutter (first half of spec/16_gutter_thatch.md): sources and
their configuration, the intake of what a step has raised, reactions, history, first fault, injection; and what every
command ends with (`Dev.finish`): Gutter takes in the raises, and conditions that act by their level are met.
-/

namespace Sys2Proof.Machine

/-! ## The sources of R583 -/

/-- A source that is never raised (R581). -/
def reservedSource (ev : Nat) : Bool := decide (58 ≤ ev ∧ ev ≤ 63) || decide (77 ≤ ev ∧ ev ≤ 79) || decide (128 ≤ ev)

def sourcesCritical : List Nat := [0, 1, 24, 29, 30, 31, 68, 114, 118, 127]

def sourcesFault : List Nat :=
  [6, 10, 12, 23, 32, 33, 34, 35, 36, 37, 38, 39, 40, 41, 42, 43, 44, 45, 46, 47, 49, 50, 51]
    ++ [64, 65, 66, 67, 72, 74, 76, 80, 82, 84, 86, 88, 90, 92, 94, 111, 113, 117]

def sourcesInfo : List Nat := [3, 8, 14, 15, 16, 18, 21, 52, 53, 54, 56, 75, 104, 109, 110]

/-- Class of R583: 0 INFO, 1 WARN, 2 FAULT, 3 CRITICAL. -/
def defClass (ev : Nat) : Nat :=
  if reservedSource ev then 0
  else if sourcesCritical.contains ev then 3 else if sourcesFault.contains ev then 2
  else if sourcesInfo.contains ev then 0 else 1

/-- Default reaction of R583. -/
def defReact (ev : Nat) : React :=
  if reservedSource ev then .none
  else if [1, 24, 29, 30, 31, 68, 114, 127].contains ev then .safe
  else if [12, 64, 65, 66, 67, 72, 76, 113, 117].contains ev then .shelfDrain
  else if 32 ≤ ev ∧ ev ≤ 43 then .stageStop
  else if sourcesInfo.contains ev then .none
  else .notify

/-- The sources marked fixed. -/
def fixedSource (ev : Nat) : Bool := [0, 1, 24, 28, 29, 30, 31, 118, 127].contains ev

def React.ofCode : Nat → React
  | 1 => .notify | 2 => .stageStop | 3 => .shelfDrain | 4 => .safe | _ => .none

/-- The class in force (R581, R582). -/
def Dev.srcClass (d : Dev) (ev : Nat) : Nat :=
  if d.gut.defaults || fixedSource ev then defClass ev else d.get (R.GUT_SRCn_CFG_CLASS ev)

/-- The reaction in force. -/
def Dev.srcReact (d : Dev) (ev : Nat) : React :=
  if d.gut.defaults || fixedSource ev then defReact ev else React.ofCode (d.get (R.GUT_SRCn_CFG_REACT ev))

def Dev.srcRec (d : Dev) (ev : Nat) : Bool := d.gut.defaults || d.on (R.GUT_SRCn_CFG_REC ev)

def Dev.srcIrq (d : Dev) (ev : Nat) : Bool := !d.gut.defaults && d.on (R.GUT_SRCn_CFG_IRQ ev)

/-- Bit of a source in a bank of four registers. -/
def srcBit (f : Nat → Fld) (ev : Nat) : Fld := (f (ev / 32)).bit (ev % 32)

def Dev.latched (d : Dev) (ev : Nat) : Bool := d.on (srcBit R.GUT_LATCHi_SRC ev)

/-- ACTIVE (R585) as the registers show it since the end of the last step. -/
def Dev.activeShown (d : Dev) (ev : Nat) : Bool := d.on (srcBit R.GUT_ACTIVEi_SRC ev)

/-- A condition of R585 holds the source active. -/
def Dev.heldActive (d : Dev) (ev : Nat) : Bool := d.gut.holders.any fun h => h.1 == ev

/-- ACTIVE (R585): a condition holds, or the source has been raised in this cycle. -/
def Dev.active (d : Dev) (ev : Nat) : Bool := d.heldActive ev || d.cyc.raised.contains ev

/-- A source whose ACTIVE has been held since before this step does not raise again (R587). -/
def Dev.barred (d : Dev) (ev : Nat) : Bool := d.activeShown ev && !d.cyc.raised.contains ev

/-- The reaction taken: one that its target's state does not allow acts as NOTIFY (R587). -/
def Dev.taken (d : Dev) (ev : Nat) : React :=
  match d.srcReact ev with
  | .safe => if d.mode == .safe then .notify else .safe
  | .shelfDrain => if d.mode == .ramp || d.mode == .run || d.mode == .ride then .shelfDrain else .notify
  | .stageStop =>
    if 32 ≤ ev ∧ ev ≤ 43 ∧ !d.ssIn (ev - 32) [ssOff, ssFault, ssLockout] then .stageStop else .notify
  | r => r

/-! ## Capture words (R596) -/

/-- The register whose value is the capture word of a raise. -/
def captureAddr (ev idx : Nat) : Option Nat :=
  let inst (n : Nat) (a : Nat → Nat) : Option Nat := if idx < n then some (a idx) else none
  if 16 ≤ ev ∧ ev ≤ 24 then some A.RIDGE_STATUS
  else if 25 ≤ ev ∧ ev ≤ 31 then some A.RAFTER_TWIN_CAUSE
  else if 32 ≤ ev ∧ ev ≤ 43 then some (A.STAGEs_STATE (ev - 32))
  else if 44 ≤ ev ∧ ev ≤ 57 then inst 12 A.STAGEs_STATE
  else if (64 ≤ ev ∧ ev ≤ 71) ∨ ev = 76 then some A.ADC_FLAGS
  else if ev = 72 ∨ ev = 73 then some A.SDM_FLAGS
  else if ev = 74 ∨ ev = 75 then inst 24 A.CMPc_STATUS
  else if 80 ≤ ev ∧ ev ≤ 95 then some (A.BRn_STATE ((ev - 80) / 2))
  else if 96 ≤ ev ∧ ev ≤ 103 then some (A.BTn_STATE (ev - 96))
  else if 104 ≤ ev ∧ ev ≤ 111 then inst 6 A.STk_STATE
  else if 112 ≤ ev ∧ ev ≤ 115 then inst 17 A.TSc_T
  else if 116 ≤ ev ∧ ev ≤ 119 then some A.SEQ_RAIL_FAIL
  else if 120 ≤ ev ∧ ev ≤ 123 then some A.RINNAK_FLAGS
  else none

def Dev.captureWord (d : Dev) (ev idx : Nat) : Word := ((captureAddr ev idx).map d.word).getD 0

/-! ## One batch of raises (R580, R586-R591) -/

def Dev.modGut (d : Dev) (f : Gutter → Gutter) : Dev := { d with gut := f d.gut }

/-- A history entry (R590), before those of the same cycle with a higher event number (R589): HCOUNT counts it. -/
def Dev.history (d : Dev) (r : Raise) (cls : Nat) (react : React) : Dev :=
  let e : HistEntry := ⟨r.ev, cls, react.code, r.inj, r.idx, 0, d.ridge.era, d.angle, true⟩
  let later (x : HistEntry) : Bool := x.fresh && decide (r.ev < x.ev)
  let d := d.modGut fun g => { g with hist := (g.hist.takeWhile later ++ e :: g.hist.dropWhile later).take 16 }
  d.put R.GUT_HCOUNT_HCOUNT (d.get R.GUT_HCOUNT_HCOUNT + 1)

/-- A capture stands against a raise of event `ev` with class `cls` (R591): one of an earlier cycle, or one of this cycle that
goes before it. -/
def Dev.firstStands (d : Dev) (cls ev : Nat) : Bool :=
  let cls0 := d.get R.GUT_FIRST_CLASS
  d.on R.GUT_FIRST_VALID && (fieldOf (d.setsNow A.GUT_FIRST) R.GUT_FIRST_VALID.lo 1 == 0
    || decide (cls < cls0) || (cls == cls0 && decide (d.get R.GUT_FIRST_EVENT ≤ ev)))

/-- The first fault (R591): `l` is what is raised together. -/
def Dev.firstFault (d : Dev) (l : List Raise) : Dev :=
  let top := l.foldl (fun a r => max a (d.srcClass r.ev)) 0
  match l.find? fun r => d.srcClass r.ev == top with
  | some r =>
    if decide (top < 2) || d.firstStands top r.ev then d
    else
      let d := ((d.put R.GUT_FIRST_EVENT r.ev).set1 R.GUT_FIRST_VALID).put R.GUT_FIRST_CLASS top
      let d := (d.putB R.GUT_FIRST_INJ r.inj).put R.GUT_FIRST_INDEX r.idx
      (d.setWord A.GUT_FIRST_ERA d.ridge.era).setWord A.GUT_FIRST_ANGLE d.angle
  | none => d

/-- Host Notify (R675). -/
def Dev.hostNotify (d : Dev) (ev cls : Nat) (react : React) : Dev :=
  let may := d.on R.HOST_CFG_HN_EN && !d.on R.HOST_STATUS_SPI && react != .none && decide (d.get R.HOST_CFG_HN_CLASS ≤ cls)
  let newer := match d.host.notify with
    | none => true
    | some (_, c) => decide (c ≤ cls)
  if may && newer then
    ({ d with host := { d.host with notify := some (ev, cls) } }).set1 R.HOST_STATUS_HN_PEND
  else d

/-- The sources that hold by their raise until reset (R585). -/
def heldByRaise (ev : Nat) : Bool := [0, 24, 29, 30, 127].contains ev

/-- One raise is taken in: LATCH, history, record, Scarab interrupt, Host Notify. -/
def Dev.takeRaise (d : Dev) (r : Raise) : Dev :=
  let cls := d.srcClass r.ev
  let react := d.taken r.ev
  let d := (d.set1 (srcBit R.GUT_LATCHi_SRC r.ev)).put R.GUT_STATUS_LAST_EV r.ev
  let d := d.when (decide (d.get R.GUT_CTRL_HQ_CLASS ≤ cls)) fun d => d.history r cls react
  let d := d.when (d.srcRec r.ev || r.ev == 127) fun d => d.recordRaise r cls react.code true
  let d := d.when (d.srcIrq r.ev) fun d => d.modGut fun g => { g with irq := g.irq ++ [r.ev] }
  let d := d.when (heldByRaise r.ev && !r.forced) fun d => d.holdEv r.ev 0
  let d := if d.active r.ev then d else { d with cyc := { d.cyc with raised := r.ev :: d.cyc.raised } }
  d.hostNotify r.ev cls (d.srcReact r.ev)

/-- The reactions of a batch, the strongest last to be decided (R30, R586, R589): SAFE alone, or each STAGE_STOP and then
the drain. -/
def Dev.react (d : Dev) (l : List (Nat × React)) : Dev :=
  match l.find? fun x => x.2 == .safe with
  | some (ev, _) => d.safe .gutter (some ev)
  | none =>
    let d := d.each (l.filter fun x => x.2 == .stageStop) fun d x => d.stageStopReaction (x.1 - 32)
    if l.any fun x => x.2 == .shelfDrain then d.shelfDrain else d

/-- The sources raised together, in ascending order (R589). A source whose ACTIVE holds does not raise again; a forced
raise of it counts in HCOUNT only (R587, R615). -/
def Dev.batch (d : Dev) : Dev :=
  let l := sortBy (fun a b => decide (a.ev ≤ b.ev)) (d.raised.filter fun r => !reservedSource r.ev)
  let d := { d with raised := [] }
  let again := l.filter fun r => r.forced && d.barred r.ev
  let l := l.filter fun r => !d.barred r.ev
  let d := d.put R.GUT_HCOUNT_HCOUNT (d.get R.GUT_HCOUNT_HCOUNT + again.length)
  let reacts := l.map fun r => (r.ev, d.taken r.ev)
  ((d.firstFault l).each l Dev.takeRaise).react reacts

/-- Gutter takes in everything raised in this step, what its reactions raise included. -/
def Dev.settle (d : Dev) : Nat → Dev
  | 0 => d
  | n + 1 => if d.raised.isEmpty then d else d.batch.settle n

/-! ## What every command ends with -/

/-- A LATCH bit of a source whose reaction is NOTIFY or stronger reads 1 (R588). -/
def Dev.eventDue (d : Dev) : Bool := (List.range 128).any fun ev => d.latched ev && d.srcReact ev != .none

/-- ACTIVE is shown, and EVENT_N goes low with the latches (R585, R586, R588). -/
def Dev.showGutter (d : Dev) : Dev :=
  let mask (p : Nat → Bool) (i : Nat) : Nat := (List.range 32).foldl (fun a b => sbit a b (p (32 * i + b))) 0
  let d := d.each (List.range 4) fun e i => e.put (R.GUT_ACTIVEi_SRC i) (mask d.active i)
  d.when d.eventDue fun d => d.put R.GUT_STATUS_EVENT 1

/-- Capture words are the registers as the cycle after the raise reads them (R596): as the cycle of the raise leaves them. -/
def Dev.capture (d : Dev) : Dev :=
  let d' := d.modGut fun g => { g with hist := g.hist.map fun e =>
    if e.fresh then { e with data := d.captureWord e.ev e.idx } else e }
  d'.modThatch fun t => { t with intake := t.intake.map fun w =>
    if w.fresh then { w with record := { w.record with w6 := d.captureWord w.record.event (fieldOf w.record.w4 16 16) } }
    else w }

/-- A new cycle begins: the capture words of the raises before it stand, EVENT_N is released where its last latch has been
cleared, and forced sources are raised (R588, R594, R596). -/
def Dev.gutterTick (d : Dev) : Dev :=
  let forced := d.gut.forcing.map fun ev => (⟨ev, noIdx, 0, true, true⟩ : Raise)
  let d := d.modGut fun g => { g with forcing := [], hist := g.hist.map fun e => { e with fresh := false } }
  let d := d.modThatch fun t => { t with intake := t.intake.map fun w => { w with fresh := false } }
  { d.putB R.GUT_STATUS_EVENT d.eventDue with raised := d.raised ++ forced }

/-- Conditions that act by their level: failed check steps (R301), stages in WAIT (R301, R306), branches (R453, R457),
links (R490, R491), drills (R562), the ends of RAMP and DRAIN (R518), the reported demand (R367), brake levels (R392). -/
def Dev.levels (d : Dev) : Dev :=
  let d := (d.checkFailures.waitsDone).branchLevels
  let d := (d.weevilBack.btLevels.drillLevels).seqLevels
  d.demandCheck.combineLevels

/-- The end of every command. -/
def Dev.finish (d : Dev) : Dev :=
  let d := ((d.stepRecord.settle 8).levels).settle 8
  let d := (d.levels).settle 8
  (d.showBlock.showGutter).capture

/-! ## Self-check, clearing and injection (R588, R590-R595) -/

/-- The registers that Gutter keeps in duplicate (R592): the configuration, LATCH and the reaction outputs. -/
def gutterCopied (a : Nat) : Bool :=
  decide (a % 4 = 0 ∧ (0x4800 ≤ a ∧ a < 0x4A00 ∨ 0x4A10 ≤ a ∧ a ≤ 0x4A1C ∨ a = 0x4A30 ∨ a = 0x4A34))

/-- The self-check fails (R592): the SAFE path directly, EV127, SELF. -/
def Dev.gutterSelf (d : Dev) (inj : Bool) : Dev :=
  if d.mode == .dark then d
  else if d.on R.GUT_STATUS_SELF then d.safe .gutter (some 127)
  else (d.set1 R.GUT_STATUS_SELF).report 127 noIdx 0 inj

/-- The duplicates are compared (R592, R595). -/
def Dev.gutterCheck (d : Dev) : Dev :=
  let (inj, d) := d.takeInj 8 0
  d.when (decide (d.gut.upset ≠ []) != inj) fun d => d.gutterSelf inj

/-- GUTTER_SELF_CHECK: an upset inverts `bits` of the duplicate of the register at `a`, and the copies are compared. -/
def Dev.gutterUpset (d : Dev) (a : Nat) (bits : Word) : Dev :=
  (d.modGut fun g => { g with upset := swrite 0 g.upset a (sread 0 g.upset a ^^^ bits) }).gutterCheck

/-- Writing 1 to bits of GUT_LATCHi (R588). -/
def Dev.latchClear (d : Dev) (i mask : Nat) : Dev :=
  if 4 ≤ i then d
  else d.each (idxs 32 fun b => tbit mask b && !d.active (32 * i + b)) fun d b => d.clr ((R.GUT_LATCHi_SRC i).bit b)

/-- A request on an injection path (R593): path 0 is the force bits, path 1 the inverted check bits. -/
def Dev.injCode (d : Dev) (path : Nat) : Code :=
  if !tbit (d.get R.GUT_CTRL_INJ_MODE) path then .lock
  else if d.mode.regulating && !d.on R.GUT_CTRL_INJ_RUN then .busyRun
  else .accepted

/-- GUT_FORCEi (R594): each source is raised in the next cycle, with its configured class and reaction. -/
def Dev.force (d : Dev) (i mask : Nat) : Dev × Code :=
  let c := d.injCode 0
  if c != .accepted || 4 ≤ i then (d, c)
  else
    let l := (idxs 32 fun b => tbit mask b).map fun b => 32 * i + b
    (d.modGut fun g => { g with forcing := g.forcing.filter (!l.contains ·) ++ l }, c)

/-- The role uses the unit that a check point names (R595). -/
def Dev.injUnit (d : Dev) (point index : Nat) : Bool :=
  match point with
  | 0 => decide (index < 48)
  | 1 => decide (index < 8)
  | 3 => d.twinUsed && decide (index < 12)
  | 4 => (d.twinUsed || d.isRole .dist) && decide (index < 24)
  | 5 | 6 => d.twinUsed && decide (index < 2)
  | _ => true

/-- GUT_INJ_CHECK with GO = 1 (R593, R595). -/
def Dev.injCheck (d : Dev) (point index : Nat) : Dev × Code :=
  let c : Code := if 9 ≤ point then .badProfile
    else if d.injCode 1 != .accepted then d.injCode 1
    else if !d.injUnit point index then .mode
    else .accepted
  let d := ((d.putCode R.GUT_INJ_RES_CODE c).put R.GUT_INJ_RES_POINT point).clr R.GUT_INJ_RES_DETECTED
  let i := if point == 2 || point == 7 || point == 8 then 0 else index
  if c == .accepted then (d.modGut fun g => { g with armed := g.armed.filter (· != ⟨point, i⟩) ++ [⟨point, i⟩] }, c)
  else (d, c)

/-- The routed output of comparator `c` comes to its tripped state, by a trip (R244), by force (R246), or with REF_RDY = 0
(R222): the linked channels are truncated (R189), each a hit of its own stage (R317), the stage of STAGE_RT has a hit, a test
pulse under way ends, and in the DIST role the comparator's branch acts. -/
def Dev.cmpRoute (d : Dev) (c : Nat) : Dev :=
  if !d.cmpRoutes c then d
  else
    let d := d.each (idxs 32 fun n => d.get (R.PWMn_CFG_TRUNC_CMP n) == c) fun d n =>
      match d.setOf n with
      | some s => (d.truncate n).when (d.truncates n) fun d => d.stageHit s
      | none => d
    let s := d.get (R.CMPc_CFG_STAGE_RT c)
    let d := d.when (decide (s < 12)) fun d => d.stageHit s
    let d := d.each (List.range 12) fun d s => d.pulseTrip s c
    d.when (d.isRole .dist) fun d => d.branchCmp c

/-- The DAC of comparator `c` is compared with its duplicate (R246): where they differ, DAC_ERR sets, the routed output is forced
and acts where it was not, and EV074 is raised. -/
def Dev.dacCheck (d : Dev) (c : Nat) : Dev :=
  let r := d.dacDiffers c
  let first := !(d.cmp c).forced
  if r.2.1 then (r.1.dacError c r.2.2).when first fun d => d.cmpRoute c else r.1

/-- The checkers that compare in every CLK200 cycle: the Ridge copies, the DAC duplicates, the SECDED of the Scarab SRAM
and Gutter's own duplicate (R120, R246, R592, R595). -/
def Dev.cycleChecks (d : Dev) : Dev :=
  let (ridge, d) := d.takeInj 2 0
  let d := if !ridge then d.copiesCheck
    else d.when (!d.copiesDiffer) fun d => (d.set1 R.RIDGE_FLAGS_CHECK).report 24 noIdx 0 true
  let d := d.when d.sensing fun d => d.each (List.range 24) Dev.dacCheck
  let (sram, d) := d.takeInj 7 0
  let d := d.when sram fun d => d.report 12 noIdx 0 true
  d.gutterCheck

/-- CLEAR_FIRST (R591). -/
def Dev.clearFirst (d : Dev) : Dev :=
  ((d.setWord A.GUT_FIRST 0).setWord A.GUT_FIRST_ERA 0).setWord A.GUT_FIRST_ANGLE 0

/-- SNAP_HIST (R590): entry 0 of the window is the newest. -/
def Dev.snapHist (d : Dev) : Dev :=
  let d := d.put R.GUT_SNAP_HCOUNT_HCOUNT (d.get R.GUT_HCOUNT_HCOUNT)
  d.each (List.range 16) fun d k =>
    match d.gut.hist[k]? with
    | none => ((d.setWord (A.GUT_HISTk_EV k) 0).setWord (A.GUT_HISTk_DATA k) 0 |>.setWord (A.GUT_HISTk_ERA k) 0).setWord
        (A.GUT_HISTk_ANGLE k) 0
    | some e =>
      let w := BitVec.ofNat 32 (e.ev + 2 ^ 7 + e.cls * 2 ^ 8 + e.react * 2 ^ 10 + (if e.inj then 2 ^ 13 else 0)
        + e.idx * 2 ^ 16)
      ((d.setWord (A.GUT_HISTk_EV k) w).setWord (A.GUT_HISTk_DATA k) e.data |>.setWord (A.GUT_HISTk_ERA k) e.era).setWord
        (A.GUT_HISTk_ANGLE k) e.angle

end Sys2Proof.Machine
end

