-- ==== Sys2Proof/Machine/RegTable.lean ====
section
/-!
DEFINITION. Sys2Proof/Machine/RegTable.lean: the register tables of spec/ (03 to 19) as data: for each register its
base address, its repeats, and one mask of bits for each access code of R25 (spec/00_scope.md), and for the fields
whose Reset column is BP (R27).
-/

namespace Sys2Proof.Machine

/-- One register of the spec, repeated `n1` times `s1` bytes apart, and each of those `n2` times `s2` bytes apart.
The masks give the bits of each access code of R25; a bit in none of them is RO or reserved. -/
structure RegRow where
  base : Nat
  s1 : Nat
  n1 : Nat
  s2 : Nat
  n2 : Nat
  rw : Nat
  rwl : Nat
  rw1c : Nat
  rc : Nat
  wo : Nat
  bp : Nat
  deriving DecidableEq, Repr

/-- Registers of spec/03_ridge_time_base.md. -/
def regRows03 : List RegRow := [
  ⟨A.RIDGE_CTRL, 0x0, 1, 0x0, 1, 0x0, 0xFF1F, 0x0, 0x0, 0x0, 0xFF1F⟩,
  ⟨A.RIDGE_STATUS, 0x0, 1, 0x0, 1, 0x0, 0x0, 0x0, 0x0, 0x0, 0x0⟩,
  ⟨A.RIDGE_FLAGS, 0x0, 1, 0x0, 1, 0x0, 0x0, 0x1FF, 0x0, 0x0, 0x0⟩,
  ⟨A.RIDGE_ANGLE, 0x0, 1, 0x0, 1, 0x0, 0x0, 0x0, 0x0, 0x0, 0x0⟩,
  ⟨A.RIDGE_ERA, 0x0, 1, 0x0, 1, 0x0, 0x0, 0x0, 0x0, 0x0, 0x0⟩,
  ⟨A.RIDGE_FRAC, 0x0, 1, 0x0, 1, 0x0, 0x0, 0x0, 0x0, 0x0, 0x0⟩,
  ⟨A.RIDGE_GRID_ANGLE, 0x0, 1, 0x0, 1, 0x0, 0x0, 0x0, 0x0, 0x0, 0x0⟩,
  ⟨A.RIDGE_PH_AB, 0x0, 1, 0x0, 1, 0x0, 0x0, 0x0, 0x0, 0x0, 0x0⟩,
  ⟨A.RIDGE_PH_C, 0x0, 1, 0x0, 1, 0x0, 0x0, 0x0, 0x0, 0x0, 0x0⟩,
  ⟨A.RIDGE_FREQ, 0x0, 1, 0x0, 1, 0x0, 0x0, 0x0, 0x0, 0x0, 0x0⟩,
  ⟨A.RIDGE_RATE, 0x0, 1, 0x0, 1, 0x0, 0x0, 0x0, 0x0, 0x0, 0x0⟩,
  ⟨A.RIDGE_AMPL, 0x0, 1, 0x0, 1, 0x0, 0x0, 0x0, 0x0, 0x0, 0x0⟩,
  ⟨A.RIDGE_VFREQ, 0x0, 1, 0x0, 1, 0x1FFFF, 0x0, 0x0, 0x0, 0x0, 0x1FFFF⟩,
  ⟨A.RIDGE_MAINS_CFG, 0x0, 1, 0x0, 1, 0x0, 0x3FF, 0x0, 0x0, 0x0, 0x3FF⟩,
  ⟨A.RIDGE_LOSS_CFG, 0x0, 1, 0x0, 1, 0x0, 0xFFFFFFFF, 0x0, 0x0, 0x0, 0xFFFFFFFF⟩,
  ⟨A.RIDGE_OFFSET, 0x0, 1, 0x0, 1, 0x0, 0x0, 0x0, 0x0, 0x0, 0x0⟩,
  ⟨A.RIDGE_PATH_A, 0x0, 1, 0x0, 1, 0x0, 0x0, 0x0, 0x0, 0x0, 0x0⟩,
  ⟨A.RIDGE_PATH_B, 0x0, 1, 0x0, 1, 0x0, 0x0, 0x0, 0x0, 0x0, 0x0⟩,
  ⟨A.RIDGE_BEACON, 0x0, 1, 0x0, 1, 0x0, 0x0, 0x0, 0x0, 0x0, 0x0⟩,
  ⟨A.RIDGE_GRID_OFS, 0x0, 1, 0x0, 1, 0x0, 0x0, 0x0, 0x0, 0x0, 0x0⟩,
  ⟨A.RIDGE_MARK_FIRED0, 0x0, 1, 0x0, 1, 0x0, 0x0, 0xFFFFFFFF, 0x0, 0x0, 0x0⟩,
  ⟨A.RIDGE_MARK_FIRED1, 0x0, 1, 0x0, 1, 0x0, 0x0, 0xFFFFFFFF, 0x0, 0x0, 0x0⟩,
  ⟨A.RIDGE_MARK_MISSED0, 0x0, 1, 0x0, 1, 0x0, 0x0, 0xFFFFFFFF, 0x0, 0x0, 0x0⟩,
  ⟨A.RIDGE_MARK_MISSED1, 0x0, 1, 0x0, 1, 0x0, 0x0, 0xFFFFFFFF, 0x0, 0x0, 0x0⟩,
  ⟨A.MARKm_CFG 0, 0x8, 64, 0x0, 1, 0xFFFF0F, 0x0, 0x0, 0x0, 0x0, 0xFFFF0F⟩,
  ⟨A.MARKm_TGT 0, 0x8, 64, 0x0, 1, 0xFFFFFFFF, 0x0, 0x0, 0x0, 0x0, 0xFFFFFFFF⟩]

/-- Registers of spec/04_pwm_array.md. -/
def regRows04 : List RegRow := [
  ⟨A.PWMn_CFG 0, 0x40, 32, 0x0, 1, 0x0, 0x3FFFF, 0x0, 0x0, 0x0, 0x3FFFF⟩,
  ⟨A.PWMn_OFS 0, 0x40, 32, 0x0, 1, 0xFFFFFFFF, 0x0, 0x0, 0x0, 0x0, 0xFFFFFFFF⟩,
  ⟨A.PWMn_DT 0, 0x40, 32, 0x0, 1, 0x0, 0x7FFF7FFF, 0x0, 0x0, 0x0, 0x7FFF7FFF⟩,
  ⟨A.PWMn_BLANK 0, 0x40, 32, 0x0, 1, 0x0, 0xFFF, 0x0, 0x0, 0x0, 0xFFF⟩,
  ⟨A.PWMn_DUTY 0, 0x40, 32, 0x0, 1, 0x0, 0x0, 0x0, 0x0, 0x0, 0x0⟩,
  ⟨A.PWMn_STATUS 0, 0x40, 32, 0x0, 1, 0x0, 0x0, 0x0, 0x0, 0x0, 0x0⟩,
  ⟨A.PWMn_FLAGS 0, 0x40, 32, 0x0, 1, 0x0, 0x0, 0x7, 0x0, 0x0, 0x0⟩,
  ⟨A.CARs_CFG 0, 0x40, 12, 0x0, 1, 0x0, 0x7FFF, 0x0, 0x0, 0x0, 0x7FFF⟩,
  ⟨A.CARs_SHIFT 0, 0x40, 12, 0x0, 1, 0x0, 0x0, 0x0, 0x0, 0x0, 0x0⟩,
  ⟨A.CARs_PERIOD 0, 0x40, 12, 0x0, 1, 0x0, 0x0, 0x0, 0x0, 0x0, 0x0⟩,
  ⟨A.CARs_STATUS 0, 0x40, 12, 0x0, 1, 0x0, 0x0, 0x0, 0x0, 0x0, 0x0⟩,
  ⟨A.BANKb_CFG 0, 0x40, 4, 0x0, 1, 0x0, 0x7, 0x0, 0x0, 0x0, 0x7⟩,
  ⟨A.PWM_SHELF_OFS, 0x0, 1, 0x0, 1, 0xFFFFFFFF, 0x0, 0x0, 0x0, 0x0, 0xFFFFFFFF⟩,
  ⟨A.PWM_HOLD, 0x0, 1, 0x0, 1, 0x0, 0x0, 0x0, 0x0, 0x0, 0x0⟩,
  ⟨A.PWM_FLAGS, 0x0, 1, 0x0, 1, 0x0, 0x0, 0x7, 0x0, 0x0, 0x0⟩]

/-- Registers of spec/05_sensing.md. -/
def regRows05 : List RegRow := [
  ⟨A.ADC_CTRL, 0x0, 1, 0x0, 1, 0x0, 0xF3, 0x0, 0x0, 0x0, 0xF3⟩,
  ⟨A.ADC_STATUS, 0x0, 1, 0x0, 1, 0x0, 0x0, 0x0, 0x0, 0x0, 0x0⟩,
  ⟨A.ADC_FLAGS, 0x0, 1, 0x0, 1, 0x0, 0x0, 0xFF7F, 0x0, 0x0, 0x0⟩,
  ⟨A.ADC_SKIP, 0x0, 1, 0x0, 1, 0x0, 0x0, 0x0, 0xFFFF, 0x0, 0x0⟩,
  ⟨A.ADC_CAL_CMD, 0x0, 1, 0x0, 1, 0x0, 0x0, 0x0, 0x0, 0xF, 0x0⟩,
  ⟨A.ADC_CAL_RESULT, 0x0, 1, 0x0, 1, 0x0, 0x0, 0x0, 0x0, 0x0, 0x0⟩,
  ⟨A.ADC_DBL, 0x0, 1, 0x0, 1, 0x0, 0x3F3F3F3F, 0x0, 0x0, 0x0, 0x3F3F3F3F⟩,
  ⟨A.ADC_WIN_STATE, 0x0, 1, 0x0, 1, 0x0, 0x0, 0x0, 0x0, 0x0, 0x0⟩,
  ⟨A.ADC_WIN_FLAGS, 0x0, 1, 0x0, 1, 0x0, 0x0, 0xFFFFFFFF, 0x0, 0x0, 0x0⟩,
  ⟨A.AINn_CFG 0, 0x8, 48, 0x0, 1, 0x0, 0x7FFFFF, 0x0, 0x0, 0x0, 0x7FFFFF⟩,
  ⟨A.AINn_PL 0, 0x8, 48, 0x0, 1, 0x0, 0x3FFFFF, 0x0, 0x0, 0x0, 0x3FFFFF⟩,
  ⟨A.AINn_RES 0, 0x4, 48, 0x0, 1, 0x0, 0x0, 0x0, 0x0, 0x0, 0x0⟩,
  ⟨A.WINw_CFG 0, 0x8, 32, 0x0, 1, 0x0, 0x1FFFFF, 0x0, 0x0, 0x0, 0x1FFFFF⟩,
  ⟨A.WINw_LIM 0, 0x8, 32, 0x0, 1, 0xFFFFFFFF, 0x0, 0x0, 0x0, 0x0, 0xFFFFFFFF⟩,
  ⟨A.SDM_CLK, 0x0, 1, 0x0, 1, 0x0, 0x33F3F, 0x0, 0x0, 0x0, 0x33F3F⟩,
  ⟨A.SDM_FLAGS, 0x0, 1, 0x0, 1, 0x0, 0x0, 0xFFFF, 0x0, 0x0, 0x0⟩,
  ⟨A.SDn_CFG 0, 0x10, 8, 0x0, 1, 0x0, 0x3FFF, 0x0, 0x0, 0x0, 0x3FFF⟩,
  ⟨A.SDn_TRIG 0, 0x10, 8, 0x0, 1, 0x0, 0xFFFFF, 0x0, 0x0, 0x0, 0xFFFFF⟩,
  ⟨A.SDn_LIM 0, 0x10, 8, 0x0, 1, 0x1FFFF, 0x0, 0x0, 0x0, 0x0, 0x1FFFF⟩,
  ⟨A.SDn_RES 0, 0x10, 8, 0x0, 1, 0x0, 0x0, 0x0, 0x0, 0x0, 0x0⟩,
  ⟨A.CMPc_CFG 0, 0x10, 24, 0x0, 1, 0x0, 0x1FFFFFF, 0x0, 0x0, 0x0, 0x1FFFFFF⟩,
  ⟨A.CMPc_DAC 0, 0x10, 24, 0x0, 1, 0x3FF, 0x0, 0x0, 0x0, 0x0, 0x3FF⟩,
  ⟨A.CMPc_SLOPE 0, 0x10, 24, 0x0, 1, 0x0, 0x3FF0FFF, 0x0, 0x0, 0x0, 0x3FF0FFF⟩,
  ⟨A.CMPc_STATUS 0, 0x10, 24, 0x0, 1, 0x0, 0x0, 0x6, 0xFFFF0000, 0x0, 0x0⟩,
  ⟨A.CMP_TEST, 0x0, 1, 0x0, 1, 0x0, 0x0, 0x0, 0x0, 0x11F, 0x0⟩,
  ⟨A.CMP_TEST_RES, 0x0, 1, 0x0, 1, 0x0, 0x0, 0x0, 0x0, 0x0, 0x0⟩]

/-- Registers of spec/06_rafter_engine.md. -/
def regRows06 : List RegRow := [
  ⟨A.RAFTER_LOAD, 0x0, 1, 0x0, 1, 0x0, 0x0, 0x0, 0x0, 0x0, 0xFFFFF⟩,
  ⟨A.RAFTER_WORST, 0x0, 1, 0x0, 1, 0x0, 0x0, 0x0, 0x0, 0x0, 0x7FF⟩,
  ⟨A.RAFTER_FLAGS, 0x0, 1, 0x0, 1, 0x0, 0x0, 0x30000, 0x0, 0x0, 0x0⟩,
  ⟨A.RAFTER_ADMIT, 0x0, 1, 0x0, 1, 0x0, 0x0, 0x0, 0x0, 0x0, 0x0⟩,
  ⟨A.STAGEs_LOOP_CFG 0, 0x100, 12, 0x0, 1, 0x0, 0x1FFFFFFF, 0x0, 0x0, 0x0, 0x1FFFFFFF⟩,
  ⟨A.STAGEs_IN_MAP0 0, 0x100, 12, 0x0, 1, 0x0, 0x7F7F7F7F, 0x0, 0x0, 0x0, 0x7F7F7F7F⟩,
  ⟨A.STAGEs_IN_MAP1 0, 0x100, 12, 0x0, 1, 0x0, 0x7F7F, 0x0, 0x0, 0x0, 0x7F7F⟩,
  ⟨A.STAGEs_OUT_MAP 0, 0x100, 12, 0x0, 1, 0x0, 0xFFFF, 0x0, 0x0, 0x0, 0xFFFF⟩,
  ⟨A.STAGEs_PF 0, 0x100, 12, 0x0, 1, 0x0, 0xFFFF, 0x0, 0x0, 0x0, 0xFFFF⟩,
  ⟨A.STAGEs_COEF_IDX 0, 0x100, 12, 0x0, 1, 0x13F, 0x0, 0x0, 0x0, 0x0, 0x0⟩,
  ⟨A.STAGEs_COEF_DATA 0, 0x100, 12, 0x0, 1, 0x0, 0xFFFFFF, 0x0, 0x0, 0x0, 0xFFFFFF⟩,
  ⟨A.STAGEs_SP_TARGET 0, 0x100, 12, 0x0, 1, 0xFFFFFF, 0x0, 0x0, 0x0, 0x0, 0xFFFFFF⟩,
  ⟨A.STAGEs_SP_VMAX 0, 0x100, 12, 0x0, 1, 0xFFFFFF, 0x0, 0x0, 0x0, 0x0, 0xFFFFFF⟩,
  ⟨A.STAGEs_SP_AMAX 0, 0x100, 12, 0x0, 1, 0xFFFFFF, 0x0, 0x0, 0x0, 0x0, 0xFFFFFF⟩,
  ⟨A.STAGEs_SP_JMAX 0, 0x100, 12, 0x0, 1, 0xFFFFFF, 0x0, 0x0, 0x0, 0x0, 0xFFFFFF⟩,
  ⟨A.STAGEs_TRIM 0, 0x100, 12, 0x0, 1, 0xFFFFFF, 0x0, 0x0, 0x0, 0x0, 0xFFFFFF⟩,
  ⟨A.STAGEs_CAP 0, 0x100, 12, 0x0, 1, 0xFFFFFF, 0x0, 0x0, 0x0, 0x0, 0xFFFFFF⟩,
  ⟨A.STAGEs_SP_NOW 0, 0x100, 12, 0x0, 1, 0x0, 0x0, 0x0, 0x0, 0x0, 0x0⟩,
  ⟨A.STAGEs_LOOP_STATUS 0, 0x100, 12, 0x0, 1, 0x0, 0x0, 0x0, 0x0, 0x0, 0x0⟩,
  ⟨A.STAGEs_LOOP_FLAGS 0, 0x100, 12, 0x0, 1, 0x0, 0x0, 0x7F, 0x0, 0x0, 0x0⟩,
  ⟨A.STAGEs_U0 0, 0x100, 12, 0x0, 1, 0x0, 0x0, 0x0, 0x0, 0x0, 0x0⟩,
  ⟨A.STAGEs_U1 0, 0x100, 12, 0x0, 1, 0x0, 0x0, 0x0, 0x0, 0x0, 0x0⟩,
  ⟨A.STAGEs_U2 0, 0x100, 12, 0x0, 1, 0x0, 0x0, 0x0, 0x0, 0x0, 0x0⟩,
  ⟨A.STAGEs_COST 0, 0x100, 12, 0x0, 1, 0x0, 0x0, 0x0, 0x0, 0x0, 0xFFFF⟩,
  ⟨A.STAGEs_RATE 0, 0x100, 12, 0x0, 1, 0x0, 0x0, 0x0, 0x0, 0x0, 0xFFFFF⟩,
  ⟨A.STAGEs_LAT 0, 0x100, 12, 0x0, 1, 0x0, 0x0, 0x0, 0x7FF0000, 0x0, 0x0⟩,
  ⟨A.STAGEs_CREF 0, 0x100, 12, 0x0, 1, 0x0, 0x0, 0x0, 0x0, 0x0, 0x0⟩]

/-- Registers of spec/07_stage_control.md. -/
def regRows07 : List RegRow := [
  ⟨A.STAGEs_CFG 0, 0x100, 12, 0x0, 1, 0x0, 0x3FFF, 0x0, 0x0, 0x0, 0x3FFF⟩,
  ⟨A.STAGEs_CMD 0, 0x100, 12, 0x0, 1, 0x0, 0x0, 0x0, 0x0, 0x3, 0x0⟩,
  ⟨A.STAGEs_CMD_RES 0, 0x100, 12, 0x0, 1, 0x0, 0x0, 0x0, 0x0, 0x0, 0x0⟩,
  ⟨A.STAGEs_STATE 0, 0x100, 12, 0x0, 1, 0x0, 0x0, 0x0, 0x0, 0x0, 0x0⟩,
  ⟨A.STAGEs_START_DLY 0, 0x100, 12, 0x0, 1, 0x0, 0xFFFFFF, 0x0, 0x0, 0x0, 0xFFFFFF⟩,
  ⟨A.STAGEs_STOP_DLY 0, 0x100, 12, 0x0, 1, 0x0, 0xFFFFFF, 0x0, 0x0, 0x0, 0xFFFFFF⟩,
  ⟨A.STAGEs_SS_TMO 0, 0x100, 12, 0x0, 1, 0x0, 0xFFFFFF, 0x0, 0x0, 0x0, 0xFFFFFF⟩,
  ⟨A.STAGEs_RETRY 0, 0x100, 12, 0x0, 1, 0x0, 0xFFFFFFF, 0x0, 0x0, 0x0, 0xFFFFFFF⟩,
  ⟨A.STAGEs_SHED_HOLD 0, 0x100, 12, 0x0, 1, 0x0, 0x7FFFFFF, 0x0, 0x0, 0x0, 0x7FFFFFF⟩,
  ⟨A.STAGEs_BURST_ENT 0, 0x100, 12, 0x0, 1, 0x0, 0xFFFFFF, 0x0, 0x0, 0x0, 0xFFFFFF⟩,
  ⟨A.STAGEs_SS_VMAX 0, 0x100, 12, 0x0, 1, 0x0, 0xFFFFFF, 0x0, 0x0, 0x0, 0xFFFFFF⟩,
  ⟨A.STAGEs_START_VAL 0, 0x100, 12, 0x0, 1, 0x0, 0xFFFFFF, 0x0, 0x0, 0x0, 0xFFFFFF⟩,
  ⟨A.STAGEs_STOP_VAL 0, 0x100, 12, 0x0, 1, 0x0, 0xFFFFFF, 0x0, 0x0, 0x0, 0xFFFFFF⟩,
  ⟨A.STAGEs_CHK_CFG 0, 0x100, 12, 0x0, 1, 0x0, 0x3FF3FF7, 0x0, 0x0, 0x0, 0x3FF3FF7⟩,
  ⟨A.STAGEs_CHK_IN 0, 0x100, 12, 0x0, 1, 0x0, 0xFF7F7F, 0x0, 0x0, 0x0, 0xFF7F7F⟩,
  ⟨A.STAGEs_CHK_LIM 0, 0x100, 12, 0x0, 1, 0x0, 0x3FFF3FFF, 0x0, 0x0, 0x0, 0x3FFF3FFF⟩,
  ⟨A.STAGEs_FT 0, 0x100, 12, 0x0, 1, 0x0, 0xFFFFFF, 0x0, 0x0, 0x0, 0xFFFFFF⟩,
  ⟨A.STAGEs_WINACT0 0, 0x100, 12, 0x0, 1, 0x0, 0xFFFFFFFF, 0x0, 0x0, 0x0, 0xFFFFFFFF⟩,
  ⟨A.STAGEs_WINACT1 0, 0x100, 12, 0x0, 1, 0x0, 0xFFFFFFFF, 0x0, 0x0, 0x0, 0xFFFFFFFF⟩,
  ⟨A.STAGEs_SHED 0, 0x100, 12, 0x0, 1, 0x0, 0xFFFFFFFF, 0x0, 0x0, 0x0, 0xFFFFFFFF⟩,
  ⟨A.STAGEs_BURST 0, 0x100, 12, 0x0, 1, 0x0, 0xFFFFFFFF, 0x0, 0x0, 0x0, 0xFFFFFFFF⟩,
  ⟨A.STAGEs_WAKE 0, 0x100, 12, 0x0, 1, 0x0, 0xFFFFFFFF, 0x0, 0x0, 0x0, 0xFFFFFFFF⟩,
  ⟨A.STAGEs_STEP 0, 0x100, 12, 0x0, 1, 0x0, 0xFFFF, 0x0, 0x0, 0x0, 0xFFFF⟩,
  ⟨A.STAGEs_FLAGS 0, 0x100, 12, 0x0, 1, 0x0, 0x0, 0x3FFF, 0x0, 0x0, 0x0⟩,
  ⟨A.STAGEs_MON 0, 0x100, 12, 0x0, 1, 0x0, 0x0, 0x0, 0x0, 0x0, 0x0⟩,
  ⟨A.STAGEs_SHARE_S 0, 0x100, 12, 0x0, 1, 0x0, 0x0, 0x0, 0x0, 0x0, 0x0⟩,
  ⟨A.STAGEs_COUNT 0, 0x100, 12, 0x0, 1, 0x0, 0x0, 0x0, 0xFFFFFFFF, 0x0, 0x0⟩,
  ⟨A.STG_SHAREg_CFG 0, 0x100, 2, 0x0, 1, 0x0, 0xFFFF0001, 0x0, 0x0, 0x0, 0xFFFF0001⟩,
  ⟨A.STG_SHAREg_KSH 0, 0x100, 2, 0x0, 1, 0x0, 0xFFFFFF, 0x0, 0x0, 0x0, 0xFFFFFF⟩,
  ⟨A.STG_SHAREg_MAX 0, 0x100, 2, 0x0, 1, 0x0, 0xFFFFFF, 0x0, 0x0, 0x0, 0xFFFFFF⟩,
  ⟨A.STG_SHAREg_TRIM 0, 0x100, 2, 0x0, 1, 0xFFFFFF, 0x0, 0x0, 0x0, 0x0, 0xFFFFFF⟩]

/-- Registers of spec/08_twin_failover.md. -/
def regRows08 : List RegRow := [
  ⟨A.RAFTER_TWIN_STATUS, 0x0, 1, 0x0, 1, 0x0, 0x0, 0x0, 0x0, 0x0, 0x0⟩,
  ⟨A.RAFTER_TWIN_CTRL, 0x0, 1, 0x0, 1, 0x0, 0xFF0F, 0x0, 0x0, 0x0, 0xFF0F⟩,
  ⟨A.RAFTER_TWIN_CMD, 0x0, 1, 0x0, 1, 0x0, 0x0, 0x0, 0x0, 0x3, 0x0⟩,
  ⟨A.RAFTER_TWIN_CMD_RES, 0x0, 1, 0x0, 1, 0x0, 0x0, 0x0, 0x0, 0x0, 0x0⟩,
  ⟨A.RAFTER_TWIN_CAUSE, 0x0, 1, 0x0, 1, 0x0, 0x0, 0xFFFF, 0x0, 0x0, 0x0⟩,
  ⟨A.RAFTER_TWIN_FLAGS, 0x0, 1, 0x0, 1, 0x0, 0x0, 0xF, 0x0, 0x0, 0x0⟩,
  ⟨A.RAFTER_TWIN_COUNT, 0x0, 1, 0x0, 1, 0x0, 0x0, 0x0, 0x0, 0x0, 0x0⟩,
  ⟨A.RAFTER_TWIN_CE, 0x0, 1, 0x0, 1, 0x0, 0x0, 0x0, 0xFFFFFFFF, 0x0, 0x0⟩,
  ⟨A.RAFTER_TWIN_LAST, 0x0, 1, 0x0, 1, 0x0, 0x0, 0x0, 0x0, 0x0, 0x0⟩]

/-- Registers of spec/09_rack_coordination.md. -/
def regRows09 : List RegRow := [
  ⟨A.COORD_CFG, 0x0, 1, 0x0, 1, 0x0, 0x1FFFFFF1, 0x0, 0x0, 0x0, 0x1FFFFFF1⟩,
  ⟨A.COORD_RATING, 0x0, 1, 0x0, 1, 0x0, 0xFFFFF, 0x0, 0x0, 0x0, 0xFFFFF⟩,
  ⟨A.COORD_ALLOT, 0x0, 1, 0x0, 1, 0x0, 0x0, 0x0, 0x0, 0x0, 0x0⟩,
  ⟨A.COORD_POWER, 0x0, 1, 0x0, 1, 0x0, 0x0, 0x0, 0x0, 0x0, 0x0⟩,
  ⟨A.COORD_CAP_CFG, 0x0, 1, 0x0, 1, 0x0, 0xFF0FFF, 0x0, 0x0, 0x0, 0xFF0FFF⟩,
  ⟨A.COORD_BRK, 0x0, 1, 0x0, 1, 0x0, 0x0, 0x0, 0x0, 0x0, 0x0⟩,
  ⟨A.COORD_FLAGS, 0x0, 1, 0x0, 1, 0x0, 0x0, 0x7F, 0x0, 0x0, 0x0⟩,
  ⟨A.MGR_STATUS, 0x0, 1, 0x0, 1, 0x0, 0x0, 0x0, 0x0, 0x0, 0x3FF0⟩,
  ⟨A.MGR_BUDGET, 0x0, 1, 0x0, 1, 0xFFFF, 0x0, 0x0, 0x0, 0x0, 0x0⟩,
  ⟨A.MGR_POLICY, 0x0, 1, 0x0, 1, 0x0, 0xFFFFFFFF, 0x0, 0x0, 0x0, 0xFFFFFFFF⟩,
  ⟨A.MGR_TICK, 0x0, 1, 0x0, 1, 0x0, 0xFF, 0x0, 0x0, 0x0, 0xFF⟩,
  ⟨A.MGR_KRS, 0x0, 1, 0x0, 1, 0x0, 0xFFFFFF, 0x0, 0x0, 0x0, 0xFFFFFF⟩,
  ⟨A.MGR_GTMAX, 0x0, 1, 0x0, 1, 0x0, 0xFFFFFF, 0x0, 0x0, 0x0, 0xFFFFFF⟩,
  ⟨A.MGR_CMD, 0x0, 1, 0x0, 1, 0x0, 0x0, 0x0, 0x0, 0x3, 0x0⟩,
  ⟨A.MGR_CMD_RES, 0x0, 1, 0x0, 1, 0x0, 0x0, 0x0, 0x0, 0x0, 0x0⟩,
  ⟨A.MGR_SUM, 0x0, 1, 0x0, 1, 0x0, 0x0, 0x0, 0x0, 0x0, 0x0⟩,
  ⟨A.MGR_NODEj 0, 0x4, 32, 0x0, 1, 0x0, 0x0, 0x0, 0x0, 0x0, 0x0⟩,
  ⟨A.MGR_OFSj 0, 0x4, 32, 0x0, 1, 0x0, 0x0, 0x0, 0x0, 0x0, 0x0⟩,
  ⟨A.MGR_GTj 0, 0x4, 32, 0x0, 1, 0x0, 0x0, 0x0, 0x0, 0x0, 0x0⟩,
  ⟨A.MGR_MEMBj 0, 0x4, 32, 0x0, 1, 0x0, 0x0, 0x0, 0x0, 0x0, 0x0⟩]

/-- Registers of spec/10_rinnak_network.md. -/
def regRows10 : List RegRow := [
  ⟨A.RINNAK_CTRL, 0x0, 1, 0x0, 1, 0x1C, 0xFFFF3F03, 0x0, 0x0, 0x0, 0xFFFF3F1F⟩,
  ⟨A.RINNAK_FOREIGN, 0x0, 1, 0x0, 1, 0x0, 0xFFFFFFFF, 0x0, 0x0, 0x0, 0xFFFFFFFF⟩,
  ⟨A.RINNAK_STATUS, 0x0, 1, 0x0, 1, 0x0, 0x0, 0x0, 0x0, 0x0, 0x1F0000⟩,
  ⟨A.RINNAK_BUDGET, 0x0, 1, 0x0, 1, 0x0, 0x0, 0x0, 0x0, 0x0, 0x1FF03FF⟩,
  ⟨A.RINNAK_FLAGS, 0x0, 1, 0x0, 1, 0x0, 0x0, 0x7F, 0x0, 0x0, 0x0⟩,
  ⟨A.RINNAK_QUEUE, 0x0, 1, 0x0, 1, 0x0, 0x0, 0x0, 0x0, 0x0, 0x0⟩,
  ⟨A.RINNAK_ADMIT, 0x0, 1, 0x0, 1, 0x0, 0x0, 0x0, 0x0, 0x0, 0x0⟩,
  ⟨A.RINNAK_REFUSE, 0x0, 1, 0x0, 1, 0x0, 0x0, 0x0, 0x0, 0x0, 0x0⟩,
  ⟨A.RINNAK_CNT_Ai 0, 0x4, 8, 0x0, 1, 0x0, 0x0, 0x0, 0xFFFFFFFF, 0x0, 0x0⟩,
  ⟨A.RINNAK_CNT_Bi 0, 0x4, 8, 0x0, 1, 0x0, 0x0, 0x0, 0xFFFFFFFF, 0x0, 0x0⟩,
  ⟨A.RINNAK_CYCLE, 0x0, 1, 0x0, 1, 0x0, 0x0, 0x0, 0xFFFFFFFF, 0x0, 0x0⟩,
  ⟨A.RINNAK_NODE, 0x0, 1, 0x0, 1, 0x0, 0x3F, 0x0, 0x0, 0x0, 0x3F⟩,
  ⟨A.RINNAK_KEYk 0, 0x4, 8, 0x0, 1, 0x0, 0x0, 0x0, 0x0, 0xFFFFFFFF, 0x0⟩,
  ⟨A.RINNAK_KEY_ACT, 0x0, 1, 0x0, 1, 0x0, 0x0, 0x0, 0x0, 0xFFFFFFFF, 0x0⟩,
  ⟨A.RINNAK_KEY_RES, 0x0, 1, 0x0, 1, 0x0, 0x0, 0x0, 0x0, 0x0, 0x0⟩]

/-- Registers of spec/11_branches.md. -/
def regRows11 : List RegRow := [
  ⟨A.BRn_CFG 0, 0x40, 8, 0x0, 1, 0x20, 0xFF1F, 0x0, 0x0, 0x0, 0xFF3F⟩,
  ⟨A.BRn_CMD 0, 0x40, 8, 0x0, 1, 0x0, 0x0, 0x0, 0x0, 0x3, 0x0⟩,
  ⟨A.BRn_CMD_RES 0, 0x40, 8, 0x0, 1, 0x0, 0x0, 0x0, 0x0, 0x0, 0x0⟩,
  ⟨A.BRn_STATE 0, 0x40, 8, 0x0, 1, 0x0, 0x0, 0x0, 0x0, 0x0, 0x0⟩,
  ⟨A.BRn_SEAT 0, 0x40, 8, 0x0, 1, 0x0, 0xFFFFFF, 0x0, 0x0, 0x0, 0xFFFFFF⟩,
  ⟨A.BRn_PRE 0, 0x40, 8, 0x0, 1, 0x0, 0xFFFF, 0x0, 0x0, 0x0, 0xFFFF⟩,
  ⟨A.BRn_RETRY 0, 0x40, 8, 0x0, 1, 0x0, 0xFFFFFF, 0x0, 0x0, 0x0, 0xFFFFFF⟩,
  ⟨A.BRn_ON_DLY 0, 0x40, 8, 0x0, 1, 0x0, 0xFFFFFF, 0x0, 0x0, 0x0, 0xFFFFFF⟩,
  ⟨A.BRn_OFF_DLY 0, 0x40, 8, 0x0, 1, 0x0, 0xFFFFFF, 0x0, 0x0, 0x0, 0xFFFFFF⟩,
  ⟨A.BRn_FUSE 0, 0x40, 8, 0x0, 1, 0x0, 0xFF3FFF, 0x0, 0x0, 0x0, 0xFF3FFF⟩,
  ⟨A.BRn_FWD 0, 0x40, 8, 0x0, 1, 0x0, 0x3FFF, 0x0, 0x0, 0x0, 0x3FFF⟩,
  ⟨A.BRn_MEAS_V 0, 0x40, 8, 0x0, 1, 0x0, 0x0, 0x0, 0x0, 0x0, 0x0⟩,
  ⟨A.BRn_MEAS_I 0, 0x40, 8, 0x0, 1, 0x0, 0x0, 0x0, 0x0, 0x0, 0x0⟩,
  ⟨A.BRn_PEAK 0, 0x40, 8, 0x0, 1, 0x0, 0x0, 0x0, 0x3FFF3FFF, 0x0, 0x0⟩,
  ⟨A.BRn_VRANGE 0, 0x40, 8, 0x0, 1, 0x0, 0x0, 0x0, 0x3FFF3FFF, 0x0, 0x0⟩,
  ⟨A.BRn_TRIPCAP 0, 0x40, 8, 0x0, 1, 0x0, 0x0, 0x0, 0x0, 0x0, 0x0⟩,
  ⟨A.BR_SENSE, 0x0, 1, 0x0, 1, 0x0, 0x3F3F0F, 0x0, 0x0, 0x0, 0x3F3F0F⟩,
  ⟨A.BR_SCALE, 0x0, 1, 0x0, 1, 0x0, 0xFFFFFFFF, 0x0, 0x0, 0x0, 0xFFFFFFFF⟩,
  ⟨A.BR_ZERO, 0x0, 1, 0x0, 1, 0x0, 0x3FFF, 0x0, 0x0, 0x0, 0x3FFF⟩,
  ⟨A.BR_SPINE_WIN, 0x0, 1, 0x0, 1, 0x0, 0x3FFF3FFF, 0x0, 0x0, 0x0, 0x3FFF3FFF⟩,
  ⟨A.BR_SPINE_MEAS, 0x0, 1, 0x0, 1, 0x0, 0x0, 0x0, 0x0, 0x0, 0x0⟩,
  ⟨A.BR_FLAGS, 0x0, 1, 0x0, 1, 0x0, 0x0, 0xFFFF, 0x0, 0x0, 0x0⟩,
  ⟨A.BRK_CFG, 0x0, 1, 0x0, 1, 0x0, 0xF, 0x0, 0x0, 0x0, 0xF⟩,
  ⟨A.BRK_LEVEL, 0x0, 1, 0x0, 1, 0x0, 0x0, 0x0, 0x0, 0x0, 0x0⟩,
  ⟨A.BRK_OBS, 0x0, 1, 0x0, 1, 0x0, 0x0, 0x0, 0xFFFF, 0x0, 0x0⟩]

/-- Registers of spec/12_batten_link.md. -/
def regRows12 : List RegRow := [
  ⟨A.BTn_STATE 0, 0x40, 8, 0x0, 1, 0x0, 0x0, 0x0, 0x0, 0x0, 0x0⟩,
  ⟨A.BTn_CONTRACT 0, 0x40, 8, 0x0, 1, 0x0, 0x0, 0x0, 0x0, 0x0, 0x0⟩,
  ⟨A.BTn_REQUEST 0, 0x40, 8, 0x0, 1, 0x0, 0x0, 0x0, 0x0, 0x0, 0x0⟩,
  ⟨A.BTn_PEER 0, 0x40, 8, 0x0, 1, 0x0, 0x0, 0x0, 0x0, 0x0, 0x0⟩,
  ⟨A.BTn_SIGV 0, 0x40, 8, 0x0, 1, 0x0, 0x0, 0x0, 0x0, 0x0, 0x0⟩,
  ⟨A.BTn_CMD 0, 0x40, 8, 0x0, 1, 0x0, 0x0, 0x0, 0x0, 0x7, 0x0⟩,
  ⟨A.BTn_CMD_RES 0, 0x40, 8, 0x0, 1, 0x0, 0x0, 0x0, 0x0, 0x0, 0x0⟩,
  ⟨A.BTn_CNT 0, 0x40, 8, 0x0, 1, 0x0, 0x0, 0x0, 0xFFFFFFFF, 0x0, 0x0⟩,
  ⟨A.BTn_RXOBJk 0 0, 0x40, 8, 0x4, 4, 0x0, 0x0, 0x0, 0x0, 0x0, 0x0⟩,
  ⟨A.BT_CFG, 0x0, 1, 0x0, 1, 0x0, 0xFFFFFF03, 0x0, 0x0, 0x0, 0xFFFFFF03⟩,
  ⟨A.BT_SINK_REQ, 0x0, 1, 0x0, 1, 0xFFFFFFFF, 0x0, 0x0, 0x0, 0x0, 0xFFFFFFFF⟩,
  ⟨A.BT_SUM, 0x0, 1, 0x0, 1, 0x0, 0x0, 0x0, 0x0, 0x0, 0x0⟩,
  ⟨A.BT_FLAGS, 0x0, 1, 0x0, 1, 0x0, 0x0, 0xFF, 0x0, 0x0, 0x0⟩,
  ⟨A.BT_TEST_RES, 0x0, 1, 0x0, 1, 0x0, 0x0, 0x0, 0x0, 0x0, 0x0⟩,
  ⟨A.BT_WEEVIL, 0x0, 1, 0x0, 1, 0x0, 0x0, 0x0, 0x0, 0x0, 0x0⟩,
  ⟨A.BT_TOBJk 0, 0x4, 4, 0x0, 1, 0xFFFFFFFF, 0x0, 0x0, 0x0, 0x0, 0x0⟩]

/-- Registers of spec/13_modes_sequencer.md. -/
def regRows13 : List RegRow := [
  ⟨A.SEQ_CTRL, 0x0, 1, 0x0, 1, 0x0, 0xFFFFFFFF, 0x0, 0x0, 0x0, 0xFFFFFFFF⟩,
  ⟨A.SEQ_INPUT, 0x0, 1, 0x0, 1, 0x0, 0xFFFFFFF, 0x0, 0x0, 0x0, 0xFFFFFFF⟩,
  ⟨A.SEQ_IN_SRC, 0x0, 1, 0x0, 1, 0x0, 0x3F, 0x0, 0x0, 0x0, 0x3F⟩,
  ⟨A.SEQ_CMD, 0x0, 1, 0x0, 1, 0x0, 0x0, 0x0, 0x0, 0x7, 0x0⟩,
  ⟨A.SEQ_CMD_RES, 0x0, 1, 0x0, 1, 0x0, 0x0, 0x0, 0x0, 0x0, 0x0⟩,
  ⟨A.SEQ_STATUS, 0x0, 1, 0x0, 1, 0x0, 0x0, 0x0, 0x0, 0x0, 0x0⟩,
  ⟨A.SEQ_FLAGS, 0x0, 1, 0x0, 1, 0x0, 0x0, 0x7, 0x0, 0x0, 0x0⟩,
  ⟨A.SEQ_RAIL_FAIL, 0x0, 1, 0x0, 1, 0x0, 0x0, 0xFFFFFFFF, 0x0, 0x0, 0x0⟩,
  ⟨A.SEQ_RAIL_LEVEL, 0x0, 1, 0x0, 1, 0x0, 0x0, 0x0, 0x0, 0x0, 0x0⟩,
  ⟨A.SEQ_CS, 0x0, 1, 0x0, 1, 0x0, 0x0, 0x0, 0x0, 0x0, 0x0⟩,
  ⟨A.SEQ_STG_SLOT0, 0x0, 1, 0x0, 1, 0x0, 0xFFFFFFFF, 0x0, 0x0, 0x0, 0xFFFFFFFF⟩,
  ⟨A.SEQ_STG_SLOT1, 0x0, 1, 0x0, 1, 0x0, 0xFFFF, 0x0, 0x0, 0x0, 0xFFFF⟩,
  ⟨A.RAILr_ON 0, 0x10, 16, 0x0, 1, 0x0, 0xFFFFFF, 0x0, 0x0, 0x0, 0xFFFFFF⟩,
  ⟨A.RAILr_OFF 0, 0x10, 16, 0x0, 1, 0x0, 0xFFFFFF, 0x0, 0x0, 0x0, 0xFFFFFF⟩,
  ⟨A.RAILr_CFG 0, 0x10, 16, 0x0, 1, 0x0, 0xFFFF0007, 0x0, 0x0, 0x0, 0xFFFF0007⟩,
  ⟨A.RSTOk_CFG 0, 0x4, 4, 0x0, 1, 0x0, 0x1FFFFF, 0x0, 0x0, 0x0, 0x1FFFFF⟩]

/-- Registers of spec/14_storage_estimator.md. -/
def regRows14 : List RegRow := [
  ⟨A.STk_CFG 0, 0x80, 6, 0x0, 1, 0x0, 0x3FFFFF, 0x0, 0x0, 0x0, 0x3FFFFF⟩,
  ⟨A.STk_SCALE 0, 0x80, 6, 0x0, 1, 0x0, 0xFFFFFFFF, 0x0, 0x0, 0x0, 0xFFFFFFFF⟩,
  ⟨A.STk_ZERO 0, 0x80, 6, 0x0, 1, 0x0, 0x3FFF, 0x0, 0x0, 0x0, 0x3FFF⟩,
  ⟨A.STk_VEND 0, 0x80, 6, 0x0, 1, 0x0, 0xFFFFFFFF, 0x0, 0x0, 0x0, 0xFFFFFFFF⟩,
  ⟨A.STk_VABS 0, 0x80, 6, 0x0, 1, 0x0, 0xFFFFFFFF, 0x0, 0x0, 0x0, 0xFFFFFFFF⟩,
  ⟨A.STk_CUR 0, 0x80, 6, 0x0, 1, 0x0, 0xFFFFFFFF, 0x0, 0x0, 0x0, 0xFFFFFFFF⟩,
  ⟨A.STk_TEMP 0, 0x80, 6, 0x0, 1, 0x0, 0xFFFFFFFF, 0x0, 0x0, 0x0, 0xFFFFFFFF⟩,
  ⟨A.STk_ANCH 0, 0x80, 6, 0x0, 1, 0x0, 0xFFFFF, 0x0, 0x0, 0x0, 0xFFFFF⟩,
  ⟨A.STk_CNOM 0, 0x80, 6, 0x0, 1, 0x0, 0xFFFFFFFF, 0x0, 0x0, 0x0, 0xFFFFFFFF⟩,
  ⟨A.STk_Q 0, 0x80, 6, 0x0, 1, 0x0, 0x0, 0x0, 0x0, 0x0, 0x0⟩,
  ⟨A.STk_CAP 0, 0x80, 6, 0x0, 1, 0x0, 0x0, 0x0, 0x0, 0x0, 0xFFFFFFFF⟩,
  ⟨A.STk_RNOM 0, 0x80, 6, 0x0, 1, 0x0, 0xFFFF, 0x0, 0x0, 0x0, 0xFFFF⟩,
  ⟨A.STk_RES 0, 0x80, 6, 0x0, 1, 0x0, 0x0, 0x0, 0x0, 0x0, 0xFFFF⟩,
  ⟨A.STk_ICHG 0, 0x80, 6, 0x0, 1, 0xFFFFFF, 0x0, 0x0, 0x0, 0x0, 0x0⟩,
  ⟨A.STk_IDRILL 0, 0x80, 6, 0x0, 1, 0x0, 0xFFFFFF, 0x0, 0x0, 0x0, 0xFFFFFF⟩,
  ⟨A.STk_SOC 0, 0x80, 6, 0x0, 1, 0x0, 0x0, 0x0, 0x0, 0x0, 0x0⟩,
  ⟨A.STk_STATE 0, 0x80, 6, 0x0, 1, 0x0, 0x0, 0x0, 0x0, 0x0, 0x0⟩,
  ⟨A.STk_FLAGS 0, 0x80, 6, 0x0, 1, 0x0, 0x0, 0x1FF, 0x0, 0x0, 0x0⟩,
  ⟨A.STk_MEAS 0, 0x80, 6, 0x0, 1, 0x0, 0x0, 0x0, 0x0, 0x0, 0x0⟩,
  ⟨A.STk_IMEAS 0, 0x80, 6, 0x0, 1, 0x0, 0x0, 0x0, 0x0, 0x0, 0x0⟩,
  ⟨A.ST_CFG, 0x0, 1, 0x0, 1, 0x0, 0xFFFF000F, 0x0, 0x0, 0x0, 0xFFFF000F⟩,
  ⟨A.ST_UNC, 0x0, 1, 0x0, 1, 0x0, 0x3FFFFFFF, 0x0, 0x0, 0x0, 0x3FFFFFFF⟩,
  ⟨A.ST_DRILL_CFG, 0x0, 1, 0x0, 1, 0x0, 0xFF, 0x0, 0x0, 0x0, 0xFF⟩,
  ⟨A.ST_LEARN_Q, 0x0, 1, 0x0, 1, 0xFFFFFFFF, 0x0, 0x0, 0x0, 0x0, 0x0⟩,
  ⟨A.ST_LEARN_CAP, 0x0, 1, 0x0, 1, 0xFFFFFFFF, 0x0, 0x0, 0x0, 0x0, 0x0⟩,
  ⟨A.ST_LEARN_RES, 0x0, 1, 0x0, 1, 0xFFFFFFFF, 0x0, 0x0, 0x0, 0x0, 0x0⟩,
  ⟨A.ST_LEARN_U, 0x0, 1, 0x0, 1, 0x3FFF, 0x0, 0x0, 0x0, 0x0, 0x0⟩,
  ⟨A.ST_CMD, 0x0, 1, 0x0, 1, 0x0, 0x0, 0x0, 0x0, 0x73, 0x0⟩,
  ⟨A.ST_CMD_RES, 0x0, 1, 0x0, 1, 0x0, 0x0, 0x0, 0x0, 0x0, 0x0⟩,
  ⟨A.ST_EVT, 0x0, 1, 0x0, 1, 0x0, 0x0, 0x0, 0x0, 0x0, 0x0⟩]

/-- Registers of spec/15_thermal.md. -/
def regRows15 : List RegRow := [
  ⟨A.TSc_CFG 0, 0x20, 17, 0x0, 1, 0x0, 0xFFFFFFFF, 0x0, 0x0, 0x0, 0xFFFFFFFF⟩,
  ⟨A.TSc_NTC 0, 0x20, 17, 0x0, 1, 0x0, 0xFFFFFF, 0x0, 0x0, 0x0, 0xFFFFFF⟩,
  ⟨A.TSc_B 0, 0x20, 17, 0x0, 1, 0x0, 0xFFFF, 0x0, 0x0, 0x0, 0xFFFF⟩,
  ⟨A.TSc_LIM0 0, 0x20, 17, 0x0, 1, 0x0, 0xFFFFFFFF, 0x0, 0x0, 0x0, 0xFFFFFFFF⟩,
  ⟨A.TSc_LIM1 0, 0x20, 17, 0x0, 1, 0x0, 0xFFFFFFFF, 0x0, 0x0, 0x0, 0xFFFFFFFF⟩,
  ⟨A.TSc_LIM2 0, 0x20, 17, 0x0, 1, 0x0, 0xFFFF, 0x0, 0x0, 0x0, 0xFFFF⟩,
  ⟨A.TSc_T 0, 0x20, 17, 0x0, 1, 0x0, 0x0, 0x0, 0x0, 0x0, 0x0⟩,
  ⟨A.TSc_SLOPE 0, 0x20, 17, 0x0, 1, 0x0, 0x0, 0x0, 0x0, 0x0, 0x0⟩,
  ⟨A.THERM_CFG, 0x0, 1, 0x0, 1, 0x0, 0xFF0FFF, 0x0, 0x0, 0x0, 0xFF0FFF⟩,
  ⟨A.THERM_WIN, 0x0, 1, 0x0, 1, 0x0, 0xFFFFFFFF, 0x0, 0x0, 0x0, 0xFFFFFFFF⟩,
  ⟨A.THERM_STATUS, 0x0, 1, 0x0, 1, 0x0, 0x0, 0x0, 0xFFFF0000, 0x0, 0x0⟩,
  ⟨A.THERM_FLAGS, 0x0, 1, 0x0, 1, 0x0, 0x0, 0xF, 0x0, 0x0, 0x0⟩,
  ⟨A.THERM_LEVEL, 0x0, 1, 0x0, 1, 0x0, 0x0, 0x0, 0x0, 0x0, 0x0⟩]

/-- Registers of spec/16_gutter_thatch.md. -/
def regRows16 : List RegRow := [
  ⟨A.GUT_SRCn_CFG 0, 0x4, 128, 0x0, 1, 0x0, 0x7F, 0x0, 0x0, 0x0, 0x7F⟩,
  ⟨A.GUT_ACTIVEi 0, 0x4, 4, 0x0, 1, 0x0, 0x0, 0x0, 0x0, 0x0, 0x0⟩,
  ⟨A.GUT_LATCHi 0, 0x4, 4, 0x0, 1, 0x0, 0x0, 0xFFFFFFFF, 0x0, 0x0, 0x0⟩,
  ⟨A.GUT_FORCEi 0, 0x4, 4, 0x0, 1, 0x0, 0x0, 0x0, 0x0, 0xFFFFFFFF, 0x0⟩,
  ⟨A.GUT_CTRL, 0x0, 1, 0x0, 1, 0x0, 0x1F, 0x0, 0x0, 0x0, 0x1F⟩,
  ⟨A.GUT_STATUS, 0x0, 1, 0x0, 1, 0x0, 0x0, 0x0, 0x0, 0x0, 0x0⟩,
  ⟨A.GUT_HCOUNT, 0x0, 1, 0x0, 1, 0x0, 0x0, 0x0, 0x0, 0x0, 0x0⟩,
  ⟨A.GUT_INJ_CHECK, 0x0, 1, 0x0, 1, 0x0, 0x0, 0x0, 0x0, 0x7FF, 0x0⟩,
  ⟨A.GUT_INJ_RES, 0x0, 1, 0x0, 1, 0x0, 0x0, 0x0, 0x0, 0x0, 0x0⟩,
  ⟨A.GUT_FIRST, 0x0, 1, 0x0, 1, 0x0, 0x0, 0x0, 0x0, 0x0, 0x0⟩,
  ⟨A.GUT_FIRST_ERA, 0x0, 1, 0x0, 1, 0x0, 0x0, 0x0, 0x0, 0x0, 0x0⟩,
  ⟨A.GUT_FIRST_ANGLE, 0x0, 1, 0x0, 1, 0x0, 0x0, 0x0, 0x0, 0x0, 0x0⟩,
  ⟨A.GUT_CMD, 0x0, 1, 0x0, 1, 0x0, 0x0, 0x0, 0x0, 0x3, 0x0⟩,
  ⟨A.GUT_SNAP_HCOUNT, 0x0, 1, 0x0, 1, 0x0, 0x0, 0x0, 0x0, 0x0, 0x0⟩,
  ⟨A.GUT_HISTk_EV 0, 0x10, 16, 0x0, 1, 0x0, 0x0, 0x0, 0x0, 0x0, 0x0⟩,
  ⟨A.GUT_HISTk_DATA 0, 0x10, 16, 0x0, 1, 0x0, 0x0, 0x0, 0x0, 0x0, 0x0⟩,
  ⟨A.GUT_HISTk_ERA 0, 0x10, 16, 0x0, 1, 0x0, 0x0, 0x0, 0x0, 0x0, 0x0⟩,
  ⟨A.GUT_HISTk_ANGLE 0, 0x10, 16, 0x0, 1, 0x0, 0x0, 0x0, 0x0, 0x0, 0x0⟩,
  ⟨A.TH_CTRL, 0x0, 1, 0x0, 1, 0x0, 0xFFFFFF01, 0x0, 0x0, 0x0, 0xFFFFFF01⟩,
  ⟨A.TH_NVM_BASE, 0x0, 1, 0x0, 1, 0x0, 0xFFFFFFFF, 0x0, 0x0, 0x0, 0xFFFFFFFF⟩,
  ⟨A.TH_NVM_PART0, 0x0, 1, 0x0, 1, 0x0, 0x1FFF1FFF, 0x0, 0x0, 0x0, 0x1FFF1FFF⟩,
  ⟨A.TH_NVM_PART1, 0x0, 1, 0x0, 1, 0x0, 0x1FFF, 0x0, 0x0, 0x0, 0x1FFF⟩,
  ⟨A.TH_HEAD, 0x0, 1, 0x0, 1, 0x0, 0x0, 0x0, 0x0, 0x0, 0x0⟩,
  ⟨A.TH_FW_SEQ, 0x0, 1, 0x0, 1, 0x0, 0x0, 0x0, 0x0, 0x0, 0x0⟩,
  ⟨A.TH_SNAP_SEQ, 0x0, 1, 0x0, 1, 0x0, 0x0, 0x0, 0x0, 0x0, 0x0⟩,
  ⟨A.TH_FW_HDR, 0x0, 1, 0x0, 1, 0xFFFF0003, 0x0, 0x0, 0x0, 0x0, 0x0⟩,
  ⟨A.TH_FW_D0, 0x0, 1, 0x0, 1, 0xFFFFFFFF, 0x0, 0x0, 0x0, 0x0, 0x0⟩,
  ⟨A.TH_FW_D1, 0x0, 1, 0x0, 1, 0xFFFFFFFF, 0x0, 0x0, 0x0, 0x0, 0x0⟩,
  ⟨A.TH_FW_CMT, 0x0, 1, 0x0, 1, 0x0, 0x0, 0x0, 0x0, 0x1, 0x0⟩,
  ⟨A.TH_RD_SEL, 0x0, 1, 0x0, 1, 0x3FFFFF, 0x0, 0x0, 0x0, 0x0, 0x0⟩,
  ⟨A.TH_RD_STAT, 0x0, 1, 0x0, 1, 0x0, 0x0, 0x0, 0x0, 0x0, 0x0⟩,
  ⟨A.TH_RDk 0, 0x4, 8, 0x0, 1, 0x0, 0x0, 0x0, 0x0, 0x0, 0x0⟩,
  ⟨A.TH_SNAP_CMD, 0x0, 1, 0x0, 1, 0x0, 0x0, 0x0, 0x0, 0x3, 0x0⟩,
  ⟨A.TH_RELEASE, 0x0, 1, 0x0, 1, 0x0, 0x0, 0x0, 0x0, 0xFFFFFFFF, 0x0⟩,
  ⟨A.TH_GAP_FIRST, 0x0, 1, 0x0, 1, 0x0, 0x0, 0x0, 0x0, 0x0, 0x0⟩,
  ⟨A.TH_GAP_LAST, 0x0, 1, 0x0, 1, 0x0, 0x0, 0x0, 0x0, 0x0, 0x0⟩,
  ⟨A.TH_GAP_CNT, 0x0, 1, 0x0, 1, 0x0, 0x0, 0x0, 0x0, 0x0, 0x0⟩,
  ⟨A.TH_STATUS, 0x0, 1, 0x0, 1, 0x0, 0x0, 0x10000, 0x0, 0x0, 0x0⟩,
  ⟨A.TH_CNT, 0x0, 1, 0x0, 1, 0x0, 0x0, 0x0, 0xFFFFFFFF, 0x0, 0x0⟩,
  ⟨A.TH_NVM_NEXT_HI, 0x0, 1, 0x0, 1, 0x0, 0x0, 0x0, 0x0, 0x0, 0x0⟩]

/-- Registers of spec/16_gutter_thatch.md. -/
def regRows16a : List RegRow := [
  ⟨A.TH_NVM_NEXT_LO, 0x0, 1, 0x0, 1, 0x0, 0x0, 0x0, 0x0, 0x0, 0x0⟩,
  ⟨A.TH_NVM_NEXT_LG, 0x0, 1, 0x0, 1, 0x0, 0x0, 0x0, 0x0, 0x0, 0x0⟩]

/-- Registers of spec/17_boot_otp_update.md. -/
def regRows17 : List RegRow := [
  ⟨A.OTP_STATUS, 0x0, 1, 0x0, 1, 0x0, 0x0, 0x0, 0x0, 0x0, 0x0⟩,
  ⟨A.OTP_COUNT, 0x0, 1, 0x0, 1, 0x0, 0x0, 0x0, 0x0, 0x0, 0x0⟩,
  ⟨A.OTP_ARM, 0x0, 1, 0x0, 1, 0x0, 0x0, 0x0, 0x0, 0xFFFF, 0x0⟩,
  ⟨A.OTP_ADDR, 0x0, 1, 0x0, 1, 0xF31FF, 0x0, 0x0, 0x0, 0x0, 0x0⟩,
  ⟨A.OTP_WDATA, 0x0, 1, 0x0, 1, 0xFFFFFFFF, 0x0, 0x0, 0x0, 0x0, 0x0⟩,
  ⟨A.OTP_RDATA, 0x0, 1, 0x0, 1, 0x0, 0x0, 0x0, 0x0, 0x0, 0x0⟩,
  ⟨A.OTP_CMD, 0x0, 1, 0x0, 1, 0x0, 0x0, 0x0, 0x0, 0x7, 0x0⟩,
  ⟨A.OTP_RES, 0x0, 1, 0x0, 1, 0x0, 0x0, 0x0, 0x0, 0x0, 0x0⟩,
  ⟨A.OTP_FLAGS, 0x0, 1, 0x0, 1, 0x0, 0x0, 0xF, 0x0, 0x0, 0x0⟩,
  ⟨A.IMAGE_STATUS, 0x0, 1, 0x0, 1, 0x0, 0x0, 0x0, 0x0, 0x0, 0x0⟩,
  ⟨A.IMAGE_SLOT0, 0x0, 1, 0x0, 1, 0x0, 0x0, 0x0, 0x0, 0x0, 0x0⟩,
  ⟨A.IMAGE_SLOT1, 0x0, 1, 0x0, 1, 0x0, 0x0, 0x0, 0x0, 0x0, 0x0⟩,
  ⟨A.IMAGE_VER0, 0x0, 1, 0x0, 1, 0x0, 0x0, 0x0, 0x0, 0x0, 0x0⟩,
  ⟨A.IMAGE_VER1, 0x0, 1, 0x0, 1, 0x0, 0x0, 0x0, 0x0, 0x0, 0x0⟩,
  ⟨A.IMAGE_HEALTH, 0x0, 1, 0x0, 1, 0x0, 0x0, 0x0, 0x0, 0x0, 0x0⟩,
  ⟨A.IMAGE_CMD, 0x0, 1, 0x0, 1, 0x0, 0x0, 0x0, 0x0, 0x7, 0x0⟩,
  ⟨A.IMAGE_CMD_RES, 0x0, 1, 0x0, 1, 0x0, 0x0, 0x0, 0x0, 0x0, 0x0⟩,
  ⟨A.IMAGE_DATA, 0x0, 1, 0x0, 1, 0x0, 0x0, 0x0, 0x0, 0xFFFFFFFF, 0x0⟩,
  ⟨A.IMAGE_WCOUNT, 0x0, 1, 0x0, 1, 0x0, 0x0, 0x0, 0x0, 0x0, 0x0⟩,
  ⟨A.IMAGE_STATE_SEQ, 0x0, 1, 0x0, 1, 0x0, 0x0, 0x0, 0x0, 0x0, 0x0⟩,
  ⟨A.PROF_PAGE, 0x0, 1, 0x0, 1, 0x3, 0x0, 0x0, 0x0, 0x0, 0x0⟩,
  ⟨A.PROF_LEN, 0x0, 1, 0x0, 1, 0x7FFF, 0x0, 0x0, 0x0, 0x0, 0x0⟩,
  ⟨A.PROF_CMD, 0x0, 1, 0x0, 1, 0x0, 0x0, 0x0, 0x0, 0x3, 0x0⟩,
  ⟨A.PROF_RES, 0x0, 1, 0x0, 1, 0x0, 0x0, 0x0, 0x0, 0x0, 0x0⟩,
  ⟨A.PROF_COUNT, 0x0, 1, 0x0, 1, 0x0, 0x0, 0x0, 0x0, 0x0, 0x0⟩,
  ⟨A.PROF_WINw 0, 0x4, 1024, 0x0, 1, 0xFFFFFFFF, 0x0, 0x0, 0x0, 0x0, 0x0⟩]

/-- Registers of spec/18_twowire_host.md. -/
def regRows18 : List RegRow := [
  ⟨A.MBb_CFG 0, 0x100, 2, 0x0, 1, 0xFE0, 0x7F01F, 0x0, 0x0, 0x0, 0x7FFFF⟩,
  ⟨A.MBb_LEN 0, 0x100, 2, 0x0, 1, 0xFF3F3F, 0x0, 0x0, 0x0, 0x0, 0x0⟩,
  ⟨A.MBb_CMD 0, 0x100, 2, 0x0, 1, 0x0, 0x0, 0x0, 0x0, 0xFFF, 0x0⟩,
  ⟨A.MBb_RES 0, 0x100, 2, 0x0, 1, 0x0, 0x0, 0x0, 0x0, 0x0, 0x0⟩,
  ⟨A.MBb_FLAGS 0, 0x100, 2, 0x0, 1, 0x0, 0x0, 0x7F, 0x0, 0x0, 0x0⟩,
  ⟨A.MBb_TSTAT 0, 0x100, 2, 0x0, 1, 0x0, 0x0, 0x0, 0x0, 0x0, 0x0⟩,
  ⟨A.MBb_TXk 0 0, 0x100, 2, 0x4, 8, 0xFFFFFFFF, 0x0, 0x0, 0x0, 0x0, 0x0⟩,
  ⟨A.MBb_RXk 0 0, 0x100, 2, 0x4, 8, 0x0, 0x0, 0x0, 0x0, 0x0, 0x0⟩,
  ⟨A.MBb_TRXk 0 0, 0x100, 2, 0x4, 8, 0x0, 0x0, 0x0, 0x0, 0x0, 0x0⟩,
  ⟨A.MBb_TTXk 0 0, 0x100, 2, 0x4, 8, 0xFFFFFFFF, 0x0, 0x0, 0x0, 0x0, 0x0⟩,
  ⟨A.HOST_CFG, 0x0, 1, 0x0, 1, 0x17FF00, 0x8007F, 0x0, 0x0, 0x0, 0x1FFF7F⟩,
  ⟨A.HOST_STATUS, 0x0, 1, 0x0, 1, 0x0, 0x0, 0x0, 0x0, 0x0, 0x0⟩,
  ⟨A.HOST_WRES, 0x0, 1, 0x0, 1, 0x0, 0x0, 0x0, 0x0, 0x0, 0x0⟩,
  ⟨A.HOST_FLAGS, 0x0, 1, 0x0, 1, 0x0, 0x0, 0x7F, 0x0, 0x0, 0x0⟩,
  ⟨A.HOST_CNT, 0x0, 1, 0x0, 1, 0x0, 0x0, 0x0, 0xFFFFFFFF, 0x0, 0x0⟩]

/-- Registers of spec/19_register_index.md. -/
def regRows19 : List RegRow := [
  ⟨A.SYS_IDn 0, 0x4, 7, 0x0, 1, 0x0, 0x0, 0x0, 0x0, 0x0, 0x0⟩,
  ⟨A.SYS_MODE, 0x0, 1, 0x0, 1, 0x0, 0x0, 0x0, 0x0, 0x0, 0x3F00⟩,
  ⟨A.SYS_STATUS, 0x0, 1, 0x0, 1, 0x0, 0x0, 0x0, 0x0, 0x0, 0x0⟩,
  ⟨A.SYS_CFG, 0x0, 1, 0x0, 1, 0x0, 0x1, 0x0, 0x0, 0x0, 0x1⟩,
  ⟨A.SYS_SCRATCH, 0x0, 1, 0x0, 1, 0xFFFFFFFF, 0x0, 0x0, 0x0, 0x0, 0x0⟩]

/-- Every register of the host space. -/
def regRows : List RegRow :=
  regRows03 ++ regRows04 ++ regRows05 ++ regRows06 ++ regRows07 ++ regRows08 ++ regRows09 ++ regRows10 ++ regRows11 ++ regRows12 ++ regRows13 ++ regRows14 ++ regRows15 ++ regRows16 ++ regRows16a ++ regRows17 ++ regRows18 ++ regRows19

/-- The repeat indices of address `a` in a row, when it lies in the row. -/
def RegRow.find (r : RegRow) (a : Nat) : Option (Nat × Nat) :=
  if a < r.base then none else
  let o := a - r.base
  let i := if r.s1 = 0 then 0 else if r.s2 = 0 then o / r.s1 else min (o / r.s1) (r.n1 - 1)
  let o2 := o - i * r.s1
  let k := if r.s2 = 0 then 0 else o2 / r.s2
  if i < r.n1 ∧ k < r.n2 ∧ o2 = k * r.s2 then some (i, k) else none

/-- The row of the register at address `a`, with its repeat indices. -/
def regFind : List RegRow → Nat → Option (RegRow × Nat × Nat)
  | [], _ => none
  | r :: rs, a => match r.find a with
    | some (i, k) => some (r, i, k)
    | none => regFind rs a

/-- The register that the host space holds at address `a` (R24, R686). -/
def regAt (a : Nat) : Option (RegRow × Nat × Nat) := regFind regRows a

end Sys2Proof.Machine
end

