-- ==== Sys2Proof/Machine/Access.lean ====
section
/-!
DEFINITION. Sys2Proof/Machine/Access.lean: which bits of a register take a write (R24 to R27 of spec/00_scope.md, R686 to
R696 of spec/19_register_index.md), which blocks a role uses (R40), and which registers a profile section addresses (R654
of spec/17_boot_otp_update.md).
-/

namespace Sys2Proof.Machine

/-- The bits of one register by access code (R25), and those whose Reset column is BP (R27). -/
structure Masks where
  rw : Nat
  rwl : Nat
  rw1c : Nat
  rc : Nat
  wo : Nat
  bp : Nat
  deriving DecidableEq, Repr

/-- The masks of the register at `a`, with what the tables say of single repeats: marks 48-63 are RW and no mark below
them is, COMP stands in odd channels and the dead times in even ones, a reserved source ignores writes (R581), and block 16
of THERM has no KIND, IN and NTC. -/
def masksAt (a : Nat) : Option Masks :=
  (regAt a).map fun (r, i, _) =>
    let m : Masks := ⟨r.rw, r.rwl, r.rw1c, r.rc, r.wo, r.bp⟩
    if r.base = A.MARKm_CFG 0 ∨ r.base = A.MARKm_TGT 0 then
      if i < 48 then { m with rw := 0, rwl := m.rw } else { m with bp := 0 }
    else if r.base = A.PWMn_CFG 0 ∧ i % 2 = 0 then { m with rwl := m.rwl - 0x40, bp := m.bp - 0x40 }
    else if r.base = A.PWMn_DT 0 ∧ i % 2 = 1 then { m with rwl := 0, bp := 0 }
    else if r.base = A.TSc_CFG 0 ∧ i = 16 then { m with rwl := m.rwl - 0xFF, bp := m.bp - 0xFF }
    else if r.base = A.GUT_SRCn_CFG 0 ∧ reservedSource i then { m with rwl := 0 }
    else if (r.base = A.TSc_NTC 0 ∨ r.base = A.TSc_B 0) ∧ i = 16 then { m with rwl := 0, bp := 0 }
    else m

/-- The strapped role uses the block of address `a` (R38, R40, R690). -/
def Dev.blockUsed (d : Dev) (a : Nat) : Bool :=
  let conv := d.isRole .rect || d.isRole .stor || d.isRole .tray
  -- R344 answers the twin commands in every role
  if a = A.RAFTER_TWIN_CMD ∨ a = A.RAFTER_TWIN_CMD_RES then true
  else if 0x0800 ≤ a ∧ a < 0x2000 then conv
  else if 0x2C00 ≤ a ∧ a < 0x3000 then conv
  else if 0x3000 ≤ a ∧ a < 0x3400 then !d.isRole .hub
  else if 0x3800 ≤ a ∧ a < 0x3C00 then d.isRole .dist || (d.isRole .tray && a == A.BRK_OBS)
  else if 0x3C00 ≤ a ∧ a < 0x4000 then d.isRole .dist || (d.isRole .tray && decide (a < 0x3C40 ∨ 0x3E00 ≤ a))
  else if 0x4000 ≤ a ∧ a < 0x4400 then d.isRole .stor
  else if 0x6000 ≤ a ∧ a < 0x7000 then !d.isRole .tray
  else true

/-- GUT_SRCn_CFG of a reserved source: it reads 0 and ignores writes (R581). -/
def reservedCfg (a : Nat) : Bool := decide (0x4800 ≤ a ∧ a < 0x4A00 ∧ a % 4 = 0) && reservedSource ((a - 0x4800) / 4)

/-- The bits of the register at `a` that a profile run may carry (R654). -/
def profMask (a : Nat) : Nat :=
  match masksAt a with
  | some m => if reservedCfg a then m.bp else (m.rw ||| m.rwl) &&& m.bp
  | none => 0

/-- The bits that keep their value in every profile and every write: CLASS and REACT of a fixed source, and every bit of a
reserved one (R581). -/
def fixedBits (a : Nat) : Nat :=
  if reservedCfg a then 2 ^ 32 - 1
  else if 0x4800 ≤ a ∧ a < 0x4A00 ∧ a % 4 = 0 ∧ fixedSource ((a - 0x4800) / 4) then 0x1F else 0

/-- The registers that a section's runs may address (R654). -/
def inSection (id a : Nat) : Bool :=
  let r (lo hi : Nat) : Bool := decide (lo ≤ a ∧ a ≤ hi)
  let car (s : Nat) : Bool := a == A.CARs_CFG s
  match id with
  | 0x0001 => r 0x0000 0x03FF
  | 0x0002 => r 0x0400 0x07FF
  | 0x0003 => r 0x2000 0x27FF && !(List.range 12).any car
  | 0x0004 => r 0x2800 0x2BFF
  | 0x0005 => r 0x2C00 0x2FFF
  | 0x0006 => r 0x3000 0x33FF
  | 0x0007 => r 0x3400 0x37FF
  | 0x0008 => r 0x3C00 0x3FFF
  | 0x0009 => r 0x4000 0x43FF
  | 0x000A => r 0x4400 0x47FF
  | 0x000B => r 0x4800 0x4BFF
  | 0x000C => r 0x4C00 0x4FFF
  | 0x000D => r 0x6000 0x6FFF
  | 0x000E => r 0x5800 0x5BFF
  | 0x000F => r 0x5C00 0x5FFF
  | _ =>
    if 0x100 ≤ id ∧ id < 0x10C then
      r (0x1000 + 0x100 * (id - 0x100)) (0x10FF + 0x100 * (id - 0x100)) || car (id - 0x100)
        || (id == 0x100 && a == A.RAFTER_TWIN_CTRL)
    else if 0x200 ≤ id ∧ id < 0x208 then
      r (0x3800 + 0x40 * (id - 0x200)) (0x383F + 0x40 * (id - 0x200)) || (id == 0x200 && r 0x3A00 0x3A1F)
    else false

/-- The section exists (R654). -/
def sectionKnown (id : Nat) : Bool :=
  decide ((1 ≤ id ∧ id ≤ 15) ∨ (0x100 ≤ id ∧ id < 0x10C) ∨ (0x200 ≤ id ∧ id < 0x208))

end Sys2Proof.Machine
end

