-- ==== Sys2Proof/Machine/Checks.lean ====
section
/-!
DEFINITION. Sys2Proof/Machine/Checks.lean: what the spec refuses with BAD_PROFILE (R655 of spec/17_boot_otp_update.md, R689
of spec/19_register_index.md): the values that a register's table or rule marks as refused, and the rules of each chapter
over several registers. A check is judged on a state whose registers hold the values that would result.
-/

namespace Sys2Proof.Machine

/-! ## Values of one field -/

/-- The accepted ranges of a field of a register repeated `n` times `s` bytes apart. -/
structure Lim where
  fld : Fld
  s : Nat
  n : Nat
  oks : List (Nat × Nat)
  deriving DecidableEq, Repr

/-- Element `i` of a register repeated `n` times `s` bytes apart from `base`, where address `a` is one. -/
def nthAt (base s n a : Nat) : Option Nat :=
  if a < base then none
  else if s = 0 then (if a = base then some 0 else none)
  else if (a - base) % s = 0 ∧ (a - base) / s < n then some ((a - base) / s) else none

def Lim.ok (l : Lim) (a : Nat) (x : Word) : Bool :=
  match nthAt l.fld.addr l.s l.n a with
  | none => true
  | some _ => l.oks.any fun r => decide (r.1 ≤ fieldOf x l.fld.lo l.fld.w ∧ fieldOf x l.fld.lo l.fld.w ≤ r.2)

/-- Ridge, PWM array (spec/03, spec/04). -/
def limsA : List Lim := [
  ⟨R.RIDGE_CTRL_START_TMO, 0, 1, [(1, 255)]⟩, ⟨R.RIDGE_VFREQ_VFREQ, 0, 1, [(40000, 70000)]⟩,
  ⟨R.RIDGE_MAINS_CFG_VNOM, 0, 1, [(100, 1000)]⟩, ⟨R.RIDGE_LOSS_CFG_JUMP, 0, 1, [(1, 127)]⟩,
  ⟨R.PWMn_CFG_SET 0, 0x40, 32, [(0, 11), (15, 15)]⟩, ⟨R.PWMn_CFG_ALIGN 0, 0x40, 32, [(0, 2)]⟩,
  ⟨R.PWMn_CFG_SAFE 0, 0x40, 32, [(0, 2)]⟩, ⟨R.PWMn_CFG_UPD 0, 0x40, 32, [(0, 2)]⟩,
  ⟨R.PWMn_CFG_TRUNC_CMP 0, 0x40, 32, [(0, 23), (31, 31)]⟩,
  ⟨R.PWMn_DT_DT_A 0, 0x40, 32, [(0, 16384)]⟩, ⟨R.PWMn_DT_DT_B 0, 0x40, 32, [(0, 16384)]⟩,
  ⟨R.CARs_CFG_K 0, 0x40, 12, [(0, 0), (250, 14285)]⟩,
  ⟨R.BANKb_CFG_DRIVE 0, A.BANKb_CFG 1 - A.BANKb_CFG 0, 4, [(0, 2)]⟩]

/-- Sensing (spec/05). -/
def limsB : List Lim := [
  ⟨R.ADC_CTRL_REFSEL, 0, 1, [(0, 2)]⟩, ⟨R.AINn_CFG_TSRC 0, 8, 48, [(0, 3)]⟩,
  ⟨R.AINn_PL_AGE 0, 8, 48, [(1, 255)]⟩, ⟨R.AINn_PL_NFAIL 0, 8, 48, [(1, 15)]⟩,
  ⟨R.WINw_CFG_SRC 0, 8, 32, [(0, 47), (64, 71)]⟩, ⟨R.WINw_CFG_STAGE 0, 8, 32, [(0, 11), (15, 15)]⟩,
  ⟨R.WINw_CFG_NEXIT 0, 8, 32, [(1, 15)]⟩, ⟨R.WINw_CFG_NREARM 0, 8, 32, [(1, 15)]⟩,
  ⟨R.SDM_CLK_DIV0, 0, 1, [(8, 40)]⟩, ⟨R.SDM_CLK_DIV1, 0, 1, [(8, 40)]⟩,
  ⟨R.SDn_CFG_OSR 0, 0x10, 8, [(16, 256)]⟩, ⟨R.SDn_TRIG_TSRC 0, 0x10, 8, [(0, 2)]⟩,
  ⟨R.CMPc_CFG_STAGE_RT 0, 0x10, 24, [(0, 11), (15, 15)]⟩]

/-- Rafter, stages, twin (spec/06 to spec/08). -/
def limsC : List Lim := [
  ⟨R.STAGEs_LOOP_CFG_STRUCT 0, 0x100, 12, [(0, 4)]⟩, ⟨R.STAGEs_LOOP_CFG_FFM 0, 0x100, 12, [(0, 2)]⟩,
  ⟨R.STAGEs_IN_MAP0_IN0 0, 0x100, 12, [(0, 47), (64, 71), (127, 127)]⟩,
  ⟨R.STAGEs_IN_MAP0_IN1 0, 0x100, 12, [(0, 47), (64, 71), (127, 127)]⟩,
  ⟨R.STAGEs_IN_MAP0_IN2 0, 0x100, 12, [(0, 47), (64, 71), (127, 127)]⟩,
  ⟨R.STAGEs_IN_MAP0_IN3 0, 0x100, 12, [(0, 47), (64, 71), (127, 127)]⟩,
  ⟨R.STAGEs_IN_MAP1_IN4 0, 0x100, 12, [(0, 47), (64, 71), (127, 127)]⟩,
  ⟨R.STAGEs_IN_MAP1_IN5 0, 0x100, 12, [(0, 47), (64, 71), (127, 127)]⟩] ++ [
  ⟨R.STAGEs_CFG_KIND 0, 0x100, 12, [(0, 4)]⟩, ⟨R.STAGEs_CFG_DEP 0, 0x100, 12, [(0, 11), (15, 15)]⟩,
  ⟨R.STAGEs_CFG_SHARE 0, 0x100, 12, [(0, 2)]⟩, ⟨R.STAGEs_CHK_CFG_PULSE 0, 0x100, 12, [(1, 1023)]⟩,
  ⟨R.STAGEs_CHK_IN_VIN_IN 0, 0x100, 12, [(0, 47)]⟩, ⟨R.STAGEs_CHK_IN_NODE_IN 0, 0x100, 12, [(0, 47)]⟩,
  ⟨R.STAGEs_FT_FT_UP 0, 0x100, 12, [(1, 255)]⟩, ⟨R.STAGEs_FT_FT_LIM 0, 0x100, 12, [(1, 65535)]⟩,
  ⟨R.STG_SHAREg_CFG_PER 0, 0x100, 2, [(64, 65535)]⟩, ⟨R.RAFTER_TWIN_CTRL_FAIL_MAX, 0, 1, [(1, 7)]⟩]

/-- Coordination, Rinnak, branches, Batten (spec/09 to spec/12). -/
def limsD : List Lim := [
  ⟨R.COORD_CFG_ILV_GROUP, 0, 1, [(0, 7), (15, 15)]⟩, ⟨R.COORD_CFG_ILV_M, 0, 1, [(1, 15)]⟩,
  ⟨R.COORD_CAP_CFG_RELAX, 0, 1, [(1, 15)]⟩, ⟨R.COORD_CAP_CFG_CAP_TMO, 0, 1, [(1, 255)]⟩,
  ⟨R.MGR_TICK_TICK, 0, 1, [(1, 255)]⟩, ⟨R.RINNAK_CTRL_NODES, 0, 1, [(2, 32)]⟩,
  ⟨R.RINNAK_CTRL_ERR_LIM, 0, 1, [(1, 255)]⟩, ⟨R.RINNAK_CTRL_STR_LIM, 0, 1, [(1, 255)]⟩,
  ⟨R.BRn_CFG_RECL_N 0, 0x40, 8, [(1, 15)]⟩, ⟨R.BRn_SEAT_SEAT_DB 0, 0x40, 8, [(64, 65535)]⟩,
  ⟨R.BRn_PRE_PRE_WIN 0, 0x40, 8, [(64, 65535)]⟩, ⟨R.BRn_FUSE_FUSE_TH 0, 0x40, 8, [(1, 16383)]⟩,
  ⟨R.BRn_FUSE_FUSE_N 0, 0x40, 8, [(1, 255)]⟩, ⟨R.BR_SENSE_SCAN_LOG2, 0, 1, [(3, 10)]⟩,
  ⟨R.BR_SENSE_SPA_IN, 0, 1, [(24, 47)]⟩, ⟨R.BR_SENSE_SPB_IN, 0, 1, [(24, 47)]⟩,
  ⟨R.BRK_CFG_SLOT_LOG2, 0, 1, [(4, 12)]⟩]

/-- Sequencer, estimator, thermal, Gutter, Thatch, OTP, profile staging, module buses (spec/13 to spec/18). -/
def limsE : List Lim := [
  ⟨R.SEQ_CTRL_CS_MARK, 0, 1, [(0, 47)]⟩, ⟨R.SEQ_CTRL_RAMP_TMO, 0, 1, [(1, 255)]⟩,
  ⟨R.SEQ_IN_SRC_IN_AIN, 0, 1, [(0, 47)]⟩,
  ⟨R.RAILr_CFG_PG_TMO 0, A.RAILr_CFG 1 - A.RAILr_CFG 0, 16, [(1, 65535)]⟩,
  ⟨R.RSTOk_CFG_STRETCH 0, A.RSTOk_CFG 1 - A.RSTOk_CFG 0, 4, [(1, 65535)]⟩,
  ⟨R.STk_CFG_STAGE 0, A.STk_CFG 1 - A.STk_CFG 0, 6, [(0, 5)]⟩,
  ⟨R.STk_CFG_VIN 0, A.STk_CFG 1 - A.STk_CFG 0, 6, [(0, 47)]⟩,
  ⟨R.STk_CFG_IIN 0, A.STk_CFG 1 - A.STk_CFG 0, 6, [(0, 47)]⟩,
  ⟨R.STk_ANCH_N_ANCH 0, A.STk_ANCH 1 - A.STk_ANCH 0, 6, [(1, 15)]⟩,
  ⟨R.ST_CFG_EST_LOG2, 0, 1, [(6, 12)]⟩, ⟨R.ST_CFG_AGE_LIM, 0, 1, [(1, 65535)]⟩,
  ⟨R.ST_DRILL_CFG_DRILL_TMO, 0, 1, [(1, 255)]⟩] ++ [
  ⟨R.TSc_CFG_KIND 0, A.TSc_CFG 1 - A.TSc_CFG 0, 16, [(0, 2)]⟩, ⟨R.THERM_CFG_HYST, 0, 1, [(1, 255)]⟩,
  ⟨R.THERM_CFG_T_DRAIN, 0, 1, [(1, 255)]⟩, ⟨R.GUT_SRCn_CFG_REACT 0, 4, 128, [(0, 4)]⟩,
  ⟨R.TH_CTRL_FLUSH_TMO, 0, 1, [(1, 255)]⟩, ⟨R.TH_FW_HDR_CLASS, 0, 1, [(0, 2)]⟩,
  ⟨R.OTP_ADDR_MARGIN, 0, 1, [(0, 2)]⟩, ⟨R.OTP_ADDR_REGION, 0, 1, [(0, 6)]⟩, ⟨R.PROF_LEN_LEN, 0, 1, [(16, 16384)]⟩,
  ⟨R.MBb_CFG_SPEED 0, A.MBb_CFG 1 - A.MBb_CFG 0, 2, [(0, 2)]⟩,
  ⟨R.MBb_CFG_ARB_MAX 0, A.MBb_CFG 1 - A.MBb_CFG 0, 2, [(1, 15)]⟩,
  ⟨R.MBb_LEN_WLEN 0, A.MBb_LEN 1 - A.MBb_LEN 0, 2, [(0, 32)]⟩,
  ⟨R.MBb_LEN_RLEN 0, A.MBb_LEN 1 - A.MBb_LEN 0, 2, [(0, 32)]⟩]

/-- Every limited field. -/
def lims : List Lim := limsA ++ limsB ++ limsC ++ limsD ++ limsE

/-! ## Rules on one register -/

/-- An own address that R661 refuses. -/
def addrBarred (x : Nat) : Bool :=
  decide (1 ≤ x ∧ x ≤ 0x0F) || x == 0x61 || decide (0x78 ≤ x ∧ x ≤ 0x7F)

/-- A carrier ratio of R169. -/
def ratioOk (k : Nat) : Bool := decide (250 ≤ k ∧ k ≤ 14285)

/-- The trigger index of an input or demodulator: a mark 0–47, a channel 0–31, an input 0–47 (R156, R208, R236). -/
def trigIdxOk (src idx : Nat) : Bool :=
  match src with
  | 1 => decide (idx < 48)
  | 2 => decide (idx < 32)
  | 3 => decide (idx < 48)
  | _ => true

/-- Class and reaction of a Gutter source (R581): `fixedOk` for a fixed one, STAGE_STOP only for EV032–EV043. -/
def gutSrcOk (ev cls react : Nat) : Bool :=
  if fixedSource ev then (cls == 0 && react == 0) || (cls == defClass ev && react == (defReact ev).code)
  else react != 2 || decide (32 ≤ ev ∧ ev ≤ 43)

/-- The rules on the fields of one register that are no plain range: `x` is the word at `a`, `d` gives the role. -/
def Dev.rowRule (d : Dev) (a : Nat) (x : Word) : Bool :=
  let f (g : Fld) : Nat := fieldOf x g.lo g.w
  if a = A.RIDGE_LOSS_CFG then decide (f R.RIDGE_LOSS_CFG_AMP_LOSS < f R.RIDGE_LOSS_CFG_AMP_OK)
  else if (nthAt (A.MARKm_CFG 0) 8 64 a).isSome then
    decide (f (R.MARKm_CFG_PHASE 0) ≤ f (R.MARKm_CFG_PERIOD_M1 0))
  else if (nthAt (A.AINn_CFG 0) 8 48 a).isSome then trigIdxOk (f (R.AINn_CFG_TSRC 0)) (f (R.AINn_CFG_TIDX 0))
  else if (nthAt (A.SDn_TRIG 0) 0x10 8 a).isSome then trigIdxOk (f (R.SDn_TRIG_TSRC 0)) (f (R.SDn_TRIG_TIDX 0))
  else if (nthAt (A.STAGEs_OUT_MAP 0) 0x100 12 a).isSome then
    (List.range 8).all fun i => fieldOf x (2 * i) 2 != 3
  else if (nthAt (A.STAGEs_WINACT0 0) 0x100 12 a).isSome || (nthAt (A.STAGEs_WINACT1 0) 0x100 12 a).isSome then
    (List.range 16).all fun i => fieldOf x (2 * i) 2 != 3
  else if a = A.COORD_CFG then f R.COORD_CFG_ILV_GROUP == 15 || ratioOk (f R.COORD_CFG_ILV_K)
  else if a = A.MGR_KRS then decide (0 ≤ (Bf.ofWord (f R.MGR_KRS_VALUE)).m)
  else if a = A.MGR_GTMAX then decide (0 ≤ (Bf.ofWord (f R.MGR_GTMAX_VALUE)).m)
  else if (nthAt (A.STk_ICHG 0) (A.STk_ICHG 1 - A.STk_ICHG 0) 6 a).isSome then
    decide (0 ≤ (Bf.ofWord (f (R.STk_ICHG_VALUE 0))).m)
  else if (nthAt (A.BRn_CFG 0) 0x40 8 a).isSome then
    f (R.BRn_CFG_USE 0) == 0 || f (R.BRn_CFG_LEG_A 0) == 1 || f (R.BRn_CFG_LEG_B 0) == 1
  else if a = A.BR_SENSE then f R.BR_SENSE_SPA_IN != f R.BR_SENSE_SPB_IN
  else if a = A.BR_SPINE_WIN then decide (f R.BR_SPINE_WIN_SP_LO ≤ f R.BR_SPINE_WIN_SP_HI)
  else if a = A.BT_CFG then !d.isRole .dist || f R.BT_CFG_BR_MAX != 0
  else if a = A.BT_SINK_REQ then decide (f R.BT_SINK_REQ_P_MIN ≤ f R.BT_SINK_REQ_P_REQ)
  else if (nthAt (A.TSc_CFG 0) (A.TSc_CFG 1 - A.TSc_CFG 0) 16 a).isSome then
    match f (R.TSc_CFG_KIND 0) with
    | 1 => decide (f (R.TSc_CFG_IN 0) < 48)
    | 2 => decide (f (R.TSc_CFG_IN 0) < 4)
    | _ => true
  else match nthAt (A.GUT_SRCn_CFG 0) 4 128 a with
    | some ev => gutSrcOk ev (f (R.GUT_SRCn_CFG_CLASS 0)) (f (R.GUT_SRCn_CFG_REACT 0))
    | none =>
      if (nthAt (A.MBb_CFG 0) (A.MBb_CFG 1 - A.MBb_CFG 0) 2 a).isSome then
        !addrBarred (f (R.MBb_CFG_OWN 0)) && (f (R.MBb_CFG_SPEED 0) != 2 || f (R.MBb_CFG_PROF 0) == 1)
      else if a = A.HOST_CFG then
        let p := f R.HOST_CFG_ADDR
        let q := f R.HOST_CFG_SLEEP_ADDR
        !addrBarred p && !addrBarred q && (if p = 0 then 0x58 else p) != (if q = 0 then 0x59 else q)
      else if (nthAt (A.STAGEs_SS_VMAX 0) 0x100 12 a).isSome then
        decide (0 < (Bf.ofWord (f (R.STAGEs_SS_VMAX_VALUE 0))).m)
      else if a = A.RIDGE_CTRL then
        !(d.isRole .tray && f R.RIDGE_CTRL_FEED == 0) && !(f R.RIDGE_CTRL_FEED == 1 && f R.RIDGE_CTRL_MAINS_EN == 1)
      else true

/-- The register at `a` may hold `x`, by its table and by the rules on its own fields; a reserved source has none (R581). -/
def Dev.rowOk (d : Dev) (a : Nat) (x : Word) : Bool := reservedCfg a || (lims.all (fun l => l.ok a x) && d.rowRule a x)

/-! ## Rules over several registers -/

/-- The stages that a role has (R38, R166). -/
def Dev.stageCount (d : Dev) : Nat :=
  match d.role with
  | some .rect => 12
  | some .stor => 6
  | some .tray => 4
  | _ => 0

/-- The registers that the checks judge whether or not a run names them: a field that no run names is 0, and the checks judge
that 0 (R655). They are those with fields of a profile in the blocks that the role uses, and of the stages that it has. -/
def Dev.judged (d : Dev) : List Nat :=
  ((List.range 0x1C00).map (4 * ·)).filter fun a => profMask a != 0 && d.blockUsed a
    && !(decide (0x1000 ≤ a) && decide (a < 0x1C00) && decide (d.stageCount ≤ (a - 0x1000) / 0x100))

/-- The stages that the checks judge: those that the role has, and any other that is given a structure or a kind. -/
def Dev.judgedStages (d : Dev) : List Nat :=
  idxs 12 fun s => decide (s < d.stageCount) || d.struct s != stOff || d.kind s != kNone

/-- RIDGE (R123). -/
def Dev.checkRidge (d : Dev) : Bool :=
  let ac := !d.feedDc
  let mgr := d.on R.RINNAK_NODE_MGR && !d.isRole .tray
  !(ac && !d.on R.RIDGE_CTRL_MAINS_EN && (d.isRole .rect || (d.isRole .hub && d.standalone) || mgr))

/-- Channel `n` names a set. -/
def Dev.inSet (d : Dev) (n : Nat) : Bool := d.get (R.PWMn_CFG_SET n) != 15

/-- The safe level of channel `n` is its active level. -/
def Dev.safeActive (d : Dev) (n : Nat) : Bool :=
  d.get (R.PWMn_CFG_SAFE n) == (if d.on (R.PWMn_CFG_POL n) then 0 else 1)

/-- PWM (R81, R166, R197). -/
def Dev.checkPwm (d : Dev) : Bool :=
  ((List.range 12).all fun s => decide ((d.phaseSet s).length ≤ 8))
    && ((List.range 32).all fun n =>
      let s := d.get (R.PWMn_CFG_SET n)
      !d.inSet n || (decide (s < d.stageCount) && d.ratio s != 0))
    && ((List.range 16).all fun i =>
      !d.isComp (2 * i + 1) ||
        (d.get (R.PWMn_CFG_SET (2 * i)) == d.get (R.PWMn_CFG_SET (2 * i + 1))
          && !(d.safeActive (2 * i) && d.safeActive (2 * i + 1))))
    && (d.stageCount != 0 || (List.range 12).all fun s => d.ratio s == 0)
    && !(d.isRole .dist && (List.range 4).any fun b => d.on (R.BANKb_CFG_MODE b))

/-- The chain of CHAIN triggers from input `n` ends within `fuel` links (R210). -/
def Dev.chainEnds (d : Dev) : Nat → Nat → Bool
  | 0, _ => false
  | fuel + 1, n => d.get (R.AINn_CFG_TSRC n) != 3 || d.chainEnds fuel (d.get (R.AINn_CFG_TIDX n))

/-- The channel of a CARRIER trigger has a running set (R210). -/
def Dev.carrierOk (d : Dev) (n : Nat) : Bool :=
  match d.setOf n with
  | none => false
  | some s => d.ratio s != 0

/-- Inputs that a scan converts (R450, R543, R567). -/
def Dev.scanned (d : Dev) (n : Nat) : Bool := (d.scanRate n).1 != 0

/-- ADC (R210, R220, R227, R450, R543, R567). -/
def Dev.checkAdc (d : Dev) : Bool :=
  ((List.range 48).all fun n =>
    (d.get (R.AINn_CFG_TSRC n) != 2 || d.carrierOk (d.get (R.AINn_CFG_TIDX n)))
      && d.chainEnds 49 n && rateAtMost (d.trigRate 49 n) 5000000
      && !(d.scanned n && d.get (R.AINn_CFG_TSRC n) != 0))
    && ((List.range 4).all fun p =>
      rateAtMost (d.pairRate p) 8000000
        && (!d.doubled p || (pairOf (d.dblInput p) == p
          && (List.range 12).all fun k => 12 * p + k == d.dblInput p || d.get (R.AINn_CFG_TSRC (12 * p + k)) == 0)))
    && ((List.range 32).all fun w =>
      if 64 ≤ d.get (R.WINw_CFG_SRC w) then decide (d.getS (R.WINw_LIM_LO w) ≤ d.getS (R.WINw_LIM_HI w))
      else decide (d.get (R.WINw_LIM_LO w) ≤ d.get (R.WINw_LIM_HI w)))

/-- SDM (R84, R239): in DIST and HUB no demodulator and no clock output is on. -/
def Dev.checkSdm (d : Dev) : Bool :=
  !((d.isRole .dist || d.isRole .hub)
    && ((List.range 8).any (fun n => d.on (R.SDn_CFG_EN n)) || d.on R.SDM_CLK_EN0 || d.on R.SDM_CLK_EN1))

/-- CMP (R241, R242, R245). DSRC = 1 names a VI stage with CREF_EN = 1: without it the stage forms no comparator reference (DESIGN
CHOICE, log entry 350). -/
def Dev.checkCmp (d : Dev) : Bool :=
  (List.range 24).all fun c =>
    let st := d.get (R.CMPc_CFG_STAGE c)
    (!d.on (R.CMPc_CFG_DSRC c) || (decide (st < 12) && d.struct st == stVi && d.on (R.STAGEs_LOOP_CFG_CREF_EN st)))
      && !(d.on (R.CMPc_CFG_SLOPE_EN c) && d.on (R.CMPc_CFG_POL c))
      && !(d.isRole .dist && (d.on (R.CMPc_CFG_DSRC c) || d.on (R.CMPc_CFG_SLOPE_EN c)
        || d.get (R.CMPc_CFG_STAGE_RT c) != 15))

/-- SEQ (R523). -/
def Dev.checkSeq (d : Dev) : Bool :=
  decide (d.get R.SEQ_INPUT_STOP_TH < d.get R.SEQ_INPUT_RIDE_TH)
    && (!d.on R.SEQ_CTRL_IN_EN ||
      ((d.isRole .dist || d.get (R.AINn_CFG_TSRC (d.get R.SEQ_IN_SRC_IN_AIN)) != 0) && !(d.isRole .stor || d.isRole .hub)))

/-- STORE (R542, R556). The cases of R556 are those of every string, enabled or not. -/
def Dev.checkStore (d : Dev) : Bool :=
  ((idxs 6 fun k => d.on (R.STk_CFG_EN k)).all fun k =>
    d.isRole .stor
      && d.kind (d.get (R.STk_CFG_STAGE k)) == kBuckboost
      && ((List.range 6).all fun j => j == k || !d.on (R.STk_CFG_EN j)
        || d.get (R.STk_CFG_STAGE j) != d.get (R.STk_CFG_STAGE k))
      && d.get (R.STk_CFG_VIN k) != d.get (R.STk_CFG_IIN k))
    && (!d.isRole .stor || (List.range 6).all fun k =>
      decide (d.get (R.STk_VEND_V_EOD k) < d.get (R.STk_VEND_V_EOC k))
        && decide (d.get (R.STk_VABS_V_LO k) < d.get (R.STk_VABS_V_HI k))
        && decide (50 ≤ d.getS (R.STk_TEMP_CHG_THI k) - d.getS (R.STk_TEMP_CHG_TLO k))
        && d.on (R.STk_ANCH_N_ANCH k) && d.on (R.STk_ANCH_RECHG k) && d.on (R.STk_ANCH_REDIS k)
        && d.on (R.STk_CUR_STEP_MIN k) && d.on (R.STk_CNOM_VALUE k) && d.on (R.STk_RNOM_R k))

/-- Uses of AIN balls by stages, their checks, and branches (R84). -/
def Dev.senseInputs (d : Dev) : List Nat :=
  ((idxs 12 fun s => d.struct s != stOff).flatMap fun s =>
    ((d.usedSlots s).map (d.slot s))
      ++ (if d.on (R.STAGEs_CHK_CFG_VIN_EN s) then [d.get (R.STAGEs_CHK_IN_VIN_IN s)] else [])
      ++ (if d.on (R.STAGEs_CHK_CFG_NODE_EN s) then [d.get (R.STAGEs_CHK_IN_NODE_IN s)] else []))
    ++ (if d.isRole .dist then d.scanInputs else [])

/-- Uses of AIN balls by strings. -/
def Dev.stringInputs (d : Dev) : List Nat :=
  (idxs 6 fun k => d.strOn k).flatMap fun k => [d.get (R.STk_CFG_VIN k), d.get (R.STk_CFG_IIN k)]

/-- Uses of AIN balls by thermistors. -/
def Dev.ntcInputs (d : Dev) : List Nat := (idxs 16 fun c => d.tsKind c == 1).map fun c => d.get (R.TSc_CFG_IN c)

/-- No ball serves two of the three uses (R84). -/
def Dev.checkBalls (d : Dev) : Bool :=
  let a := d.senseInputs
  let b := d.stringInputs
  let c := d.ntcInputs
  !(a.any b.contains) && !(a.any c.contains) && !(b.any c.contains)

/-- THERM (R84, R567, R570). -/
def Dev.checkTherm (d : Dev) : Bool := ((List.range 17).all fun c => ordered (d.limits c)) && d.checkBalls

/-- THATCH (R610, R638). -/
def Dev.checkThatch (d : Dev) : Bool :=
  !d.on R.TH_CTRL_NVM_EN ||
    (d.get R.TH_NVM_BASE_BASE % 65536 == 0 && decide (0x210000 ≤ d.get R.TH_NVM_BASE_BASE)
      && decide (2 ≤ d.sectors .lg) && decide (d.sectors .lg + d.sectors .hi + d.sectors .lo ≤ 8192))

/-- NET (R56, R408, R414, R415, R446). -/
def Dev.checkNet (d : Dev) : Bool :=
  let id := d.get R.RINNAK_NODE_NODE_ID
  let mgr := d.on R.RINNAK_NODE_MGR
  let mask := d.get R.RINNAK_FOREIGN_MASK
  if d.isRole .tray then !mgr
  else decide (id < d.nodes) && (mgr == decide (id < 2))
    && !tbit mask 0 && !tbit mask 1 && decide (mask < 2 ^ d.nodes) && decide (168 ≤ planMin d.nodes mask)

/-! ## Stages -/

/-- Result rate of an input at 70 Hz, as a fraction per second (R210, R287). -/
def Dev.resultRate (d : Dev) (src : Nat) : Nat × Nat :=
  if src < 64 then d.trigRate 49 src
  else
    let n := src - 64
    let idx := d.get (R.SDn_TRIG_TIDX n)
    match d.get (R.SDn_TRIG_TSRC n) with
    | 0 => (200000000, d.get (if d.on (R.SDn_CFG_CLKSEL n) then R.SDM_CLK_DIV1 else R.SDM_CLK_DIV0)
        * d.get (R.SDn_CFG_OSR n))
    | 1 => (70, d.get (R.MARKm_CFG_PERIOD_M1 idx) + 1)
    | _ => match d.setOf idx with
      | some c => (d.ratio c * 70, d.get (R.SDn_TRIG_CDIV n) + 1)
      | none => (0, 1)

/-- The smaller of two fractions. -/
def minRate (a b : Nat × Nat) : Nat × Nat := if a.1 * b.2 ≤ b.1 * a.2 then a else b

/-- The update rate n of R287, as a fraction: the lowest among the wait inputs. -/
def Dev.updateRate (d : Dev) (s : Nat) : Nat × Nat :=
  match (idxs 6 fun i => tbit (d.get (R.STAGEs_LOOP_CFG_WAIT s)) i).map fun i => d.resultRate (d.slot s i) with
  | [] => (0, 1)
  | x :: l => l.foldl minRate x

/-- The load L of R288 in slots per second, as a fraction. -/
def Dev.engineLoad (d : Dev) : Nat × Nat :=
  d.loopStages.foldl (fun (a : Nat × Nat) s =>
    let r := d.updateRate s
    (a.1 * r.2 + 2 * d.occupancy s * r.1 * a.2, a.2 * r.2)) (0, 1)

/-- The latency bound E of R288 in ns. -/
def Dev.engineBound (d : Dev) : Nat :=
  let os := d.loopStages.map d.occupancy
  5 * (os.sum + os.foldl max 0 + 6)

/-- A coefficient within a range. -/
def Bf.within (x : Bf) (lo hi : Dy) : Bool := lo.le x.val && x.val.le hi

/-- The configuration rules on the loop of stage `s` (R259–R261, R266–R276, R283). What a rule says of the chains, the slots and
the wait mask holds for a structure; FRZ_B lies in chain B where there is one. A used slot that is mapped as unused is refused
(DESIGN CHOICE, log entry 338). -/
def Dev.checkLoop (d : Dev) (s : Nat) : Bool :=
  let st := d.struct s
  let na := d.get (R.STAGEs_LOOP_CFG_NA s) + 1
  let nb := d.get (R.STAGEs_LOOP_CFG_NB s)
  let iff := d.on (R.STAGEs_LOOP_CFG_IFF_EN s)
  let ffm := d.get (R.STAGEs_LOOP_CFG_FFM s)
  let wait := d.get (R.STAGEs_LOOP_CFG_WAIT s)
  let used := d.usedSlots s
  let c := d.coef s
  let le (i j : Nat) : Bool := (c i).val.le (c j).val
  let pos (b : Bf) : Bool := decide (0 < b.m)
  let zOk (i : Nat) : Bool :=
    let v := (c (cZ i)).val
    let z := v.rneAt 0
    v.le (Dy.ofInt z) && (Dy.ofInt z).le v && decide (-131072 ≤ z ∧ z ≤ 131071)
  let one := Dy.ofInt 1
  let half : Dy := ⟨1, -1⟩
  let chains := match st with
    | 0 => true
    | 1 => nb == 0
    | 2 => decide (na ≤ 3) && decide (1 ≤ nb)
    | 3 => decide (na ≤ 3) && nb == 1
    | _ => nb == 0
  let slots := used.all fun i =>
    let src := d.slot s i
    (src != 127) && (if src < 64 then d.get (R.AINn_CFG_TSRC src) != 0 else d.on (R.SDn_CFG_EN (src - 64)))
  let range := if st == stOff then true
    else if st == stDab then
      Dy.le half.neg (c cUmin).val && (c cUmax).val.lt half && (c cUmin).val.lt half && Dy.le half.neg (c cUmax).val
    else (c cUmin).within Dy.zero one && (c cUmax).within Dy.zero one
  (st == stOff || decide (s < d.stageCount)) && chains && decide (na + nb ≤ 4)
    && decide (d.get (R.STAGEs_LOOP_CFG_FRZ_A s) < na)
    && (if nb = 0 then !d.on (R.STAGEs_LOOP_CFG_FRZ_B_EN s)
      else decide (na ≤ d.get (R.STAGEs_LOOP_CFG_FRZ_B s) ∧ d.get (R.STAGEs_LOOP_CFG_FRZ_B s) < na + nb))
    && !(st == stCascade && (ffm != 0 || iff)) && !((st == stPfc || st == stDab) && ffm != 0)
    && !(d.on (R.STAGEs_LOOP_CFG_DROOP_EN s) && (st == stCascade || st == stPfc))
    && !(d.on (R.STAGEs_LOOP_CFG_CREF_EN s) && st != stVi)
    && !(st == stPfc && !d.on R.RIDGE_CTRL_MAINS_EN)
    && (st == stPfc || d.get (R.STAGEs_OUT_MAP_MAP s) == 0)
    && (st == stOff || (wait != 0 && (List.range 6).all fun i => !tbit wait i || used.contains i))
    && slots && (List.range 6).all zOk
    && le cUmin cUmax && le cRmin cRmax && le cSpMin cSpMax && range
    && (c cDfix).within Dy.zero one && pos (c cXmin)
    && (c cSpMin).val.le (d.spTarget s).val && (d.spTarget s).val.le (c cSpMax).val
    && (d.trimWord s).val.abs.le (c cTrimMax).val && (c cRmin).val.le (d.capWord s).val
    && pos (Bf.ofWord (d.get (R.STAGEs_SP_VMAX_VALUE s))) && pos (Bf.ofWord (d.get (R.STAGEs_SP_AMAX_VALUE s)))
    && pos (Bf.ofWord (d.get (R.STAGEs_SP_JMAX_VALUE s)))

/-- Kind, structure, role and stage number agree (R296). -/
def Dev.kindOk (d : Dev) (s : Nat) : Bool :=
  let st := d.struct s
  match d.kind s with
  | 0 => st == stOff
  | 1 => st == stPfc && d.isRole .rect && decide (s < 6)
  | 2 => st == stDab && d.isRole .rect && decide (6 ≤ s)
  | 3 => st == stVi && d.isRole .stor && decide (s < 6)
  | 4 => st == stDab && d.isRole .tray && decide (s < 4)
  | _ => false

/-- The set of stage `s` has a size that R296 allows, and its channels stand in the order and with the COMP and SHIFT_EN
that R296 gives. -/
def Dev.setOk (d : Dev) (s : Nat) : Bool :=
  let l := d.phaseSet s
  let n := l.length
  let pairs := (List.range (n / 2)).all fun i =>
    l.getD (2 * i) 0 % 2 == 0 && l.getD (2 * i + 1) 0 == l.getD (2 * i) 0 + 1 && d.isComp (l.getD (2 * i + 1) 0)
  let shifts (w : Nat) : Bool := (List.range n).all fun i =>
    d.on (R.PWMn_CFG_SHIFT_EN (l.getD i 0)) == decide (w / 2 ≤ i % w)
  match d.kind s with
  | 0 => n == 0
  | 1 => (n == 3 || n == 6) && l.all fun c => !d.isComp c
  | 2 => n == 8 && pairs && shifts 8
  | 3 => [2, 4, 6, 8].contains n && pairs
  | 4 => (n == 4 || n == 8) && pairs && shifts 4
  | _ => false

/-- The DEP chain from stage `s` ends (R299). -/
def Dev.depEnds (d : Dev) : Nat → Nat → Bool
  | 0, _ => false
  | fuel + 1, s =>
    let t := d.get (R.STAGEs_CFG_DEP s)
    t == 15 || (d.kind t != kNone && d.depEnds fuel t)

/-- The trigger interval of an AIN input in reeds, rounded up (R308). -/
def Dev.trigReeds (d : Dev) : Nat → Nat → Nat
  | 0, _ => 0
  | fuel + 1, n =>
    let idx := d.get (R.AINn_CFG_TIDX n)
    match d.get (R.AINn_CFG_TSRC n) with
    | 1 => (d.get (R.MARKm_CFG_PERIOD_M1 idx) + 1) * 65536
    | 2 => match d.setOf idx with
      | some s => if d.ratio s = 0 then 0 else (65536 * (d.get (R.AINn_CFG_CDIV n) + 1) + d.ratio s - 1) / d.ratio s
      | none => 0
    | 3 => d.trigReeds fuel idx
    | _ => 0

/-- T_TRY of R322 in reeds. -/
def Dev.tryReeds (d : Dev) (s : Nat) : Nat :=
  let k := d.ratio s
  let p := if k = 0 then 0 else (65536 + k - 1) / k
  let pr (en f : Fld) : Nat := if d.on en then d.trigReeds 49 (d.get f) else 0
  let r := max (pr (R.STAGEs_CHK_CFG_VIN_EN s) (R.STAGEs_CHK_IN_VIN_IN s))
    (pr (R.STAGEs_CHK_CFG_NODE_EN s) (R.STAGEs_CHK_IN_NODE_IN s))
  let np := (idxs 8 fun i => tbit (d.get (R.STAGEs_CHK_IN_MASK s)) i).length
  d.get (R.STAGEs_CHK_CFG_SETTLE s) + r + (2 * np + 2) * p
    + reeds (d.get (R.STAGEs_SS_TMO_TURN s)) (d.get (R.STAGEs_SS_TMO_REED s))

/-- The supervisor rules on stage `s` (R299, R309, R318, R322, R323, R330). -/
def Dev.checkStage (d : Dev) (s : Nat) : Bool :=
  let k := d.kind s
  let set := d.phaseSet s
  let inOk (en f : Fld) : Bool := !d.on en || (decide (d.get f < 48) && d.get (R.AINn_CFG_TSRC (d.get f)) != 0)
  let mask := d.get (R.STAGEs_CHK_IN_MASK s)
  let win := (List.range 32).all fun w => d.winAct s w == 0 || d.get (R.WINw_CFG_STAGE w) == s
  let dep := d.get (R.STAGEs_CFG_DEP s)
  let shed := d.get (R.STAGEs_SHED_SHED_TH s)
  let burst := d.get (R.STAGEs_BURST_BURST_IN s)
  d.kindOk s && d.setOk s && win
    && (k == kNone || k == kVienna || d.slot s 1 != 127)
    && dep != s && d.depEnds 13 s
    && inOk (R.STAGEs_CHK_CFG_VIN_EN s) (R.STAGEs_CHK_IN_VIN_IN s)
    && inOk (R.STAGEs_CHK_CFG_NODE_EN s) (R.STAGEs_CHK_IN_NODE_IN s)
    && ((List.range 8).all fun i => !tbit mask i
      || (decide (i < set.length) && d.get (R.PWMn_CFG_TRUNC_CMP (set.getD i 0)) != 31))
    && decide (63 * d.tryReeds s ≤ reeds (d.get (R.STAGEs_RETRY_TURN s)) (d.get (R.STAGEs_RETRY_REED s)))
    && (shed == 0 || ((k == kBuckboost || k == kTrayconv) && decide (2 ≤ d.nph s)
      && decide (shed < d.get (R.STAGEs_SHED_ADD_TH s))))
    && (k == kNone || decide (1 ≤ d.get (R.STAGEs_CFG_NMIN s) ∧ d.get (R.STAGEs_CFG_NMIN s) ≤ d.nph s))
    && (burst == 0 || k != kVienna) && decide (burst < d.get (R.STAGEs_BURST_BURST_OUT s))
    && decide (d.get (R.STAGEs_WAKE_WAKE_LO s) < d.get (R.STAGEs_WAKE_WAKE_HI s))

/-- Stage `s` may be a member of share group `g` beside `t` (R336), and GROUP_TRIM lies within its TRIM_MAX (R339). -/
def Dev.memberOk (d : Dev) (g s t : Nat) : Bool :=
  d.kind s != kVienna && !d.on (R.STAGEs_LOOP_CFG_NEG s) && d.kind s == d.kind t
    && (Bf.ofWord (d.get (R.STG_SHAREg_TRIM_VALUE g))).val.abs.le (d.coef s cTrimMax).val

/-- The rules on share group `g` (R336, R339): where one fails, the member that fails it, or 15 for an enabled group with fewer than
two members. -/
def Dev.shareFails (d : Dev) (g : Nat) : Option Nat :=
  let l := d.shareMembers g
  (l.find? fun s => !d.memberOk g s (l.getD 0 0)).or
    (if d.on (R.STG_SHAREg_CFG_EN g) && decide (l.length < 2) then some 15 else none)

/-- Why a STAGE section is refused (R288, RAFTER_ADMIT): the section, the stage (15 for none) and the reason; none when it is
admitted. -/
def Dev.admission (d : Dev) : Option (Nat × Nat × Nat) :=
  match d.judgedStages.find? fun s => !d.checkLoop s || !d.checkStage s with
  | some s => some (0x100 + s, s, 4)
  | none =>
    match (List.range 2).findSome? fun g => (d.shareFails g).map fun s => (0x100 + g, s, 4) with
    | some x => some x
    | none =>
      match d.loopStages.find? fun s => !rateAtMost (d.updateRate s) 1000000 with
      | some s => some (0x100 + s, s, 2)
      | none =>
        if !rateAtMost d.engineLoad 360000000 then some (0x100, 15, 1)
        else if 1435 < d.engineBound then some (0x100, 15, 3)
        else none

/-- BRANCH[n] (R84, R463): only in the DIST role do the balls of a branch serve it. -/
def Dev.checkBranch (d : Dev) (n : Nat) : Bool :=
  if d.isRole .dist then
    decide (126 * d.get (R.BRn_PRE_PRE_WIN n) ≤ reeds (d.get (R.BRn_RETRY_TURN n)) (d.get (R.BRn_RETRY_REED n)))
  else !d.on (R.BRn_CFG_USE n)

/-! ## All checks -/

/-- Sections that the rules over several registers belong to, with their outcome, in ascending order of ID (R654). -/
def Dev.crossChecks (d : Dev) : List (Nat × Bool) :=
  let stages := match d.admission with
    | none => (0x100, true)
    | some (sec, _) => (sec, false)
  [(0x0002, d.checkRidge), (0x0003, d.checkPwm), (0x0004, d.checkAdc), (0x0005, d.checkSdm), (0x0006, d.checkCmp),
    (0x0007, d.checkSeq), (0x0009, d.checkStore), (0x000A, d.checkTherm), (0x000C, d.checkThatch), (0x000D, d.checkNet),
    stages] ++ (List.range 8).map fun n => (0x0200 + n, d.checkBranch n)

end Sys2Proof.Machine
end

