-- ==== Sys2Proof/Machine/Otp.lean ====
section
/-!
DEFINITION. Sys2Proof/Machine/Otp.lean: the fuse array, its shadow, the regions and their use, programming, the
anti-rollback thermometer, the locks and the JTAG instruction (R621 to R636 of spec/17_boot_otp_update.md).
-/

namespace Sys2Proof.Machine

/-! ## Words of the array (R621, R624) -/

def fuseData (f : FuseWord) : Word := f.extractLsb' 0 32
def fuseEcc (f : FuseWord) : BitVec 7 := f.extractLsb' 32 7

def blankCell : FuseCell := ⟨0, 0, 0⟩

def Dev.fuse (d : Dev) (a : Nat) : FuseCell := sread blankCell d.otp a

/-- The data of a word after correction of at most one bit, and whether it was corrected; none when it cannot be. -/
def secded (f : FuseWord) : Option (Word × Bool) :=
  let x := fuseData f
  if eccOf x = fuseEcc f then some (x, false)
  else match (List.range 39).find? fun i =>
      let g := f ^^^ BitVec.twoPow 39 i
      eccOf (fuseData g) = fuseEcc g with
    | some i => some (fuseData (f ^^^ BitVec.twoPow 39 i), true)
    | none => none

/-- Words that the array has; the others read 0. -/
def otpWords : Nat := 0x150

/-- The first word of the thermometer, and the lock word (R621). -/
def thermoWord : Nat := 0x149
def lockWord : Nat := 0x14F

/-- What the shadow takes from a word (R624, R631). -/
def shadowOf (a : Nat) (c : FuseCell) : ShadowWord :=
  let marginal := c.normal != c.blank || c.normal != c.prog
  if thermoWord ≤ a then ⟨fuseData c.normal, marginal, false, false⟩
  else match secded c.normal with
    | some (x, corr) => ⟨x, marginal, corr, false⟩
    | none => ⟨fuseData c.normal, marginal, false, true⟩

def blankShadow : ShadowWord := ⟨0, false, false, false⟩

def Dev.shadow (d : Dev) (a : Nat) : ShadowWord := sread blankShadow d.boot.shadow a

def Dev.modBoot (d : Dev) (f : Boot → Boot) : Dev := { d with boot := f d.boot }

/-- A write other than that of the key to OTP_ARM disarms the OTP commands (R626). -/
def Dev.disarm (d : Dev) : Dev := d.modBoot fun b => { b with armed := false }

def Dev.setShadow (d : Dev) (a : Nat) (s : ShadowWord) : Dev :=
  d.modBoot fun b => { b with shadow := swrite blankShadow b.shadow a s }

/-- Logical bit `i` of a string of fuses that begins at word `a`: the majority of three (R631). -/
def Dev.majority (d : Dev) (a i : Nat) : Bool :=
  let bit (p : Nat) : Nat := if (d.shadow (a + p / 32)).data.getLsbD (p % 32) then 1 else 0
  decide (2 ≤ bit (3 * i) + bit (3 * i + 1) + bit (3 * i + 2))

/-- Lock bit `i` (R633): 0-6 regions, 7 DEBUG_LOCK. -/
def Dev.lockBit (d : Dev) (i : Nat) : Bool := d.majority lockWord i

/-- SV_F (R632). -/
def Dev.svFused (d : Dev) : Nat :=
  ((List.range 64).find? fun i => !d.majority thermoWord i).getD 64

/-! ## Regions (R622, R623) -/

/-- First word and count of data words of a lockable region; its CRC follows them. -/
def regionWords (r : Nat) : Nat × Nat :=
  match r with
  | 0 => (0x000, 0x00F)
  | 1 => (0x010, 0x02F)
  | 6 => (0x140, 8)
  | _ => (0x040 + 64 * (r - 2), 63)

/-- The region that a word belongs to; 7 for none. -/
def regionAt (a : Nat) : Nat :=
  if a < 0x10 then 0 else if a < 0x40 then 1 else if a < 0x140 then 2 + (a - 0x40) / 64 else if a < 0x149 then 6 else 7

/-- Data words of a region in the shadow. -/
def Dev.regionData (d : Dev) (r : Nat) : List Word :=
  let (a, n) := regionWords r
  (List.range n).map fun i => (d.shadow (a + i)).data

/-- The CRC word is present and matches. -/
def Dev.regionCrc (d : Dev) (r : Nat) : Bool :=
  let (a, n) := regionWords r
  let c := (d.shadow (a + n)).data
  c != 0 && c.toNat == crc32 ((d.regionData r).flatMap fun w => leBytes 4 w.toNat)

/-- State of a region: 0 BLANK, 1 OPEN, 2 COMPLETE, 3 SEALED_INCOMPLETE. -/
def Dev.regionState (d : Dev) (r : Nat) : Nat :=
  let (a, n) := regionWords r
  if d.lockBit r then (if d.regionCrc r then 2 else 3)
  else if (d.regionData r).all (· == 0) && (d.shadow (a + n)).data == 0 then 0 else 1

/-- A region's state as the last BOOT found it (R628). -/
def Dev.region (d : Dev) (r : Nat) : Nat := d.get (R.OTP_STATUS_REGION.part (2 * r) 2)

/-! ## Step 1 of R617 -/

/-- Gain, offset and mains gain of the generation in use, or the nominal constants (R629, R630). -/
def Dev.takeCalibration (d : Dev) (g : Option Nat) : Dev :=
  let w (o : Nat) : Word := match g with
    | some g => (d.shadow (0x40 + 64 * g + o)).data
    | none => 0
  let gain (o : Nat) : Nat := if g.isSome then (w o).toNat else 0x40000000
  { d with sense := { d.sense with
      otpGain := (List.range 8).map fun c => gain (1 + 2 * c)
      otpOffset := (List.range 8).map fun c => (w (2 + 2 * c)).toInt
      otpMains := (List.range 3).map fun k => gain (17 + k) } }

/-- The generation in use (R630). -/
def Dev.generation (d : Dev) : Option Nat :=
  ((List.range 4).reverse).find? fun g => d.region (2 + g) == 2 && fieldOf (d.shadow (0x40 + 64 * g)).data 0 16 == 1

/-- KEYSTATE of R636. -/
def Dev.keyState (d : Dev) : Nat :=
  match d.region 6 with
  | 2 => 1
  | 3 => 2
  | _ => 0

/-- The fuse read at three margins, the evaluation of the regions and what it raises (R622-R624, R630, R636); the
MARGINAL event comes at the end of BOOT. -/
def Dev.otpRead (d : Dev) : Dev :=
  let cells := d.otp.filter fun c => decide (c.1 < otpWords)
  let d := d.modBoot fun b => { b with shadow := cells.foldl (fun m c => swrite blankShadow m c.1 (shadowOf c.1 c.2)) [] }
  let count (p : ShadowWord → Bool) : Nat := (d.boot.shadow.filter fun e => p e.2).length
  let d := d.put R.OTP_COUNT_MARGINAL (count (·.marginal))
  let d := d.put R.OTP_COUNT_CORR (count (·.corr))
  let d := d.put R.OTP_COUNT_UNCORR (count (·.uncorr))
  let d := d.each (List.range 7) fun d r => d.put (R.OTP_STATUS_REGION.part (2 * r) 2) (d.regionState r)
  let g := d.generation
  let d := d.put R.OTP_STATUS_CAL_GEN (g.getD 7)
  let d := d.putB R.OTP_STATUS_DEBUG_LOCK (d.lockBit 7)
  let d := d.put R.OTP_STATUS_KEYSTATE d.keyState
  let d := d.put R.OTP_STATUS_SV d.svFused
  let d := d.takeCalibration g
  let d := d.each (List.range 7) fun d n =>
    d.setWord (A.SYS_IDn n) (if d.region 0 == 2 then (d.shadow n).data else 0xFFFFFFFF)
  let d := d.each (d.boot.shadow.filter fun e => e.2.corr) fun d e => (d.set1 R.OTP_FLAGS_CORRECTED).report 3 e.1
  let d := d.when g.isNone fun d => (d.set1 R.OTP_FLAGS_CAL_MISSING).report 4
  d.each ((List.range 7).filter fun r => d.region r == 3) fun d r => (d.set1 R.OTP_FLAGS_SEALED).report 6 r

/-- EV005 at the end of BOOT (R624). -/
def Dev.otpMarginal (d : Dev) : Dev :=
  d.when (d.on R.OTP_COUNT_MARGINAL) fun d => (d.set1 R.OTP_FLAGS_MARGINAL).report 5

/-! ## Commands (R625 to R628) -/

/-- OTP_RES at a command; the fields that the command does not concern are clear. -/
def Dev.otpRes (d : Dev) (cmd : Nat) (c : Code) (done : Bool) : Dev :=
  let d := d.setWord A.OTP_RES 0
  ((d.putCode R.OTP_RES_CODE c).put R.OTP_RES_CMD cmd).putB R.OTP_RES_DONE done

/-- The word that OTP_ADDR names. -/
def Dev.otpAddr (d : Dev) : Nat := d.get R.OTP_ADDR_ADDR

/-- READ. -/
def Dev.otpReadWord (d : Dev) : Dev :=
  if !d.mode.afterBoot then d
  else
    let s := if d.otpAddr < otpWords then d.shadow d.otpAddr else blankShadow
    let d := (d.otpRes 1 .accepted true).setWord A.OTP_RDATA s.data
    ((d.putB R.OTP_RES_MARGINAL s.marginal).putB R.OTP_RES_CORR s.corr).putB R.OTP_RES_UNCORR s.uncorr

/-- READ_ARRAY. -/
def Dev.otpReadArray (d : Dev) : Dev :=
  if !d.mode.afterBoot then d
  else
    let c := if d.otpAddr < otpWords then d.fuse d.otpAddr else blankCell
    let f := match d.get R.OTP_ADDR_MARGIN with
      | 1 => c.blank
      | 2 => c.prog
      | _ => c.normal
    ((d.otpRes 2 .accepted true).setWord A.OTP_RDATA (fuseData f)).put R.OTP_RES_ECC (fuseEcc f).toNat

/-- A generation above `r`, where `r` is one, is locked (R626). -/
def Dev.higherLocked (d : Dev) (r : Nat) : Bool :=
  decide (2 ≤ r ∧ r ≤ 5) && (List.range 6).any fun q => decide (r < q ∧ 2 ≤ q) && d.lockBit q

/-- The first four rows of R626. -/
def Dev.otpGate (d : Dev) (armed : Bool) : Option Code :=
  if d.mode != .standby && d.mode != .safe then some .busyRun
  else if d.boot.otpOp.isSome || d.boot.svTarget.isSome then some .mode
  else if d.otpInhibited then some .temp
  else if !armed then some .lock
  else none

/-- The code of PROG. -/
def Dev.progCode (d : Dev) (armed : Bool) : Code :=
  let a := d.otpAddr
  (d.otpGate armed).getD
    (if 0x148 < a || d.lockBit (regionAt a) || (d.fuse a).normal != 0 || d.higherLocked (regionAt a) then .lock
     else .accepted)

/-- The code of LOCK. -/
def Dev.lockCode (d : Dev) (armed : Bool) : Code :=
  let r := d.get R.OTP_ADDR_REGION
  (d.otpGate armed).getD
    (if d.lockBit r || d.higherLocked r then .lock
     else if !d.on R.OTP_ADDR_FORCE && !d.regionCrc r then .badProfile
     else .accepted)

/-- PROG, LOCK and DEBUG_LOCK: the answer, and on acceptance the operation. -/
def Dev.otpStart (d : Dev) (cmd : Nat) (c : Code) (op : OtpOp) : Dev :=
  let d := d.otpRes cmd c (c != .accepted)
  d.when (c == .accepted) fun d => d.modBoot fun b => { b with otpOp := some op, otpCut := false }

def Dev.otpProg (d : Dev) (armed : Bool) : Dev :=
  let x := d.word A.OTP_WDATA
  if !d.mode.afterBoot then d
  else d.otpStart 3 (d.progCode armed) (.word d.otpAddr (fuseWord x (eccOf x)))

def Dev.otpLock (d : Dev) (armed : Bool) : Dev :=
  if !d.mode.afterBoot then d else d.otpStart 4 (d.lockCode armed) (.lock (d.get R.OTP_ADDR_REGION))

def Dev.otpDebugLock (d : Dev) (armed : Bool) : Dev :=
  if !d.mode.afterBoot then d else d.otpStart 5 ((d.otpGate armed).getD .accepted) (.lock 7)

/-! ## Programming (R627, R632, R633, R648, R658) -/

/-- The three physical bits of logical bit `i` of the string at word `a`, by word. -/
def tripled (a i : Nat) : List (Nat × FuseWord) :=
  let bits := (List.range 3).map fun k => 3 * i + k
  let words := (bits.map (· / 32)).eraseDups
  words.map fun w => (a + w, (bits.filter fun p => p / 32 == w).foldl (fun f p => f ||| BitVec.twoPow 39 (p % 32)) 0)

/-- The words of an operation with the bits to be programmed, in ascending order. -/
def OtpOp.targets : OtpOp → List (Nat × FuseWord)
  | .word a bits => [(a, bits)]
  | .lock i => tripled lockWord i
  | .thermo i => tripled thermoWord i

/-- What the margins read of a word after an operation: what stood before stays programmed. -/
def cellAfter (old new : FuseCell) : FuseCell :=
  ⟨old.normal ||| new.normal, old.blank ||| new.blank, old.prog ||| new.prog⟩

def Dev.setFuse (d : Dev) (a : Nat) (c : FuseCell) : Dev := { d with otp := swrite blankCell d.otp a c }

/-- Words of an operation as they read when it ends; the shadow takes their normal-margin values. -/
def Dev.fuseWords (d : Dev) (l : List (Nat × FuseWord)) (reads : List FuseCell) : Dev :=
  d.each ((List.range l.length).zip l) fun d p =>
    let c := cellAfter (d.fuse p.2.1) (reads.getD p.1 blankCell)
    (d.setFuse p.2.1 c).setShadow p.2.1 (shadowOf p.2.1 c)

/-- Every word verifies at both strict margins: the intended bits, and no other beyond those that stood. -/
def Dev.verified (before after : Dev) (l : List (Nat × FuseWord)) : Bool :=
  l.all fun p =>
    let want := (before.fuse p.1).normal ||| p.2
    (after.fuse p.1).blank == want && (after.fuse p.1).prog == want

/-- SV_F has risen: what lies below it is rejected (R644). -/
def Dev.slotsBelow (d : Dev) : Dev :=
  let sv := d.get R.OTP_STATUS_SV
  let one (st svF reason : Fld) (d : Dev) : Dev :=
    if (d.get st == 2 || d.get st == 4) && decide (d.get svF < sv) then (d.put st 3).put reason 7 else d
  one R.IMAGE_SLOT1_STATE R.IMAGE_SLOT1_SV R.IMAGE_SLOT1_REASON
    (one R.IMAGE_SLOT0_STATE R.IMAGE_SLOT0_SV R.IMAGE_SLOT0_REASON d)

/-- The SV of the confirmed image, where the slot holds a valid one. -/
def Dev.confirmedSv (d : Dev) : Option Nat :=
  if !d.on R.IMAGE_STATUS_CONF_VALID then none
  else
    let s1 := d.on R.IMAGE_STATUS_CONF_SLOT
    let st := d.get (if s1 then R.IMAGE_SLOT1_STATE else R.IMAGE_SLOT0_STATE)
    if st == 2 then some (d.get (if s1 then R.IMAGE_SLOT1_SV else R.IMAGE_SLOT0_SV)) else none

/-- SV_PEND of R648. -/
def Dev.showSvPend (d : Dev) : Dev :=
  d.putB R.OTP_STATUS_SV_PEND (match d.confirmedSv with
    | some v => decide (d.get R.OTP_STATUS_SV < v)
    | none => false)

/-- The next thermometer bit is programmed, where the target is not reached (R648). -/
def Dev.svNext (d : Dev) : Dev :=
  match d.boot.svTarget with
  | none => d
  | some v =>
    let sv := d.svFused
    if sv < v && !d.otpInhibited then d.modBoot fun b => { b with otpOp := some (.thermo sv), otpCut := false }
    else d.modBoot fun b => { b with svTarget := none }

/-- SV_RAISE. -/
def Dev.svRaise (d : Dev) : Dev :=
  match d.confirmedSv with
  | none => d
  | some v =>
    if !d.mode.afterBoot || d.otpInhibited || d.boot.otpOp.isSome || d.boot.svTarget.isSome
        || decide (v ≤ d.get R.OTP_STATUS_SV) then d
    else (d.modBoot fun b => { b with svTarget := some v }).svNext

/-- The end of an operation: `tries` attempts, and what the three margins then read of its words. -/
def Dev.otpDone (d : Dev) (tries : Nat) (reads : List FuseCell) : Dev :=
  match d.boot.otpOp with
  | none => d
  | some op =>
    let before := d
    let d := d.fuseWords op.targets reads
    let ok := Dev.verified before d op.targets && !d.boot.otpCut
    let d := d.modBoot fun b => { b with otpOp := none, otpCut := false }
    match op with
    | .thermo i =>
      let d := (d.put R.OTP_STATUS_SV d.svFused).slotsBelow
      let d := if d.majority thermoWord i && ok then d.svNext else d.modBoot fun b => { b with svTarget := none }
      d.showSvPend
    | _ =>
      let d := ((d.set1 R.OTP_RES_DONE).putB R.OTP_RES_FAIL (!ok)).put R.OTP_RES_TRIES tries
      d.when (ok && op == .lock 7) fun d => d.set1 R.OTP_STATUS_DEBUG_LOCK

/-- A reset during an attempt: some of the bits have been programmed. -/
def Dev.otpCutShort (d : Dev) : Dev :=
  match d.boot.otpOp with
  | none => d
  | some op =>
    let d := d.each ((List.range op.targets.length).zip op.targets) fun d p =>
      let part (k : Nat) : FuseWord := p.2.2 &&& BitVec.ofNat 39 (Config.free .fuseCut [d.draws, p.1, k])
      d.setFuse p.2.1 (cellAfter (d.fuse p.2.1) ⟨part 0, part 1, part 2⟩)
    { d with draws := d.draws + 1 }

/-! ## JTAG (R634, R635) -/

/-- DEBUG_LOCK acts from the cycle after its bits verify (R634). -/
def Dev.debugLocked (d : Dev) : Bool :=
  d.on R.OTP_STATUS_DEBUG_LOCK && !(d.setsNow A.OTP_STATUS).getLsbD R.OTP_STATUS_DEBUG_LOCK.lo

/-- The instruction that acts: under DEBUG_LOCK a debug or test instruction acts as BYPASS (R634). -/
def Dev.jtagActs (d : Dev) : Nat := if d.debugLocked && decide (3 < d.boot.jtag) then 0 else d.boot.jtag

/-- An instruction is loaded: 0 BYPASS, 1 SAMPLE/PRELOAD, 2 PRELOAD, 3 EXTEST, above these a debug or test instruction. -/
def Dev.jtagLoad (d : Dev) (code : Nat) : Dev :=
  if d.mode == .dark then d
  else if code < 4 then d.modBoot fun b => { b with jtag := code }
  else if d.debugLocked then d.modBoot fun b => { b with jtag := 0 }
  else
    let first := !d.boot.debugSeen
    (d.modBoot fun b => { b with jtag := code, debugSeen := true }).when first fun d => d.report 14

/-- EXTEST drives the balls from the boundary-scan register (R635). -/
def Dev.extestDrives (d : Dev) : Bool := d.jtagActs == 3 && (d.mode == .standby || d.mode == .safe)

end Sys2Proof.Machine
end

