-- ==== Sys2Proof/Machine/Profile.lean ====
section
/-!
DEFINITION. Sys2Proof/Machine/Profile.lean: profiles (R653 to R658 of spec/17_boot_otp_update.md): their bytes, their
checks, what a change of registers brings about in the units, and the boot and live application.
-/

namespace Sys2Proof.Machine

/-! ## The bytes of a profile (R653, R654) -/

/-- What a profile sets: registers by section, address and word; coefficients by section, stage, index and word. -/
structure ProfData where
  regs : List (Nat × Nat × Word)
  coefs : List (Nat × Nat × Nat × Word)
  deriving DecidableEq, Repr

/-- The header's failing section in PROF_RES. -/
def profHead : Nat := 0xFFFF

/-- Sections in ascending ID with a matching CRC: the failing section, or IDs with their bodies. -/
def profSections : Nat → Nat → List Byte → Nat ⊕ List (Nat × List Byte)
  | 0, _, l => if l.isEmpty then .inr [] else .inl profHead
  | n + 1, last, l =>
    let id := leAt l 0 2
    let len := leAt l 2 2
    let body := (l.drop 8).take len
    if l.length < 8 then .inl profHead
    else if id ≤ last ∨ len % 4 ≠ 0 ∨ body.length < len ∨ crc32 body ≠ leAt l 4 4 then .inl id
    else match profSections n id (l.drop (8 + len)) with
      | .inl e => .inl e
      | .inr t => .inr ((id, body) :: t)

/-- The header fits the strapped role and the kind, and the sections stand with their CRCs. -/
def profParts (role kind : Nat) (l : List Byte) : Nat ⊕ List (Nat × List Byte) :=
  if l.length < 16 ∨ 16384 < l.length ∨ l.take 4 ≠ [0x47, 0x48, 0x50, 0x46] ∨ leAt l 4 2 ≠ 1
      ∨ leAt l 6 2 = 0 ∨ 64 < leAt l 6 2 ∨ leAt l 8 4 ≠ l.length ∨ byteAt l 12 ≠ role ∨ byteAt l 13 ≠ kind
      ∨ leAt l 14 2 ≠ 0 then .inl profHead
  else profSections (leAt l 6 2) 0 (l.drop 16)

/-- The stage whose STAGEs_COEF_DATA stands at `a`. -/
def coefStage (a : Nat) : Option Nat := (List.range 12).find? fun s => a == A.STAGEs_COEF_DATA s

/-- The runs of a section's body: none where one fails R654. -/
def profRuns (id : Nat) : Nat → List Word → ProfData → Option ProfData
  | 0, l, acc => if l.isEmpty then some acc else none
  | _ + 1, [], acc => some acc
  | fuel + 1, h :: t, acc =>
    let a := fieldOf h 0 16
    let n := fieldOf h 16 16
    let ws := t.take n
    if n = 0 ∨ ws.length < n then none
    else match coefStage a with
      | some s =>
        let i := (ws.headD 0).toNat
        if id ≠ 0x100 + s ∨ n < 2 ∨ 64 ≤ i ∨ 54 < i + n - 2 ∨ (ws.drop 1).any fun w => decide (2 ^ 24 ≤ w.toNat) then none
        else
          let cs := (List.range (n - 1)).map fun k => (id, s, i + k, ws.getD (k + 1) 0)
          profRuns id fuel (t.drop n) { acc with coefs := acc.coefs ++ cs }
      | none =>
        let rs := (List.range n).map fun k => (id, a + 4 * k, ws.getD k 0)
        if rs.all fun r => inSection id r.2.1 && (coefStage r.2.1).isNone && profMask r.2.1 != 0
            && r.2.2.toNat &&& profMask r.2.1 == r.2.2.toNat then
          profRuns id fuel (t.drop n) { acc with regs := acc.regs ++ rs }
        else none

/-- Every section's runs: the failing section, or what the profile sets. -/
def profData : List (Nat × List Byte) → ProfData → Nat ⊕ ProfData
  | [], acc => .inr acc
  | (id, body) :: t, acc =>
    if !sectionKnown id then .inl id
    else match profRuns id (body.length / 4) (leWords (body.length / 4) body) acc with
      | none => .inl id
      | some acc => profData t acc

/-- The checks of R653 and R654. -/
def profParse (role kind : Nat) (l : List Byte) : Nat ⊕ ProfData :=
  match profParts role kind l with
  | .inl e => .inl e
  | .inr secs => profData secs ⟨[], []⟩

/-! ## Values that would result -/

/-- A register's word after a profile run sets it. -/
def Dev.profWord (d : Dev) (a : Nat) (w : Word) : Word :=
  let m : Word := BitVec.ofNat 32 (profMask a)
  let keep : Word := BitVec.ofNat 32 (fixedBits a)
  (d.word a &&& ~~~(m &&& ~~~keep)) ||| (w &&& m &&& ~~~keep)

/-- The coefficient word that a write gives (R252, R253). -/
def coefNorm (w : Word) : Nat := (Bf.ofWord (w.toNat % 2 ^ 24)).norm.word

def Dev.setCoef (d : Dev) (s i : Nat) (w : Word) : Dev :=
  d.modLoop s fun l => { l with coefs := updAt l.coefs i fun _ => coefNorm w }

/-- The registers and coefficients with the profile's words in them. -/
def Dev.profPut (d : Dev) (p : ProfData) : Dev :=
  let d := d.each p.regs fun d r => d.setWord r.2.1 (d.profWord r.2.1 r.2.2)
  d.each p.coefs fun d c => d.setCoef c.2.1 c.2.2.1 c.2.2.2

/-- The section that a register belongs to in a role's profile, for PROF_RES. -/
def sectionOf (a : Nat) : Nat :=
  (((List.range 15).map (· + 1) ++ (List.range 12).map (· + 0x100) ++ (List.range 8).map (· + 0x200)).find? fun id =>
    inSection id a).getD profHead

/-- RWL bits of the register at `a`. -/
def rwlMask (a : Nat) : Nat := ((masksAt a).map (·.rwl)).getD 0

/-- A word would change a bit of an RWL field (R656, R689). -/
def Dev.rwlChange (d : Dev) (a : Nat) (w : Word) : Bool := (d.word a ^^^ w) &&& BitVec.ofNat 32 (rwlMask a) != 0

/-- The first section of a live profile that changes an RWL field, against the words of `d`. -/
def Dev.profRwl (d : Dev) (p : ProfData) : Option Nat :=
  ((p.regs.find? fun r => d.rwlChange r.2.1 (d.profWord r.2.1 r.2.2)).map (·.1)).or
    ((p.coefs.find? fun c => d.coefWord c.2.1 c.2.2.1 != coefNorm c.2.2.2).map (·.1))

/-- The node ID or the MGR attribute would change (R56). -/
def Dev.profNode (d : Dev) (p : ProfData) : Option Nat :=
  (p.regs.find? fun r => r.2.1 == A.RINNAK_NODE && d.profWord r.2.1 r.2.2 != d.word r.2.1).map (·.1)

/-- What the mode check judges: on a TRAY node the NET section holds nothing, and is ignored (R446). -/
def Dev.profHeld (d : Dev) (p : ProfData) : ProfData :=
  if d.isRole .tray then { p with regs := p.regs.filter fun r => r.1 != 0x000D } else p

/-- The mode check (R56, R656): the section that the present mode refuses. -/
def Dev.profMode (d : Dev) (p : ProfData) : Option Nat :=
  let p := d.profHeld p
  if d.mode.regulating then (d.profRwl p).or (d.profNode p)
  else if d.mode != .standby && d.mode != .boot then d.profNode p
  else none

/-- The section of the first register that its table or its own rule refuses, in the state that would result: those that a run
names, and those that are judged without one (R655). On a TRAY node the NET section has no check but that of R446. -/
def Dev.rowFail (d c : Dev) (p : ProfData) : Option Nat :=
  let named := p.regs.find? fun r => !(d.isRole .tray && r.1 == 0x000D) && !c.rowOk r.2.1 r.2.2
  (named.map (·.1)).or ((c.judged.find? fun a => !c.rowOk a (c.word a)).map sectionOf)

/-- The section that fails a value check, in the state that would result (R655). -/
def Dev.profValues (d : Dev) (p : ProfData) : Option Nat :=
  let c := d.profPut p
  (d.rowFail c p).or ((c.crossChecks.find? fun x => !x.2).map (·.1))

/-! ## What a change of registers brings about -/

/-- The cost registers of R286 to R288; RAFTER_WORST reads 0 while no stage has a structure (DESIGN CHOICE, log entry 339). -/
def Dev.showCosts (d : Dev) : Dev :=
  let l := d.engineLoad
  let d := d.put R.RAFTER_LOAD_LOAD (Config.round .loadRate l.1 (1000 * l.2)).toNat
  let d := d.put R.RAFTER_WORST_E (if d.loopStages.isEmpty then 0 else d.engineBound)
  d.each (List.range 12) fun d s =>
    if d.struct s == stOff then (d.setWord (A.STAGEs_COST s) 0).setWord (A.STAGEs_RATE s) 0
    else
      let r := d.updateRate s
      ((d.put (R.STAGEs_COST_C s) (d.macs s)).put (R.STAGEs_COST_O s) (d.occupancy s)).put (R.STAGEs_RATE_N s)
        (if r.2 = 0 then 0 else (Config.round .loadRate r.1 r.2).toNat)

/-- The node ID and the MGR attribute in force, the bus ID of a worker, and the plan (R408, R414, R446). A node with the MGR
attribute shows its node ID as its bus ID until it takes one (R394, R404). -/
def Dev.showNode (d : Dev) : Dev :=
  if d.isRole .tray then (d.clr R.SYS_MODE_MGR).clr R.SYS_MODE_NODE_ID
  else
    let id := d.get R.RINNAK_NODE_NODE_ID
    let mgr := d.on R.RINNAK_NODE_MGR
    let d := (d.putB R.SYS_MODE_MGR mgr).put R.SYS_MODE_NODE_ID id
    let d := d.when mgr fun d => d.put R.MGR_STATUS_HOME_ID id
    (if !mgr then d.setBusId id
     else if d.get R.MGR_STATUS_MROLE == 0 then (d.put R.RINNAK_STATUS_BUS_ID id).put R.MGR_STATUS_BUS_ID id
     else d).showBudget

/-- A change of AINn_CFG (R211). -/
def Dev.ainChanged (d : Dev) (n : Nat) : Dev := d.modAin n fun a => { a with lastCore := none, skip := true, left := 0 }

/-- A change of EN of a demodulator (R237). -/
def Dev.sdmChanged (d : Dev) (n : Nat) : Dev :=
  ((d.clr (R.SDn_RES_VALID n)).modSdm n fun s => { s with
    lost := false, overLim := false, bits := [], same := 0, clocks := some 0, count := 0, left := 0 }).unholdEv 72 n

/-- A new reference (R222): the comparators' outputs are forced to their tripped state, with their routes. -/
def Dev.refChanged (d : Dev) : Dev := d.refUnready.each (idxs 24 fun c => d.on (R.CMPc_CFG_EN c)) Dev.cmpRoute

/-- RIDGE_CTRL.MAINS_EN has changed (R130, R138). -/
def Dev.mainsEnChanged (d : Dev) : Dev := if d.mainsEn then d.pllStart else d.pllStop

/-- What changed registers bring about, from the words before (R126, R138, R159, R171, R176, R199, R211, R219, R222, R237,
R294). A window whose WINw_CFG changes keeps its STATE and its counts (R225; DESIGN CHOICE, log entry 330). -/
def Dev.written (old d : Dev) : Dev :=
  let ch (a : Nat) : Bool := old.word a != d.word a
  let chf (f : Fld) : Bool := old.get f != d.get f
  let d := d.when (chf R.RIDGE_CTRL_MAINS_EN) Dev.mainsEnChanged
  let d := d.when (ch A.RIDGE_VFREQ) Dev.vfreqChanged
  let d := d.each (idxs 64 fun m => ch (A.MARKm_CFG m) || ch (A.MARKm_TGT m)) Dev.markWritten
  let d := d.each (idxs 12 fun s => ch (A.CARs_CFG s) && d.on (R.CARs_STATUS_RUN s)) Dev.loadCarrier
  let d := d.runCarriers
  let d := d.when (ch A.PWM_SHELF_OFS || (List.range 32).any fun n => ch (A.PWMn_OFS n)) Dev.offsetsChanged
  let d := d.each (idxs 32 fun n => ch (A.BANKb_CFG (n / 8))) Dev.restChan
  let d := d.each (idxs 12 fun s => ch (A.STAGEs_LOOP_CFG s)) Dev.loopChanged
  let d := d.each (idxs 48 fun n => ch (A.AINn_CFG n)) Dev.ainChanged
  let d := d.each (idxs 4 fun p => chf (R.ADC_CTRL_DOUBLED.bit p) || (d.doubled p && old.dblInput p != d.dblInput p))
    Dev.doubledChanged
  let d := d.each (idxs 8 fun n => chf (R.SDn_CFG_EN n)) Dev.sdmChanged
  let d := d.when ((List.range 24).any fun c => ch (A.CMPc_CFG c)) Dev.cmpOuts
  let d := d.when (chf R.ADC_CTRL_REFSEL) Dev.refChanged
  let d := d.when (ch A.RINNAK_CTRL || ch A.RINNAK_NODE || ch A.RINNAK_FOREIGN) Dev.showNode
  let d := d.when (ch A.BRK_CFG && d.isRole .dist) Dev.brakesNow
  let d := d.when (ch A.THERM_WIN) Dev.writeWindow
  let d := d.each (idxs 16 fun r => ch (A.RAILr_CFG r)) fun d r => d.putB (R.SEQ_RAIL_LEVEL_EN.bit r) (d.railEn r)
  let d := d.each (idxs 4 fun k => chf (R.RSTOk_CFG_EN k) || chf (R.RSTOk_CFG_TRIG k)) Dev.rstoHold
  let stages (d : Dev) : Sparse Word := d.regs.filter fun r => decide (0x1000 ≤ r.1 ∧ r.1 < 0x1C00)
  let d := d.when (stages old != stages d || d.rafter.loops != old.rafter.loops) Dev.recopy
  d.when d.twinUsed fun d => d.showCosts.lockCheck

/-! ## Application -/

/-- The words of a profile take their places in one cycle; blocks that the role does not use hold nothing. -/
def Dev.profApply (d : Dev) (p : ProfData) : Dev :=
  let p : ProfData := ⟨p.regs.filter fun r => d.blockUsed r.2.1, if d.twinUsed then p.coefs else []⟩
  Dev.written d (d.profPut p)

/-- PROF_RES and EV009 of a refusal (R655). -/
def Dev.profRes (d : Dev) (c : Code) (sec : Nat) : Dev :=
  ((d.putCode R.PROF_RES_CODE c).put R.PROF_RES_SECTION sec).when (c == .badProfile) fun d => d.report 9

/-- RAFTER_ADMIT (R288). -/
def Dev.putAdmit (d : Dev) (c : Code) (s why : Nat) : Dev :=
  ((d.putCode R.RAFTER_ADMIT_CODE c).put R.RAFTER_ADMIT_STAGE s).put R.RAFTER_ADMIT_REASON why

/-- The stage of a STAGE section. -/
def sectionStage (sec : Nat) : Option Nat := if 0x100 ≤ sec ∧ sec < 0x10C then some (sec - 0x100) else none

/-- RAFTER_ADMIT follows every check of a STAGE section: one whose runs fail (R654), one with a refused value, and the
admission of R288. -/
def Dev.showAdmit_ (d : Dev) (p : Nat ⊕ ProfData) : Dev :=
  match p with
  | .inl sec => match sectionStage sec with
    | some s => d.putAdmit .badProfile s 4
    | none => d
  | .inr p =>
    let named := (p.regs.any fun r => (sectionStage r.1).isSome) || !p.coefs.isEmpty
    let c := d.profPut p
    let row := (p.regs.find? fun r => (sectionStage r.1).isSome && !c.rowOk r.2.1 r.2.2).map (·.1)
    let row := row.or ((c.judged.find? fun a => (sectionStage (sectionOf a)).isSome && !c.rowOk a (c.word a)).map sectionOf)
    if !named then d
    else match row.bind sectionStage, c.admission with
      | some s, _ => d.putAdmit .badProfile s 4
      | none, some (_, s, why) => d.putAdmit .badProfile s why
      | none, none => d.putAdmit .accepted 15 0

/-- The strapped role code as a profile's header carries it. -/
def Dev.roleCode (d : Dev) : Nat := d.get R.SYS_MODE_ROLE

/-- Step 7 of R617: the boot profile is applied whole or refused (R619, R620). -/
def Dev.bootProfile (d : Dev) (l : List Byte) : Dev × Bool :=
  let r := profParse d.roleCode 0 l
  let d := d.showAdmit_ r
  match r with
  | .inl e => (d.profRes .badProfile e, false)
  | .inr p =>
    match d.profValues p with
    | some e => (d.profRes .badProfile e, false)
    | none =>
      let d := (d.profApply p).showNode
      let d := { d with gut := { d.gut with defaults := false } }
      let d := { d with sense := { d.sense with applied := true, refSince := some d.cycles } }
      ((d.set1 R.SYS_STATUS_BOOT_PROF).profRes .accepted 0, true)

/-- The state after every accepted profile that still waits (R657). -/
def Dev.afterWaiting (d : Dev) : Dev :=
  d.each d.boot.waiting fun d w => match profParse d.roleCode 1 w.bytes with
    | .inl _ => d
    | .inr p => d.profPut p

/-- The judgement of a live profile (R655 to R657): its code, the failing section, and whether it changes an RWL
field. -/
def Dev.profJudge (d : Dev) (l : List Byte) : Code × Nat × Bool :=
  if !d.on R.SYS_STATUS_BOOT_PROF then (.badProfile, profHead, false)
  else match profParse d.roleCode 1 l with
    | .inl e => (.badProfile, e, false)
    | .inr p =>
      let base := d.afterWaiting
      match base.profMode p with
      | some e => (.mode, e, true)
      | none => match base.profValues p with
        | some e => (.badProfile, e, false)
        | none => (.accepted, 0, (base.profRwl (d.profHeld p)).isSome || (base.profNode (d.profHeld p)).isSome)

/-- The bits that show what waits. -/
def Dev.showPend (d : Dev) : Dev :=
  let d := d.putB R.PROF_RES_PEND_HOST (d.boot.waiting.any fun w => !w.net)
  let d := d.putB R.PROF_RES_PEND_NET (d.boot.waiting.any fun w => w.net)
  d.putB R.PROF_RES_BUSY (d.boot.checking.any fun c => c.1.isNone)

/-- `n` bytes of the host's staging buffer. -/
def Dev.staged (d : Dev) (n : Nat) : List Byte :=
  ((List.range ((n + 3) / 4)).flatMap fun w => leBytes 4 (sread 0 d.boot.hostStage w).toNat).take n

/-- A buffer holds an accepted profile, or one under check (R657). -/
def Dev.bufferBusy (d : Dev) (net : Bool) : Bool :=
  d.boot.waiting.any (fun w => w.net == net) || d.boot.checking.any fun c => c.1.isSome == net

/-- COMMIT. -/
def Dev.profCommit (d : Dev) : Dev :=
  if !d.mode.afterBoot then d
  else if d.bufferBusy false then (d.putCode R.PROF_RES_CODE .mode).clr R.PROF_RES_SECTION
  else
    let l := d.staged (d.get R.PROF_LEN_LEN)
    (d.modBoot fun b => { b with checking := b.checking ++ [(none, l)] }).showPend

/-- DISCARD: the host's staging buffer is empty. -/
def Dev.profDiscard (d : Dev) : Dev :=
  if !d.mode.afterBoot then d else d.modBoot fun b => { b with hostStage := [] }

/-- The ACK of a transfer (R425), and what a refusal shows (R431). -/
def Dev.profAck (d : Dev) (src tid : Nat) (c : Code) : Dev :=
  let d := d.when (c != .accepted) fun d => d.refuseRx tProfileLoad src c
  (d.send tAck clNormal src ([BitVec.ofNat 8 tProfileLoad, BitVec.ofNat 8 c.val] ++ beBytes 2 tid)).1

/-- The check of the profile that waits longest is complete. A Rinnak profile is answered with ACK (R425). -/
def Dev.profChecked (d : Dev) : Dev :=
  match d.boot.checking with
  | [] => d
  | (src, l) :: t =>
    let j : Code × Nat × Bool := d.profJudge l
    let c : Code := j.1
    let r := profParse d.roleCode 1 l
    let d : Dev := if d.on R.SYS_STATUS_BOOT_PROF && c != .mode then
        d.setWord A.RAFTER_ADMIT ((d.afterWaiting.showAdmit_ r).word A.RAFTER_ADMIT)
      else d
    let d := d.modBoot fun b => { b with checking := t }
    let d := d.profRes c j.2.1
    let d := d.when (c == .accepted) fun d => d.modBoot fun b => { b with waiting := b.waiting ++ [⟨d.cycles, src.isSome, l, j.2.2⟩] }
    let d : Dev := match src with
      | none => d
      | some (who, tid) => d.profAck who tid c
    d.showPend

/-- A PROFILE_LOAD part (R425, R657): total length, offset and bytes. A complete transfer goes to its check. -/
def Dev.profPart (d : Dev) (src : Nat) (p : List Byte) : Dev :=
  let tid := beAt p 0 2
  let total := beAt p 2 2
  let at_ := beAt p 4 2
  let bytes := p.drop 8
  let fresh := d.boot.netXfer != some (src, tid, total)
  let d := d.when fresh fun d => d.modBoot fun b => { b with netStage := [], netXfer := some (src, tid, total) }
  if 16384 < total then (if fresh then d.profAck src tid .badProfile else d)
  else
    let stage := ((List.range bytes.length).filter fun i => at_ + i < total).foldl (fun m i =>
      swrite 0 m (at_ + i) ((bytes.getD i 0).toNat + 1)) d.boot.netStage
    let d := d.modBoot fun b => { b with netStage := stage }
    if !(List.range total).all fun i => sread 0 stage i != 0 then d
    else
      let l := (List.range total).map fun i => BitVec.ofNat 8 (sread 0 stage i - 1)
      let d := d.modBoot fun b => { b with netStage := [], netXfer := none }
      if d.bufferBusy true then d.profAck src tid .mode
      else (d.modBoot fun b => { b with checking := b.checking ++ [(some (src, tid), l)] }).showPend

/-- One accepted profile at its boundary (R55, R656, R658). -/
def Dev.profTake (d : Dev) (w : ProfWait) : Dev :=
  match profParse d.roleCode 1 w.bytes with
  | .inl _ => d
  | .inr p =>
    if (d.profMode p).isSome then d.report 15
    else (((d.profApply p).bump R.PROF_COUNT_APPLIED).set1 R.PROF_COUNT_LIVE)

/-- The order in which accepted profiles are applied: that of acceptance, the host's first where both were accepted in one
cycle (R54). -/
def appliedFirst (a b : ProfWait) : Bool := decide (a.at_ < b.at_) || a.at_ == b.at_ && (!a.net || b.net)

/-- A rack turn begins with this cycle. -/
def Dev.turnBegins (d : Dev) : Bool := d.cyc.reedNew && decide (d.reed = 0)

/-- An accepted live profile is to be applied at the turn boundary of this cycle. -/
def Dev.profDue (d : Dev) : Bool := d.turnBegins && d.boot.waiting.any fun w => decide (w.at_ < d.cycles)

/-- LIVE_PROFILE_APPLY: at the first rack turn boundary after their acceptance, accepted profiles are applied (R54, R656,
R658). -/
def Dev.profBoundary (d : Dev) : Dev :=
  if !d.turnBegins then d
  else
    let due := (sortBy appliedFirst d.boot.waiting).filter fun w => decide (w.at_ < d.cycles)
    (d.each due fun d w => (d.profTake w).modBoot fun b => { b with waiting := b.waiting.erase w }).showPend

end Sys2Proof.Machine
end

