-- ==== Sys2Proof/Machine/Deliver.lean ====
section
/-!
DEFINITION. Sys2Proof/Machine/Deliver.lean: happenings that reach several blocks at once: the delivery of a result (R207),
a comparator trip (R244), a carrier zero (R183), a mark (R157), the mains (R133, R136).
-/

namespace Sys2Proof.Machine

/-! ## Results (R207, R213, R237) -/

/-- A result with corrected code `c` of input `i` reaches Rafter, the windows, the stage supervisors and the checks, the
branch scan and the sequencer. -/
def Dev.ainDelivered (d : Dev) (i c : Nat) : Dev :=
  let d := d.delivered i
  let (d, exits) := d.windowResult i c
  let d := d.each exits fun d w => d.windowExit w (decide (d.winLimit false (R.WINw_LIM_HI w) < c))
  let d := d.each (List.range 12) fun d s => (d.stageResult s i c).checkResult s i c
  ((d.branchResult i c).seqInput i c).thermInput i c

/-- The conversion of input `i` was complete in cycle `t`: the inputs chained to it are triggered (R208). -/
def Dev.chained (d : Dev) (t i : Nat) : Dev :=
  d.each (idxs 48 fun n => d.get (R.AINn_CFG_TSRC n) == 3 && d.get (R.AINn_CFG_TIDX n) == i) fun d n => d.triggerAt t n

/-- A conversion of input `i` completes; nothing where none is complete. -/
def Dev.converted (d : Dev) (i : Nat) : Dev :=
  match d.convDone i, d.conversion i with
  | some k, some (d, c) => (d.chained (k.from_ + 40) i).ainDelivered i c
  | _, _ => d

/-- The result of demodulator SDn at its instant goes to Rafter, the windows and the stage supervisors (R207, R237). -/
def Dev.sdmReport (d : Dev) (n : Nat) : Dev :=
  let (d, x) := d.sdmInstant n
  let d := d.delivered (64 + n)
  let (d, exits) := d.windowResult (64 + n) x
  let d := d.each exits fun d w => d.windowExit w (decide (d.winLimit true (R.WINw_LIM_HI w) < x))
  let c := d.inputCode (64 + n)
  d.each (List.range 12) fun d s => d.stageResult s (64 + n) c

/-- SDM_RESULT: the result instant of SDn has come (R236). -/
def Dev.sdmDelivered (d : Dev) (n : Nat) : Dev :=
  if d.sensing && decide (n < 8) && d.on (R.SDn_CFG_EN n) && d.sourceDue (64 + n) (d.get (R.SDn_TRIG_TSRC n)) (d.get (R.SDn_TRIG_TIDX n))
  then (d.serve (64 + n)).sdmReport n else d

/-! ## Fast comparators (R189, R243, R244) -/

/-- CMP_TRIP: the comparison of comparator `c` has held past the threshold for its filter (R243): it trips, with all its
routes. -/
def Dev.tripped (d : Dev) (c : Nat) : Dev :=
  if d.sensing && decide (c < 24) && d.on (R.CMPc_CFG_EN c) && d.cmpDue c true then (d.cmpTrip c).cmpRoute c else d

/-- CMP_RELEASE: the comparison has held on the other side of the hysteresis for the filter. -/
def Dev.released (d : Dev) (c : Nat) : Dev :=
  if d.sensing && decide (c < 24) && d.cmpDue c false then d.cmpRelease c else d

/-- CMP_DAC_CHECK: an upset inverts `bits` of the duplicate register of comparator `c`, and it is compared (R246). -/
def Dev.dacUpset (d : Dev) (c bits : Nat) : Dev :=
  if d.sensing && decide (c < 24) then (d.modCmp c fun k => { k with dup := k.dup ^^^ bits % 1024 }).dacCheck c else d

/-! ## PWM array -/

/-- The carrier phase of channel `n` wraps while its carrier runs (R173, R183, R188, R189, R208). -/
def Dev.carrierZero (d : Dev) (n : Nat) : Dev :=
  match d.setOf n with
  | none => d
  | some s => if decide (32 ≤ n) || !d.on (R.CARs_STATUS_RUN s) then d else (d.carrierZeroChan n).stageZero s n

/-- The check of the carriers at a rack turn boundary (R172): each running accumulator is compared with K × A. EV030 is
raised on a mismatch, be it of the model's accumulator, of the hardware's (`upset`, bit s for synthesiser s), or by an
inverted check bit (R595). -/
def Dev.carrierCheck (d : Dev) (upset : Nat) : Dev :=
  d.each (idxs 12 fun s => d.on (R.CARs_STATUS_RUN s)) fun d s =>
    let (inj, d) := d.takeInj 3 s
    let bad := tbit upset s || decide ((d.pwm.cars.getD s ⟨0⟩).acc ≠ d.carExpected s)
    if bad != inj then (d.set1 R.PWM_FLAGS_CHECK).report 30 s 0 inj else d

/-! ## Marks, mains -/

/-- The inputs and demodulators that mark `m` triggers (R208, R236), ascending. -/
def Dev.markTriggers (d : Dev) (m : Nat) : Dev :=
  let d := d.each (idxs 48 fun n => d.get (R.AINn_CFG_TSRC n) == 1 && d.get (R.AINn_CFG_TIDX n) == m
    && !d.cyc.served.contains n) fun d n => (d.serve n).trigger n
  d.each (idxs 8 fun n => d.get (R.SDn_TRIG_TSRC n) == 1 && d.get (R.SDn_TRIG_TIDX n) == m) Dev.sdmDelivered

/-- MARK_FIRE: mark `m` fires where its target is reached in this cycle; its users are the conversions, the Scarab interrupt
and the common start of RAMP (R157, R208, R519). At a rack turn boundary a live profile that waits sets its marks before
(R158). -/
def Dev.markFired (d : Dev) (m : Nat) : Dev :=
  let d := d.when d.profDue Dev.profBoundary
  if decide (64 ≤ m) || !d.markDue m then d else ((d.markFire m).markTriggers m).seqMark m

/-- The grid PLL locks (R133, R124, R335, R522). -/
def Dev.lockNow (d : Dev) : Dev :=
  let back := d.ridge.lossSince
  d.gridLock.srcAfterLock.when back fun d => d.viennaResume.mainsBack

/-- A lock declared in this cycle steps an angle (R124, R141). -/
def Dev.lockSteps (d : Dev) : Bool := d.ridge.lossSince || (d.leadsAngle && d.src == srcFree)

/-- RIDGE_LOCK: the lock is due (R133). A mark that has fired in this cycle has done so before a step: a lock with a step comes
with the next cycle (R159). -/
def Dev.mainsLocked (d : Dev) : Dev :=
  if !d.lockDue || d.src == srcNone then d
  else if d.lockSteps && !d.cyc.fired.isEmpty then { d with ridge := { d.ridge with lockHeld := true } }
  else d.lockNow

/-- Mains loss is declared (R136, R335, R521). -/
def Dev.mainsGone (d : Dev) : Dev := if d.lossDue then (d.gridLoss.viennaPause).mainsLost else d

/-! ## Power samples (R723) -/

/-- An update of the engine, and the shelf-power sample of a RECT node's DAB stage in SOFT, RUN or SLEEP: the product of
its output voltage IN0 and its current IN1. -/
def Dev.rafterRan (d : Dev) : Dev :=
  match d.rafter.ready with
  | [] => d
  | s :: _ =>
    let d := d.rafterUpdate
    if d.isRole .rect && d.kind s == kDab && d.ssIn s [ssSoft, ssRun, ssSleep] then
      d.powerSample s ((d.scaled s 0 Sat.none).1.val.mul (d.scaled s 1 Sat.none).1.val)
    else d

/-- The estimator's evaluation at the delivery of a scan's last input (R545), with the shelf-power sample -V × I of each string
of a STOR node (R723). In QUIET the count holds (R560). -/
def Dev.strEvaluated (d : Dev) : Dev :=
  if !(d.isRole .stor && d.scanDone d.estInputs) || d.quiet then d
  else
    let d := d.scanOver.estEvaluation
    d.each (idxs 6 d.strOn) fun d k => d.powerSample k ⟨-(d.strV k * d.strI k), -32⟩

/-- The branches' evaluation at the delivery of a scan's last input (R451), with the scan's branch powers (R389). -/
def Dev.branchesEvaluated (d : Dev) : Dev :=
  if d.isRole .dist && d.scanDone d.scanInputs then d.scanOver.branchEvaluation.scanPower else d

end Sys2Proof.Machine
end

