-- ==== Sys2Proof/Machine/Image.lean ====
section
/-!
DEFINITION. Sys2Proof/Machine/Image.lean: image slots, the check of a container, the boot order, trial, confirmation and
fallback, and the writing of an image (R638 to R652 and R658 of spec/17_boot_otp_update.md).
-/

namespace Sys2Proof.Machine

/-! ## Slots (R638) -/

def Dev.slotBytes (d : Dev) (slot o n : Nat) : List Byte := d.nvmBytes (slotBase slot + o) n

def slotState (slot : Nat) : Fld := if slot = 0 then R.IMAGE_SLOT0_STATE else R.IMAGE_SLOT1_STATE
def slotRecovery (slot : Nat) : Fld := if slot = 0 then R.IMAGE_SLOT0_RECOVERY else R.IMAGE_SLOT1_RECOVERY
def slotSv (slot : Nat) : Fld := if slot = 0 then R.IMAGE_SLOT0_SV else R.IMAGE_SLOT1_SV
def slotReason (slot : Nat) : Fld := if slot = 0 then R.IMAGE_SLOT0_REASON else R.IMAGE_SLOT1_REASON
def slotVersion (slot : Nat) : Fld := if slot = 0 then R.IMAGE_VER0_VERSION else R.IMAGE_VER1_VERSION

/-- STATE of a slot: 0 EMPTY, 1 WRITING, 2 VALID, 3 REJECTED, 4 FAILED. -/
def Dev.slotIs (d : Dev) (slot st : Nat) : Bool := d.get (slotState slot) == st

/-! ## The container (R641, R642) -/

/-- The first 256 bytes, by their fields. -/
structure Container where
  head : List Byte
  deriving DecidableEq, Repr

def Dev.container (d : Dev) (slot : Nat) : Container := ⟨d.slotBytes slot 0 256⟩

def Container.flags (c : Container) : Nat := leAt c.head 6 2
def Container.recovery (c : Container) : Bool := c.flags.testBit 0
def Container.length (c : Container) : Nat := leAt c.head 8 4
def Container.version (c : Container) : Nat := leAt c.head 12 4
def Container.sv (c : Container) : Nat := byteAt c.head 16
def Container.nsec (c : Container) : Nat := byteAt c.head 17
def Container.health (c : Container) : Nat := leAt c.head 18 2
def Container.part (c : Container) : Nat := leAt c.head 20 4
def Container.key (c : Container) : List Byte := slice c.head 32 64

/-- A section entry. -/
structure Section where
  ty : Nat
  zero : Nat
  off : Nat
  size : Nat
  load : Nat
  deriving DecidableEq, Repr

def Container.sec (c : Container) (k : Nat) : Section :=
  let o := 96 + 16 * k
  ⟨leAt c.head o 2, leAt c.head (o + 2) 2, leAt c.head (o + 4) 4, leAt c.head (o + 8) 4, leAt c.head (o + 12) 4⟩

def Container.secs (c : Container) : List Section := (List.range c.nsec).map c.sec

/-- MAGIC, FORMAT, FLAGS, the range of SV and the reserved fields. -/
def Container.formatOk (c : Container) : Bool :=
  c.head.take 4 == [0x41, 0x45, 0x4C, 0x4B] && leAt c.head 4 2 == 1 && decide (c.flags < 2) && decide (c.sv ≤ 64)
    && (slice c.head 24 8).all (· == 0) && (slice c.head 224 32).all (· == 0)

/-- Two sections share a byte. -/
def Section.meets (a b : Section) : Bool := decide (a.off < b.off + b.size ∧ b.off < a.off + a.size)

/-- No two sections of a list share a byte. -/
def sectionsApart : List Section → Bool
  | [] => true
  | s :: t => !(t.any s.meets) && sectionsApart t

/-- The entries against R642 and the strapped role; `weevil` says that the role runs Weevil. -/
def Container.sectionsOk (c : Container) (weevil : Bool) : Bool :=
  let ss := c.secs
  let count (ty : Nat) : Nat := (ss.filter fun s => s.ty == ty).length
  let unused := (List.range 8).all fun k => decide (k < c.nsec) || (slice c.head (96 + 16 * k) 16).all (· == 0)
  let one (s : Section) : Bool :=
    s.zero == 0 && s.off % 4 == 0 && decide (256 ≤ s.off) && decide (s.off + s.size ≤ c.length - 64)
      && (match s.ty with
        | 1 => decide (s.load + s.size ≤ 0x60000)
        | 2 => s.load == 0 && (!weevil || decide (s.size ≤ 24576))
        | 3 => s.load == 0 && decide (s.size ≤ 16384)
        | _ => false)
  decide (1 ≤ c.nsec ∧ c.nsec ≤ 8) && unused && ss.all one && sectionsApart ss
    && decide (1 ≤ count 1 ∧ count 1 ≤ 4) && (!weevil || count 2 == 1) && count 3 == 1

/-- The fused key hash, byte 0 first (R621). -/
def Dev.keyHash (d : Dev) : List Byte := (List.range 8).flatMap fun i => beBytes 4 (d.shadow (0x140 + i)).data.toNat

/-- The carried key is acceptable (R636). -/
def Dev.keyOk (d : Dev) (c : Container) : Bool :=
  c.recovery || (match d.get R.OTP_STATUS_KEYSTATE with
    | 0 => true
    | 1 => sha256 c.key == d.keyHash
    | _ => false)

/-- The public key that verifies the container: that of the ROM for a recovery image. -/
def verifyKey (c : Container) : Nat × Nat :=
  if c.recovery then
    let k := Config.free .romKey []
    (k / 2 ^ 256 % 2 ^ 256, k % 2 ^ 256)
  else (beAt c.key 0 32, beAt c.key 32 32)

/-- The signature verifies. -/
def Dev.signatureOk (d : Dev) (slot : Nat) (c : Container) : Bool :=
  let l := d.slotBytes slot 0 c.length
  let sig := l.drop (c.length - 64)
  let (x, y) := verifyKey c
  ecdsaOk x y (beNat (sha256 (l.take (c.length - 64)))) (beAt sig 0 32) (beAt sig 32 32)

/-- The bytes of the boot profile. -/
def Dev.slotProfile (d : Dev) (slot : Nat) : List Byte :=
  match (d.container slot).secs.find? fun s => s.ty == 3 with
  | some s => d.slotBytes slot s.off s.size
  | none => []

/-- The header, role, kind and section CRC checks of R653. -/
def Dev.bootProfileOk (d : Dev) (slot : Nat) : Bool :=
  match profParts d.roleCode 0 (d.slotProfile slot) with
  | .inl _ => false
  | .inr _ => true

/-- The reason of R643, 0 for a slot that passes; `err` says that the Quad-SPI read fails. -/
def Dev.slotReasonOf (d : Dev) (slot : Nat) (err : Bool) : Nat :=
  let c := d.container slot
  if err then 9
  else if !c.formatOk then 1
  else if c.part != 0x7240 then 2
  else if !decide (512 ≤ c.length ∧ c.length ≤ 1048576) then 3
  else if !c.sectionsOk (d.isRole .dist || d.isRole .tray) then 4
  else if !d.keyOk c then 5
  else if !d.signatureOk slot c then 6
  else if c.sv < d.get R.OTP_STATUS_SV then 7
  else if !d.bootProfileOk slot then 8
  else if tbit d.boot.overfilled slot then 10
  else 0

/-- A slot is checked and reported (R643, R644). A slot whose FAILED flag is set stays FAILED. -/
def Dev.checkSlot (d : Dev) (slot : Nat) (err : Bool) (failed : Bool := false) : Dev :=
  let why := d.slotReasonOf slot err
  let c := d.container slot
  let d := d.modBoot fun b => { b with checked := sbit b.checked slot true }
  let d := (d.put (slotState slot) (if why != 0 then 3 else if failed then 4 else 2)).put (slotReason slot) why
  let d := d.when (!err) fun d =>
    ((d.put (slotSv slot) (min c.sv 127)).putB (slotRecovery slot) c.recovery).put (slotVersion slot) c.version
  let d := d.when err fun d => d.report 13
  d.when (why != 0) fun d => d.report 7

/-! ## The boot order (R639, R645) -/

/-- What the ROM makes of the newest record: the order before skips, whether it is the fallback branch, the record as it
then stands, and whether it is to be written. -/
structure BootPlan where
  order : List Nat
  fallback : Bool
  rec' : StateRec
  write : Bool
  deriving DecidableEq, Repr

def StateRec.has (r : StateRec) (bit : Nat) : Bool := r.flags.testBit bit

/-- A slot number of a record as a list. -/
def asSlot (n : Nat) : List Nat := if n < 2 then [n] else []

/-- The trial fails in a record. -/
def StateRec.trialFails (r : StateRec) (t : Nat) : StateRec :=
  { r with trial := 0xFF, flags := sbit (sbit r.flags srTried false) (srFailed t) true }

def bootPlan (room : Bool) : Option StateRec → BootPlan
  | none => ⟨[0, 1], false, ⟨2 ^ 32 - 1, 0xFF, 0xFF, 0⟩, false⟩
  | some r =>
    if r.trial < 2 then
      if r.has srTried then ⟨asSlot r.conf, true, r.trialFails r.trial, true⟩
      else if !room then ⟨asSlot r.conf, true, r, false⟩
      else ⟨r.trial :: asSlot r.conf, false, { r with flags := sbit r.flags srTried true }, true⟩
    else if r.conf < 2 then ⟨[r.conf, 1 - r.conf], false, r, false⟩
    else ⟨[0, 1], false, r, false⟩

/-- The slots of the plan that are not skipped. -/
def BootPlan.left (p : BootPlan) : List Nat :=
  (p.order.eraseDups).filter fun s => !p.rec'.has (srEmpty s) && !p.rec'.has (srFailed s)

/-- The slots are checked until one passes: the state and the slot booted. -/
def Dev.bootSlots (d : Dev) (err : Nat) : List Nat → Dev × Option Nat
  | [] => (d, none)
  | s :: t =>
    let d := d.checkSlot s (tbit err s)
    if d.slotIs s 2 then (d, some s) else d.bootSlots err t

/-- The record after the boot of slot `s`, and whether it is written. -/
def BootPlan.after (p : BootPlan) (known : Bool) (s : Nat) : StateRec × Bool :=
  if !known then ({ p.rec' with conf := s }, true)
  else if p.left.head? = some s then (p.rec', p.write)
  else
    let r := { p.rec' with conf := s }
    (if r.trial < 2 then r.trialFails r.trial else r, true)

/-- The ROM appends a record where there is room (R639). -/
def Dev.romAppend (d : Dev) (r : StateRec) : Dev :=
  match d.recFree with
  | none => d
  | some p =>
    let r := { r with seq := (d.recBase.seq + 1) % 2 ^ 32 }
    { d with nvm := nvmProgram d.nvm (32 * p) r.bytes }

/-- IMAGE_STATUS after the choice (R645, R646). -/
def Dev.showBoot (d : Dev) (r : StateRec) (known fallback : Bool) (booted : Option Nat) : Dev :=
  let trial := match booted with
    | some s => r.trial == s && known
    | none => false
  let d := d.putB R.IMAGE_STATUS_FALLBACK fallback
  let d := d.put R.IMAGE_STATUS_CONF_SLOT (if r.conf < 2 then r.conf else 0)
  let d := d.putB R.IMAGE_STATUS_CONF_VALID (decide (r.conf < 2))
  let d := d.putB R.IMAGE_STATUS_TRIAL trial
  let d := match booted with
    | none => d
    | some s =>
      let c := d.container s
      let d := (d.put R.IMAGE_STATUS_RUN_SLOT s).putB R.IMAGE_STATUS_RECOVERY c.recovery
      let d := d.put R.IMAGE_STATUS_IMG_SV c.sv
      d.when trial fun d => (d.put R.IMAGE_HEALTH_WINDOW (if c.health = 0 then 256 else c.health)).report 8
  { d with boot := { d.boot with running := booted } }

/-- States of the slots that were not checked in BOOT. -/
def Dev.showSkipped (d : Dev) (r : StateRec) : Dev :=
  d.each ([0, 1].filter fun s => !tbit d.boot.checked s) fun d s =>
    d.put (slotState s) (if r.has (srEmpty s) then 0 else if r.has (srFailed s) then 4 else 0)

/-- The words of a slot's boot profile in the PWM section. -/
def Dev.slotPwm (d : Dev) (slot : Nat) : List (Nat × Nat × Word) :=
  match profParse d.roleCode 0 (d.slotProfile slot) with
  | .inl _ => []
  | .inr p => p.regs.filter fun r => r.1 == 0x0003

/-- Step 5 of R617: the PWM balls go to the safe levels of the slot's PWM section (R110). With a reserved role code the boot
profile is not applied (R89). -/
def Dev.bootSafe (d : Dev) (slot : Nat) : Dev :=
  if d.role.isNone then d
  else
    let d := d.each (d.slotPwm slot) fun d r => d.setWord r.2.1 (d.profWord r.2.1 r.2.2)
    { d with pwm := { d.pwm with balls := .safeOrDriven } }

/-- The boot profile is refused: the PWM balls return to their reset state (R110, R620). -/
def Dev.bootUnsafe (d : Dev) (slot : Nat) : Dev :=
  let d := d.each (d.slotPwm slot) fun d r => d.setWord r.2.1 0
  { d with pwm := { d.pwm with balls := .reset } }

/-- Steps 2 to 6 of R617: the slot booted. `err` gives the slots whose read fails. -/
def Dev.bootImage (d : Dev) (err : Nat) : Dev × Option Nat :=
  let newest := d.newestRec.map (·.2)
  let room := d.recFree.isSome
  let known := newest.isSome
  let p := bootPlan room newest
  let (d, booted) := d.bootSlots err p.left
  let d := match booted with
    | some s => d.bootSafe s
    | none => d
  let (r, write) := match booted with
    | some s => p.after known s
    | none => (p.rec', p.write)
  let d := (d.when (write && room) fun d => d.romAppend r).showSeq
  let stale := p.fallback && !room
  let d := d.when stale fun d =>
    d.modBoot fun b => { b with recQ := b.recQ ++ [⟨.fallback ((newest.map (·.trial)).getD 0), 0⟩] }
  let r := if write && !room then p.rec' else r
  let d := (d.showBoot r (known && !stale) p.fallback booted).showSkipped r
  (d.when p.fallback fun d => d.report 2, booted)

/-- SLOT_CHECK_STANDBY (R644): the slots that BOOT did not check; one whose EMPTY flag is set has no image. -/
def Dev.slotCheckStandby (d : Dev) (err : Nat) : Dev :=
  if !d.mode.afterBoot then d
  else
    let r := d.recBase
    let todo := [0, 1].filter fun s => !tbit d.boot.checked s && !r.has (srEmpty s) && d.boot.writing != some s
    (d.each todo fun d s => d.checkSlot s (tbit err s) (r.has (srFailed s))).showSvPend

/-! ## Records at run time (R639, R647) -/

/-- The boot manager has work: BUSY. -/
def Dev.showBusy (d : Dev) : Dev :=
  let b := d.boot
  d.putB R.IMAGE_STATUS_BUSY (b.writing.isSome || b.imgOp.isSome || b.rec_.isSome || !b.recQ.isEmpty)

/-- A record is to be appended. -/
def Dev.queueRec (d : Dev) (why : RecFor) : Dev := d.modBoot fun b => { b with recQ := b.recQ ++ [⟨why, 0⟩] }

/-- A record of this kind waits or is being written. -/
def Dev.recPending (d : Dev) (p : RecFor → Bool) : Bool :=
  d.boot.recQ.any (fun r => p r.why) || d.boot.rec_.any fun r => p r.why

def RecFor.isConfirm : RecFor → Bool
  | .confirm _ => true
  | _ => false

def RecFor.isFallback : RecFor → Bool
  | .fallback _ => true
  | _ => false

/-- The image command whose work a record is. -/
def RecFor.cmd : RecFor → Nat
  | .begin_ _ => 1
  | .arm _ => 3
  | .confirm _ => 5
  | .fallback _ | .copy => 0

/-- The work of an image command has ended. -/
def Dev.imgDone (d : Dev) (cmd : Nat) : Dev :=
  d.when (cmd != 0 && d.get R.IMAGE_CMD_RES_CMD == cmd) fun d => d.set1 R.IMAGE_CMD_RES_DONE

/-- A record stands: what it was written for takes effect (R647). -/
def Dev.recTakes (d : Dev) (why : RecFor) : Dev :=
  let d := d.recWritten why
  let d : Dev := match why with
    | .confirm t =>
      let d := (d.clr R.IMAGE_STATUS_TRIAL).put R.IMAGE_STATUS_CONF_SLOT t
      (d.set1 R.IMAGE_STATUS_CONF_VALID).showSvPend
    | _ => d
  let few := match d.recFree with
    | some p => decide (128 - p % 128 < 4)
    | none => true
  let d := d.imgDone why.cmd
  d.when (few && why != .copy) fun d => d.modBoot fun b => { b with recQ := ⟨.copy, 0⟩ :: b.recQ }

/-- STATE_RECORD_WRITE_DONE. -/
def Dev.recDone (d : Dev) (ok : Bool) : Dev :=
  match d.boot.rec_ with
  | none => d
  | some r =>
    let d := d.modBoot fun b => { b with rec_ := none }
    if ok then (d.recTakes r.why).showBusy
    else
      let d := d.recSpoilt r.why
      if r.tries < 2 then (d.modBoot fun b => { b with recQ := { r with tries := r.tries + 1 } :: b.recQ }).showBusy
      else ((d.imgDone r.why.cmd).report 13).showBusy

/-! ## Commands (R647, R649, R651) -/

def Dev.imgRes (d : Dev) (cmd : Nat) (c : Code) (done : Bool) : Dev :=
  ((d.putCode R.IMAGE_CMD_RES_CODE c).put R.IMAGE_CMD_RES_CMD cmd).putB R.IMAGE_CMD_RES_DONE done

/-- The slot that a new image goes to: neither running nor confirmed (R651). -/
def Dev.targetSlot (d : Dev) : Option Nat :=
  [0, 1].find? fun s =>
    d.boot.running != some s && !(d.on R.IMAGE_STATUS_CONF_VALID && d.get R.IMAGE_STATUS_CONF_SLOT == s)

/-- BEGIN. -/
def Dev.imgBegin (d : Dev) : Dev :=
  if !d.mode.afterBoot then d
  else if d.wrInh then d.imgRes 1 .temp true
  else if d.on R.IMAGE_STATUS_TRIAL || d.boot.writing.isSome then d.imgRes 1 .mode true
  else match d.targetSlot with
  | none => d.imgRes 1 .mode true
  | some t =>
    let d := (d.imgRes 1 .accepted false).queueRec (.begin_ t)
    let d := ((d.put (slotState t) 1).put (slotReason t) 0)
    let d := ((d.clr R.IMAGE_WCOUNT_BYTES).put R.IMAGE_WCOUNT_FREE 64).clr R.IMAGE_WCOUNT_OVF
    (d.modBoot fun b => { b with
      writing := some t, page := [], pageAt := 0, pageErased := false, finishing := false
      checked := sbit b.checked t true, overfilled := sbit b.overfilled t false }).showBusy

/-- A word for IMAGE_DATA (R652). -/
def Dev.imgData (d : Dev) (w : Word) : Dev :=
  match d.boot.writing with
  | none => d
  | some t =>
    if d.boot.finishing then d
    else if d.get R.IMAGE_WCOUNT_FREE = 0 ∨ 1048576 < d.get R.IMAGE_WCOUNT_BYTES + 4 then
      (d.set1 R.IMAGE_WCOUNT_OVF).modBoot fun b => { b with overfilled := sbit b.overfilled t true }
    else
      let d := d.modBoot fun b => { b with page := b.page ++ leBytes 4 w.toNat }
      (d.put R.IMAGE_WCOUNT_BYTES (d.get R.IMAGE_WCOUNT_BYTES + 4)).put R.IMAGE_WCOUNT_FREE
        (64 - d.boot.page.length / 4)

/-- FINISH. -/
def Dev.imgFinish (d : Dev) : Dev :=
  if !d.mode.afterBoot then d
  else if d.boot.writing.isNone || d.boot.finishing then d.imgRes 2 .mode true
  else if d.on R.IMAGE_WCOUNT_OVF then d.imgRes 2 .badProfile true
  else (d.imgRes 2 .accepted false).modBoot fun b => { b with finishing := true }

/-- ARM. -/
def Dev.imgArm (d : Dev) : Dev :=
  if !d.mode.afterBoot then d
  else match d.targetSlot with
  | none => d.imgRes 3 .mode true
  | some t =>
    if d.slotIs t 2 then ((d.imgRes 3 .accepted false).queueRec (.arm t)).showBusy else d.imgRes 3 .mode true

/-- ABORT. -/
def Dev.imgAbort (d : Dev) : Dev :=
  if !d.mode.afterBoot then d
  else
    let d := d.imgRes 4 .accepted true
    match d.boot.writing with
    | none => d
    | some t =>
      (((d.put (slotState t) 0).put R.IMAGE_WCOUNT_FREE 64).modBoot fun b => { b with
        writing := none, finishing := false, page := [], imgOp := none }).showBusy

/-- CONFIRM. -/
def Dev.imgConfirm (d : Dev) : Dev :=
  if !d.mode.afterBoot then d
  else if !d.on R.IMAGE_STATUS_TRIAL then d.imgRes 5 .mode true
  else ((d.imgRes 5 .accepted false).queueRec (.confirm (d.get R.IMAGE_STATUS_RUN_SLOT))).showBusy

/-! ## Operations on the slot (R640, R652, R658) -/

/-- A flush that has waited goes as soon as nothing holds it back, between two commands of the boot manager (R611, R640). -/
def Dev.flushWaiting (d : Dev) : Dev :=
  if !d.on R.TH_STATUS_FLUSH_WAIT || !d.qspiFree || d.wrInh then d
  else
    let d := d.clr R.TH_STATUS_FLUSH_WAIT
    match [Part.hi, Part.lo].find? fun p => d.on R.TH_CTRL_NVM_EN && decide (d.sectors p ≠ 0) && d.flushDue p with
    | some p => d.startFlush p
    | none => d

/-- The boot manager starts what comes next where the Quad-SPI bus is free: a record, then the pages of the image. A
write inhibit holds programs and erases back (R576). -/
def Dev.imgStart (d : Dev) : Dev :=
  let d := d.when (d.mode.afterBoot && !d.sup.lgRunning) Dev.flushWaiting
  if !d.mode.afterBoot || !d.qspiFree || d.sup.lgRunning then d
  else match d.boot.recQ with
    | r :: t => if d.wrInh then d else d.modBoot fun b => { b with rec_ := some r, recQ := t }
    | [] => match d.boot.writing with
      | none => d
      | some s =>
        let b := d.boot
        let due := b.page.length == 256 || (b.finishing && !b.page.isEmpty)
        let op : Option ImgOp :=
          if due then
            if d.wrInh then none
            else if b.pageAt % 4096 = 0 && !b.pageErased then some (.erase s b.pageAt)
            else some (.program s b.pageAt (b.page ++ List.replicate (256 - b.page.length) 0xFF))
          else if b.finishing then some (.check s) else none
        match op with
        | none => d
        | some _ => (d.modBoot fun b => { b with imgOp := op }).showBusy

/-- IMAGE_PAGE_PROGRAM_DONE: an erase or a program of the slot ends. -/
def Dev.imgPageDone (d : Dev) (ok : Bool) : Dev :=
  match d.boot.imgOp with
  | some (.erase s a) =>
    let d := if ok then d.nvmEraseSector (slotBase s + a) else (d.nvmEraseBad (slotBase s + a)).report 13
    d.modBoot fun b => { b with imgOp := none, pageErased := true }
  | some (.program s a l) =>
    let d := if ok then { d with nvm := nvmProgram d.nvm (slotBase s + a) l }
      else (d.nvmProgramBad (slotBase s + a) l).report 13
    (d.modBoot fun b => { b with imgOp := none, page := [], pageAt := a + 256, pageErased := false }).put
      R.IMAGE_WCOUNT_FREE 64
  | _ => d

/-- IMAGE_FINISH_DONE: the check after FINISH. -/
def Dev.imgFinished (d : Dev) (err : Bool) : Dev :=
  match d.boot.imgOp with
  | some (.check s) =>
    let d := d.modBoot fun b => { b with imgOp := none, writing := none, finishing := false }
    ((d.checkSlot s err).imgDone 2).showBusy
  | _ => d

/-! ## Trial (R646, R649) -/

/-- Turns that the health window has left. -/
def Dev.trialLeft (d : Dev) : Nat :=
  if d.on R.IMAGE_STATUS_TRIAL then d.get R.IMAGE_HEALTH_WINDOW - d.since d.boot.standbyAt / 65536 else 0

/-- The trial fails: the record, FB_PEND, and an off request in RAMP, RUN and RIDE. -/
def Dev.trialFails (d : Dev) : Dev :=
  if !d.on R.IMAGE_STATUS_TRIAL || d.on R.IMAGE_STATUS_FB_PEND then d
  else
    let d := (d.set1 R.IMAGE_STATUS_FB_PEND).queueRec (.fallback (d.get R.IMAGE_STATUS_RUN_SLOT))
    let d := d.showBusy
    if d.mode == .ramp || d.mode == .run || d.mode == .ride then d.offRequest else d

/-- TRIAL_WINDOW_EXPIRE. The trial fails in the next cycle, by `trialOver`. -/
def Dev.trialExpires (d : Dev) : Dev :=
  if d.on R.IMAGE_STATUS_TRIAL && d.trialLeft == 0 then d.modBoot fun b => { b with expired := true } else d

/-- The health window expired in the cycle before: the trial has failed, but for a CONFIRM accepted up to that cycle, which
governs (R649, R658). -/
def Dev.trialOver (d : Dev) : Dev :=
  if !d.boot.expired then d
  else (d.modBoot fun b => { b with expired := false }).when (!d.recPending RecFor.isConfirm) Dev.trialFails

/-- A failed trial resets the node in STANDBY and SAFE, once its record has been dealt with. -/
def Dev.fallbackDue (d : Dev) : Bool :=
  d.on R.IMAGE_STATUS_FB_PEND && (d.mode == .standby || d.mode == .safe) && !d.recPending RecFor.isFallback

end Sys2Proof.Machine
end

