-- ==== Sys2Proof/Machine/Boot.lean ====
section
/-!
DEFINITION. Sys2Proof/Machine/Boot.lean: supply and reset (R94 to R107 of spec/02_package_supply.md), the straps (R86 to
R90), and BOOT with its end (R617 to R620, R649 to R651 of spec/17_boot_otp_update.md, R345 of spec/08_twin_failover.md).
-/

namespace Sys2Proof.Machine

/-! ## Into DARK -/

/-- The part in reset: every state of R70 is gone, fuses and external NVM stay; an operation on the Quad-SPI bus and a
fuse attempt in progress are cut. `keep` tells that the supply stands. `cause` is what RST_CAUSE will give (R650). -/
def Dev.darken (d : Dev) (keep : Bool) (cause : Nat) : Dev :=
  let d := d.abortQspi.otpCutShort
  let sup : Supply := if keep then { Dev.rest.sup with powered := true, railOk := d.sup.railOk, lgArmed := d.sup.lgArmed }
    else Dev.rest.sup
  { Dev.rest with
    otp := d.otp
    nvm := d.nvm
    torn := d.torn
    draws := d.draws
    sup := sup
    boot := { Dev.rest.boot with cause := cause } }

/-- REGULATOR_START: the three regulators stand (R94). With BYPASS = 1 they stay off (R96), and the command does not
come. The last-gasp trigger is not armed until VAUX first passes the re-arm threshold, LAST_GASP_REARM (log entry 24). -/
def Dev.regulatorStart (d : Dev) : Dev :=
  if d.sup.powered then d
  else d.modSup fun s => { s with powered := true, railOk := [true, true, true] }

/-- REGULATOR_STOP (R94). -/
def Dev.regulatorStop (d : Dev) : Dev := if d.sup.powered && !d.bypass then d.darken false 0 else d

/-- EXTERNAL_RAILS_REMOVED (R538). -/
def Dev.railsRemoved (d : Dev) : Dev := if d.mode == .dark || d.bypass then d.darken false 0 else d

/-- RST_N_ASSERT (R104): neither DRAIN nor a last-gasp commit. -/
def Dev.rstAssert (d : Dev) : Dev :=
  if d.sup.powered then (d.darken true 1).modSup fun s => { s with resetHeld := true } else d

/-- An internal reset (R649, R651): its release follows as a command of its own. -/
def Dev.internalReset (d : Dev) (cause : Nat) : Dev := d.darken true cause

/-! ## Out of DARK (R86, R105, R650) -/

/-- INTERNAL_RESET_RELEASE: the straps are sampled and the ROM starts. What the tables of spec/ show as the state after a
BOOT with a boot profile is not yet there. -/
def Dev.resetRelease (d : Dev) (role : Nat) (hostSel bypass : Bool) : Dev :=
  if d.mode != .dark || !(if d.sup.powered then d.sup.railOk.all id else bypass) then d
  else
    let d := d.modSup fun s => { s with
      powered := true, railOk := [true, true, true], regLocked := !bypass, resetHeld := false
      lgArmed := bypass || s.lgArmed, lgGoodSince := if bypass || s.lgArmed then some 0 else none }
    let d := ((d.setMode .boot).put R.SYS_MODE_ROLE role).putB R.SYS_MODE_BYPASS bypass
    let d := (d.putB R.HOST_STATUS_SPI hostSel).clr R.SYS_STATUS_BOOT_PROF
    let d := d.putB R.SYS_STATUS_ROLE_ERR (decide (4 < role))
    let d := (d.setWord A.IMAGE_STATUS 0).put R.IMAGE_STATUS_RST_CAUSE d.boot.cause
    (((d.setWord A.IMAGE_SLOT0 0).setWord A.IMAGE_SLOT1 0).setWord A.RAFTER_TWIN_STATUS 0).bootRecord

/-! ## The end of BOOT -/

/-- The profile of a slot is made for another role (R8). -/
def Dev.otherRole (d : Dev) (slot : Nat) : Bool :=
  let l := d.slotProfile slot
  decide (16 ≤ l.length) && l.take 4 == [0x47, 0x48, 0x50, 0x46] && byteAt l 12 != d.roleCode

/-- The boot profile of a slot fails: what R620 shows. -/
def Dev.bootRefused (d : Dev) (slot : Nat) : Dev := d.when (d.otherRole slot) fun d => d.set1 R.SYS_STATUS_ROLE_ERR

/-- No slot has passed: one rejected for its profile shows R620, the checks of the profile's header being among those of
R643. -/
def Dev.noSlot (d : Dev) : Dev :=
  match [0, 1].find? fun s => tbit d.boot.checked s && d.get (slotReason s) == 8 with
  | some s => if d.role.isSome then (d.profRes .badProfile profHead).bootRefused s else d
  | none => d

/-- Bytes loaded into an SRAM from an offset on. -/
def sramLoad (m : Sparse Byte) (off : Nat) (l : List Byte) : Sparse Byte :=
  (l.mapIdx fun i b => (off + i, b)).foldl (fun m e => swrite 0 m e.1 e.2) m

/-- The sections of the slot booted are in the SRAMs of Scarab and of Weevil (R509, R617, R642). -/
def Dev.sramOf (d : Dev) (slot : Nat) : Dev :=
  d.each (d.container slot).secs fun d s =>
    let l := d.slotBytes slot s.off s.size
    if s.ty == 1 then d.modBoot fun b => { b with sram := sramLoad b.sram s.load l }
    else if s.ty == 2 && (d.isRole .dist || d.isRole .tray) then
      { d with batten := { d.batten with sram := sramLoad d.batten.sram 0 l } }
    else d

/-- Steps 3, 4 and 7 of R617 for the slot booted (R89, R110, R206, R620). -/
def Dev.bootStart (d : Dev) (slot : Nat) : Dev :=
  let d := d.sramOf slot
  if d.role.isNone then d
  else
    -- what the ROM has raised so far finds the classes and reactions of R583 (R582)
    let d := d.settle 8
    match d.bootProfile (d.slotProfile slot) with
    | (d, true) => d.ridgeStart.estStart.showWeevil
    | (d, false) => ((d.bootUnsafe slot).bootRefused slot).trialFails

/-- The self-test of R345: the states of the engines. -/
def Dev.bootEngines (d : Dev) (passA passB : Bool) : Dev :=
  if !d.twinUsed then d
  else
    let d := d.when (!passA) fun d => d.selfTestFailed false
    let d := d.when (!passB) fun d => d.selfTestFailed true
    match passA, passB with
    | true, true => (d.setEn false enActive).setEn true enSynced
    | true, false => ((d.setEn false enActive).setEn true enFailed).evStandby true
    | false, true => ((d.setEn false enFailed).setEn true enActive).evStandby false
    | false, false => (d.setEn false enFailed).setEn true enFailed

/-- BOOT_COMPLETE. -/
def Dev.bootComplete (d : Dev) (passA passB : Bool) (err : Nat) : Dev :=
  if d.mode != .boot then d
  else
    let d := d.otpRead
    if d.region 1 != 2 then (d.otpMarginal).safe .trim none
    else
      let b : Dev × Option Nat := d.bootImage err
      let d := b.1.bootEngines passA passB
      let d : Dev := match b.2 with
        | some s => d.bootStart s
        | none => d.noSlot
      let d := d.otpMarginal
      if d.twinUsed && !passA && !passB then (d.safe .engines none).evLost
      else
        let d := d.standby.showSvPend
        -- the listen of a node with the MGR attribute (R394)
        let d := d.when (d.on R.RINNAK_NODE_MGR) fun d => d.modNet fun n => { n with listening := true }
        let d := (d.modNseg false fun s => { s with base := d.now }).modNseg true fun s => { s with base := d.now }
        (d.modBoot fun b => { b with standbyAt := d.now }).showBusy

/-! ## Resets of the boot manager (R649, R651) -/

/-- FALLBACK_RESET. -/
def Dev.fallbackReset (d : Dev) : Dev := if d.fallbackDue then d.internalReset 3 else d

/-- REBOOT. -/
def Dev.imgReboot (d : Dev) : Dev :=
  if !d.mode.afterBoot then d
  else if d.mode == .standby || d.mode == .safe then d.internalReset 2
  else d.imgRes 6 .mode true

end Sys2Proof.Machine
end

