-- ==== Sys2Proof/Machine/Pins.lean ====
section
/-!
DEFINITION. Sys2Proof/Machine/Pins.lean: the signal balls of the package (R77 of spec/02_package_supply.md), their function
in the strapped role (R80), and the state of each pad by mode (R85, R104, R109, R111), formed from the state of the unit that
the ball serves.
-/

namespace Sys2Proof.Machine

/-! ## Balls -/

/-- The signal balls of R77 by their names in the map; `k` counts within a group, `neg` is the N ball of a pair. -/
inductive Ball where
  | pwmP (n : Nat) | pwmN (n : Nat)
  | qspiClk | qspiCsN | qspiIo (k : Nat)
  | tck | tms | tdi | tdo | trstN
  | bypass | roleStrap (k : Nat) | hostSel
  | xtalIn | xtalOut
  | rstN | shtdn | eventN
  | hostSck | hostMosi | hostMiso | hostCsN
  | railEn (r : Nat) | railPg (r : Nat)
  | mbScl (b : Nat) | mbSda (b : Nat)
  | t1s (segB neg : Bool)
  | gpio (k : Nat) | bt (n : Nat) | sd (n : Nat) | sdclk (k : Nat) | rsto (k : Nat)
  | ain (n : Nat) | mains (x : Nat) | vrefx | td (k : Nat) (neg : Bool)
  deriving DecidableEq, Repr

/-- What a pad drives. A ball whose level a protocol, a crystal or an amplifier makes is `live`: its line levels are not
held. -/
inductive Drive where
  | off | low | high | live
  deriving DecidableEq, Repr

/-- The pull of a pad: the 50 kΩ resistors of R85, R103 and R107, and the source and pull-up of a Batten pad (R477). -/
inductive Pull where
  | none | up | down | source40uA | up1k5
  deriving DecidableEq, Repr

/-- The state of a pad: its drive, whether its input buffer is on, its pull, whether it is one half of an LVDS pair, and the
drive strength in mA of a PWM pad in CMOS mode (R198), 0 elsewhere. -/
structure Pad where
  drive : Drive
  input : Bool
  pull : Pull
  lvds : Bool
  strength : Nat
  deriving DecidableEq, Repr

def Pad.plain (drive : Drive) (input : Bool) (pull : Pull) : Pad := ⟨drive, input, pull, false, 0⟩

/-- An unused ball (R85). -/
def Pad.unused : Pad := .plain .off false .down

/-- A pad with no supply (R109). -/
def Pad.dead : Pad := .plain .off false .none

/-- An input that is on, with no pull. -/
def Pad.inputOn : Pad := .plain .off true .none

/-- A CMOS output. -/
def Pad.level (b : Bool) : Pad := .plain (if b then .high else .low) false .none

/-! ## Role pin functions (R80) -/

/-- The role that the pads are in; in DARK no strap has been sampled (R86). -/
def Dev.padRole (d : Dev) : Option Role := if d.mode = .dark then none else d.role

/-- The role uses the PWM array: its balls are channels. -/
def Role.conv : Role → Bool
  | .rect | .stor | .tray => true
  | _ => false

/-- Input AINn serves something: a trigger source, a scan, or a comparator (R83, R208, R240, R450, R543, R567). -/
def Dev.ainUsed (d : Dev) (n : Nat) : Bool :=
  d.get (R.AINn_CFG_TSRC n) != 0 || d.scanned n || (decide (n < 24) && d.on (R.CMPc_CFG_EN n))

/-- The ball has a function in role `r` (R80, R477), with the strapped host interface and in the configuration (R85). -/
def Dev.ballUsed (d : Dev) (r : Role) : Ball → Bool
  | .pwmP _ => r.conv || r == .dist
  | .pwmN n => r.conv || (r == .dist && decide (16 ≤ n ∧ n < 24))
  | .sd _ => r.conv || r == .dist
  | .sdclk _ => r.conv
  | .bt n => r == .dist || (r == .tray && n == 0)
  | .t1s _ _ => r != .tray
  | .hostMiso | .hostCsN => d.on R.HOST_STATUS_SPI
  | .railPg n => d.railUse n
  | .ain n => d.ainUsed n
  | .mains _ => d.on R.RIDGE_CTRL_MAINS_EN
  | .vrefx => d.get R.ADC_CTRL_REFSEL == 1
  | .td k _ => (List.range 16).any fun c => d.tsKind c == 2 && d.get (R.TSc_CFG_IN c) == k
  | _ => true

/-- The function of the ball changes with the role (R80). -/
def Ball.byRole : Ball → Bool
  | .pwmP _ | .pwmN _ | .sd _ | .sdclk _ | .bt _ | .t1s _ _ => true
  | .gpio k => k == 15
  | _ => false

/-! ## PWM balls (R82, R109, R110, R193, R198) -/

/-- The level that channel `n` has at its ball: none for HIZ and in the reset state. -/
def Dev.chanLevel (d : Dev) (n : Nat) : Option Bool :=
  if d.pwm.balls == .reset then none
  else if (d.chan n).atSafe || (d.setOf n).isNone then
    match d.get (R.PWMn_CFG_SAFE n) with
    | 0 => some false
    | 1 => some true
    | _ => none
  else some (d.chanActive n != d.on (R.PWMn_CFG_POL n))

/-- Drive strength of a bank in CMOS mode. -/
def Dev.bankMilliamps (d : Dev) (b : Nat) : Nat := [4, 8, 12].getD (d.get (R.BANKb_CFG_DRIVE b)) 0

/-- A PWM ball that carries a channel: one half of an LVDS pair, or in CMOS mode the channel on P and low on N. -/
def Dev.pwmPad (d : Dev) (n : Nat) (neg : Bool) : Pad :=
  let drive (b : Bool) : Drive := if b then .high else .low
  let mA := d.bankMilliamps (n / 8)
  if d.pwm.balls == .reset then .plain .off false .down
  else if d.on (R.BANKb_CFG_MODE (n / 8)) then
    match d.chanLevel n with
    | some b => ⟨drive (b != neg), false, .none, true, 0⟩
    | none => ⟨.off, false, .none, true, 0⟩
  else if neg then ⟨.low, false, .none, false, mA⟩
  else match d.chanLevel n with
    | some b => ⟨drive b, false, .none, false, mA⟩
    | none => ⟨.off, false, .down, false, mA⟩

/-! ## Branch and link balls (R447, R477) -/

/-- An output ball of a DIST node: driven by branch or brake control in the modes that regulate, low in the others. -/
def Dev.branchPad (d : Dev) (n : Nat) : Pad :=
  let sw := d.brSwitches (if n < 16 then n / 2 else n - 16)
  let b := if n < 16 then (if n % 2 = 0 then sw.2.1 else sw.2.2) else if n < 24 then sw.1 else (d.br (n - 24)).brake
  .level (d.mode.regulating && b)

/-- BRn_SEAT and BRn_TRIP: monitored after BOOT; the pull-down is off while USE = 1 (R447). -/
def Dev.branchInput (d : Dev) (n : Nat) : Pad :=
  let pull : Pull := if d.on (R.BRn_CFG_USE n) then .none else .down
  .plain .off (d.mode.afterBoot && d.on (R.BRn_CFG_USE n)) pull

/-- The levels, half bit period by half bit period, with which a link has sent its last packet (R478, R479). -/
def Dev.btLine (d : Dev) (n : Nat) : List Bool := ((d.bt n).sent.map BtPacket.line).getD []

/-- A Batten pad (R477, R490, R502). -/
def Dev.btPad (d : Dev) (n : Nat) : Pad :=
  let sends : Drive := if (d.bt n).tx.isEmpty then .off else .live
  if d.isRole .tray then .plain sends true .none
  else if !d.on (R.BRn_CFG_USE n) then .unused
  else match d.lk n with
    | 0 => .plain .off false .none
    | 1 => .plain .off true .source40uA
    | _ => .plain sends true .up1k5

/-! ## Every ball (R109) -/

/-- The reset state, in DARK with the supply good (R104, R109). -/
def Ball.resetPad : Ball → Pad
  | .pwmP _ | .pwmN _ | .gpio _ => .plain .off false .down
  | .railEn _ | .rsto _ => .level false
  | .qspiCsN => .plain .off false .up
  | .rstN => .plain .off true .up
  | .shtdn => .plain .off true .down
  | .bypass | .roleStrap _ | .hostSel | .tck | .tms | .tdi | .trstN => .inputOn
  | .xtalIn | .xtalOut => .plain .live true .none
  | _ => .plain .off false .none

/-- A ball with a function, after internal reset release. -/
def Dev.servedPad (d : Dev) (r : Role) (b : Ball) : Pad :=
  let up := d.mode.afterBoot
  match b with
  | .pwmP n => if r == .dist then d.branchPad n else d.pwmPad n false
  | .pwmN n => if r == .dist then d.branchInput (n - 16) else d.pwmPad n true
  | .sd n => if r == .dist then d.branchInput n else .plain .off up .none
  | .sdclk k => .level (d.sdClkHigh k)
  | .bt n => if up then d.btPad n else .plain .off false .none
  | .t1s _ _ => if up then .plain .live true .none else .plain .off false .none
  | .gpio k => if k == 15 && r == .tray then .plain .off up .none else b.resetPad
  | .railEn n => if !up || d.mode == .standby then .level false else if d.railUse n then .level (d.railEn n) else .unused
  | .railPg _ => .inputOn
  | .rsto k => if up && tbit d.seq.rstoReleased k then .plain .off false .none else .level false
  | .eventN => if up && d.on R.GUT_STATUS_EVENT then .level false else .plain .off false .none
  | .hostSck | .hostMosi | .hostMiso | .hostCsN | .mbScl _ | .mbSda _ =>
    if up then .plain .live true .none else .plain .off false .none
  | .qspiClk | .qspiCsN | .qspiIo _ | .tdo => .plain .live true .none
  | .ain _ | .mains _ | .vrefx | .td _ _ => .inputOn
  | _ => b.resetPad

/-- A ball that the boundary-scan register drives under EXTEST (R635): the digital ones, but for the test port, the straps, the
crystal and the reset. -/
def Ball.scanned : Ball → Bool
  | .tck | .tms | .tdi | .tdo | .trstN | .bypass | .roleStrap _ | .hostSel | .xtalIn | .xtalOut | .rstN | .shtdn
  | .ain _ | .mains _ | .vrefx | .td _ _ => false
  | _ => true

/-- The state of a ball's pad. EXTEST drives it in STANDBY and SAFE (R635). With a reserved role code, and in STANDBY without
a boot profile, every ball that depends on the role is unused (R89, R619); in SAFE without one the SAFE column of R109
holds (R111). -/
def Dev.ball (d : Dev) (b : Ball) : Pad :=
  if !d.sup.powered then .dead
  else if d.mode = .dark then b.resetPad
  else if d.extestDrives && b.scanned then .plain .live true .none
  else if b.byRole && d.mode == .standby && !d.on R.SYS_STATUS_BOOT_PROF then .unused
  else match d.role with
    | some r => if d.ballUsed r b then d.servedPad r b else .unused
    | none => if b.byRole then .unused else if d.ballUsed .hub b then d.servedPad .hub b else .unused

/-- ACTIVE of PWMn_STATUS: the channel's output is at its active level. -/
def Dev.outputActive (d : Dev) (n : Nat) : Bool := d.chanLevel n == some (!d.on (R.PWMn_CFG_POL n))

end Sys2Proof.Machine
end

