-- ==== Sys2Proof/Machine/Host.lean ====
section
/-!
DEFINITION. Sys2Proof/Machine/Host.lean: access to the registers from outside: what a read returns (R25, R692, R696 of
spec/19_register_index.md), how a written word is judged and what it does (R687 to R694), the host target with its
transactions (R660 to R678 of spec/18_twowire_host.md) and Host Notify.
-/

namespace Sys2Proof.Machine

def Dev.modHost (d : Dev) (f : HostIf → HostIf) : Dev := { d with host := f d.host }

/-! ## Reads -/

/-- A flag that a host clears with 1 reads 1 in the register at `a`. -/
def Dev.flagged (d : Dev) (a : Nat) : Bool :=
  match masksAt a with
  | some m => d.word a &&& BitVec.ofNat 32 m.rw1c != 0
  | none => false

/-- The registers of group `b` of ATTN (R696). -/
def attnGroup (b : Nat) : List Nat :=
  match b with
  | 0 => [A.RIDGE_FLAGS, A.RIDGE_MARK_MISSED0, A.RIDGE_MARK_MISSED1]
  | 1 => [A.RAFTER_FLAGS, A.RAFTER_TWIN_CAUSE, A.RAFTER_TWIN_FLAGS]
  | 2 => (List.range 12).flatMap fun s => [A.STAGEs_FLAGS s, A.STAGEs_LOOP_FLAGS s]
  | 3 => A.PWM_FLAGS :: (List.range 32).map A.PWMn_FLAGS
  | 4 => [A.ADC_FLAGS, A.ADC_WIN_FLAGS, A.SDM_FLAGS]
  | 5 => (List.range 24).map A.CMPc_STATUS
  | 6 => [A.SEQ_FLAGS, A.SEQ_RAIL_FAIL]
  | 7 => [A.BR_FLAGS]
  | 8 => [A.BT_FLAGS]
  | 9 => (List.range 6).map A.STk_FLAGS
  | 10 => [A.THERM_FLAGS]
  | 11 => (List.range 4).map A.GUT_LATCHi
  | 12 => [A.TH_STATUS]
  | 13 => [A.OTP_FLAGS]
  | 14 => A.HOST_FLAGS :: (List.range 2).map A.MBb_FLAGS
  | _ => [A.RINNAK_FLAGS, A.COORD_FLAGS]

/-- ATTN of SYS_STATUS. -/
def Dev.attn (d : Dev) : Nat := (List.range 16).foldl (fun a b => sbit a b ((attnGroup b).any d.flagged)) 0

/-- The field `f` of `x` with `v` in it. -/
def Fld.into (f : Fld) (x : Word) (v : Nat) : Word := withField x f.lo f.w v

/-- The staging page and word of PROF_WINw. -/
def Dev.profSpot (d : Dev) (w : Nat) : Nat := 1024 * d.get R.PROF_PAGE_PAGE + w

/-- GUT_SRCn_CFG while the values of R583 stand: REC = 1 and IRQ = 0 (R582); a reserved source reads 0
(R581). -/
def Dev.srcDefault (d : Dev) (ev : Nat) : Word :=
  let x := d.word (A.GUT_SRCn_CFG ev)
  if reservedSource ev then x
  else (R.GUT_SRCn_CFG_REC ev).into ((R.GUT_SRCn_CFG_REACT ev).into ((R.GUT_SRCn_CFG_CLASS ev).into x (defClass ev))
    (defReact ev).code) 1

/-- The word at `a` as a read returns it: fields that follow the state of a block are formed at the read. -/
def Dev.view (d : Dev) (a : Nat) : Word :=
  let x := d.word a
  if a = A.RIDGE_ANGLE then d.angle
  else if a = A.RIDGE_ERA then d.host.latchEra
  else if a = A.RIDGE_FRAC then d.host.latchFrac
  else if a = A.RIDGE_GRID_ANGLE then d.gridAngle
  else if a = A.RAFTER_FLAGS then
    R.RAFTER_FLAGS_STAGE.into x ((List.range 12).foldl (fun m s => sbit m s (d.word (A.STAGEs_LOOP_FLAGS s) != 0)) 0)
  else if a = A.SYS_STATUS then R.SYS_STATUS_ATTN.into x d.attn
  else if a = A.HOST_STATUS then
    let x := R.HOST_STATUS_EVENT.into x (d.get R.GUT_STATUS_EVENT)
    R.HOST_STATUS_PROTO.into x (if d.flagged A.HOST_FLAGS then 1 else 0)
  else if d.gut.defaults && (nthAt (A.GUT_SRCn_CFG 0) 4 128 a).isSome then d.srcDefault ((a - A.GUT_SRCn_CFG 0) / 4)
  else if a = A.IMAGE_HEALTH then R.IMAGE_HEALTH_LEFT.into x d.trialLeft
  else match coefStage a with
    | some s => BitVec.ofNat 32 (d.coefWord s (d.get (R.STAGEs_COEF_IDX_IDX s)))
    | none => match nthAt (A.PROF_WINw 0) 4 1024 a with
      | some w => sread 0 d.boot.hostStage (d.profSpot w)
      | none => match nthAt (A.PWMn_STATUS 0) 0x40 32 a with
        | some n =>
          let bit (b : Bool) : Nat := if b then 1 else 0
          (R.PWMn_STATUS_FORCED n).into ((R.PWMn_STATUS_ACTIVE n).into
            ((R.PWMn_STATUS_DRIVEN n).into x (bit (d.driven n))) (bit (d.outputActive n))) (bit (d.chanForced n))
        | none => match nthAt (A.CARs_PERIOD 0) 0x40 12 a with
          | some s => BitVec.ofNat 32 (d.carPeriod s)
          | none => match nthAt (A.CMPc_DAC 0) 0x10 24 a with
            | some c => (R.CMPc_DAC_IN_USE c).into x (d.cmp c).code
            | none => match nthAt (A.STAGEs_LOOP_STATUS 0) 0x100 12 a with
              | some s =>
                let bit (b : Bool) : Nat := if b then 1 else 0
                (R.STAGEs_LOOP_STATUS_MOVING s).into ((R.STAGEs_LOOP_STATUS_STALE s).into x (bit (d.stale s))) (bit (d.moving s))
              | none => x

/-- After an access to STAGEs_COEF_DATA with AINC = 1 (R295). -/
def Dev.coefAdvance (d : Dev) (s : Nat) : Dev :=
  d.when (d.on (R.STAGEs_COEF_IDX_AINC s)) fun d => d.put (R.STAGEs_COEF_IDX_IDX s) (d.get (R.STAGEs_COEF_IDX_IDX s) + 1)

/-- What a read of the register at `a` brings about (R25, R162, R470, R692). A flag that is set in the same cycle stays set
(R26). -/
def Dev.readEffect (d : Dev) (a : Nat) : Dev :=
  let d := d.when (a == A.RIDGE_ANGLE) fun d => d.modHost fun h =>
    { h with latchEra := d.ridge.era, latchFrac := d.ridge.acc.extractLsb' 0 32 }
  let d : Dev := match coefStage a with
    | some s => d.coefAdvance s
    | none => d
  let d : Dev := match nthAt (A.BRn_VRANGE 0) 0x40 8 a with
    | some n =>
      d.when (d.isRole .dist && !d.rangeNow n) fun d => d.modBr n fun b => { b with rangeRead := true }
    | none => d
  match masksAt a with
  | some m => d.when (m.rc != 0) fun d =>
      d.setWord a (d.word a &&& ~~~BitVec.ofNat 32 m.rc ||| d.setsNow a &&& BitVec.ofNat 32 m.rc)
  | none => d

/-- The next address of a multi-word access (R664). -/
def nextAddr (a : Nat) : Nat := if a = A.IMAGE_DATA ∨ (coefStage a).isSome then a else (a + 4) % 65536

/-- A manager's register, on a node that is no manager (R404). -/
def Dev.mgrBarred (d : Dev) (a : Nat) : Bool := decide (0x6840 ≤ a ∧ a < 0x6A80) && !d.on R.RINNAK_NODE_MGR

/-- `n` words from `a` on, sampled in one cycle (R692): a latch that the read itself fires is part of it. -/
def Dev.readWords (d : Dev) : Nat → Nat → Dev × List Word
  | 0, _ => (d, [])
  | n + 1, a =>
    let x := if d.blockUsed a && !d.mgrBarred a then d.view a else 0
    let r := (d.readEffect a).readWords n (nextAddr a)
    (r.1, x :: r.2)

/-! ## Writes -/

/-- Codes of a command register that its table reserves (R689, second check). -/
def cmdReserved (a : Nat) (w : Word) : Bool :=
  let cmd (f : Fld) (top : Nat) : Bool := decide (top < fieldOf w f.lo f.w)
  if a = A.RAFTER_TWIN_CMD then cmd R.RAFTER_TWIN_CMD_CMD 2
  else if a = A.MGR_CMD then cmd R.MGR_CMD_CMD 1
  else if a = A.SEQ_CMD then cmd R.SEQ_CMD_CMD 4
  else if a = A.ST_CMD then cmd R.ST_CMD_STRING 5
  else if a = A.GUT_CMD then cmd R.GUT_CMD_CMD 2
  else if a = A.OTP_CMD then cmd R.OTP_CMD_CMD 5
  else if a = A.IMAGE_CMD then cmd R.IMAGE_CMD_CMD 6
  else if a = A.PROF_CMD then cmd R.PROF_CMD_CMD 2
  else if (nthAt (A.BRn_CMD 0) 0x40 8 a).isSome then cmd (R.BRn_CMD_CMD 0) 1
  else if (nthAt (A.BTn_CMD 0) 0x40 8 a).isSome then cmd (R.BTn_CMD_CMD 0) 4
  else false

/-- A reserved code is the last command of its result register, refused with BAD_PROFILE (R33, R689). -/
def Dev.cmdRefused (d : Dev) (a : Nat) (w : Word) : Dev :=
  let cmd (f : Fld) : Nat := fieldOf w f.lo f.w
  if a = A.RAFTER_TWIN_CMD then d.twinRes (cmd R.RAFTER_TWIN_CMD_CMD) .badProfile
  else if a = A.MGR_CMD then (d.putCode R.MGR_CMD_RES_CODE .badProfile).put R.MGR_CMD_RES_CMD (cmd R.MGR_CMD_CMD)
  else if a = A.SEQ_CMD then d.seqRes (cmd R.SEQ_CMD_CMD) .badProfile
  else if a = A.ST_CMD then d.stRes (cmd R.ST_CMD_CMD) (cmd R.ST_CMD_STRING) .badProfile
  else if a = A.OTP_CMD then (d.putCode R.OTP_RES_CODE .badProfile).put R.OTP_RES_CMD (cmd R.OTP_CMD_CMD)
  else if a = A.IMAGE_CMD then (d.putCode R.IMAGE_CMD_RES_CODE .badProfile).put R.IMAGE_CMD_RES_CMD (cmd R.IMAGE_CMD_CMD)
  else match nthAt (A.BRn_CMD 0) 0x40 8 a with
    | some n => d.putCode (R.BRn_CMD_RES_CODE n) .badProfile
    | none => match nthAt (A.BTn_CMD 0) 0x40 8 a with
      | some n => (d.putCode (R.BTn_CMD_RES_CODE n) .badProfile).put (R.BTn_CMD_RES_CMD n) (cmd (R.BTn_CMD_CMD 0))
      | none => d

/-- A profile command (R657): the code that the write is answered with. -/
def Dev.profCommand (d : Dev) (cmd : Nat) : Dev × Nat :=
  match cmd with
  | 1 => (d.profCommit, if d.bufferBusy false then Code.mode.val else 0)
  | 2 => (d.profDiscard, 0)
  | _ => (d, 0)

/-- An OTP command (R625, R626). -/
def Dev.otpCommand (d : Dev) (armed : Bool) (cmd : Nat) : Dev × Nat :=
  let res (d : Dev) : Dev × Nat := (d, d.get R.OTP_RES_CODE)
  match cmd with
  | 1 => res d.otpReadWord
  | 2 => res d.otpReadArray
  | 3 => res (d.otpProg armed)
  | 4 => res (d.otpLock armed)
  | 5 => res (d.otpDebugLock armed)
  | _ => (d, 0)

/-- An image command (R651). -/
def Dev.imgCommand (d : Dev) (cmd : Nat) : Dev × Nat :=
  let res (d : Dev) : Dev × Nat := (d, d.get R.IMAGE_CMD_RES_CODE)
  match cmd with
  | 1 => res d.imgBegin
  | 2 => res d.imgFinish
  | 3 => res d.imgArm
  | 4 => res d.imgAbort
  | 5 => res d.imgConfirm
  | 6 => if d.mode == .standby || d.mode == .safe then (d.imgReboot, 0) else res d.imgReboot
  | _ => (d, 0)

/-- A sequencer command (R517). -/
def Dev.seqCommand (d : Dev) (cmd : Nat) : Dev × Nat :=
  let res (d : Dev) : Dev × Nat := (d, d.get R.SEQ_CMD_RES_CODE)
  match cmd with
  | 1 => res d.cmdOn
  | 2 => res d.cmdOff
  | 3 => res d.cmdClearSafe
  | 4 => res d.cmdQuiet
  | _ => (d, 0)

/-- A stage command (R303). -/
def Dev.stageCommand (d : Dev) (s cmd : Nat) : Dev × Nat :=
  let res (d : Dev) : Dev × Nat := (d, d.get (R.STAGEs_CMD_RES_CODE s))
  match cmd with
  | 1 => res (d.cmdStart s)
  | 2 => res (d.cmdStop s)
  | 3 => res (d.cmdClear s)
  | _ => (d, 0)

/-- A storage command (R558, R561, R562). -/
def Dev.stCommand (d : Dev) (k cmd : Nat) : Dev × Nat :=
  let res (d : Dev) : Dev × Nat := (d, d.get R.ST_CMD_RES_CODE)
  match cmd with
  | 1 => res (d.cmdLearn k)
  | 2 => res (d.cmdDrill k)
  | 3 => res (d.cmdDrillStop k)
  | _ => (d, 0)

/-- A link command (R499, R503, R507, R508). -/
def Dev.linkCommand (d : Dev) (n cmd : Nat) : Dev × Nat :=
  let res (d : Dev) : Dev × Nat := (d, d.get (R.BTn_CMD_RES_CODE n))
  match cmd with
  | 1 => res (d.btCmdDissolve n)
  | 2 => res (d.btCmdSwap n)
  | 3 => res (d.btCmdTest n)
  | 4 => res (d.btCmdRequest n)
  | _ => (d, 0)

/-! ### Module-bus commands (R679, R680) -/

def Dev.mb (d : Dev) (b : Nat) : Option MbTrans := d.mbus.trans.getD b none

def Dev.setMb (d : Dev) (b : Nat) (t : Option MbTrans) : Dev :=
  { d with mbus := { d.mbus with trans := updAt d.mbus.trans b fun _ => t } }

/-- `n` bytes of the registers TX0–TX7 or TTX0–TTX7 of a bus, from the address `a` of the first. -/
def Dev.wordBytes (d : Dev) (a n : Nat) : List Byte :=
  ((List.range 8).flatMap fun k => leBytes 4 (d.word (a + 4 * k)).toNat).take n

/-- Bytes into eight registers from the address `a` on, byte 4k in the low bits; what they do not reach stays. -/
def Dev.putBytes (d : Dev) (a : Nat) (l : List Byte) : Dev :=
  let old := d.wordBytes a 32
  let all := l.take 32 ++ old.drop l.length
  d.each ((List.range 8).zip (leWords 8 all)) fun d p => d.setWord (a + 4 * p.1) p.2

/-- The bytes that the controller sends for a protocol after its address byte, with the repeated START's address byte
for a protocol that reads. -/
def Dev.mbOut (d : Dev) (b proto addr : Nat) : List Byte :=
  let code := BitVec.ofNat 8 (d.get (R.MBb_LEN_CODE b))
  let w := d.get (R.MBb_LEN_WLEN b)
  let tx (n : Nat) : List Byte := d.wordBytes (A.MBb_TXk b 0) n
  let sr := BitVec.ofNat 8 (2 * addr + 1)
  match proto with
  | 1 => [code]
  | 2 => code :: tx 1
  | 3 => code :: tx 2
  | 4 | 5 | 7 => [code, sr]
  | 6 => [code, BitVec.ofNat 8 w] ++ tx w
  | 8 => tx w
  | _ => tx w ++ [sr]

/-- A protocol whose last bytes come from the target. -/
def mbReads (proto : Nat) : Bool := proto == 4 || proto == 5 || proto == 7 || proto == 9

/-- The answer to a module-bus command. -/
def Dev.mbCode (d : Dev) (b proto : Nat) (pec : Bool) : Code :=
  if (pec && (proto == 8 || proto == 9)) || decide (9 < proto) || decide (32 < d.get (R.MBb_LEN_WLEN b))
      || decide (32 < d.get (R.MBb_LEN_RLEN b)) || (proto == 6 && d.get (R.MBb_LEN_WLEN b) == 0) then .badProfile
  else if !d.mode.afterBoot || !d.on (R.MBb_CFG_EN b) || (d.mb b).isSome then .mode
  else .accepted

/-- A module-bus protocol is commanded. -/
def Dev.mbStart (d : Dev) (b proto addr : Nat) (pec : Bool) : Dev :=
  let c := d.mbCode b proto pec
  if c != .accepted then d.putCode (R.MBb_RES_CODE b) c
  else
    let first := BitVec.ofNat 8 (2 * addr)
    let body := first :: d.mbOut b proto addr
    let out := if pec && !mbReads proto then body ++ [BitVec.ofNat 8 (crc8 body)] else body
    let d := (d.setWord (A.MBb_RES b) 0).putCode (R.MBb_RES_CODE b) .accepted
    d.setMb b (some ⟨proto, addr, pec, out, 0, 0, false⟩)

def Dev.mbCommand (d : Dev) (b : Nat) (w : Word) : Dev × Nat :=
  let f (x : Fld) : Nat := fieldOf w x.lo x.w
  let p := f (R.MBb_CMD_PROTO 0)
  if p = 0 then (d, 0)
  else
    let d := d.mbStart b p (f (R.MBb_CMD_TADDR 0)) (f (R.MBb_CMD_PEC 0) == 1)
    (d, d.get (R.MBb_RES_CODE b))

/-- The PMBus commands that the role firmware speaks to legacy modules, with the protocols of each (R683). -/
def pmbusCommands : List (Nat × List Nat) := [
  (0x01, [2, 4]), (0x02, [2]), (0x03, [1]), (0x10, [2]), (0x19, [4]), (0x20, [4]), (0x21, [3]), (0x78, [4]), (0x79, [5]),
  (0x7A, [4]), (0x7B, [4]), (0x7D, [4]), (0x88, [5]), (0x8B, [5]), (0x8C, [5]), (0x8D, [5]), (0x96, [5]), (0x98, [4]),
  (0x99, [7]), (0x9A, [7])]

/-- A transaction that the role firmware makes with a legacy module (R683). -/
def pmbusOk (code proto : Nat) : Bool := pmbusCommands.any fun c => c.1 == code && c.2.contains proto

/-! ### Registers whose write is a command -/

/-- A write to a WO register: the state and the code, none where the register is no such one. `armed` tells that the
write before this one armed the OTP commands. -/
def Dev.cmdWrite (d : Dev) (armed : Bool) (a : Nat) (w : Word) : Option (Dev × Nat) :=
  let f (x : Fld) : Nat := fieldOf w x.lo x.w
  if a = A.ADC_CAL_CMD then
    some (if f R.ADC_CAL_CMD_GO = 1 then let d := d.cal (f R.ADC_CAL_CMD_CORE); (d, d.get R.ADC_CAL_RESULT_CODE) else (d, 0))
  else if a = A.CMP_TEST then
    some (if f R.CMP_TEST_GO = 1 then let d := d.cmpTest (f R.CMP_TEST_CMP); (d, d.get R.CMP_TEST_RES_CODE) else (d, 0))
  else if a = A.RAFTER_TWIN_CMD then
    some (match f R.RAFTER_TWIN_CMD_CMD with
      | 1 => let d := d.twinTest; (d, d.get R.RAFTER_TWIN_CMD_RES_CODE)
      | 2 => let d := d.twinSwap; (d, d.get R.RAFTER_TWIN_CMD_RES_CODE)
      | _ => (d, 0))
  else if a = A.MGR_CMD then
    some (if f R.MGR_CMD_CMD = 1 then let d := d.mgrSwap; (d, d.get R.MGR_CMD_RES_CODE) else (d, 0))
  else if a = A.RINNAK_KEY_ACT then let d := d.keyCommit w.toNat; some (d, d.get R.RINNAK_KEY_RES_CODE)
  else if a = A.SEQ_CMD then some (d.seqCommand (f R.SEQ_CMD_CMD))
  else if a = A.ST_CMD then some (d.stCommand (f R.ST_CMD_STRING) (f R.ST_CMD_CMD))
  else if a = A.GUT_INJ_CHECK then
    some (if f R.GUT_INJ_CHECK_GO = 1 then
      let r := d.injCheck (f R.GUT_INJ_CHECK_POINT) (f R.GUT_INJ_CHECK_INDEX); (r.1, r.2.val) else (d, 0))
  else if a = A.GUT_CMD then
    some (match f R.GUT_CMD_CMD with
      | 1 => (d.clearFirst, 0)
      | 2 => (d.snapHist, 0)
      | _ => (d, 0))
  else if a = A.TH_FW_CMT then some (if f R.TH_FW_CMT_GO = 1 then (d.fwCommit, 0) else (d, 0))
  else if a = A.TH_SNAP_CMD then
    let d := d.when (f R.TH_SNAP_CMD_OPEN == 1) Dev.snapOpen
    some (d.when (f R.TH_SNAP_CMD_CLOSE == 1) Dev.snapClose, 0)
  else if a = A.TH_RELEASE then some (d.release w.toNat, 0)
  else if a = A.OTP_ARM then some (d.modBoot fun b => { b with armed := f R.OTP_ARM_KEY == 0xC35A }, 0)
  else if a = A.OTP_CMD then some (d.otpCommand armed (f R.OTP_CMD_CMD))
  else if a = A.IMAGE_CMD then some (d.imgCommand (f R.IMAGE_CMD_CMD))
  else if a = A.IMAGE_DATA then some (d.imgData w, 0)
  else if a = A.PROF_CMD then some (d.profCommand (f R.PROF_CMD_CMD))
  else match nthAt (A.RINNAK_KEYk 0) 4 8 a with
    | some k => some (d.stageKey k w, 0)
    | none => match nthAt (A.STAGEs_CMD 0) 0x100 12 a with
      | some s => some (d.stageCommand s (f (R.STAGEs_CMD_CMD 0)))
      | none => match nthAt (A.BRn_CMD 0) 0x40 8 a with
        | some n => some (if f (R.BRn_CMD_CMD 0) = 1 then let d := d.brClear n; (d, d.get (R.BRn_CMD_RES_CODE n)) else (d, 0))
        | none => match nthAt (A.BTn_CMD 0) 0x40 8 a with
          | some n => some (d.linkCommand n (f (R.BTn_CMD_CMD 0)))
          | none => match nthAt (A.GUT_FORCEi 0) 4 4 a with
            | some i => let r := d.force i w.toNat; some (r.1, r.2.val)
            | none => match nthAt (A.MBb_CMD 0) 0x100 2 a with
              | some b => some (d.mbCommand b w)
              | none => none

/-! ### Registers that hold what is written -/

/-- The register of a set point that R283 judges (SP_TARGET, SP_VMAX, SP_AMAX, SP_JMAX, TRIM, CAP), by `which`. -/
def setpointAddr (s which : Nat) : Nat :=
  match which with
  | 0 => A.STAGEs_SP_TARGET s
  | 1 => A.STAGEs_SP_VMAX s
  | 2 => A.STAGEs_SP_AMAX s
  | 3 => A.STAGEs_SP_JMAX s
  | 4 => A.STAGEs_TRIM s
  | _ => A.STAGEs_CAP s

/-- A word that R283 lets into a set-point register, judged against the coefficients in force. -/
def Dev.setpointOk (d : Dev) (s which : Nat) (w : Word) : Bool :=
  let x := Bf.ofWord (w.toNat % 2 ^ 24)
  match which with
  | 0 => (d.coef s cSpMin).val.le x.val && x.val.le (d.coef s cSpMax).val
  | 1 | 2 | 3 => decide (0 < x.m)
  | 4 => x.val.abs.le (d.coef s cTrimMax).val
  | _ => (d.coef s cRmin).val.le x.val

/-- Stage and kind of the set-point register at `a`. -/
def setpointAt (a : Nat) : Option (Nat × Nat) :=
  ((List.range 12).flatMap fun s => (List.range 6).map fun k => (s, k)).find? fun p => setpointAddr p.1 p.2 == a

/-- A write of STAGEs_TRIM at `a` while the share group of the stage is enabled (R339). -/
def Dev.trimBusy (d : Dev) (a : Nat) : Bool :=
  match (List.range 12).find? fun s => a == A.STAGEs_TRIM s with
  | some s => (List.range 2).any fun g => d.on (R.STG_SHAREg_CFG_EN g) && (d.shareMembers g).contains s
  | none => false

/-- A GROUP_TRIM whose magnitude exceeds the TRIM_MAX of a member (R339). -/
def Dev.groupTrimBad (d : Dev) (a : Nat) (w : Word) : Bool :=
  match (List.range 2).find? fun g => a == A.STG_SHAREg_TRIM g with
  | some g => (d.shareMembers g).any fun s => !(Bf.ofWord (w.toNat % 2 ^ 24)).val.abs.le (d.coef s cTrimMax).val
  | none => false

/-- The bits of a register that a host write sets: fields whose value comes from the boot profile hold 0 before one has
been applied (R694). -/
def Dev.hostMask (d : Dev) (a : Nat) (m : Masks) : Nat :=
  let open_ := (m.rw ||| m.rwl) - ((m.rw ||| m.rwl) &&& fixedBits a)
  if d.on R.SYS_STATUS_BOOT_PROF then open_ else open_ - (open_ &&& m.bp)

/-- `x` with the bits of `m` taken from `w`. -/
def mix (m : Nat) (x w : Word) : Word := (x &&& ~~~(BitVec.ofNat 32 m)) ||| (w &&& BitVec.ofNat 32 m)

/-- A check over several registers that held fails with `x` in the register at `a` (R283, R655, R689). -/
def Dev.crossFails (d : Dev) (a : Nat) (x : Word) : Bool :=
  let before := d.crossChecks
  let after := (d.setWord a x).crossChecks
  (before.zip after).any fun p => p.1.2 && !p.2.2

/-- Bits written 1 to a register with RW1C fields; one that is set in the same cycle stays set (R26). -/
def Dev.clearFlags (d : Dev) (a : Nat) (m : Masks) (w : Word) : Dev :=
  if m.rw1c = 0 then d
  else match nthAt (A.GUT_LATCHi 0) 4 4 a with
    | some i => d.latchClear i w.toNat
    | none => d.setWord a (d.word a &&& ~~~(w &&& BitVec.ofNat 32 m.rw1c &&& ~~~d.setsNow a))

/-- A coefficient through STAGEs_COEF_DATA (R252, R253, R276, R295). Every accepted access moves a counting index on, and a
refused one too: it is a write all the same. Before a boot profile the word has no effect (R694). -/
def Dev.coefWrite (d : Dev) (s : Nat) (w : Word) : Dev × Code :=
  let i := d.get (R.STAGEs_COEF_IDX_IDX s)
  let d' := d.setCoef s i w
  let fails := (d.crossChecks.zip d'.crossChecks).any fun p => p.1.2 && !p.2.2
  if d.mode.regulating && d.coefWord s i != coefNorm w then (d.coefAdvance s, .mode)
  else if fails || (decide (54 < i) && coefNorm w != coefNorm 0) then (d.coefAdvance s, .badProfile)
  else ((if d.on R.SYS_STATUS_BOOT_PROF && decide (i ≤ 54) then d'.recopy else d).coefAdvance s, .accepted)

/-- A word written to the register at `a` that is no command (R689, R690). Over a Rinnak message of the same cycle it is
answered and changes nothing: the message's value stands (R54). -/
def Dev.plainWrite (d : Dev) (a : Nat) (m : Masks) (w : Word) : Dev × Code :=
  let old := d.word a
  let judged := mix (m.rw ||| m.rwl) old w
  let new := if d.cyc.net.contains a then old else mix (d.hostMask a m) old w
  if d.mode.regulating && (old ^^^ judged) &&& BitVec.ofNat 32 m.rwl != 0 then (d, .mode)
  else if m.rw ||| m.rwl != 0 && (!d.rowOk a judged || d.crossFails a new) then (d, .badProfile)
  else if (match setpointAt a with
      | some (s, k) => !d.setpointOk s k w
      | none => false) || d.groupTrimBad a w then (d, .badProfile)
  else if d.trimBusy a then (d, .busyRun)
  else if d.mgrBarred a then (d, .mode)
  else if a = A.MGR_BUDGET then
    let d := d.budgetWrite (fieldOf w 0 16)
    (d, if !d.isPrimary then .mode else if fieldOf w 0 16 < d.get R.MGR_POLICY_RESERVE then .budget else .accepted)
  else
    let d := d.noteWas a
    let d' := (d.setWord a new).clearFlags a m w
    let d' := if new = old then d' else Dev.written d d'
    (d'.when (a == A.TH_RD_SEL) fun d => d.recordRead (d.get R.TH_RD_SEL_SRC) (d.get R.TH_RD_SEL_INDEX), .accepted)

/-- A word is presented to the register at `a` (R25, R33, R687 to R690): the state and the code of the answer. -/
def Dev.present (d : Dev) (a : Nat) (w : Word) : Dev × Nat :=
  let a := a / 4 * 4
  let armed := d.boot.armed
  let d := d.disarm
  match masksAt a with
  | none => (d, 0)
  | some m =>
    if !d.blockUsed a then (d, if d.mgrBarred a then Code.mode.val else 0)
    else if cmdReserved a w then (d.cmdRefused a w, Code.badProfile.val)
    else if d.mgrBarred a && m.wo != 0 then (d, Code.mode.val)
    else match d.cmdWrite armed a w with
      | some r => r
      | none => match coefStage a with
        | some s => let r := d.coefWrite s w; (r.1, r.2.val)
        | none => match nthAt (A.PROF_WINw 0) 4 1024 a with
          | some k => (d.modBoot fun b => { b with hostStage := swrite 0 b.hostStage (d.profSpot k) w }, 0)
          | none => let r := d.plainWrite a m w; (r.1, r.2.val)

/-- A presented word with what HOST_WRES and HOST_STATUS show of it (R666). -/
def Dev.presentWord (d : Dev) (a : Nat) (w : Word) : Dev :=
  let r := d.present a w
  -- the part is in reset after a word that has reset it (R651)
  if !r.1.mode.afterBoot then r.1
  else
    let d := (r.1.put R.HOST_WRES_CODE r.2).put R.HOST_WRES_ADDR (a / 4 * 4)
    d.putB R.HOST_STATUS_LAST_REFUSED (r.2 != 0)

/-- REGISTER_WRITE. -/
def Dev.registerWrite (d : Dev) (a : Nat) (w : Word) : Dev :=
  if d.mode.afterBoot then
    (d.presentWord a w).when (d.presentWord a w).mode.afterBoot fun d =>
      { d with cyc := { d.cyc with firmware := a / 4 * 4 :: d.cyc.firmware } }
  else d

/-- A command that a row of the table names is written to its register at `a`: it acts in the modes in which registers
are served, where the role uses the block, and it disarms the OTP commands. -/
def Dev.byRegister (d : Dev) (a : Nat) (f : Dev → Dev) : Dev :=
  if d.mode.afterBoot && d.blockUsed a then f d.disarm else d

/-! ## The host target (R660 to R673) -/

/-- SLEEP_ADDR in force. -/
def Dev.sleepAddr (d : Dev) : Nat := let a := d.get R.HOST_CFG_SLEEP_ADDR; if a = 0 then 0x59 else a

/-- The address in force follows ADDR at the end of a transaction (R661, R662). -/
def Dev.showAddr (d : Dev) : Dev :=
  if d.mode.afterBoot then
    let a := d.get R.HOST_CFG_ADDR
    d.put R.HOST_STATUS_ADDR_NOW (if a = 0 then 0x58 else a)
  else d

def Dev.spi (d : Dev) : Bool := d.on R.HOST_STATUS_SPI

/-- EV124 of the host bus, with the flag that says why. -/
def Dev.hostError (d : Dev) (f : Fld) : Dev := d.when d.mode.afterBoot fun d => (d.set1 f).report 124 0

/-- A transaction has been served; `bad` says that it set an error flag. -/
def Dev.countHost (d : Dev) (bad : Bool) : Dev :=
  d.when d.mode.afterBoot fun d => (d.bump R.HOST_CNT_XFER).when bad fun d => d.bump R.HOST_CNT_ERR

/-- The end of QUIET by the host (R672). -/
def Dev.quietWake (d : Dev) : Dev :=
  if d.mode == .standby && d.quiet then d.quietEnd.modHost fun h => { h with silentTo := d.cycles + 10000 } else d

/-- The target serves transactions (R672, R673): after BOOT, but not from a last-gasp trigger to LG_DONE and not in the
50 µs after a wake. -/
def Dev.hostServes (d : Dev) : Bool := d.mode.afterBoot && !d.sup.lgRunning && decide (d.host.silentTo ≤ d.cycles)

/-- The next word of the host write under way goes to its register (R691); a word to IMAGE_DATA that finds FREE = 0 is not
acknowledged, and ends the write (R668). Words held for the PEC have been acknowledged. A last gasp abandons the transaction
(R684). -/
def Dev.hostWord (d : Dev) : Dev :=
  match d.host.toGo with
  | none => d
  | some t =>
    let ended (d : Dev) (bad : Bool) : Dev := (d.modHost fun h => { h with toGo := none }).countHost bad
    if d.sup.lgRunning then d.modHost fun h => { h with toGo := none }
    else match t.words with
      | [] => ended d t.bad
      | (a, w) :: l =>
        if a = A.IMAGE_DATA && !d.spi && !t.held && d.get R.IMAGE_WCOUNT_FREE == 0 then ended (d.set1 R.HOST_FLAGS_NAK_FULL) true
        else
          let d := d.presentWord a w
          if !d.mode.afterBoot then d
          else if l.isEmpty then ended d t.bad
          else d.modHost fun h => { h with toGo := some { t with words := l } }

/-- What is left of a host write is over before the next transaction. -/
def Dev.hostWords (d : Dev) : Dev :=
  match d.host.toGo with
  | none => d
  | some t => (d.each t.words fun d _ => d.hostWord.finish).hostWord

/-- Each word with the register that it goes to (R664). -/
def wordsFrom : Nat → List Word → List (Nat × Word)
  | _, [] => []
  | a, w :: t => (a / 4 * 4, w) :: wordsFrom (nextAddr (a / 4 * 4)) t

/-- The words would run into a full page buffer before they are presented (R665, R668). -/
def Dev.wouldNak (d : Dev) : Nat → Nat → Bool
  | _, 0 => false
  | a, n + 1 => (a / 4 * 4 = A.IMAGE_DATA && !d.spi && d.get R.IMAGE_WCOUNT_FREE == 0) || d.wouldNak (nextAddr (a / 4 * 4)) n

/-- The body of a write: data bytes after the register address. The first word goes to its register at once, over a firmware
write of the same cycle without effect (R693). -/
def Dev.writeBody (d : Dev) (held : Bool) (a : Nat) (data : List Byte) (sr : Bool) : Dev :=
  let n := data.length / 4
  let short := data.length % 4 != 0
  let words := wordsFrom a (leWords n (data.take (4 * n)))
  let d := { d with cyc := { d.cyc with net := d.cyc.firmware ++ d.cyc.net } }
  let d := if sr then d.hostError R.HOST_FLAGS_PROTO_SR else d.when short fun d => d.hostError R.HOST_FLAGS_LEN_ERR
  (d.modHost fun h => { h with toGo := some ⟨held, sr || short, words⟩ }).hostWord

/-- A write whose words are held for the PEC (R665). -/
def Dev.writeHeld (d : Dev) (wire : List Byte) (a : Nat) (data : List Byte) (sr : Bool) : Dev :=
  let body := data.dropLast
  if sr then (d.hostError R.HOST_FLAGS_PROTO_SR).countHost true
  else if d.wouldNak a (body.length / 4) then (d.set1 R.HOST_FLAGS_NAK_FULL).countHost true
  else if crc8 wire.dropLast != byteAt wire (wire.length - 1) then (d.hostError R.HOST_FLAGS_PEC_ERR).countHost true
  else d.writeBody true a body false

/-- The first byte of a transaction in QUIET: SLEEP_ADDR, or on SPI the opcode 0xAB, ends it (R672). -/
def Dev.quietByte (d : Dev) (first : Nat) : Dev :=
  if if d.spi then first == 0xAB else first / 2 == d.sleepAddr then d.quietWake else d

/-- What an SPI frame shifts out during its opcode byte (R663). -/
def Dev.shiftStatus (d : Dev) : Dev :=
  d.when d.spi fun d => d.modHost fun h => { h with statusOut := (d.view A.HOST_STATUS).extractLsb' 0 8 }

/-- An SPI frame that ends inside its opcode is ignored (R667). -/
def Dev.spiCut (d : Dev) : Dev :=
  d.when (d.spi && !d.quiet) fun d => (d.hostError R.HOST_FLAGS_LEN_ERR).countHost true

/-- HOST_WRITE (R663 to R668, R672, R673, R678). -/
def Dev.hostWrite (d : Dev) (wire : List Byte) (sr : Bool) : Dev :=
  let wire := if sr then wire.dropLast else wire
  let first := byteAt wire 0
  let d := d.hostWords
  if !d.hostServes then d
  else if wire.isEmpty then d.spiCut
  else if d.quiet then d.quietByte first
  else
  let d := d.shiftStatus
  if d.spi then
    if first != 0x02 then d
    else if wire.length < 3 then (d.hostError R.HOST_FLAGS_LEN_ERR).countHost true
    else if d.on R.HOST_CFG_PEC_EN then d.writeHeld wire (beAt wire 1 2) (wire.drop 3) false
    else d.writeBody false (beAt wire 1 2) (wire.drop 3) false
  else if first != 2 * d.get R.HOST_STATUS_ADDR_NOW then d
  else if wire.length < 3 then
    (if sr then (d.hostError R.HOST_FLAGS_PROTO_SR).countHost true else d.countHost false)
  else if d.on R.HOST_CFG_PEC_EN then d.writeHeld wire (beAt wire 1 2) (wire.drop 3) sr
  else d.writeBody false (beAt wire 1 2) (wire.drop 3) sr

/-- HOST_READ (R663, R667, R692). -/
def Dev.hostRead (d : Dev) (wire : List Byte) : Dev :=
  let first := byteAt wire 0
  let d := d.hostWords
  let mine := if d.spi then first == 0x0B else first == 2 * d.get R.HOST_STATUS_ADDR_NOW
  if !d.hostServes then d
  else if wire.isEmpty then d.spiCut
  else if d.quiet then d.quietByte first
  else
  let d := d.shiftStatus
  if !mine then d
  else if wire.length < 3 && d.spi then (d.hostError R.HOST_FLAGS_LEN_ERR).countHost true
  else if wire.length < 4 then d.countHost false
  else
    let n := byteAt wire 3
    if n = 0 ∨ 64 < n then (d.hostError R.HOST_FLAGS_LEN_ERR).countHost true
    else
      let r := d.readWords n (beAt wire 1 2 / 4 * 4)
      let data := r.2.flatMap fun w => leBytes 4 w.toNat
      let sent := if d.spi then padTo 5 (wire.take 5) else wire.take 4 ++ [BitVec.ofNat 8 (first + 1)]
      let pec := if d.on R.HOST_CFG_PEC_EN then [BitVec.ofNat 8 (crc8 (sent ++ data))] else []
      (r.1.modHost fun h => { h with readBack := data ++ pec }).countHost false

/-- SCL_LOW_TIMEOUT (R669): the transaction is discarded. -/
def Dev.sclLowTimeout (d : Dev) : Dev :=
  if !d.mode.afterBoot || d.sup.lgRunning || d.spi || d.on R.HOST_CFG_LOWTO_DIS then d
  else (d.hostError R.HOST_FLAGS_LOW_TO).bump R.HOST_CNT_ERR

/-! ## Host Notify (R675 to R677) -/

/-- The notify fails (R676). -/
def Dev.notifyEnds (d : Dev) (failed : Bool) : Dev :=
  let d := d.modHost fun h => { h with notify := none, naks := 0, losses := 0, waits := false }
  (d.clr R.HOST_STATUS_HN_PEND).when failed fun d => d.set1 R.HOST_FLAGS_HN_FAIL

/-- A Host Notify may be sent now. -/
def Dev.notifyMay (d : Dev) : Bool := d.mode.afterBoot && !d.quiet && !d.sup.lgRunning && !d.spi

/-- The pending notify is sent: `acked` says that 0x08 was acknowledged, `lost` that the arbitration was lost, `sr` that
another controller's START came where an acknowledge was due, which ends the send as a lost arbitration does (R678). -/
def Dev.notifySend (d : Dev) (acked lost sr : Bool) : Dev :=
  match d.host.notify with
  | none => d
  | some (ev, cls) =>
    let frame : List Byte :=
      [0x10, BitVec.ofNat 8 (2 * d.get R.HOST_STATUS_ADDR_NOW), BitVec.ofNat 8 ev, BitVec.ofNat 8 cls]
    let d := d.modHost fun h => { h with sent := frame, waits := false }
    if lost || sr then
      let d := (d.set1 R.HOST_FLAGS_ARB_LOST).when sr fun d => d.hostError R.HOST_FLAGS_PROTO_SR
      let d := d.modHost fun h => { h with losses := h.losses + 1 }
      if 16 ≤ d.host.losses then d.notifyEnds true else d
    else if acked then d.notifyEnds false
    else
      let d := d.modHost fun h => { h with naks := h.naks + 1, losses := 0, waits := true }
      if 3 ≤ d.host.naks then d.notifyEnds true else d

/-- HOST_NOTIFY. -/
def Dev.hostNotifyNow (d : Dev) (acked lost sr : Bool) : Dev :=
  if d.notifyMay && !d.host.waits then d.notifySend acked lost sr else d

/-- HOST_NOTIFY_RETRY. -/
def Dev.hostNotifyRetry (d : Dev) (acked lost sr : Bool) : Dev :=
  if d.notifyMay && d.host.waits then d.notifySend acked lost sr else d

/-! ## Module buses (R670, R671, R677, R681, R682) -/

/-- EV124 of a module bus. -/
def Dev.mbError (d : Dev) (b : Nat) : Dev := d.report 124 (b + 1)

/-- A transaction of bus `b` is over with outcome `stat` and the bytes `rx`. -/
def Dev.mbEnd (d : Dev) (b stat : Nat) (rx : List Byte) : Dev :=
  match d.mb b with
  | none => d
  | some t =>
    let rlen := match t.proto with
      | 4 => 1
      | 5 => 2
      | 7 | 9 => d.get (R.MBb_LEN_RLEN b)
      | _ => 0
    let rx := rx.take (min 32 rlen)
    let d := d.when (mbReads t.proto) fun d => (d.putBytes (A.MBb_RXk b 0) rx)
    let d := ((d.put (R.MBb_RES_STAT b) stat).set1 (R.MBb_RES_DONE b)).put (R.MBb_RES_RCOUNT b) rx.length
    let d := (d.put (R.MBb_RES_TRIES b) (Config.fit .mbTries 4 (t.naks + t.arbs : Nat))).setMb b none
    d.when (decide (3 ≤ stat)) fun d => d.mbError b

/-- The flag of an outcome (R670, R671, R677, R678). -/
def Dev.mbFlag (d : Dev) (b stat : Nat) : Dev :=
  match stat with
  | 3 => d.set1 (R.MBb_FLAGS_ARB_LOST b)
  | 4 => d.set1 (R.MBb_FLAGS_LOW_TO b)
  | 5 => d.set1 (R.MBb_FLAGS_PEC_ERR b)
  | 6 => (d.set1 (R.MBb_FLAGS_PROTO_SR b)).set1 (R.MBb_FLAGS_ARB_LOST b)
  | 7 => d.set1 (R.MBb_FLAGS_BUS_STUCK b)
  | _ => d

/-- MB_TRANSACTION_DONE: a transaction on the bus comes to an outcome; NAK_ADDR and ARB_LOST are retried within their
limits (R681). -/
def Dev.mbDone (d : Dev) (b stat : Nat) (rx : List Byte) : Dev :=
  match d.mb b with
  | none => d
  | some t =>
    if t.waits then d
    else
    -- a block longer than RLEN (R681)
    let stat := if t.proto = 7 ∧ stat = 0 ∧ d.get (R.MBb_LEN_RLEN b) < rx.length then 8 else stat
    let d := d.mbFlag b stat
    if stat = 1 ∧ t.naks < d.get (R.MBb_CFG_RETRY_MAX b) then
      d.setMb b (some { t with naks := t.naks + 1, waits := true })
    else if stat = 3 ∧ t.arbs < d.get (R.MBb_CFG_ARB_MAX b) then
      d.setMb b (some { t with arbs := t.arbs + 1, waits := true })
    else d.mbEnd b stat rx

/-- MB_RETRY: the transaction is on the bus again. -/
def Dev.mbRetry (d : Dev) (b : Nat) : Dev :=
  match d.mb b with
  | none => d
  | some t => d.setMb b (some { t with waits := false })

/-- MB_STRETCH_TIMEOUT (R670): a target's clock stretch has passed its limit. -/
def Dev.mbStretch (d : Dev) (b : Nat) : Dev :=
  match d.mb b with
  | none => d
  | some t => if t.waits || d.on (R.MBb_CFG_LOWTO_DIS b) then d else (d.mbFlag b 4).mbEnd b 4 []

/-- BUS_RECOVERY (R671): the pulses have freed SDA, or the bus is stuck. On the host bus there is no flag for it but
EV124. -/
def Dev.busRecovery (d : Dev) (bus : Nat) (freed : Bool) : Dev :=
  if !d.mode.afterBoot || freed then d
  else if bus = 2 then (if d.spi then d else d.report 124 0)
  else if !d.on (R.MBb_CFG_EN bus) then d
  else if (d.mb bus).isSome then (d.mbFlag bus 7).mbEnd bus 7 []
  else (d.mbFlag bus 7).mbError bus

/-- The bus serves as target (R682). -/
def Dev.mbTarget (d : Dev) (b : Nat) : Bool :=
  d.mode.afterBoot && d.on (R.MBb_CFG_EN b) && d.get (R.MBb_CFG_OWN b) != 0

/-- MB_TARGET_WRITE. With `sr` a repeated START came where the last byte's acknowledge was due: the byte is discarded, and no STOP
has ended the write (R678). -/
def Dev.mbTargetWrite (d : Dev) (b : Nat) (l : List Byte) (sr : Bool) : Dev :=
  if !d.mbTarget b then d
  else
    let l := if sr then l.dropLast else l
    let d := (d.putBytes (A.MBb_TRXk b 0) (l.take 32)).put (R.MBb_TSTAT_RX_LEN b) (min 32 l.length)
    let d := if sr then (d.set1 (R.MBb_FLAGS_PROTO_SR b)).mbError b else d.set1 (R.MBb_FLAGS_TGT_RX b)
    d.when (decide (32 < l.length)) fun d => d.set1 (R.MBb_FLAGS_TGT_OVF b)

/-- MB_TARGET_READ: `n` bytes are taken, of TTX0–TTX7 and then 0xFF; TX_READ counts those of TTX0–TTX7 (DEDUCED, log entry
351). -/
def Dev.mbTargetRead (d : Dev) (b n : Nat) : Dev :=
  if !d.mbTarget b then d
  else
    let l := d.wordBytes (A.MBb_TTXk b 0) (min 32 n) ++ List.replicate (n - 32) 0xFF
    { d with mbus := { d.mbus with returned := updAt d.mbus.returned b fun _ => l } }.put (R.MBb_TSTAT_TX_READ b) (min 32 n)

end Sys2Proof.Machine
end

