-- ==== Sys2Proof/Machine/Messages.lean ====
section
/-!
DEFINITION. Sys2Proof/Machine/Messages.lean: what a node does with a message that FRAME_RECEIVE has passed on (R431): the
time messages of Ridge (R146 to R154), the reports and settings of the rack (R367 to R402), profiles and records.
-/

namespace Sys2Proof.Machine

/-- The first waiting message of a type is taken and acted on. A message of the other manager shows its presence, unless it serves
the rack angle alone (R435). -/
def Dev.onMsg (d : Dev) (ty : Nat) (act : Dev → RxMsg → Dev) : Dev :=
  match d.takeMsg ty with
  | none => d
  | some (m, d) => act (d.when (!m.angleOnly) fun d => d.peerSeen m.msg.src) m

/-! ## Ridge (R148 to R150) -/

/-- The servo runs with the pair of segment `b`; a first step is followed by a DELAY_REQ on each segment (R149). -/
def Dev.servoNow (d : Dev) (b : Bool) (t1 t2 : Nat) : Dev :=
  let was := d.src
  let d := d.servo b t1 t2
  d.when (was == srcFree && d.src == srcDisc) Dev.delayReqs

/-- The pair of segment `b` is chosen. A mark that has fired in this cycle has done so before the step: the step is taken with
the next cycle (R159). -/
def Dev.runServo (d : Dev) (b : Bool) (t1 t2 : Nat) : Dev :=
  if d.src == srcFree && !d.cyc.fired.isEmpty then
    { d with ridge := { d.ridge with used := true, pairHeld := some (b, t1, t2) } }
  else d.servoNow b t1 t2

/-- The complete pair of segment `b` for the present beacon instant. -/
def Dev.pairOn (d : Dev) (b : Bool) : Option (Nat × Nat) :=
  match (d.seg b).rx with
  | some x => if x.seq == d.get R.RIDGE_BEACON_SEQ then x.t1.map fun t1 => (t1, x.t2) else none
  | none => none

/-- The next BEACON falls due: segment B's pair serves where segment A has delivered none (R148). -/
def Dev.instantDue (d : Dev) : Dev :=
  if d.ridge.used then d
  else match d.pairOn true with
    | some (t1, t2) => d.runServo true t1 t2
    | none => d

/-- A BEACON at a worker (R148, R149, R395, R722). Every copy goes to Ridge; TICK is taken from the first copy only
(R423), and not by a keyless node (R435). -/
def Dev.beaconHeard (d : Dev) (m : RxMsg) : Dev :=
  let p := m.msg.payload
  let q := beAt p 0 2
  let fresh := q != d.get R.RIDGE_BEACON_SEQ || !((d.seg false).rx.isSome || (d.seg true).rx.isSome)
  let d := d.when fresh fun d =>
    let d := (d.instantDue).put R.RIDGE_BEACON_SEQ q
    ({ d with ridge := { d.ridge with used := false } }).when (!m.angleOnly) Dev.copyAges
  let d := d.modSeg m.segB fun s => { s with rx := some ⟨q, m.rxAt, none⟩ }
  let d := d.modCoord fun c => { c with beaconSeq := q }
  let d := d.when (m.first && !m.angleOnly) fun d => d.modCoord fun c => { c with tick := some (byteAt p 11) }
  d.when (fresh && q % 128 == 4 * d.busId % 128) Dev.delayReqs

/-- BEACON. -/
def Dev.msgBeacon (d : Dev) : Dev :=
  d.onMsg tBeacon fun d m => if d.isPrimary then d.when (!m.angleOnly) Dev.rivalBeacon else if d.isWorker then d.beaconHeard m else d

/-- FOLLOW_UP: the pair of its segment is complete; segment A's is chosen at once (R148). -/
def Dev.msgFollowUp (d : Dev) : Dev :=
  d.onMsg tFollowUp fun d m =>
    let b := m.segB
    let q := beAt m.msg.payload 0 2
    let t1 := beAt m.msg.payload 2 12
    match (d.seg b).rx with
    | none => d
    | some x =>
      if !d.isWorker || x.seq != q || x.t1.isSome then d
      else
        let d := d.modSeg b fun s => { s with rx := some { x with t1 := some t1 }, last := some (t1, x.t2) }
        let d := d.modCoord fun c => { c with lastInstant := t1 / 2 ^ 32 / 8192 * 8192 }
        if b || d.ridge.used || q != d.get R.RIDGE_BEACON_SEQ then d else d.runServo false t1 x.t2

/-- BEACON_MISSED: where segment B has the pair, this instant is its choice, and no beacon is missed (R148, R153). -/
def Dev.beaconMissed (d : Dev) : Dev :=
  if !d.isWorker then d
  else if !d.ridge.used && (d.pairOn true).isSome then d.instantDue
  else
    let d := (d.modSeg false fun s => { s with rx := none }).modSeg true fun s => { s with rx := none }
    ({ d with ridge := { d.ridge with used := false } }).beaconMiss

/-- DELAY_REQ at the primary (R149): a later one of the same worker takes the place of the one that waits. -/
def Dev.msgDelayReq (d : Dev) : Dev :=
  d.onMsg tDelayReq fun d m =>
    if !d.isPrimary then d
    else
      let w : DelayWait := ⟨byteAt m.msg.payload 0, beAt m.msg.payload 2 2, m.rxAt⟩
      let put (l : List DelayWait) : List DelayWait :=
        if l.any fun x => x.node == w.node then l.map fun x => if x.node == w.node then w else x else l ++ [w]
      d.modSeg m.segB fun s => { s with waiting := put s.waiting }

/-- DELAY_RESP_RELEASE: at most 6 in any 2.0 turns on a segment (R149). -/
def Dev.delayRelease (d : Dev) (b : Bool) : Dev :=
  let recent := (d.seg b).released.filter fun t => decide (d.since t < 2 * 65536)
  match (d.seg b).waiting with
  | [] => d
  | w :: rest =>
    if !d.isPrimary || 6 ≤ recent.length then d
    else
      let d := d.modSeg b fun s => { s with waiting := rest, released := recent ++ [d.now] }
      (d.sendOn b tDelayResp w.node ([BitVec.ofNat 8 w.node, 0] ++ beBytes 2 w.seq ++ beBytes 12 w.t4)).1

/-- DELAY_RESP at its worker (R149). -/
def Dev.msgDelayResp (d : Dev) : Dev :=
  d.onMsg tDelayResp fun d m =>
    let b := m.segB
    match (d.seg b).out with
    | none => d
    | some o =>
      if !d.isWorker || o.seq != beAt m.msg.payload 2 2 || byteAt m.msg.payload 0 != d.busId then d
      else
        let x := tsDiff o.t2 o.t1 + tsDiff (beAt m.msg.payload 4 12) o.t3
        (d.modSeg b fun s => { s with out := none, delays := (x :: s.delays).take 4 }).pathNs b

/-! ## Reports at a manager (R370, R384, R387, R402) -/

/-- A report of the member behind a bus ID. -/
def Dev.onReport (d : Dev) (ty : Nat) (act : Dev → Nat → List Byte → Dev) : Dev :=
  d.onMsg ty fun d m =>
    if d.isManager && d.reportCounts m.msg.src then act d (d.homeOf m.msg.src) m.msg.payload else d

def Dev.msgShelfReport (d : Dev) : Dev := d.onReport tShelfReport fun d j p => d.memberReport j p
def Dev.msgRideReport (d : Dev) : Dev := d.onReport tRideReport fun d j p => d.memberRide j (byteAt p 0 == 1)
def Dev.msgDemandReport (d : Dev) : Dev := d.onReport tDemandReport fun d j p => d.memberDemand j (beAt p 0 2) (beAt p 2 2)

/-! ## Settings at a worker (R369) -/

/-- The entry of this node in a list message; a primary has its own settings from itself (R368). -/
def Dev.onSetting (d : Dev) (ty size : Nat) (act : Dev → List Byte → Dev) : Dev :=
  d.onMsg ty fun d m =>
    if d.isPrimary then d
    else match d.ownEntry size m.msg.payload with
      | some e => act d e
      | none => d

def Dev.msgOffsetSet (d : Dev) : Dev := d.onSetting tOffsetSet 6 fun d e => d.takeOffset (beAt e 1 4)
def Dev.msgShareTrim (d : Dev) : Dev := d.onSetting tShareTrim 4 fun d e => d.takeTrim (beAt e 0 3)

def Dev.msgSliceSet (d : Dev) : Dev :=
  d.onSetting tSliceSet 4 fun d e => if d.isRole .dist then d.sliceInForce (beAt e 1 2) else d

def Dev.msgChargeSet (d : Dev) : Dev :=
  d.onSetting tChargeSet 4 fun d e => if d.isRole .stor then d.allowanceInForce (beAt e 1 2) else d

/-! ## Managers (R397, R402, R421) -/

def Dev.msgMgrState (d : Dev) : Dev := d.onMsg tMgrState fun d m => d.takeState m.msg.payload
def Dev.msgTakeover (d : Dev) : Dev := d.onMsg tTakeover fun d m => d.takeoverHeard m.msg.payload

def Dev.msgPresence (d : Dev) : Dev := d.onMsg tPresence fun d m => d.presenceHeard m.msg.src (byteAt m.msg.payload 0 % 32)

/-! ## Profiles, answers, records (R425, R609) -/

/-- The parts of a profile as PROFILE_LOAD carries them (R419): transfer ID, total length, offset, `per` bytes of it. -/
def profilePayloads (per : Nat) (x : ProfSend) : List (List Byte) :=
  (List.range ((x.bytes.length + per - 1) / per)).map fun k =>
    beBytes 2 x.tid ++ beBytes 2 x.bytes.length ++ beBytes 2 (per * k) ++ [0, 0] ++ slice x.bytes (per * k) per

/-- The primary sends a live profile to a node (R58): every part is queued, or none (R425). -/
def Dev.distribute (d : Dev) (x : ProfSend) : Dev :=
  if !d.isPrimary then d
  else (d.sendAll ((profilePayloads (max 1 (d.maxLen - 8)) x).map fun p => (tProfileLoad, clNormal, x.dst, p))).1

def Dev.msgProfileLoad (d : Dev) : Dev := d.onMsg tProfileLoad fun d m => d.profPart m.msg.src m.msg.payload

def Dev.msgAck (d : Dev) : Dev :=
  d.onMsg tAck fun d m =>
    let p := m.msg.payload
    d.modNet fun n => { n with lastAck := some (m.msg.src, byteAt p 0, byteAt p 1, beAt p 2 2) }

def Dev.msgThatchFwd (d : Dev) : Dev :=
  d.onMsg tThatchFwd fun d m =>
    if d.isManager then d.storeForeign (Record.ofBytes (slice m.msg.payload 4 32)) else d

end Sys2Proof.Machine
end

