-- ==== Sys2Proof/Machine/End.lean ====
section
/-!
DEFINITION. Sys2Proof/Machine/End.lean: what every command ends with, the modes in which the rows of the table happen, and
one CLK200 cycle.
-/

namespace Sys2Proof.Machine

/-- What a command answers. -/
abbrev Result := Host.Outcome State Fault Refusal

/-- A live profile that is due at the turn boundary of this cycle goes before whatever Gutter takes in with this command, so
that it is applied first and the reaction second (R53). -/
def Dev.profFirst (d : Dev) : Dev :=
  d.when (d.profDue && !(d.raised.isEmpty && d.levels.raised.isEmpty)) Dev.profBoundary

/-- The end of every command: Gutter takes in what was raised, after a live profile that is due; conditions act by their level,
the boot manager starts what comes next, and the address in force is shown. -/
def Dev.ends (d : Dev) : Dev := d.profFirst.finish.imgStart.showAddr

/-- A command on the units that serve after BOOT (R67); before, it meets nothing to act on. -/
def Dev.inService (d : Dev) (f : Dev → Dev) : Dev := if d.mode.afterBoot then f d else d

/-- A command that acts in every mode but DARK. -/
def Dev.awake (d : Dev) (f : Dev → Dev) : Dev := if d.mode = .dark then d else f d

/-- The answer of a command that leaves the part in `d`, where its operands name units that the part has (`ok`). -/
def State.answer (s : State) (ok : Bool) (d : Dev) : Result :=
  if ok then .next { s with dev := d.ends } else .fault .noSuchUnit

/-- The delay-locked loop comes to lock at an open moment after BOOT (R181; log entry 41); DLL_LOCK then reads 1. Up to the end
of BOOT it reads the 0 of its Reset column (R27). -/
def Dev.tickDll (d : Dev) : Dev :=
  if d.mode.afterBoot && Config.free .dllLock [d.cycles] % 2 == 1 then d.put R.PWM_FLAGS_DLL_LOCK 1 else d

/-- One CLK200 cycle of the converters, demodulators and comparators. -/
def Dev.tickSense (d : Dev) : Dev :=
  let d := ((d.each (List.range 2) Dev.sdClkTick).sampleTick.each (List.range 4) Dev.doubledTick).each (List.range 8) Dev.coreTick
  let d := d.when d.sensing fun d => d.each (List.range 8) Dev.checkTick
  let d := (d.each (List.range 48) Dev.pointTick).each (List.range 8) Dev.sdTick
  d.sweepTick.each (List.range 24) Dev.cmpTick

/-- Steps that have waited for this cycle are taken (R159). -/
def Dev.heldSteps (d : Dev) : Dev :=
  let lock := d.ridge.lockHeld && d.mainsEn && !d.on R.RIDGE_STATUS_GRID_LOCK
  let pair := d.ridge.pairHeld
  let d := { d with ridge := { d.ridge with lockHeld := false, pairHeld := none } }
  let d := d.when lock Dev.lockNow
  match pair with
  | some (b, t1, t2) => d.when d.isWorker fun d => d.servoNow b t1 t2
  | none => d

/-- One CLK200 cycle: the waveforms have their edges (R178), angles and carriers add their increments (R117, R170), with the
wrap of the rack angle storage anchors age (R119, R559), half-period transfers take place (R183), the grid PLL and the
converters run, the tray observes BRK0 (R473), and the checkers that compare in every cycle compare (R595). -/
def Dev.oneCycle (d : Dev) : Dev :=
  let wraps := d.wrapsNext
  let d := (Dev.gutterTick { d with cyc := .rest }).when (d.gut.forcing.contains 10) Dev.trialFails
  let d := d.gridGivesWay.seqSteps.trialOver
  let before := d.each (List.range 32) Dev.waveTick
  let d := { before with cycles := before.cycles + 1 }.tickCarriers.tickAngles.when wraps Dev.anchorAge
  let gridTurn (d : Dev) : BitVec 16 := d.ridge.grid.extractLsb' 48 16
  let d := d.tickPll (gridTurn before != gridTurn d) (d.cyc.reedNew && d.reed % 1024 == 0)
  let d := ((before.tickHalf d).tickDll).tickSense
  (d.heldSteps.tickBrake (before.turn != d.turn)).cycleChecks.hostWord

/-- Time goes on by one CLK200 cycle. A part that is DARK or that has lost CLK200 does not count; a part that has lost it goes on
with its own oscillator's cycle. Everything else that time brings is a row of the table. -/
def Dev.tick (d : Dev) : Dev :=
  if d.mode = .dark ∨ d.sup.clockLost then (Dev.gutterTick { d with cyc := .rest }).trialOver.hostWord.ends else d.oneCycle.ends

/-- ERA_INCREMENT (R119): the CLK200 cycle in which the rack angle passes from 0xFFFF_FFFF to 0, where it is the next one. -/
def Dev.eraCycle (d : Dev) : Dev := if d.sup.clockLost || !d.wrapsNext then d else d.oneCycle

end Sys2Proof.Machine
end

