-- ==== Sys2Proof/Machine/DoBatten.lean ====
section
/-!
DEFINITION. Sys2Proof/Machine/DoBatten.lean: the meanings of the commands on the Batten link (spec/12_batten_link.md).
-/

namespace Sys2Proof.Machine

/-- SIGNATURE_MEASURE (R483). -/
def execSignatureMeasure (n mv : Nat) (s : State) : Result :=
  s.answer (decide (n < 8)) <| s.dev.inService fun d => d.btSignature n mv

/-- DETACH (R485). -/
def execDetach (n : Nat) (s : State) : Result := s.answer (decide (n < 8)) <| s.dev.inService fun d => d.brDetach n

/-- PACKET_TRANSMIT (R481). -/
def execPacketTransmit (n : Nat) (collided : Bool) (s : State) : Result :=
  s.answer (decide (n < 8)) <| s.dev.inService fun d => d.btTransmit n collided

/-- SRC_CAP (R503). -/
def execBtSrcCap (n : Nat) (f : BtFrame) (s : State) : Result :=
  s.answer (decide (n < 8)) <| s.dev.inService fun d => d.btOn n f btSrcCap fun d q => d.sinkCap q

/-- SRC_CAP_REPEAT (R492). -/
def execBtSrcCapRepeat (n : Nat) (s : State) : Result :=
  s.answer (decide (n < 8)) <| s.dev.inService fun d => d.srcCapRepeat n

/-- NO_SINK (R492). -/
def execBtNoSink (n : Nat) (s : State) : Result := s.answer (decide (n < 8)) <| s.dev.inService fun d => d.btNoSink n

/-- REQUEST (R494). -/
def execBtRequest (n : Nat) (f : BtFrame) (s : State) : Result :=
  s.answer (decide (n < 8)) <| s.dev.inService fun d => d.btOn n f btRequest fun d q => d.btJudge n q

/-- ANSWER (R502). -/
def execBtAnswer (n : Nat) (f : BtFrame) (s : State) : Result :=
  s.answer (decide (n < 8)) <| s.dev.inService fun d => d.btOn n f btAnswer fun d q => d.btAnsweredRequest q

/-- OFFER (R498). -/
def execBtOffer (n : Nat) (f : BtFrame) (s : State) : Result :=
  s.answer (decide (n < 8)) <| s.dev.inService fun d => d.btOn n f btOffer fun d q => d.sinkOffer q

/-- READY (R496). -/
def execBtReady (n : Nat) (f : BtFrame) (s : State) : Result :=
  s.answer (decide (n < 8)) <| s.dev.inService fun d => d.btOn n f btReady fun d q => d.sinkReady q

/-- DISSOLVE (R499). -/
def execBtDissolve (n : Nat) (f : BtFrame) (s : State) : Result :=
  s.answer (decide (n < 8)) <| s.dev.inService fun d => d.btOn n f btDissolve fun d q => d.btDissolved n q

/-- SWAP_REQUEST (R507). -/
def execBtSwapRequest (n : Nat) (f : BtFrame) (s : State) : Result :=
  s.answer (decide (n < 8)) <| s.dev.inService fun d => d.btOn n f btSwap fun d q => d.btSwapAsked n q

/-- PING (R493). -/
def execBtPing (n : Nat) (f : BtFrame) (s : State) : Result :=
  s.answer (decide (n < 8)) <| s.dev.inService fun d => d.btOn n f btPing fun d q => d.btAckWith n q .accepted

/-- PING_SEND (R493). -/
def execBtPingSend (n : Nat) (s : State) : Result :=
  s.answer (decide (n < 8)) <| s.dev.inService fun d => d.btPingSend n

/-- GET (R505). -/
def execBtGet (n : Nat) (f : BtFrame) (s : State) : Result :=
  s.answer (decide (n < 8)) <| s.dev.inService fun d => d.btOn n f btGet fun d q => d.btGetAsked n q

/-- GET_SEND (R505). -/
def execBtGetSend (n : Nat) (s : State) : Result := s.answer (decide (n < 8)) <| s.dev.inService fun d => d.btGetSend n

/-- DATA (R505). -/
def execBtData (n : Nat) (f : BtFrame) (s : State) : Result :=
  s.answer (decide (n < 8)) <| s.dev.inService fun d => d.btOn n f btData fun d q => d.btDataIn n q

/-- BATTEN_ACK (R497). -/
def execBtAck (n : Nat) (f : BtFrame) (s : State) : Result :=
  s.answer (decide (n < 8)) <| s.dev.inService fun d => d.btOn n f btAck fun d q => d.btAcked n q

/-- LOOP (R508). -/
def execBtLoop (n : Nat) (f : BtFrame) (s : State) : Result :=
  s.answer (decide (n < 8)) <| s.dev.inService fun d => d.btOn n f btLoop fun d _ => d

/-- REQUEST_RESEND (R487). -/
def execBtResend (n : Nat) (s : State) : Result := s.answer (decide (n < 8)) <| s.dev.inService fun d => d.btRetry n

/-- RENEG_TIMEOUT (R498). -/
def execRenegTimeout (s : State) : Result := s.answer true <| s.dev.inService fun d => d.renegTimeout

/-- CONTRACT_LOST (R502). -/
def execContractLost (s : State) : Result := s.answer true <| s.dev.inService fun d => d.contractLost

/-- LINE_UP (R502). -/
def execLineUp (s : State) : Result := s.answer true <| s.dev.inService fun d => d.lineUp

/-- LINE_DOWN (R502). -/
def execLineDown (s : State) : Result := s.answer true <| s.dev.inService fun d => d.lineDown

/-- BATTEN_CMD_DISSOLVE (R499). -/
def execBtCmdDissolve (n : Nat) (s : State) : Result :=
  s.answer (decide (n < 8)) <| s.dev.byRegister (A.BTn_CMD n) fun d => d.btCmdDissolve n

/-- BATTEN_CMD_SWAP (R507). -/
def execBtCmdSwap (n : Nat) (s : State) : Result :=
  s.answer (decide (n < 8)) <| s.dev.byRegister (A.BTn_CMD n) fun d => d.btCmdSwap n

/-- BATTEN_CMD_TEST (R508). -/
def execBtCmdTest (n : Nat) (s : State) : Result :=
  s.answer (decide (n < 8)) <| s.dev.byRegister (A.BTn_CMD n) fun d => d.btCmdTest n

/-- BATTEN_CMD_REQUEST (R503). -/
def execBtCmdRequest (n : Nat) (s : State) : Result :=
  s.answer (decide (n < 8)) <| s.dev.byRegister (A.BTn_CMD n) fun d => d.btCmdRequest n

/-- LOOP_TEST_DONE (R508). -/
def execLoopTestDone (n mv : Nat) (samples : Bool) (f : BtFrame) (s : State) : Result :=
  s.answer (decide (n < 8)) <| s.dev.inService fun d => d.btTestDone n mv samples f

/-- WEEVIL_WATCHDOG (R510). -/
def execWeevilWatchdog (s : State) : Result := s.answer true <| s.dev.inService fun d => d.weevilRestart

end Sys2Proof.Machine
end

