-- ==== Sys2Proof/Machine/DoBoot.lean ====
section
/-!
DEFINITION. Sys2Proof/Machine/DoBoot.lean: the meanings of the commands on images, fuses, JTAG and profiles
(spec/17_boot_otp_update.md).
-/

namespace Sys2Proof.Machine

/-- SLOT_CHECK_STANDBY (R644). -/
def execSlotCheckStandby (err : Nat) (s : State) : Result :=
  s.answer (decide (err < 4)) <| s.dev.inService fun d => d.slotCheckStandby err

/-- LG_SLOT_FIND (R612). -/
def execLgSlotFind (s : State) : Result := s.answer true <| s.dev.inService fun d => d.lgFind

/-- SV_RAISE (R648). -/
def execSvRaise (s : State) : Result := s.answer true <| s.dev.inService fun d => d.svRaise

/-- TRIAL_WINDOW_EXPIRE (R649). -/
def execTrialWindowExpire (s : State) : Result := s.answer true <| s.dev.inService fun d => d.trialExpires

/-- FALLBACK_RESET (R649). -/
def execFallbackReset (s : State) : Result := s.answer true <| s.dev.inService fun d => d.fallbackReset

/-- BEGIN (R651). -/
def execImgBegin (s : State) : Result := s.answer true <| s.dev.byRegister A.IMAGE_CMD fun d => d.imgBegin

/-- IMAGE_DATA_WRITE (R652). -/
def execImageDataWrite (w : Word) (s : State) : Result :=
  s.answer true <| s.dev.byRegister A.IMAGE_DATA fun d => d.imgData w

/-- IMAGE_PAGE_PROGRAM_DONE (R652). -/
def execImagePageProgramDone (ok : Bool) (s : State) : Result :=
  s.answer true <| s.dev.inService fun d => d.imgPageDone ok

/-- FINISH (R651). -/
def execImgFinish (s : State) : Result := s.answer true <| s.dev.byRegister A.IMAGE_CMD fun d => d.imgFinish

/-- IMAGE_FINISH_DONE (R651). -/
def execImageFinishDone (err : Bool) (s : State) : Result := s.answer true <| s.dev.inService fun d => d.imgFinished err

/-- ARM (R651). -/
def execImgArm (s : State) : Result := s.answer true <| s.dev.byRegister A.IMAGE_CMD fun d => d.imgArm

/-- ABORT (R651). -/
def execImgAbort (s : State) : Result := s.answer true <| s.dev.byRegister A.IMAGE_CMD fun d => d.imgAbort

/-- CONFIRM (R647). -/
def execImgConfirm (s : State) : Result := s.answer true <| s.dev.byRegister A.IMAGE_CMD fun d => d.imgConfirm

/-- REBOOT (R651). -/
def execImgReboot (s : State) : Result := s.answer true <| s.dev.byRegister A.IMAGE_CMD fun d => d.imgReboot

/-- OTP_ARM_WRITE (R626). -/
def execOtpArmWrite (w : Word) (s : State) : Result :=
  s.answer true <| s.dev.byRegister A.OTP_ARM fun d => d.modBoot fun b => { b with armed := fieldOf w 0 16 == 0xC35A }

/-- READ (R625). -/
def execOtpRead (s : State) : Result := s.answer true <| s.dev.byRegister A.OTP_CMD fun d => d.otpReadWord

/-- READ_ARRAY (R625). -/
def execOtpReadArray (s : State) : Result := s.answer true <| s.dev.byRegister A.OTP_CMD fun d => d.otpReadArray

/-- PROG (R627). -/
def execOtpProg (s : State) : Result := s.answer true <| s.dev.byRegister A.OTP_CMD fun d => d.otpProg s.dev.boot.armed

/-- LOCK (R626). -/
def execOtpLock (s : State) : Result := s.answer true <| s.dev.byRegister A.OTP_CMD fun d => d.otpLock s.dev.boot.armed

/-- DEBUG_LOCK (R634). -/
def execOtpDebugLock (s : State) : Result :=
  s.answer true <| s.dev.byRegister A.OTP_CMD fun d => d.otpDebugLock s.dev.boot.armed

/-- OTP_PROG_DONE (R627). -/
def execOtpProgDone (tries : Nat) (reads : List FuseCell) (s : State) : Result :=
  s.answer (decide (1 ≤ tries ∧ tries ≤ 5)) <| s.dev.inService fun d => d.otpDone tries reads

/-- JTAG_INSTRUCTION_LOAD (R634). -/
def execJtagInstructionLoad (code : Nat) (s : State) : Result := s.answer true <| s.dev.awake fun d => d.jtagLoad code

/-- COMMIT (R657). -/
def execProfCommit (s : State) : Result := s.answer true <| s.dev.byRegister A.PROF_CMD fun d => d.profCommit

/-- DISCARD (R657). -/
def execProfDiscard (s : State) : Result := s.answer true <| s.dev.byRegister A.PROF_CMD fun d => d.profDiscard

/-- PROFILE_CHECK_DONE (R657). -/
def execProfileCheckDone (s : State) : Result := s.answer true <| s.dev.inService fun d => d.profChecked

/-- LIVE_PROFILE_APPLY (R656). -/
def execLiveProfileApply (s : State) : Result := s.answer true <| s.dev.inService fun d => d.profBoundary

/-- STATE_RECORD_WRITE_DONE (R647). -/
def execStateRecordWriteDone (ok : Bool) (s : State) : Result := s.answer true <| s.dev.inService fun d => d.recDone ok

end Sys2Proof.Machine
end

