-- ==== Sys2Proof/Machine/DoBranch.lean ====
section
/-!
DEFINITION. Sys2Proof/Machine/DoBranch.lean: the meanings of the commands on the branches and their brakes
(spec/11_branches.md).
-/

namespace Sys2Proof.Machine

/-- BRANCH_SCAN (R450). -/
def execBranchScan (s : State) : Result := s.answer true <| s.dev.inService fun d => d.branchScan

/-- BRANCH_EVALUATION (R451). -/
def execBranchEvaluation (s : State) : Result := s.answer true <| s.dev.inService fun d => d.branchesEvaluated

/-- SEAT_RISE (R453). -/
def execSeatRise (n : Nat) (s : State) : Result := s.answer (decide (n < 8)) <| s.dev.inService fun d => d.seatRise n

/-- SEAT_LOSS (R453). -/
def execSeatLoss (n : Nat) (s : State) : Result := s.answer (decide (n < 8)) <| s.dev.inService fun d => d.seatLoss n

/-- SEATING_COMPLETE (R453). -/
def execSeatingComplete (n : Nat) (s : State) : Result :=
  s.answer (decide (n < 8)) <| s.dev.inService fun d => d.seatingDone n

/-- INSERT_COMPLETE (R453). -/
def execInsertComplete (n : Nat) (s : State) : Result :=
  s.answer (decide (n < 8)) <| s.dev.inService fun d => d.insertDone n

/-- BRANCH_TRIP_INPUT (R447, R453). -/
def execBranchTripInput (n : Nat) (high : Bool) (s : State) : Result :=
  s.answer (decide (n < 8)) <| s.dev.inService fun d => d.brTripInput n high

/-- PRECHARGE_STALL (R459). -/
def execPrechargeStall (n : Nat) (s : State) : Result :=
  s.answer (decide (n < 8)) <| s.dev.inService fun d => d.brStall n

/-- PRE_RELEASE (R452). -/
def execPreRelease (n : Nat) (s : State) : Result :=
  s.answer (decide (n < 8)) <| s.dev.inService fun d => d.preRelease n

/-- BRANCH_RETRY (R462). -/
def execBranchRetry (n : Nat) (s : State) : Result := s.answer (decide (n < 8)) <| s.dev.inService fun d => d.brRetry n

/-- BRANCH_ON_STABLE (R462). -/
def execBranchOnStable (n : Nat) (s : State) : Result :=
  s.answer (decide (n < 8)) <| s.dev.inService fun d => d.brStable n

/-- BRANCH_OFF_DLY (R456). -/
def execBranchOffDly (n : Nat) (s : State) : Result :=
  s.answer (decide (n < 8)) <| s.dev.inService fun d => d.brOffDly n

/-- BRANCH_CLEAR (R453). -/
def execBranchClear (n : Nat) (s : State) : Result :=
  s.answer (decide (n < 8)) <| s.dev.byRegister (A.BRn_CMD n) fun d => d.brClear n

/-- BRAKE_SLOT (R471). -/
def execBrakeSlot (n : Nat) (s : State) : Result := s.answer (decide (n < 8)) <| s.dev.inService fun d => d.brakeNow n

/-- BRAKE_PAUSE_OBSERVED (R473). -/
def execBrakePauseObserved (len : Nat) (s : State) : Result :=
  s.answer true <| s.dev.inService fun d => d.brakePause len

end Sys2Proof.Machine
end

