-- ==== Sys2Proof/Machine/DoGutter.lean ====
section
/-!
DEFINITION. Sys2Proof/Machine/DoGutter.lean: the meanings of the commands on Gutter (spec/16_gutter_thatch.md).
-/

namespace Sys2Proof.Machine

/-- EVENT_RAISE (R586); EV010 fails a trial (R649). -/
def execEventRaise (ev idx kind : Nat) (s : State) : Result :=
  s.answer (decide (ev < 128 ∧ idx < 65536 ∧ kind < 256)) <| s.dev.awake fun d =>
    (d.report ev idx kind).when (ev == 10 && d.mode.afterBoot) Dev.trialFails

/-- GUTTER_SELF_CHECK (R592). -/
def execGutterSelfCheck (addr : Nat) (bits : Word) (s : State) : Result :=
  s.answer (gutterCopied addr) <| s.dev.awake fun d => d.gutterUpset addr bits

/-- LATCH_CLEAR (R588). -/
def execLatchClear (i : Nat) (mask : Word) (s : State) : Result :=
  s.answer (decide (i < 4)) <| s.dev.byRegister (A.GUT_LATCHi i) fun d => d.latchClear i mask.toNat

/-- FORCE_RAISE (R594). -/
def execForceRaise (i : Nat) (mask : Word) (s : State) : Result :=
  s.answer (decide (i < 4)) <| s.dev.byRegister (A.GUT_FORCEi i) fun d => (d.force i mask.toNat).1

/-- INJ_CHECK (R595). -/
def execInjCheck (point index : Nat) (s : State) : Result :=
  s.answer (decide (point < 16 ∧ index < 64)) <| s.dev.byRegister A.GUT_INJ_CHECK fun d => (d.injCheck point index).1

/-- CLEAR_FIRST (R591). -/
def execClearFirst (s : State) : Result := s.answer true <| s.dev.byRegister A.GUT_CMD fun d => d.clearFirst

/-- SNAP_HIST (R590). -/
def execSnapHist (s : State) : Result := s.answer true <| s.dev.byRegister A.GUT_CMD fun d => d.snapHist

end Sys2Proof.Machine
end

