-- ==== Sys2Proof/Machine/DoHost.lean ====
section
/-!
DEFINITION. Sys2Proof/Machine/DoHost.lean: the meanings of the commands on the host target, Host Notify and the module
buses (spec/18_twowire_host.md).
-/

namespace Sys2Proof.Machine

/-- HOST_WRITE (R665). -/
def execHostWrite (wire : List Byte) (sr : Bool) (s : State) : Result := s.answer true (s.dev.hostWrite wire sr)

/-- REGISTER_WRITE (R689). -/
def execRegisterWrite (addr : Nat) (w : Word) (s : State) : Result :=
  s.answer (decide (addr < 65536)) (s.dev.registerWrite addr w)

/-- HOST_READ (R692). -/
def execHostRead (wire : List Byte) (s : State) : Result := s.answer true (s.dev.hostRead wire)

/-- SCL_LOW_TIMEOUT (R669). -/
def execSclLowTimeout (s : State) : Result := s.answer true (s.dev.sclLowTimeout)

/-- HOST_NOTIFY (R675). -/
def execHostNotify (acked lost sr : Bool) (s : State) : Result := s.answer true (s.dev.hostNotifyNow acked lost sr)

/-- HOST_NOTIFY_RETRY (R676). -/
def execHostNotifyRetry (acked lost sr : Bool) (s : State) : Result :=
  s.answer true (s.dev.hostNotifyRetry acked lost sr)

/-- SEND_BYTE (R680). -/
def execMbSendByte (b addr : Nat) (pec : Bool) (s : State) : Result :=
  s.answer (decide (b < 2 ∧ addr < 128)) <| s.dev.byRegister (A.MBb_CMD b) fun d => d.mbStart b 1 addr pec

/-- WRITE_BYTE (R680). -/
def execMbWriteByte (b addr : Nat) (pec : Bool) (s : State) : Result :=
  s.answer (decide (b < 2 ∧ addr < 128)) <| s.dev.byRegister (A.MBb_CMD b) fun d => d.mbStart b 2 addr pec

/-- WRITE_WORD (R680). -/
def execMbWriteWord (b addr : Nat) (pec : Bool) (s : State) : Result :=
  s.answer (decide (b < 2 ∧ addr < 128)) <| s.dev.byRegister (A.MBb_CMD b) fun d => d.mbStart b 3 addr pec

/-- READ_BYTE (R680). -/
def execMbReadByte (b addr : Nat) (pec : Bool) (s : State) : Result :=
  s.answer (decide (b < 2 ∧ addr < 128)) <| s.dev.byRegister (A.MBb_CMD b) fun d => d.mbStart b 4 addr pec

/-- READ_WORD (R680). -/
def execMbReadWord (b addr : Nat) (pec : Bool) (s : State) : Result :=
  s.answer (decide (b < 2 ∧ addr < 128)) <| s.dev.byRegister (A.MBb_CMD b) fun d => d.mbStart b 5 addr pec

/-- BLOCK_WRITE (R680). -/
def execMbBlockWrite (b addr : Nat) (pec : Bool) (s : State) : Result :=
  s.answer (decide (b < 2 ∧ addr < 128)) <| s.dev.byRegister (A.MBb_CMD b) fun d => d.mbStart b 6 addr pec

/-- BLOCK_READ (R680). -/
def execMbBlockRead (b addr : Nat) (pec : Bool) (s : State) : Result :=
  s.answer (decide (b < 2 ∧ addr < 128)) <| s.dev.byRegister (A.MBb_CMD b) fun d => d.mbStart b 7 addr pec

/-- I2C_WRITE (R680). -/
def execMbI2cWrite (b addr : Nat) (pec : Bool) (s : State) : Result :=
  s.answer (decide (b < 2 ∧ addr < 128)) <| s.dev.byRegister (A.MBb_CMD b) fun d => d.mbStart b 8 addr pec

/-- I2C_WRRD (R680). -/
def execMbI2cWrRd (b addr : Nat) (pec : Bool) (s : State) : Result :=
  s.answer (decide (b < 2 ∧ addr < 128)) <| s.dev.byRegister (A.MBb_CMD b) fun d => d.mbStart b 9 addr pec

/-- MB_TRANSACTION_DONE (R681). -/
def execMbTransactionDone (b stat : Nat) (rx : List Byte) (s : State) : Result :=
  s.answer (decide (b < 2 ∧ stat < 9)) <| s.dev.inService fun d => d.mbDone b stat rx

/-- MB_RETRY (R681). -/
def execMbRetry (b : Nat) (s : State) : Result := s.answer (decide (b < 2)) <| s.dev.inService fun d => d.mbRetry b

/-- MB_STRETCH_TIMEOUT (R670). -/
def execMbStretchTimeout (b : Nat) (s : State) : Result :=
  s.answer (decide (b < 2)) <| s.dev.inService fun d => d.mbStretch b

/-- BUS_RECOVERY (R671). -/
def execBusRecovery (bus : Nat) (freed : Bool) (s : State) : Result :=
  s.answer (decide (bus < 3)) <| s.dev.inService fun d => d.busRecovery bus freed

/-- MB_TARGET_WRITE (R682). -/
def execMbTargetWrite (b : Nat) (bytes : List Byte) (sr : Bool) (s : State) : Result :=
  s.answer (decide (b < 2)) <| s.dev.inService fun d => d.mbTargetWrite b bytes sr

/-- MB_TARGET_READ (R682). -/
def execMbTargetRead (b n : Nat) (s : State) : Result :=
  s.answer (decide (b < 2)) <| s.dev.inService fun d => d.mbTargetRead b n

end Sys2Proof.Machine
end

