-- ==== Sys2Proof/Machine/DoNet.lean ====
section
/-!
DEFINITION. Sys2Proof/Machine/DoNet.lean: the meanings of the commands on Rinnak frames, segments and keys
(spec/10_rinnak_network.md).
-/

namespace Sys2Proof.Machine

/-- TRANSMIT_OPPORTUNITY (R427). -/
def execTransmitOpportunity (segB : Bool) (collided : Nat) (s : State) : Result :=
  s.answer true <| s.dev.inService fun d => d.opportunity segB collided

/-- FRAME_RECEIVE (R436, R437). -/
def execFrameReceive (segB collided : Bool) (bytes : List Byte) (s : State) : Result :=
  s.answer true <| s.dev.inService fun d => d.receive segB collided bytes

/-- PROFILE_LOAD (R425). -/
def execProfileLoad (send : Option ProfSend) (s : State) : Result :=
  s.answer (send.all fun x => decide (x.dst < 32 ∧ x.tid < 65536 ∧ x.bytes.length ≤ 16384)) <| s.dev.inService fun d => match send with
    | some x => d.distribute x
    | none => d.msgProfileLoad

/-- ACK (R425). -/
def execNetAck (s : State) : Result := s.answer true <| s.dev.inService fun d => d.msgAck

/-- THATCH_FWD (R609). -/
def execThatchFwd (s : State) : Result := s.answer true <| s.dev.inService fun d => d.msgThatchFwd

/-- SEGMENT_DOWN (R440). -/
def execSegmentDown (segB : Bool) (s : State) : Result := s.answer true <| s.dev.inService fun d => d.segDown segB

/-- SEGMENT_UP (R440). -/
def execSegmentUp (segB : Bool) (s : State) : Result := s.answer true <| s.dev.inService fun d => d.segUpNow segB

/-- LATE_DISCARD (R441). -/
def execLateDiscard (s : State) : Result := s.answer true <| s.dev.inService fun d => d.lateDiscard

/-- KEY_COMMIT (R434). -/
def execKeyCommit (stamp : Word) (s : State) : Result :=
  s.answer true <| s.dev.byRegister A.RINNAK_KEY_ACT fun d => d.keyCommit stamp.toNat

/-- KEY_ACTIVATE (R434). -/
def execKeyActivate (s : State) : Result := s.answer true <| s.dev.inService fun d => d.keyActivate

/-- KEY_ERASE (R434). -/
def execKeyErase (s : State) : Result := s.answer true <| s.dev.inService fun d => d.keyErase

/-- PLCA_BEACON (R411). -/
def execPlcaBeacon (segB : Bool) (len : Nat) (s : State) : Result :=
  s.answer true <| s.dev.inService fun d => d.plcaBeacon segB len

end Sys2Proof.Machine
end

