-- ==== Sys2Proof/Machine/DoPwm.lean ====
section
/-!
DEFINITION. Sys2Proof/Machine/DoPwm.lean: the meanings of the commands on the PWM array (spec/04_pwm_array.md).
-/

namespace Sys2Proof.Machine

/-- A hold of the array has lasted 0.256 (R192): EV031, which it holds active until the twin logic releases it (R585). -/
def Dev.holdTimeout (d : Dev) : Dev :=
  if d.on R.PWM_HOLD_HELD && !d.pwm.holdTimedOut then
    let d := { d with pwm := { d.pwm with holdTimedOut := true } }
    ((d.set1 R.PWM_FLAGS_HOLD_TIMEOUT).report 31).holdEv 31 0
  else d

/-- CARRIER_ZERO (R183). -/
def execCarrierZero (n : Nat) (s : State) : Result :=
  s.answer (decide (n < 32)) <| s.dev.inService fun d => d.carrierZero n

/-- CARRIER_CHECK (R172). -/
def execCarrierCheck (upset : Nat) (s : State) : Result :=
  s.answer (decide (upset < 4096)) <| s.dev.inService fun d => d.carrierCheck upset

/-- DLL_UNLOCK (R181). -/
def execDllUnlock (s : State) : Result :=
  s.answer true <| s.dev.inService fun d => 
    if d.twinUsed then ((d.clr R.PWM_FLAGS_DLL_LOCK).set1 R.PWM_FLAGS_DLL_UNLOCK).report 30 else d

/-- PWM_HOLD_TIMEOUT (R192). -/
def execPwmHoldTimeout (s : State) : Result := s.answer true <| s.dev.inService fun d => d.holdTimeout

end Sys2Proof.Machine
end

