-- ==== Sys2Proof/Machine/DoRack.lean ====
section
/-!
DEFINITION. Sys2Proof/Machine/DoRack.lean: the meanings of the commands on rack coordination
(spec/09_rack_coordination.md).
-/

namespace Sys2Proof.Machine

/-- SHELF_REPORT_TICK (R722). -/
def execShelfReportTick (s : State) : Result := s.answer true <| s.dev.inService fun d => d.shelfTick

/-- SHELF_POWER_FORM (R723). -/
def execShelfPowerForm (s : State) : Result := s.answer true <| s.dev.inService fun d => d.powerForm

/-- SHELF_REPORT (R370). -/
def execShelfReport (s : State) : Result := s.answer true <| s.dev.inService fun d => d.msgShelfReport

/-- RIDE_REPORT (R384). -/
def execRideReport (s : State) : Result := s.answer true <| s.dev.inService fun d => d.msgRideReport

/-- DEMAND_REPORT (R388). -/
def execDemandReport (s : State) : Result := s.answer true <| s.dev.inService fun d => d.msgDemandReport

/-- INTERLEAVE_RECOMPUTE (R374). -/
def execInterleaveRecompute (s : State) : Result := s.answer true <| s.dev.inService fun d => d.ilvRecompute

/-- RACK_TRIM_TICK (R377). -/
def execRackTrimTick (s : State) : Result := s.answer true <| s.dev.inService fun d => d.rackTrim

/-- REALLOCATION (R387). -/
def execReallocation (s : State) : Result := s.answer true <| s.dev.inService fun d => d.reallocate

/-- RAISED_VALUES_SEND (R388). -/
def execRaisedValuesSend (s : State) : Result := s.answer true <| s.dev.inService fun d => d.sendRaised

/-- OFFSET_SET (R369). -/
def execOffsetSet (s : State) : Result := s.answer true <| s.dev.inService fun d => d.msgOffsetSet

/-- SHARE_TRIM (R378). -/
def execShareTrim (s : State) : Result := s.answer true <| s.dev.inService fun d => d.msgShareTrim

/-- SLICE_SET (R369). -/
def execSliceSet (s : State) : Result := s.answer true <| s.dev.inService fun d => d.msgSliceSet

/-- CHARGE_SET (R369). -/
def execChargeSet (s : State) : Result := s.answer true <| s.dev.inService fun d => d.msgChargeSet

/-- BUDGET_WRITE (R386). -/
def execBudgetWrite (w : Word) (s : State) : Result :=
  s.answer true <| s.dev.inService fun d => (d.present A.MGR_BUDGET w).1

/-- CAP_EVALUATION (R389). -/
def execCapEvaluation (s : State) : Result := s.answer true <| s.dev.inService fun d => d.capEvaluation

/-- CAP_TIMEOUT (R393). -/
def execCapTimeout (s : State) : Result := s.answer true <| s.dev.inService fun d => d.capTimeout

/-- MGR_STATE (R421). -/
def execMgrState (s : State) : Result := s.answer true <| s.dev.inService fun d => d.msgMgrState

/-- MGR_LISTEN_END (R394). -/
def execMgrListenEnd (s : State) : Result := s.answer true <| s.dev.inService fun d => d.listenEnd

/-- PRIMARY_FAILURE_DETECT (R397). -/
def execPrimaryFailureDetect (s : State) : Result := s.answer true <| s.dev.inService fun d => d.primaryFailed

/-- NO_PRIMARY_TIMEOUT (R399). -/
def execNoPrimaryTimeout (s : State) : Result := s.answer true <| s.dev.inService fun d => d.noPrimary

/-- NO_STANDBY (R64). -/
def execNoStandby (s : State) : Result := s.answer true <| s.dev.inService fun d => d.noStandby

/-- MGR_SWAP (R400): the command at this node, or with `peer` the one that the primary has accepted. -/
def execMgrSwap (peer : Bool) (s : State) : Result :=
  s.answer true <| if peer then s.dev.inService fun d => d.swapHeard
    else s.dev.byRegister A.MGR_CMD fun d => if d.mgrBarred A.MGR_CMD then d else d.mgrSwap

/-- MGR_TAKEOVER (R397). -/
def execMgrTakeover (s : State) : Result := s.answer true <| s.dev.inService fun d => d.msgTakeover

/-- PRESENCE (R438). -/
def execPresence (s : State) : Result := s.answer true <| s.dev.inService fun d => d.msgPresence

/-- MEMBER_NOT_FRESH (R370). -/
def execMemberNotFresh (j : Nat) (s : State) : Result :=
  s.answer (decide (j < 32)) <| s.dev.inService fun d => d.memberStale j

/-- DEMAND_RATE_LIMIT_END (R367). -/
def execDemandRateLimitEnd (s : State) : Result := s.answer true <| s.dev.inService fun d => d.demandSend

end Sys2Proof.Machine
end

