-- ==== Sys2Proof/Machine/DoRafter.lean ====
section
/-!
DEFINITION. Sys2Proof/Machine/DoRafter.lean: the meanings of the commands on updates, set points and the twin engines
(spec/06_rafter_engine.md, spec/08_twin_failover.md).
-/

namespace Sys2Proof.Machine

/-- UPDATE_READY (R261). -/
def execUpdateReady (k : Nat) (s : State) : Result :=
  s.answer (decide (k < 12)) <| s.dev.inService fun d => d.updateReady k

/-- RAFTER_UPDATE (R266). -/
def execRafterUpdate (s : State) : Result := s.answer true <| s.dev.inService fun d => d.rafterRan

/-- KNOWN_ANSWER_UPDATE (R351). -/
def execKnownAnswerUpdate (engineB ok : Bool) (corrected : Nat) (s : State) : Result :=
  s.answer true <| s.dev.inService fun d => d.knownAnswer engineB ok corrected

/-- COEF_DATA_WRITE (R295). -/
def execCoefDataWrite (k : Nat) (w : Word) (s : State) : Result :=
  s.answer (decide (k < 12)) <| s.dev.byRegister (A.STAGEs_COEF_DATA k) fun d => (d.coefWrite k w).1

/-- SETPOINT_WRITE (R283). -/
def execSetpointWrite (k which : Nat) (w : Word) (s : State) : Result :=
  s.answer (decide (k < 12 ∧ which < 6)) <| s.dev.inService fun d => (d.present (setpointAddr k which) w).1

/-- ENGINE_CHECK_FAIL (R352). -/
def execEngineCheckFail (engineB : Bool) (check : Nat) (s : State) : Result :=
  s.answer (decide (check < 8)) <| s.dev.inService fun d => d.checkFails engineB check

/-- COMPARE_FAIL (R358). -/
def execCompareFail (s : State) : Result := s.answer true <| s.dev.inService fun d => d.updateWithheld

/-- TAKEOVER_CHECK_DONE (R354). -/
def execTakeoverCheckDone (pass : Bool) (s : State) : Result :=
  s.answer true <| s.dev.inService fun d => d.takeoverDone pass

/-- ARBITRATION_DONE (R358). -/
def execArbitrationDone (active standby : Bool) (s : State) : Result :=
  s.answer true <| s.dev.inService fun d => d.arbitrate active standby

/-- TEST (R359). -/
def execTwinTest (s : State) : Result := s.answer true <| s.dev.byRegister A.RAFTER_TWIN_CMD fun d => d.twinTest

/-- SELF_TEST_DONE (R359). -/
def execSelfTestDone (pass : Bool) (s : State) : Result := s.answer true <| s.dev.inService fun d => d.selfTestDone pass

/-- RESYNC_COPY_DONE (R360). -/
def execResyncCopyDone (inTime : Bool) (s : State) : Result :=
  s.answer true <| s.dev.inService fun d => d.resyncCopied inTime

/-- RESYNC_LOCKSTEP_DONE (R360). -/
def execResyncLockstepDone (s : State) : Result := s.answer true <| s.dev.inService fun d => d.resyncDone

/-- SWAP (R362). -/
def execTwinSwap (s : State) : Result := s.answer true <| s.dev.byRegister A.RAFTER_TWIN_CMD fun d => d.twinSwap

end Sys2Proof.Machine
end

