-- ==== Sys2Proof/Machine/DoRidge.lean ====
section
/-!
DEFINITION. Sys2Proof/Machine/DoRidge.lean: the meanings of the commands on the time base and the time messages
(spec/03_ridge_time_base.md).
-/

namespace Sys2Proof.Machine

/-- ERA_INCREMENT (R119). -/
def execEraIncrement (s : State) : Result := s.answer true <| s.dev.inService fun d => d.eraCycle

/-- RIDGE_CHECK (R120). -/
def execRidgeCheck (acc : BitVec 64) (era : Word) (s : State) : Result :=
  s.answer true <| s.dev.inService fun d => d.copiesUpset acc era

/-- RIDGE_LOCK (R133). -/
def execRidgeLock (s : State) : Result := s.answer true <| s.dev.inService fun d => d.mainsLocked

/-- PHASE_ROTATION (R135). -/
def execPhaseRotation (s : State) : Result := s.answer true <| s.dev.inService fun d => d.rotationBad

/-- MAINS_LOSS (R136). -/
def execMainsLoss (s : State) : Result := s.answer true <| s.dev.inService fun d => d.mainsGone

/-- START_TMO_EXPIRE (R145). -/
def execStartTmoExpire (s : State) : Result := s.answer true <| s.dev.inService fun d => d.blackStart

/-- PULL_COMPLETE (R142). -/
def execPullComplete (s : State) : Result := s.answer true <| s.dev.inService fun d => d.pullDone

/-- RATE_SLEW_STEP (R128). -/
def execRateSlewStep (s : State) : Result := s.answer true <| s.dev.inService fun d => d.rateStep

/-- GRID_PHASE_ANGLE (R132). -/
def execGridPhaseAngle (s : State) : Result := s.answer true <| s.dev.inService fun d => d.gridBoundary

/-- BEACON_INSTANT (R146). -/
def execBeaconInstant (s : State) : Result := s.answer true <| s.dev.inService fun d => d.beaconInstant

/-- BEACON (R148). -/
def execBeacon (s : State) : Result := s.answer true <| s.dev.inService fun d => d.msgBeacon

/-- FOLLOW_UP (R150). -/
def execFollowUp (s : State) : Result := s.answer true <| s.dev.inService fun d => d.msgFollowUp

/-- BEACON_MISSED (R153). -/
def execBeaconMissed (s : State) : Result := s.answer true <| s.dev.inService fun d => d.beaconMissed

/-- DELAY_REQ (R149). -/
def execDelayReq (s : State) : Result := s.answer true <| s.dev.inService fun d => d.msgDelayReq

/-- DELAY_RESP_RELEASE (R149). -/
def execDelayRespRelease (segB : Bool) (s : State) : Result :=
  s.answer true <| s.dev.inService fun d => d.delayRelease segB

/-- DELAY_RESP (R149). -/
def execDelayResp (s : State) : Result := s.answer true <| s.dev.inService fun d => d.msgDelayResp

/-- MARK_FIRE (R157). -/
def execMarkFire (m : Nat) (s : State) : Result := s.answer (decide (m < 64)) <| s.dev.inService fun d => d.markFired m

end Sys2Proof.Machine
end

