-- ==== Sys2Proof/Machine/DoSense.lean ====
section
/-!
DEFINITION. Sys2Proof/Machine/DoSense.lean: the meanings of the commands on conversions, demodulators and comparators
(spec/05_sensing.md).
-/

namespace Sys2Proof.Machine

/-- ADC_TRIGGER (R212). -/
def execAdcTrigger (n : Nat) (s : State) : Result :=
  s.answer (decide (n < 48)) <| s.dev.inService fun d => d.adcTrigger n

/-- CONVERSION_COMPLETE (R213). -/
def execConversionComplete (i : Nat) (s : State) : Result :=
  s.answer (decide (i < 48)) <| s.dev.inService fun d => d.converted i

/-- ADC_CHECK_CONVERSION (R215). -/
def execAdcCheckConversion (c code : Nat) (s : State) : Result :=
  s.answer (decide (c < 8 ∧ code < 16384)) <| s.dev.inService fun d => d.checkConversion c code

/-- REF_SETTLED (R222). -/
def execRefSettled (s : State) : Result := s.answer true <| s.dev.inService fun d => d.refSettled

/-- REF_CHECK (R223). -/
def execRefCheck (far : Bool) (s : State) : Result := s.answer true <| s.dev.inService fun d => d.refCheck far

/-- CAL (R228). -/
def execAdcCal (c : Nat) (s : State) : Result :=
  s.answer (decide (c < 8)) <| s.dev.byRegister A.ADC_CAL_CMD fun d => d.cal c

/-- ADC_CAL_DONE (R229). -/
def execAdcCalDone (c : Nat) (ok : Bool) (gain : Nat) (offset : Int) (s : State) : Result :=
  s.answer (decide (c < 8 ∧ gain < 2 ^ 32)) <| s.dev.inService fun d => d.calDone c ok gain offset

/-- CMP_TEST (R247). -/
def execCmpTest (c : Nat) (s : State) : Result :=
  s.answer (decide (c < 32)) <| s.dev.byRegister A.CMP_TEST fun d => d.cmpTest c

/-- CMP_TEST_DONE (R247). -/
def execCmpTestDone (s : State) : Result := s.answer true <| s.dev.inService fun d => d.cmpTestDone

/-- SDM_RESULT (R237). -/
def execSdmResult (n : Nat) (s : State) : Result :=
  s.answer (decide (n < 8)) <| s.dev.inService fun d => d.sdmDelivered n

/-- SDM_LOSS (R238). -/
def execSdmLoss (n : Nat) (s : State) : Result := s.answer (decide (n < 8)) <| s.dev.inService fun d => d.sdmLoss n

/-- SDM_VALID (R237). -/
def execSdmValid (n : Nat) (s : State) : Result := s.answer (decide (n < 8)) <| s.dev.inService fun d => d.sdmValid n

/-- CMP_TRIP (R244). -/
def execCmpTrip (c : Nat) (s : State) : Result := s.answer (decide (c < 24)) <| s.dev.inService fun d => d.tripped c

/-- CMP_RELEASE (R240). -/
def execCmpRelease (c : Nat) (s : State) : Result := s.answer (decide (c < 24)) <| s.dev.inService fun d => d.released c

/-- CMP_DAC_CHECK (R246). -/
def execCmpDacCheck (c bits : Nat) (s : State) : Result :=
  s.answer (decide (c < 24 ∧ bits < 1024)) <| s.dev.inService fun d => d.dacUpset c bits

end Sys2Proof.Machine
end

