-- ==== Sys2Proof/Machine/DoSeq.lean ====
section
/-!
DEFINITION. Sys2Proof/Machine/DoSeq.lean: the meanings of the commands on the sequencer (spec/13_modes_sequencer.md).
-/

namespace Sys2Proof.Machine

/-- ON (R517). -/
def execSeqOn (s : State) : Result := s.answer true <| s.dev.byRegister A.SEQ_CMD fun d => d.cmdOn

/-- OFF (R517). -/
def execSeqOff (s : State) : Result := s.answer true <| s.dev.byRegister A.SEQ_CMD fun d => d.cmdOff

/-- CLEAR_SAFE (R517). -/
def execClearSafe (s : State) : Result := s.answer true <| s.dev.byRegister A.SEQ_CMD fun d => d.cmdClearSafe

/-- QUIET (R517). -/
def execSeqQuiet (s : State) : Result := s.answer true <| s.dev.byRegister A.SEQ_CMD fun d => d.cmdQuiet

/-- RAMP_START (R516). -/
def execRampStart (s : State) : Result := s.answer true <| s.dev.inService fun d => d.rampStart

/-- RAIL_ON_SLOT (R525). -/
def execRailOnSlot (r : Nat) (s : State) : Result :=
  s.answer (decide (r < 16)) <| s.dev.inService fun d => d.railOnSlot r

/-- RAIL_OFF_SLOT (R526). -/
def execRailOffSlot (r : Nat) (s : State) : Result :=
  s.answer (decide (r < 16)) <| s.dev.inService fun d => d.railOffSlot r

/-- RAMP_TIMEOUT (R520). -/
def execRampTimeout (s : State) : Result := s.answer true <| s.dev.inService fun d => d.rampTimeout

/-- RAIL_PG_RISE (R534). -/
def execRailPgRise (r : Nat) (s : State) : Result := s.answer (decide (r < 16)) <| s.dev.inService fun d => d.pgRise r

/-- RAIL_NOUP (R527). -/
def execRailNoUp (r : Nat) (s : State) : Result := s.answer (decide (r < 16)) <| s.dev.inService fun d => d.railNoUp r

/-- RAIL_LOST (R527). -/
def execRailLost (r : Nat) (s : State) : Result := s.answer (decide (r < 16)) <| s.dev.inService fun d => d.railLost r

/-- RSTO_RELEASE (R534). -/
def execRstoRelease (k : Nat) (s : State) : Result :=
  s.answer (decide (k < 4)) <| s.dev.inService fun d => d.rstoRelease k

/-- RIDE_RETURN (R522). -/
def execRideReturn (s : State) : Result := s.answer true <| s.dev.inService fun d => d.rideReturn

/-- RIDE_TIMEOUT (R518). -/
def execRideTimeout (s : State) : Result := s.answer true <| s.dev.inService fun d => d.rideTimeout

/-- MIN_OFF_END (R531). -/
def execMinOffEnd (s : State) : Result := s.answer true <| s.dev.inService fun d => d.minOffEnd

/-- QUIET_WAKE (R672). -/
def execQuietWake (s : State) : Result := s.answer true <| s.dev.inService fun d => d.quietWake

/-- SERVICE_RESTORED (R536). -/
def execServiceRestored (s : State) : Result := s.answer true <| s.dev.inService fun d => d.serviceRestored

end Sys2Proof.Machine
end

