-- ==== Sys2Proof/Machine/DoStage.lean ====
section
/-!
DEFINITION. Sys2Proof/Machine/DoStage.lean: the meanings of the commands on the stage supervisor and the share unit
(spec/07_stage_control.md).
-/

namespace Sys2Proof.Machine

/-- START (R303). -/
def execStageStart (k : Nat) (s : State) : Result :=
  s.answer (decide (k < 12)) <| s.dev.byRegister (A.STAGEs_CMD k) fun d => d.cmdStart k

/-- STOP (R303). -/
def execStageStop (k : Nat) (s : State) : Result :=
  s.answer (decide (k < 12)) <| s.dev.byRegister (A.STAGEs_CMD k) fun d => d.cmdStop k

/-- CLEAR (R303). -/
def execStageClear (k : Nat) (s : State) : Result :=
  s.answer (decide (k < 12)) <| s.dev.byRegister (A.STAGEs_CMD k) fun d => d.cmdClear k

/-- START_DLY_EXPIRE (R301). -/
def execStartDlyExpire (k : Nat) (s : State) : Result :=
  s.answer (decide (k < 12)) <| s.dev.inService fun d => d.startDlyEnd k

/-- STOP_DLY_EXPIRE (R302). -/
def execStopDlyExpire (k : Nat) (s : State) : Result :=
  s.answer (decide (k < 12)) <| s.dev.inService fun d => d.stopDlyEnd k

/-- SOFT_TIMEOUT (R311). -/
def execSoftTimeout (k : Nat) (s : State) : Result := s.answer (decide (k < 12)) <| s.dev.inService fun d => d.softTmo k

/-- STOP_TIMEOUT (R314). -/
def execStopTimeout (k : Nat) (s : State) : Result := s.answer (decide (k < 12)) <| s.dev.inService fun d => d.stopTmo k

/-- STAGE_RETRY (R320). -/
def execStageRetry (k : Nat) (s : State) : Result := s.answer (decide (k < 12)) <| s.dev.inService fun d => d.retry k

/-- STAGE_RUN_STABLE (R321). -/
def execStageRunStable (k : Nat) (s : State) : Result :=
  s.answer (decide (k < 12)) <| s.dev.inService fun d => d.runStable k

/-- SHARE_TICK (R337). -/
def execShareTick (g : Nat) (s : State) : Result := s.answer (decide (g < 2)) <| s.dev.inService fun d => d.shareTick g

end Sys2Proof.Machine
end

