-- ==== Sys2Proof/Machine/DoStore.lean ====
section
/-!
DEFINITION. Sys2Proof/Machine/DoStore.lean: the meanings of the commands on the storage estimator
(spec/14_storage_estimator.md).
-/

namespace Sys2Proof.Machine

/-- ICHG_UPDATE (R555). -/
def execIchgUpdate (per : List Nat) (s : State) : Result := s.answer true <| s.dev.inService fun d => d.ichgUpdate per

/-- EST_SCAN (R543). -/
def execEstScan (s : State) : Result := s.answer true <| s.dev.inService fun d => d.estScan

/-- EST_EVALUATION (R545). -/
def execEstEvaluation (s : State) : Result := s.answer true <| s.dev.inService fun d => d.strEvaluated

/-- LEARN (R558). -/
def execLearn (k : Nat) (s : State) : Result :=
  s.answer (decide (k < 8)) <| s.dev.byRegister A.ST_CMD fun d => if k < 6 then d.cmdLearn k else d

/-- DRILL (R561). -/
def execDrill (k : Nat) (s : State) : Result :=
  s.answer (decide (k < 8)) <| s.dev.byRegister A.ST_CMD fun d => if k < 6 then d.cmdDrill k else d

/-- DRILL_STOP (R562). -/
def execDrillStop (k : Nat) (s : State) : Result :=
  s.answer (decide (k < 8)) <| s.dev.byRegister A.ST_CMD fun d => if k < 6 then d.cmdDrillStop k else d

/-- DRILL_TIMEOUT (R562). -/
def execDrillTimeout (s : State) : Result := s.answer true <| s.dev.inService fun d => d.drillTimeout

/-- ANCHOR_STALE (R559). -/
def execAnchorStale (s : State) : Result := s.answer true <| s.dev.inService fun d => d.anchorStale

end Sys2Proof.Machine
end

