-- ==== Sys2Proof/Machine/DoSupply.lean ====
section
/-!
DEFINITION. Sys2Proof/Machine/DoSupply.lean: the meanings of the commands on supply, clock, reset, the end of BOOT and
last gasp (spec/02_package_supply.md, R617 of spec/17_boot_otp_update.md).
-/

namespace Sys2Proof.Machine

/-- REGULATOR_START (R94). -/
def execRegulatorStart (s : State) : Result := s.answer true (s.dev.regulatorStart)

/-- REGULATOR_STOP (R94). -/
def execRegulatorStop (s : State) : Result := s.answer true (s.dev.regulatorStop)

/-- RST_N_ASSERT (R104). -/
def execRstNAssert (s : State) : Result := s.answer true (s.dev.rstAssert)

/-- INTERNAL_RESET_RELEASE (R105). -/
def execInternalResetRelease (role : Nat) (hostSel bypass : Bool) (s : State) : Result :=
  s.answer (decide (role < 8)) (s.dev.resetRelease role hostSel bypass)

/-- BOOT_COMPLETE (R617). -/
def execBootComplete (passA passB : Bool) (err : Nat) (s : State) : Result :=
  s.answer (decide (err < 4)) (s.dev.bootComplete passA passB err)

/-- CLOCK_LOSS (R115). -/
def execClockLoss (s : State) : Result := s.answer true <| s.dev.awake fun d => d.clockLoss

/-- LAST_GASP_TRIGGER (R537). -/
def execLastGaspTrigger (s : State) : Result := s.answer true <| s.dev.awake fun d => d.lgTrigger

/-- LAST_GASP_REARM (R100). -/
def execLastGaspRearm (s : State) : Result := s.answer true (s.dev.lgRearm)

/-- LAST_GASP_COMMIT_DONE (R537). -/
def execLastGaspCommitDone (s : State) : Result := s.answer true <| s.dev.awake fun d => d.lgDone

/-- SUPPLY_RAIL_FAULT (R584). -/
def execSupplyRailFault (rail : Nat) (s : State) : Result :=
  s.answer (decide (rail < 3)) (s.dev.railFault rail)

/-- SCARAB_WATCHDOG (R584). Scarab starts again; a trial image has failed (R649). -/
def execScarabWatchdog (s : State) : Result := s.answer true <| s.dev.inService fun d => (d.report 10).trialFails

/-- SRAM_UNCORR (R584). -/
def execSramUncorr (s : State) : Result := s.answer true <| s.dev.awake fun d => d.report 12

/-- SHTDN_OFF_REQUEST (R107). -/
def execShtdnOffRequest (s : State) : Result := s.answer true <| s.dev.awake fun d => d.shtdnHigh

/-- SHTDN_FALL (R107). -/
def execShtdnFall (s : State) : Result := s.answer true <| s.dev.awake fun d => d.shtdnFall

/-- SUPPLY_RAIL_RETURN (R585). -/
def execSupplyRailReturn (s : State) : Result := s.answer true s.dev.railReturn

/-- EXTERNAL_RAILS_REMOVED (R538). -/
def execExternalRailsRemoved (s : State) : Result := s.answer true (s.dev.railsRemoved)

end Sys2Proof.Machine
end

