-- ==== Sys2Proof/Machine/DoThatch.lean ====
section
/-!
DEFINITION. Sys2Proof/Machine/DoThatch.lean: the meanings of the commands on Thatch (spec/16_gutter_thatch.md).
-/

namespace Sys2Proof.Machine

/-- RECORD_COMMIT (R600). -/
def execRecordCommit (s : State) : Result := s.answer true <| s.dev.awake fun d => d.commit

/-- THATCH_FLUSH (R611). -/
def execThatchFlush (part : Nat) (s : State) : Result :=
  s.answer (decide (part < 2)) <| s.dev.inService fun d => d.flush (if part = 0 then .hi else .lo)

/-- NVM_OPERATION_DONE (R613). -/
def execNvmOperationDone (ok : Bool) (s : State) : Result := s.answer true <| s.dev.inService fun d => d.nvmDone ok

/-- FW_COMMIT (R599). -/
def execFwCommit (s : State) : Result := s.answer true <| s.dev.byRegister A.TH_FW_CMT fun d => d.fwCommit

/-- RELEASE (R606). -/
def execThRelease (seq : Word) (s : State) : Result :=
  s.answer true <| s.dev.byRegister A.TH_RELEASE fun d => d.release seq.toNat

/-- SNAP_OPEN (R607). -/
def execSnapOpen (s : State) : Result := s.answer true <| s.dev.byRegister A.TH_SNAP_CMD fun d => d.snapOpen

/-- SNAP_CLOSE (R607). -/
def execSnapClose (s : State) : Result := s.answer true <| s.dev.byRegister A.TH_SNAP_CMD fun d => d.snapClose

/-- RECORD_READ (R608). -/
def execRecordRead (src i : Nat) (s : State) : Result :=
  s.answer (decide (src < 4 ∧ i < 2 ^ 20)) <| s.dev.inService fun d =>
    (d.present A.TH_RD_SEL (R.TH_RD_SEL_SRC.into (R.TH_RD_SEL_INDEX.into 0 i) src)).1

/-- RECORD_READ_DONE (R608). -/
def execRecordReadDone (ok : Bool) (s : State) : Result := s.answer true <| s.dev.inService fun d => d.recordReadDone ok

end Sys2Proof.Machine
end

