-- ==== Sys2Proof/Machine/DoTherm.lean ====
section
/-!
DEFINITION. Sys2Proof/Machine/DoTherm.lean: the meanings of the commands on the thermal manager (spec/15_thermal.md).
-/

namespace Sys2Proof.Machine

/-- THERMAL_MEASURE (R567). -/
def execThermalMeasure (xs : List ThermIn) (s : State) : Result :=
  s.answer true <| s.dev.inService fun d => d.thermalMeasure xs

end Sys2Proof.Machine
end

