-- ==== Sys2Proof/Machine/Dispatch.lean ====
section
/-!
DEFINITION. Sys2Proof/Machine/Dispatch.lean: the meaning of each command, one arm for each row of spec/opcode_table.json.
-/

namespace Sys2Proof.Machine

/-- The effect of a command on everything but the queue. -/
def exec (i : Instr) (s : State) : Host.Outcome State Fault Refusal :=
  match i with
  | .regulatorStart => Sys2Proof.Machine.execRegulatorStart s
  | .regulatorStop => Sys2Proof.Machine.execRegulatorStop s
  | .rstNAssert => Sys2Proof.Machine.execRstNAssert s
  | .internalResetRelease role hostSel bypass => Sys2Proof.Machine.execInternalResetRelease role hostSel bypass s
  | .bootComplete passA passB err => Sys2Proof.Machine.execBootComplete passA passB err s
  | .slotCheckStandby err => Sys2Proof.Machine.execSlotCheckStandby err s
  | .lgSlotFind => Sys2Proof.Machine.execLgSlotFind s
  | .svRaise => Sys2Proof.Machine.execSvRaise s
  | .trialWindowExpire => Sys2Proof.Machine.execTrialWindowExpire s
  | .fallbackReset => Sys2Proof.Machine.execFallbackReset s
  | .imgBegin => Sys2Proof.Machine.execImgBegin s
  | .imageDataWrite w => Sys2Proof.Machine.execImageDataWrite w s
  | .imagePageProgramDone ok => Sys2Proof.Machine.execImagePageProgramDone ok s
  | .imgFinish => Sys2Proof.Machine.execImgFinish s
  | .imageFinishDone err => Sys2Proof.Machine.execImageFinishDone err s
  | .imgArm => Sys2Proof.Machine.execImgArm s
  | .imgAbort => Sys2Proof.Machine.execImgAbort s
  | .imgConfirm => Sys2Proof.Machine.execImgConfirm s
  | .imgReboot => Sys2Proof.Machine.execImgReboot s
  | .otpArmWrite w => Sys2Proof.Machine.execOtpArmWrite w s
  | .otpRead => Sys2Proof.Machine.execOtpRead s
  | .otpReadArray => Sys2Proof.Machine.execOtpReadArray s
  | .otpProg => Sys2Proof.Machine.execOtpProg s
  | .otpLock => Sys2Proof.Machine.execOtpLock s
  | .otpDebugLock => Sys2Proof.Machine.execOtpDebugLock s
  | .otpProgDone tries reads => Sys2Proof.Machine.execOtpProgDone tries reads s
  | .jtagInstructionLoad code => Sys2Proof.Machine.execJtagInstructionLoad code s
  | .profCommit => Sys2Proof.Machine.execProfCommit s
  | .profDiscard => Sys2Proof.Machine.execProfDiscard s
  | .profileCheckDone => Sys2Proof.Machine.execProfileCheckDone s
  | .liveProfileApply => Sys2Proof.Machine.execLiveProfileApply s
  | .clockLoss => Sys2Proof.Machine.execClockLoss s
  | .lastGaspTrigger => Sys2Proof.Machine.execLastGaspTrigger s
  | .lastGaspRearm => Sys2Proof.Machine.execLastGaspRearm s
  | .lastGaspCommitDone => Sys2Proof.Machine.execLastGaspCommitDone s
  | .supplyRailFault rail => Sys2Proof.Machine.execSupplyRailFault rail s
  | .scarabWatchdog => Sys2Proof.Machine.execScarabWatchdog s
  | .sramUncorr => Sys2Proof.Machine.execSramUncorr s
  | .shtdnOffRequest => Sys2Proof.Machine.execShtdnOffRequest s
  | .shtdnFall => Sys2Proof.Machine.execShtdnFall s
  | .eraIncrement => Sys2Proof.Machine.execEraIncrement s
  | .ridgeCheck acc era => Sys2Proof.Machine.execRidgeCheck acc era s
  | .ridgeLock => Sys2Proof.Machine.execRidgeLock s
  | .phaseRotation => Sys2Proof.Machine.execPhaseRotation s
  | .mainsLoss => Sys2Proof.Machine.execMainsLoss s
  | .startTmoExpire => Sys2Proof.Machine.execStartTmoExpire s
  | .pullComplete => Sys2Proof.Machine.execPullComplete s
  | .rateSlewStep => Sys2Proof.Machine.execRateSlewStep s
  | .gridPhaseAngle => Sys2Proof.Machine.execGridPhaseAngle s
  | .beaconInstant => Sys2Proof.Machine.execBeaconInstant s
  | .transmitOpportunity segB collided => Sys2Proof.Machine.execTransmitOpportunity segB collided s
  | .frameReceive segB collided bytes => Sys2Proof.Machine.execFrameReceive segB collided bytes s
  | .beacon => Sys2Proof.Machine.execBeacon s
  | .followUp => Sys2Proof.Machine.execFollowUp s
  | .beaconMissed => Sys2Proof.Machine.execBeaconMissed s
  | .delayReq => Sys2Proof.Machine.execDelayReq s
  | .delayRespRelease segB => Sys2Proof.Machine.execDelayRespRelease segB s
  | .delayResp => Sys2Proof.Machine.execDelayResp s
  | .markFire m => Sys2Proof.Machine.execMarkFire m s
  | .carrierZero n => Sys2Proof.Machine.execCarrierZero n s
  | .carrierCheck upset => Sys2Proof.Machine.execCarrierCheck upset s
  | .dllUnlock => Sys2Proof.Machine.execDllUnlock s
  | .pwmHoldTimeout => Sys2Proof.Machine.execPwmHoldTimeout s
  | .adcTrigger n => Sys2Proof.Machine.execAdcTrigger n s
  | .conversionComplete n => Sys2Proof.Machine.execConversionComplete n s
  | .adcCheckConversion c code => Sys2Proof.Machine.execAdcCheckConversion c code s
  | .refSettled => Sys2Proof.Machine.execRefSettled s
  | .refCheck far => Sys2Proof.Machine.execRefCheck far s
  | .adcCal c => Sys2Proof.Machine.execAdcCal c s
  | .adcCalDone c ok gain offset => Sys2Proof.Machine.execAdcCalDone c ok gain offset s
  | .cmpTest c => Sys2Proof.Machine.execCmpTest c s
  | .cmpTestDone => Sys2Proof.Machine.execCmpTestDone s
  | .sdmResult n => Sys2Proof.Machine.execSdmResult n s
  | .sdmLoss n => Sys2Proof.Machine.execSdmLoss n s
  | .sdmValid n => Sys2Proof.Machine.execSdmValid n s
  | .cmpTrip c => Sys2Proof.Machine.execCmpTrip c s
  | .cmpRelease c => Sys2Proof.Machine.execCmpRelease c s
  | .cmpDacCheck c bits => Sys2Proof.Machine.execCmpDacCheck c bits s
  | .updateReady k => Sys2Proof.Machine.execUpdateReady k s
  | .rafterUpdate => Sys2Proof.Machine.execRafterUpdate s
  | .knownAnswerUpdate engineB ok corrected => Sys2Proof.Machine.execKnownAnswerUpdate engineB ok corrected s
  | .coefDataWrite k w => Sys2Proof.Machine.execCoefDataWrite k w s
  | .setpointWrite k which w => Sys2Proof.Machine.execSetpointWrite k which w s
  | .engineCheckFail engineB check => Sys2Proof.Machine.execEngineCheckFail engineB check s
  | .compareFail => Sys2Proof.Machine.execCompareFail s
  | .takeoverCheckDone pass => Sys2Proof.Machine.execTakeoverCheckDone pass s
  | .arbitrationDone active standby => Sys2Proof.Machine.execArbitrationDone active standby s
  | .twinTest => Sys2Proof.Machine.execTwinTest s
  | .selfTestDone pass => Sys2Proof.Machine.execSelfTestDone pass s
  | .resyncCopyDone inTime => Sys2Proof.Machine.execResyncCopyDone inTime s
  | .resyncLockstepDone => Sys2Proof.Machine.execResyncLockstepDone s
  | .twinSwap => Sys2Proof.Machine.execTwinSwap s
  | .stageStart k => Sys2Proof.Machine.execStageStart k s
  | .stageStop k => Sys2Proof.Machine.execStageStop k s
  | .stageClear k => Sys2Proof.Machine.execStageClear k s
  | .startDlyExpire k => Sys2Proof.Machine.execStartDlyExpire k s
  | .stopDlyExpire k => Sys2Proof.Machine.execStopDlyExpire k s
  | .softTimeout k => Sys2Proof.Machine.execSoftTimeout k s
  | .stopTimeout k => Sys2Proof.Machine.execStopTimeout k s
  | .stageRetry k => Sys2Proof.Machine.execStageRetry k s
  | .stageRunStable k => Sys2Proof.Machine.execStageRunStable k s
  | .shareTick g => Sys2Proof.Machine.execShareTick g s
  | .shelfReportTick => Sys2Proof.Machine.execShelfReportTick s
  | .shelfPowerForm => Sys2Proof.Machine.execShelfPowerForm s
  | .shelfReport => Sys2Proof.Machine.execShelfReport s
  | .rideReport => Sys2Proof.Machine.execRideReport s
  | .demandReport => Sys2Proof.Machine.execDemandReport s
  | .interleaveRecompute => Sys2Proof.Machine.execInterleaveRecompute s
  | .rackTrimTick => Sys2Proof.Machine.execRackTrimTick s
  | .reallocation => Sys2Proof.Machine.execReallocation s
  | .raisedValuesSend => Sys2Proof.Machine.execRaisedValuesSend s
  | .offsetSet => Sys2Proof.Machine.execOffsetSet s
  | .shareTrim => Sys2Proof.Machine.execShareTrim s
  | .sliceSet => Sys2Proof.Machine.execSliceSet s
  | .chargeSet => Sys2Proof.Machine.execChargeSet s
  | .ichgUpdate per => Sys2Proof.Machine.execIchgUpdate per s
  | .budgetWrite w => Sys2Proof.Machine.execBudgetWrite w s
  | .capEvaluation => Sys2Proof.Machine.execCapEvaluation s
  | .capTimeout => Sys2Proof.Machine.execCapTimeout s
  | .mgrState => Sys2Proof.Machine.execMgrState s
  | .mgrListenEnd => Sys2Proof.Machine.execMgrListenEnd s
  | .primaryFailureDetect => Sys2Proof.Machine.execPrimaryFailureDetect s
  | .noPrimaryTimeout => Sys2Proof.Machine.execNoPrimaryTimeout s
  | .noStandby => Sys2Proof.Machine.execNoStandby s
  | .mgrSwap peer => Sys2Proof.Machine.execMgrSwap peer s
  | .mgrTakeover => Sys2Proof.Machine.execMgrTakeover s
  | .presence => Sys2Proof.Machine.execPresence s
  | .profileLoad send => Sys2Proof.Machine.execProfileLoad send s
  | .netAck => Sys2Proof.Machine.execNetAck s
  | .thatchFwd => Sys2Proof.Machine.execThatchFwd s
  | .segmentDown segB => Sys2Proof.Machine.execSegmentDown segB s
  | .segmentUp segB => Sys2Proof.Machine.execSegmentUp segB s
  | .lateDiscard => Sys2Proof.Machine.execLateDiscard s
  | .keyCommit stamp => Sys2Proof.Machine.execKeyCommit stamp s
  | .keyActivate => Sys2Proof.Machine.execKeyActivate s
  | .keyErase => Sys2Proof.Machine.execKeyErase s
  | .branchScan => Sys2Proof.Machine.execBranchScan s
  | .branchEvaluation => Sys2Proof.Machine.execBranchEvaluation s
  | .seatRise n => Sys2Proof.Machine.execSeatRise n s
  | .seatLoss n => Sys2Proof.Machine.execSeatLoss n s
  | .seatingComplete n => Sys2Proof.Machine.execSeatingComplete n s
  | .insertComplete n => Sys2Proof.Machine.execInsertComplete n s
  | .branchTripInput n high => Sys2Proof.Machine.execBranchTripInput n high s
  | .prechargeStall n => Sys2Proof.Machine.execPrechargeStall n s
  | .preRelease n => Sys2Proof.Machine.execPreRelease n s
  | .branchRetry n => Sys2Proof.Machine.execBranchRetry n s
  | .branchOnStable n => Sys2Proof.Machine.execBranchOnStable n s
  | .branchOffDly n => Sys2Proof.Machine.execBranchOffDly n s
  | .branchClear n => Sys2Proof.Machine.execBranchClear n s
  | .brakeSlot n => Sys2Proof.Machine.execBrakeSlot n s
  | .brakePauseObserved len => Sys2Proof.Machine.execBrakePauseObserved len s
  | .signatureMeasure n mv => Sys2Proof.Machine.execSignatureMeasure n mv s
  | .detach n => Sys2Proof.Machine.execDetach n s
  | .packetTransmit n collided => Sys2Proof.Machine.execPacketTransmit n collided s
  | .btSrcCap n f => Sys2Proof.Machine.execBtSrcCap n f s
  | .btSrcCapRepeat n => Sys2Proof.Machine.execBtSrcCapRepeat n s
  | .btNoSink n => Sys2Proof.Machine.execBtNoSink n s
  | .btRequest n f => Sys2Proof.Machine.execBtRequest n f s
  | .btAnswer n f => Sys2Proof.Machine.execBtAnswer n f s
  | .btOffer n f => Sys2Proof.Machine.execBtOffer n f s
  | .btReady n f => Sys2Proof.Machine.execBtReady n f s
  | .btDissolve n f => Sys2Proof.Machine.execBtDissolve n f s
  | .btSwapRequest n f => Sys2Proof.Machine.execBtSwapRequest n f s
  | .btPing n f => Sys2Proof.Machine.execBtPing n f s
  | .btPingSend n => Sys2Proof.Machine.execBtPingSend n s
  | .btGet n f => Sys2Proof.Machine.execBtGet n f s
  | .btGetSend n => Sys2Proof.Machine.execBtGetSend n s
  | .btData n f => Sys2Proof.Machine.execBtData n f s
  | .btAck n f => Sys2Proof.Machine.execBtAck n f s
  | .btLoop n f => Sys2Proof.Machine.execBtLoop n f s
  | .btResend n => Sys2Proof.Machine.execBtResend n s
  | .renegTimeout => Sys2Proof.Machine.execRenegTimeout s
  | .contractLost => Sys2Proof.Machine.execContractLost s
  | .lineUp => Sys2Proof.Machine.execLineUp s
  | .lineDown => Sys2Proof.Machine.execLineDown s
  | .btCmdDissolve n => Sys2Proof.Machine.execBtCmdDissolve n s
  | .btCmdSwap n => Sys2Proof.Machine.execBtCmdSwap n s
  | .btCmdTest n => Sys2Proof.Machine.execBtCmdTest n s
  | .btCmdRequest n => Sys2Proof.Machine.execBtCmdRequest n s
  | .loopTestDone n mv samples f => Sys2Proof.Machine.execLoopTestDone n mv samples f s
  | .weevilWatchdog => Sys2Proof.Machine.execWeevilWatchdog s
  | .seqOn => Sys2Proof.Machine.execSeqOn s
  | .seqOff => Sys2Proof.Machine.execSeqOff s
  | .clearSafe => Sys2Proof.Machine.execClearSafe s
  | .seqQuiet => Sys2Proof.Machine.execSeqQuiet s
  | .rampStart => Sys2Proof.Machine.execRampStart s
  | .railOnSlot r => Sys2Proof.Machine.execRailOnSlot r s
  | .railOffSlot r => Sys2Proof.Machine.execRailOffSlot r s
  | .rampTimeout => Sys2Proof.Machine.execRampTimeout s
  | .railPgRise r => Sys2Proof.Machine.execRailPgRise r s
  | .railNoUp r => Sys2Proof.Machine.execRailNoUp r s
  | .railLost r => Sys2Proof.Machine.execRailLost r s
  | .rstoRelease k => Sys2Proof.Machine.execRstoRelease k s
  | .rideReturn => Sys2Proof.Machine.execRideReturn s
  | .rideTimeout => Sys2Proof.Machine.execRideTimeout s
  | .minOffEnd => Sys2Proof.Machine.execMinOffEnd s
  | .quietWake => Sys2Proof.Machine.execQuietWake s
  | .serviceRestored => Sys2Proof.Machine.execServiceRestored s
  | .estScan => Sys2Proof.Machine.execEstScan s
  | .estEvaluation => Sys2Proof.Machine.execEstEvaluation s
  | .learn k => Sys2Proof.Machine.execLearn k s
  | .drill k => Sys2Proof.Machine.execDrill k s
  | .drillStop k => Sys2Proof.Machine.execDrillStop k s
  | .drillTimeout => Sys2Proof.Machine.execDrillTimeout s
  | .anchorStale => Sys2Proof.Machine.execAnchorStale s
  | .thermalMeasure xs => Sys2Proof.Machine.execThermalMeasure xs s
  | .eventRaise ev idx kind => Sys2Proof.Machine.execEventRaise ev idx kind s
  | .gutterSelfCheck addr bits => Sys2Proof.Machine.execGutterSelfCheck addr bits s
  | .latchClear n mask => Sys2Proof.Machine.execLatchClear n mask s
  | .forceRaise n mask => Sys2Proof.Machine.execForceRaise n mask s
  | .injCheck point index => Sys2Proof.Machine.execInjCheck point index s
  | .clearFirst => Sys2Proof.Machine.execClearFirst s
  | .snapHist => Sys2Proof.Machine.execSnapHist s
  | .recordCommit => Sys2Proof.Machine.execRecordCommit s
  | .thatchFlush part => Sys2Proof.Machine.execThatchFlush part s
  | .nvmOperationDone ok => Sys2Proof.Machine.execNvmOperationDone ok s
  | .fwCommit => Sys2Proof.Machine.execFwCommit s
  | .thRelease seq => Sys2Proof.Machine.execThRelease seq s
  | .snapOpen => Sys2Proof.Machine.execSnapOpen s
  | .snapClose => Sys2Proof.Machine.execSnapClose s
  | .recordRead src n => Sys2Proof.Machine.execRecordRead src n s
  | .recordReadDone ok => Sys2Proof.Machine.execRecordReadDone ok s
  | .hostWrite wire sr => Sys2Proof.Machine.execHostWrite wire sr s
  | .registerWrite addr w => Sys2Proof.Machine.execRegisterWrite addr w s
  | .hostRead wire => Sys2Proof.Machine.execHostRead wire s
  | .sclLowTimeout => Sys2Proof.Machine.execSclLowTimeout s
  | .hostNotify acked lost sr => Sys2Proof.Machine.execHostNotify acked lost sr s
  | .hostNotifyRetry acked lost sr => Sys2Proof.Machine.execHostNotifyRetry acked lost sr s
  | .mbSendByte b addr pec => Sys2Proof.Machine.execMbSendByte b addr pec s
  | .mbWriteByte b addr pec => Sys2Proof.Machine.execMbWriteByte b addr pec s
  | .mbWriteWord b addr pec => Sys2Proof.Machine.execMbWriteWord b addr pec s
  | .mbReadByte b addr pec => Sys2Proof.Machine.execMbReadByte b addr pec s
  | .mbReadWord b addr pec => Sys2Proof.Machine.execMbReadWord b addr pec s
  | .mbBlockWrite b addr pec => Sys2Proof.Machine.execMbBlockWrite b addr pec s
  | .mbBlockRead b addr pec => Sys2Proof.Machine.execMbBlockRead b addr pec s
  | .mbI2cWrite b addr pec => Sys2Proof.Machine.execMbI2cWrite b addr pec s
  | .mbI2cWrRd b addr pec => Sys2Proof.Machine.execMbI2cWrRd b addr pec s
  | .mbTransactionDone b stat rx => Sys2Proof.Machine.execMbTransactionDone b stat rx s
  | .mbRetry b => Sys2Proof.Machine.execMbRetry b s
  | .mbStretchTimeout b => Sys2Proof.Machine.execMbStretchTimeout b s
  | .busRecovery bus freed => Sys2Proof.Machine.execBusRecovery bus freed s
  | .mbTargetWrite b bytes sr => Sys2Proof.Machine.execMbTargetWrite b bytes sr s
  | .mbTargetRead b n => Sys2Proof.Machine.execMbTargetRead b n s
  | .plcaBeacon segB len => Sys2Proof.Machine.execPlcaBeacon segB len s
  | .supplyRailReturn => Sys2Proof.Machine.execSupplyRailReturn s
  | .externalRailsRemoved => Sys2Proof.Machine.execExternalRailsRemoved s
  | .memberNotFresh j => Sys2Proof.Machine.execMemberNotFresh j s
  | .stateRecordWriteDone ok => Sys2Proof.Machine.execStateRecordWriteDone ok s
  | .demandRateLimitEnd => Sys2Proof.Machine.execDemandRateLimitEnd s

end Sys2Proof.Machine
end

