-- ==== Sys2Proof/WellFormed.lean ====
section
/-!
DEFINITION. Sys2Proof/WellFormed.lean: the commands whose operands name units that the part has.
-/

namespace Sys2Proof

/-- Every operand that numbers a unit is in its range: stages 0–11, branches and links 0–7, rails
0–15, inputs 0–47, channels 0–31, synthesisers 0–11, marks 0–63, cores 0–7, demodulators 0–7, comparators 0–23, the registers that Gutter keeps in duplicate. An operand
that a host writes into a field of a register may have any value of that field (the string of ST_CMD, the comparator of CMP_TEST). -/
def Instr.wf : Instr → Bool
  | .regulatorStart => true
  | .regulatorStop => true
  | .rstNAssert => true
  | .internalResetRelease role _ _ => decide (role < 8)
  | .bootComplete _ _ err => decide (err < 4)
  | .slotCheckStandby err => decide (err < 4)
  | .lgSlotFind => true
  | .svRaise => true
  | .trialWindowExpire => true
  | .fallbackReset => true
  | .imgBegin => true
  | .imageDataWrite _ => true
  | .imagePageProgramDone _ => true
  | .imgFinish => true
  | .imageFinishDone _ => true
  | .imgArm => true
  | .imgAbort => true
  | .imgConfirm => true
  | .imgReboot => true
  | .otpArmWrite _ => true
  | .otpRead => true
  | .otpReadArray => true
  | .otpProg => true
  | .otpLock => true
  | .otpDebugLock => true
  | .otpProgDone tries _ => decide (1 ≤ tries ∧ tries ≤ 5)
  | .jtagInstructionLoad _ => true
  | .profCommit => true
  | .profDiscard => true
  | .profileCheckDone => true
  | .liveProfileApply => true
  | .clockLoss => true
  | .lastGaspTrigger => true
  | .lastGaspRearm => true
  | .lastGaspCommitDone => true
  | .supplyRailFault rail => decide (rail < 3)
  | .scarabWatchdog => true
  | .sramUncorr => true
  | .shtdnOffRequest => true
  | .shtdnFall => true
  | .eraIncrement => true
  | .ridgeCheck _ _ => true
  | .ridgeLock => true
  | .phaseRotation => true
  | .mainsLoss => true
  | .startTmoExpire => true
  | .pullComplete => true
  | .rateSlewStep => true
  | .gridPhaseAngle => true
  | .beaconInstant => true
  | .transmitOpportunity _ _ => true
  | .frameReceive _ _ _ => true
  | .beacon => true
  | .followUp => true
  | .beaconMissed => true
  | .delayReq => true
  | .delayRespRelease _ => true
  | .delayResp => true
  | .markFire m => decide (m < 64)
  | .carrierZero n => decide (n < 32)
  | .carrierCheck upset => decide (upset < 4096)
  | .dllUnlock => true
  | .pwmHoldTimeout => true
  | .adcTrigger n => decide (n < 48)
  | .conversionComplete i => decide (i < 48)
  | .adcCheckConversion c code => decide (c < 8 ∧ code < 16384)
  | .refSettled => true
  | .refCheck _ => true
  | .adcCal c => decide (c < 8)
  | .adcCalDone c _ gain _ => decide (c < 8 ∧ gain < 2 ^ 32)
  | .cmpTest c => decide (c < 32)
  | .cmpTestDone => true
  | .sdmResult n => decide (n < 8)
  | .sdmLoss n => decide (n < 8)
  | .sdmValid n => decide (n < 8)
  | .cmpTrip c => decide (c < 24)
  | .cmpRelease c => decide (c < 24)
  | .cmpDacCheck c bits => decide (c < 24 ∧ bits < 1024)
  | .updateReady k => decide (k < 12)
  | .rafterUpdate => true
  | .knownAnswerUpdate _ _ _ => true
  | .coefDataWrite k _ => decide (k < 12)
  | .setpointWrite k which _ => decide (k < 12 ∧ which < 6)
  | .engineCheckFail _ check => decide (check < 8)
  | .compareFail => true
  | .takeoverCheckDone _ => true
  | .arbitrationDone _ _ => true
  | .twinTest => true
  | .selfTestDone _ => true
  | .resyncCopyDone _ => true
  | .resyncLockstepDone => true
  | .twinSwap => true
  | .stageStart k => decide (k < 12)
  | .stageStop k => decide (k < 12)
  | .stageClear k => decide (k < 12)
  | .startDlyExpire k => decide (k < 12)
  | .stopDlyExpire k => decide (k < 12)
  | .softTimeout k => decide (k < 12)
  | .stopTimeout k => decide (k < 12)
  | .stageRetry k => decide (k < 12)
  | .stageRunStable k => decide (k < 12)
  | .shareTick g => decide (g < 2)
  | .shelfReportTick => true
  | .shelfPowerForm => true
  | .shelfReport => true
  | .rideReport => true
  | .demandReport => true
  | .interleaveRecompute => true
  | .rackTrimTick => true
  | .reallocation => true
  | .raisedValuesSend => true
  | .offsetSet => true
  | .shareTrim => true
  | .sliceSet => true
  | .chargeSet => true
  | .ichgUpdate _ => true
  | .budgetWrite _ => true
  | .capEvaluation => true
  | .capTimeout => true
  | .mgrState => true
  | .mgrListenEnd => true
  | .primaryFailureDetect => true
  | .noPrimaryTimeout => true
  | .noStandby => true
  | .mgrSwap _ => true
  | .mgrTakeover => true
  | .presence => true
  | .profileLoad send => send.all fun x => decide (x.dst < 32 ∧ x.tid < 65536 ∧ x.bytes.length ≤ 16384)
  | .netAck => true
  | .thatchFwd => true
  | .segmentDown _ => true
  | .segmentUp _ => true
  | .lateDiscard => true
  | .keyCommit _ => true
  | .keyActivate => true
  | .keyErase => true
  | .branchScan => true
  | .branchEvaluation => true
  | .seatRise n => decide (n < 8)
  | .seatLoss n => decide (n < 8)
  | .seatingComplete n => decide (n < 8)
  | .insertComplete n => decide (n < 8)
  | .branchTripInput n _ => decide (n < 8)
  | .prechargeStall n => decide (n < 8)
  | .preRelease n => decide (n < 8)
  | .branchRetry n => decide (n < 8)
  | .branchOnStable n => decide (n < 8)
  | .branchOffDly n => decide (n < 8)
  | .branchClear n => decide (n < 8)
  | .brakeSlot n => decide (n < 8)
  | .brakePauseObserved _ => true
  | .signatureMeasure n _ => decide (n < 8)
  | .detach n => decide (n < 8)
  | .packetTransmit n _ => decide (n < 8)
  | .btSrcCap n _ => decide (n < 8)
  | .btSrcCapRepeat n => decide (n < 8)
  | .btNoSink n => decide (n < 8)
  | .btRequest n _ => decide (n < 8)
  | .btAnswer n _ => decide (n < 8)
  | .btOffer n _ => decide (n < 8)
  | .btReady n _ => decide (n < 8)
  | .btDissolve n _ => decide (n < 8)
  | .btSwapRequest n _ => decide (n < 8)
  | .btPing n _ => decide (n < 8)
  | .btPingSend n => decide (n < 8)
  | .btGet n _ => decide (n < 8)
  | .btGetSend n => decide (n < 8)
  | .btData n _ => decide (n < 8)
  | .btAck n _ => decide (n < 8)
  | .btLoop n _ => decide (n < 8)
  | .btResend n => decide (n < 8)
  | .renegTimeout => true
  | .contractLost => true
  | .lineUp => true
  | .lineDown => true
  | .btCmdDissolve n => decide (n < 8)
  | .btCmdSwap n => decide (n < 8)
  | .btCmdTest n => decide (n < 8)
  | .btCmdRequest n => decide (n < 8)
  | .loopTestDone n _ _ _ => decide (n < 8)
  | .weevilWatchdog => true
  | .seqOn => true
  | .seqOff => true
  | .clearSafe => true
  | .seqQuiet => true
  | .rampStart => true
  | .railOnSlot r => decide (r < 16)
  | .railOffSlot r => decide (r < 16)
  | .rampTimeout => true
  | .railPgRise r => decide (r < 16)
  | .railNoUp r => decide (r < 16)
  | .railLost r => decide (r < 16)
  | .rstoRelease k => decide (k < 4)
  | .rideReturn => true
  | .rideTimeout => true
  | .minOffEnd => true
  | .quietWake => true
  | .serviceRestored => true
  | .estScan => true
  | .estEvaluation => true
  | .learn k => decide (k < 8)
  | .drill k => decide (k < 8)
  | .drillStop k => decide (k < 8)
  | .drillTimeout => true
  | .anchorStale => true
  | .thermalMeasure _ => true
  | .eventRaise ev idx kind => decide (ev < 128 ∧ idx < 65536 ∧ kind < 256)
  | .gutterSelfCheck addr _ =>
    decide (addr % 4 = 0 ∧ (0x4800 ≤ addr ∧ addr < 0x4A00 ∨ 0x4A10 ≤ addr ∧ addr ≤ 0x4A1C ∨ addr = 0x4A30 ∨ addr = 0x4A34))
  | .latchClear i _ => decide (i < 4)
  | .forceRaise i _ => decide (i < 4)
  | .injCheck point index => decide (point < 16 ∧ index < 64)
  | .clearFirst => true
  | .snapHist => true
  | .recordCommit => true
  | .thatchFlush part => decide (part < 2)
  | .nvmOperationDone _ => true
  | .fwCommit => true
  | .thRelease _ => true
  | .snapOpen => true
  | .snapClose => true
  | .recordRead src i => decide (src < 4 ∧ i < 2 ^ 20)
  | .recordReadDone _ => true
  | .hostWrite _ _ => true
  | .registerWrite addr _ => decide (addr < 65536)
  | .hostRead _ => true
  | .sclLowTimeout => true
  | .hostNotify _ _ _ => true
  | .hostNotifyRetry _ _ _ => true
  | .mbSendByte b addr _ => decide (b < 2 ∧ addr < 128)
  | .mbWriteByte b addr _ => decide (b < 2 ∧ addr < 128)
  | .mbWriteWord b addr _ => decide (b < 2 ∧ addr < 128)
  | .mbReadByte b addr _ => decide (b < 2 ∧ addr < 128)
  | .mbReadWord b addr _ => decide (b < 2 ∧ addr < 128)
  | .mbBlockWrite b addr _ => decide (b < 2 ∧ addr < 128)
  | .mbBlockRead b addr _ => decide (b < 2 ∧ addr < 128)
  | .mbI2cWrite b addr _ => decide (b < 2 ∧ addr < 128)
  | .mbI2cWrRd b addr _ => decide (b < 2 ∧ addr < 128)
  | .mbTransactionDone b stat _ => decide (b < 2 ∧ stat < 9)
  | .mbRetry b => decide (b < 2)
  | .mbStretchTimeout b => decide (b < 2)
  | .busRecovery bus _ => decide (bus < 3)
  | .mbTargetWrite b _ _ => decide (b < 2)
  | .mbTargetRead b _ => decide (b < 2)
  | .plcaBeacon _ _ => true
  | .supplyRailReturn => true
  | .externalRailsRemoved => true
  | .memberNotFresh j => decide (j < 32)
  | .stateRecordWriteDone _ => true
  | .demandRateLimitEnd => true

end Sys2Proof
end

