-- ==== Sys2Proof/Safety.lean ====
section
/-!
DEFINITION. Sys2Proof/Safety.lean: the terms in which statements about the part are made: how a command completes, what
may wait in the queue, a run that never stops, what the part shows of itself after every command, and the canonical form
of its sparse contents.
-/

namespace Sys2Proof.Machine

/-- Command `c`, at a part `d` with the queue `q`, completes with the effect `e`: exec answers a next state, whose part is
`e` with the end of every command (`Dev.ends`), and whose queue is `q`. -/
abbrev Answers (c : Instr) (d : Dev) (q : List Instr) (e : Dev) : Prop := exec c ⟨d, q⟩ = .next ⟨e.ends, q⟩

/-- A mode after BOOT: the blocks serve (R66, R67). -/
abbrev Serving (d : Dev) : Prop := d.mode.afterBoot = true

/-- A mode other than DARK. -/
abbrev Awake (d : Dev) : Prop := d.mode ≠ .dark

/-- The register at `a` takes commands: registers are served, and the role uses its block (R40, R67). -/
abbrev Reaches (d : Dev) (a : Nat) : Prop := d.mode.afterBoot = true ∧ d.blockUsed a = true

/-- The first waiting message of type `ty` is `m`; it is taken from the inbox, and its sender has been heard (R395, R423): the
part is then `e`. -/
def Takes (d : Dev) (ty : Nat) (m : RxMsg) (e : Dev) : Prop :=
  ∃ x, d.takeMsg ty = some (m, x) ∧ e = if m.angleOnly then x else x.peerSeen m.msg.src

/-- Every command that waits names units that the part has. -/
def QueueWf (s : State) : Prop := ∀ c ∈ s.pending, c.wf = true

/-- A run of `n` steps that meets neither fault nor refusal, and its last state. -/
def RunsTo (n : Nat) (s t : State) : Prop := core.run n s = .next t

/-- What the part shows of itself: ACTIVE shows the conditions that hold and the raises of the cycle (R585), EVENT_N is low while
a latch of a source with a reaction reads 1 (R588), and the address in force is shown (R661). -/
structure Shown (d : Dev) : Prop where
  active : ∀ ev, ev < 128 → d.activeShown ev = d.active ev
  event : ((List.range 128).any fun ev => d.latched ev && d.srcReact ev != .none) = true → d.on R.GUT_STATUS_EVENT = true
  address : d.mode.afterBoot = true →
    d.get R.HOST_STATUS_ADDR_NOW = if d.get R.HOST_CFG_ADDR = 0 then 0x58 else d.get R.HOST_CFG_ADDR

/-- The canonical form of everything that is held sparsely: keys strictly rising, no entry that equals what an unlisted
key reads as. -/
def Canonical (d : Dev) : Prop :=
  swf 0 d.regs = true ∧ swf 0xFF d.nvm = true ∧ swf blankCell d.otp = true ∧ swf blankShadow d.boot.shadow = true

end Sys2Proof.Machine
end

