-- ==== Sys2Proof/Certificates/Slice0/Obligations.lean ====
section
/-!
DEFINITION. Sys2Proof/Certificates/Slice0/Obligations.lean: the statements about the part. A part stands as `d` with the
queue `q` of the commands that wait; `Answers c d q e` says that the command c at that state answers a next state, with the
effect e followed by the end of every command (`Dev.ends`), and leaves the queue as it is.
-/

open Sys2Proof Sys2Proof.Machine

/-! ## The machine as a whole -/

/-- With command c at the front of the queue, a step is exec of c on the state with the queue's rest (DESIGN CHOICE of the
model: entry 1). -/
def Obligations.StepRunsTheFrontCommand : Prop :=
  ∀ (c : Instr) (d : Dev) (q : List Instr), step ⟨d, c :: q⟩ = exec c ⟨d, q⟩

/-- On an empty queue one CLK200 cycle passes (DESIGN CHOICE of the model: entry 2). A part that is DARK or without
CLK200 counts no cycle: what is raised for the next cycle is raised, a trial whose window has expired fails, a word of a
host's write goes on, and every command's end follows. In any other, the cycle's effect comes first. In it the rack
angle with its era, and their copies, add the rate word, none while SRC is NONE (R117, R119, R120), and the local grid
angle adds its own where MAINS_EN = 1 (R138). -/
def Obligations.EmptyQueueIsOneCycle : Prop :=
  (∀ d : Dev, step ⟨d, []⟩ = .next ⟨d.tick, []⟩)
  ∧ (∀ d : Dev, d.mode = .dark ∨ d.sup.clockLost = true → 
      d.tick = (Dev.gutterTick { d with cyc := .rest }).trialOver.hostWord.ends)
  ∧ (∀ d : Dev, d.mode ≠ .dark → d.sup.clockLost = false → d.tick = d.oneCycle.ends)
  ∧ (∀ d : Dev, d.tickAngles.total = (d.total + (if d.src = srcNone then 0 else d.rate)) % 2 ^ 96
      ∧ (d.copiesDiffer = false → d.tickAngles.copiesDiffer = false)
      ∧ d.tickAngles.ridge.grid
        = (if d.on R.RIDGE_CTRL_MAINS_EN then d.ridge.grid + d.ridge.gridRate.setWidth 64 else d.ridge.grid)
      ∧ { d.tickAngles with ridge := d.ridge, cyc := d.cyc } = d)

/-- A command whose operands name units that the part has answers a next state and leaves the queue; any other stops with
noSuchUnit (the model's own fault: entry 4). -/
def Obligations.WellFormedCommandsComplete : Prop :=
  ∀ (c : Instr) (d : Dev) (q : List Instr),
    (c.wf = true → ∃ e, exec c ⟨d, q⟩ = .next ⟨e, q⟩) ∧ (c.wf = false → exec c ⟨d, q⟩ = .fault .noSuchUnit)

/-- A queue of well-formed commands is served to its end, in its order and without a stop: the run of as many steps as
commands wait answers a state with an empty queue, and each prefix of the run leaves the rest of the queue. -/
def Obligations.QueueIsServedInOrder : Prop :=
  ∀ (s : State), QueueWf s → ∀ n, n ≤ s.pending.length → ∃ t, RunsTo n s t ∧ t.pending = s.pending.drop n

/-- The registers as they show themselves after every command and every cycle: ACTIVE the conditions that hold (R585), EVENT
a latch of a source with a reaction (R588), ADDR_NOW the address in force (R661). -/
def Obligations.EveryStepKeepsShown : Prop :=
  ∀ s t : State, Shown s.dev → step s = .next t → Shown t.dev

/-- The state after reset shows itself rightly, has its sparse contents in canonical form, an empty queue, and the mode
DARK. -/
def Obligations.ResetIsDarkAndCanonical : Prop :=
  Shown State.reset.dev ∧ Canonical State.reset.dev ∧ State.reset.pending = [] ∧ State.reset.dev.mode = .dark
  ∧ QueueWf State.reset ∧ State.reset.dev.sup.powered = false

/-- Writing a field gives it the low bits of the value, and leaves every field that shares no bit with it, every other
register, and everything that is no register. Reading back needs the field to lie within the 32 bits of a register. -/
def Obligations.FieldWriteFrame : Prop :=
  ∀ (d : Dev) (f : Fld) (v : Nat), f.lo + f.w ≤ 32 →
    (d.put f v).get f = v % 2 ^ f.w
    ∧ (∀ g : Fld, g.addr ≠ f.addr ∨ g.lo + g.w ≤ f.lo ∨ (f.lo + f.w ≤ g.lo ∧ g.lo + g.w ≤ 32) → (d.put f v).get g = d.get g)
    ∧ (∀ a, a ≠ f.addr → (d.put f v).word a = d.word a)
    ∧ { d.put f v with regs := d.regs } = d

/-- Every operation on sparse contents keeps the canonical form, reads back what it has written and leaves every other key
alone: registers, external NVM (programming clears bits only, erasing gives 0xFF), fuses. -/
def Obligations.SparseContentsStayCanonical : Prop :=
  (∀ (d : Dev) (a : Nat) (v : Word), swf 0 d.regs = true →
    swf 0 (d.setWord a v).regs = true ∧ ∀ b, (d.setWord a v).word b = if b = a then v else d.word b)
  ∧ (∀ (m : Sparse Byte) (a : Nat) (l : List Byte), swf 0xFF m = true →
    swf 0xFF (nvmProgram m a l) = true ∧ ∀ b, sread 0xFF (nvmProgram m a l) b
      = if a ≤ b ∧ b < a + l.length then sread 0xFF m b &&& l.getD (b - a) 0 else sread 0xFF m b)
  ∧ (∀ (m : Sparse Byte) (a n : Nat), swf 0xFF m = true →
    swf 0xFF (nvmErase m a n) = true ∧ ∀ b, sread 0xFF (nvmErase m a n) b
      = if a ≤ b ∧ b < a + n then 0xFF else sread 0xFF m b)
  ∧ (∀ (d : Dev) (a : Nat) (c : FuseCell), swf blankCell d.otp = true →
    swf blankCell (d.setFuse a c).otp = true ∧ ∀ b, (d.setFuse a c).fuse b = if b = a then c else d.fuse b)

/-- The end of a command at which nothing has been raised, no condition acts by its level, and the boot manager and a
waiting flush have nothing to start: BLOCK, ACTIVE, EVENT and the address in force are shown, capture words are read,
and nothing else happens. -/
def Obligations.QuietEndChangesNothingElse : Prop :=
  ∀ d : Dev, d.raised = [] → d.ridge.stepFrom = none → d.levels = d → d.boot.recQ = [] → d.boot.writing = none →
    d.on R.TH_STATUS_FLUSH_WAIT = false →
    d.ends = ((d.showBlock.showGutter).capture).showAddr
    ∧ (∀ a, (∀ i, i < 4 → a ≠ A.GUT_ACTIVEi i) → a ≠ A.GUT_STATUS → a ≠ A.SEQ_STATUS → a ≠ A.HOST_STATUS →
        d.ends.word a = d.word a)
    ∧ { d.ends with
        regs := d.regs
        gut := { d.ends.gut with hist := d.gut.hist }
        thatch := { d.ends.thatch with intake := d.thatch.intake } } = d

/-! ## Supply, reset and BOOT (spec/02_package_supply.md, spec/17_boot_otp_update.md) -/

/-- Into DARK (R70, R94, R104, R538, R649, R651): the regulators' stop, RST_N, the loss of external rails, a failed trial and
REBOOT each leave every register at its reset value and everything else at rest, but for fuses, external NVM, the supply
that stands, and the reset cause. Fuses and NVM keep what they hold where no operation on them is cut. Every
ball is in its reset state, or without supply (R104, R109). -/
def Obligations.DarkKeepsFusesAndNvmOnly : Prop :=
  (∀ (d : Dev) (keep : Bool) (cause : Nat),
    (d.darken keep cause).mode = .dark ∧ (d.darken keep cause).regs = resetRegs
    ∧ (d.darken keep cause).boot = { Dev.rest.boot with cause := cause }
    ∧ (d.darken keep cause).sup.powered = keep
    ∧ (keep = true → (d.darken keep cause).sup.railOk = d.sup.railOk ∧ (d.darken keep cause).sup.lgArmed = d.sup.lgArmed)
    ∧ (∀ b : Ball, (d.darken false cause).ball b = .dead ∧ (d.darken true cause).ball b = b.resetPad)
    ∧ (d.thatch.op = none → d.boot.imgOp = none → d.boot.rec_ = none →
        (d.darken keep cause).nvm = d.nvm ∧ (d.darken keep cause).torn = d.torn)
    ∧ (d.boot.otpOp = none → (d.darken keep cause).otp = d.otp)
    ∧ { d.darken keep cause with
        otp := [], nvm := [], torn := [], draws := 0, sup := Dev.rest.sup, boot := Dev.rest.boot } = Dev.rest)
  ∧ ∀ (d : Dev) (q : List Instr),
    (d.sup.powered = true → d.bypass = false → Answers .regulatorStop d q (d.darken false 0))
    ∧ (d.sup.powered = true →
      Answers .rstNAssert d q ((d.darken true 1).modSup fun u => { u with resetHeld := true }))
    ∧ (Awake d → d.bypass = true → Answers .externalRailsRemoved d q (d.darken false 0))
    ∧ (d.on R.IMAGE_STATUS_FB_PEND = true → (d.mode = .standby ∨ d.mode = .safe) →
        d.recPending RecFor.isFallback = false → Answers .fallbackReset d q (d.darken true 3))
    ∧ (Reaches d A.IMAGE_CMD → d.mode = .standby ∨ d.mode = .safe → Answers .imgReboot d q (d.disarm.darken true 2))

/-- Out of DARK (R86, R94, R105, R650): the regulators start; the internal reset release samples the straps into
SYS_MODE and HOST_STATUS, shows the reset cause, marks a reserved role, and BOOT begins with the BOOT record (R597).
That REGULATOR_START leaves the last-gasp trigger unarmed is the model's choice (entry 24). -/
def Obligations.ResetReleaseSamplesStraps : Prop :=
  ∀ (d : Dev) (q : List Instr),
    (d.sup.powered = false →
      Answers .regulatorStart d q (d.modSup fun u => { u with powered := true, railOk := [true, true, true] }))
    ∧ ∀ (role : Nat) (hostSel bypass : Bool), role < 8 → d.mode = .dark →
      (d.sup.powered = false ∧ bypass = true ∨ d.sup.powered = true ∧ d.sup.railOk.all id = true) →
      ∃ e : Dev, Answers (.internalResetRelease role hostSel bypass) d q e.bootRecord
        ∧ e.mode = .boot ∧ e.get R.SYS_MODE_ROLE = role ∧ e.bypass = bypass
        ∧ e.on R.HOST_STATUS_SPI = hostSel ∧ e.on R.SYS_STATUS_ROLE_ERR = decide (4 < role)
        ∧ e.get R.IMAGE_STATUS_RST_CAUSE = d.boot.cause % 8
        ∧ e.sup.powered = true ∧ e.sup.railOk = [true, true, true] ∧ e.sup.resetHeld = false
        ∧ e.sup.lgArmed = (bypass || d.sup.lgArmed)
        ∧ { e with regs := d.regs, sup := d.sup } = d

/-- The end of BOOT (R206, R345, R440, R617, R619, R644): trim that is missing leads to SAFE with cause TRIM; the
failure of both engines on a role with the PWM array leads to SAFE with EV029; else the node enters STANDBY, where a
node with the MGR attribute listens (R394). -/
def Obligations.BootEndsInStandbyOrSafe : Prop :=
  ∀ (d : Dev) (q : List Instr) (passA passB : Bool) (err : Nat), err < 4 → d.mode = .boot →
    (d.otpRead.region 1 ≠ 2 →
      Answers (.bootComplete passA passB err) d q (d.otpRead.otpMarginal.safe .trim none))
    ∧ (d.otpRead.region 1 = 2 → ∀ (b e : Dev),
      b = (d.otpRead.bootImage err).1.bootEngines passA passB →
      e = (((d.otpRead.bootImage err).2.map b.bootStart).getD b.noSlot).otpMarginal →
      (e.twinUsed = true → passA = false → passB = false →
        Answers (.bootComplete passA passB err) d q ((e.safe .engines none).evLost))
      ∧ (e.twinUsed = false ∨ passA = true ∨ passB = true → ∀ f, f = e.standby.showSvPend →
        let counted (g : Dev) : Dev := (g.modNseg false fun s => { s with base := g.now }).modNseg true fun s => { s with base := g.now }
        (f.on R.RINNAK_NODE_MGR = false →
          Answers (.bootComplete passA passB err) d q (((counted f).modBoot fun b => { b with standbyAt := f.now }).showBusy))
        ∧ (f.on R.RINNAK_NODE_MGR = true →
          Answers (.bootComplete passA passB err) d q
            (((counted (f.modNet fun n => { n with listening := true })).modBoot fun b =>
              { b with standbyAt := f.now }).showBusy))))

/-- Clock, supply and last gasp (R100, R101, R105, R107, R115, R537, R584, R585, R649): what each event of a supply
input or of a watchdog does in a part that is awake, and what VAUX and the core rails do while it is in reset too. The
last gasp forces SAFE, takes its record, cuts a Quad-SPI operation where the record goes to LG, and runs to its end: a
trigger meanwhile only leaves VAUX below its threshold (R101). The re-arm threshold arms the trigger again, in every
mode in which the part has its supply. -/
def Obligations.SupplyAndLastGaspEvents : Prop :=
  (∀ (d : Dev) (q : List Instr), Awake d →
    (d.sup.clockLost = false →
      Answers .clockLoss d q (((d.modSup fun u => { u with clockLost := true }).report 0).safe .clock none))
    ∧ (d.sup.lgArmed = true → d.sup.lgRunning = false → ∀ (nvm : Bool) (e : Dev),
      nvm = (d.on R.TH_CTRL_NVM_EN && d.on R.TH_STATUS_LG_READY) →
      e = (if nvm then (d.safe .lastGasp none).abortQspi else d.safe .lastGasp none) →
      Answers .lastGaspTrigger d q
        ((((({ e with boot := { e.boot with otpCut := e.boot.otpOp.isSome } }.modSup fun u => { u with
          lgArmed := false, lgRunning := true, lgToNvm := nvm, lgGoodSince := none, stopped := true, lgHeld := true }).clr
            R.SEQ_STATUS_LG_DONE).set1 R.SEQ_FLAGS_LAST_GASP).showWeevil.lgStart).report 118))
    ∧ (d.sup.lgRunning = true →
      (d.sup.lgArmed = true →
        Answers .lastGaspTrigger d q (d.modSup fun u => { u with lgArmed := false, lgGoodSince := none }))
      ∧ (d.sup.lgArmed = false → Answers .lastGaspTrigger d q d))
    ∧ (d.sup.lgRunning = true →
      Answers .lastGaspCommitDone d q
        (((d.lgCommit d.sup.lgToNvm).modSup fun u => { u with lgRunning := false }).set1 R.SEQ_STATUS_LG_DONE))
    ∧ (d.sup.powered = true → ∀ rail, rail < 3 →
      Answers (.supplyRailFault rail) d q
        (((d.modSup fun u => { u with railOk := updAt u.railOk rail fun _ => false }).report 1).holdEv 1 0))
    ∧ Answers .sramUncorr d q (d.report 12)
    ∧ (Serving d → Answers .scarabWatchdog d q ((d.report 10).trialFails))
    ∧ Answers .shtdnOffRequest d q ((d.modSup fun u => { u with
        shtdn := true, shtdnOff := true, lgGoodSince := if d.bypass then none else u.lgGoodSince }).offRequest)
    ∧ (d.sup.shtdnOff = true → ∀ e, e = d.modSup (fun u => { u with shtdn := false, shtdnOff := false }) →
      (d.bypass = false → Answers .shtdnFall d q e.onRequest)
      ∧ (d.bypass = true →
        Answers .shtdnFall d q (e.modSup fun u => { u with lgArmed := true, lgGoodSince := some d.now }).onRequest)))
  ∧ ∀ (d : Dev) (q : List Instr), d.sup.powered = true →
    (d.bypass = false →
      Answers .lastGaspRearm d q (d.modSup fun u => { u with lgArmed := true, lgGoodSince := some d.now }))
    ∧ Answers .supplyRailReturn d q ((d.modSup fun u => { u with railOk := [true, true, true] }).unholdEv 1 0)
    ∧ (d.mode = .dark → ∀ rail, rail < 3 → Answers (.supplyRailFault rail) d q
      (d.modSup fun u => { u with railOk := updAt u.railOk rail fun _ => false }))

/-! ## Images (R643 to R652) -/

/-- Image commands that are accepted answer ACCEPTED and start their work (R647, R651): BEGIN marks the target slot WRITING
and empties the page buffer, FINISH begins the last page and the check, ARM and CONFIRM queue their state record, ABORT leaves
the slot EMPTY. -/
def Obligations.ImageCommandsStart : Prop :=
  ∀ (d : Dev) (q : List Instr), Reaches d A.IMAGE_CMD →
    let e := d.disarm
    (∀ t, d.wrInh = false → d.on R.IMAGE_STATUS_TRIAL = false → d.boot.writing = none → e.targetSlot = some t →
      Answers .imgBegin d q
        (((((((e.imgRes 1 .accepted false).queueRec (.begin_ t)).put (slotState t) 1).put (slotReason t) 0).clr
          R.IMAGE_WCOUNT_BYTES).put R.IMAGE_WCOUNT_FREE 64).clr R.IMAGE_WCOUNT_OVF |>.modBoot fun b => { b with
            writing := some t, page := [], pageAt := 0, pageErased := false, finishing := false
            checked := sbit b.checked t true, overfilled := sbit b.overfilled t false }).showBusy)
    ∧ (d.boot.writing.isSome = true → d.boot.finishing = false → d.on R.IMAGE_WCOUNT_OVF = false →
      Answers .imgFinish d q ((e.imgRes 2 .accepted false).modBoot fun b => { b with finishing := true }))
    ∧ (∀ t, e.targetSlot = some t → e.slotIs t 2 = true →
      Answers .imgArm d q ((e.imgRes 3 .accepted false).queueRec (.arm t)).showBusy)
    ∧ (∀ t, d.boot.writing = some t →
      Answers .imgAbort d q ((((e.imgRes 4 .accepted true).put (slotState t) 0).put R.IMAGE_WCOUNT_FREE 64).modBoot
        fun b => { b with writing := none, finishing := false, page := [], imgOp := none }).showBusy)
    ∧ (d.on R.IMAGE_STATUS_TRIAL = true →
      Answers .imgConfirm d q
        ((e.imgRes 5 .accepted false).queueRec (.confirm (d.get R.IMAGE_STATUS_RUN_SLOT))).showBusy)

/-- The page buffer of R652: a word to IMAGE_DATA appends its 4 bytes, low byte first, and counts them, or sets OVF where
nothing is free or the slot is full; the end of an erase or of a program frees the operation, and a page that has been
programmed frees the buffer. -/
def Obligations.ImagePagesAreWritten : Prop :=
  ∀ (d : Dev) (q : List Instr),
    (∀ (t : Nat) (w : Word), Reaches d A.IMAGE_DATA → d.boot.writing = some t → d.boot.finishing = false →
      (d.get R.IMAGE_WCOUNT_FREE ≠ 0 → d.get R.IMAGE_WCOUNT_BYTES + 4 ≤ 1048576 →
        Answers (.imageDataWrite w) d q
          (((d.disarm.modBoot fun b => { b with page := b.page ++ leBytes 4 w.toNat }).put R.IMAGE_WCOUNT_BYTES
            (d.get R.IMAGE_WCOUNT_BYTES + 4)).put R.IMAGE_WCOUNT_FREE
              (64 - (d.boot.page ++ leBytes 4 w.toNat).length / 4)))
      ∧ (d.get R.IMAGE_WCOUNT_FREE = 0 ∨ 1048576 < d.get R.IMAGE_WCOUNT_BYTES + 4 →
        Answers (.imageDataWrite w) d q ((d.disarm.set1 R.IMAGE_WCOUNT_OVF).modBoot fun b =>
          { b with overfilled := sbit b.overfilled t true })))
    ∧ (∀ slot at_, Serving d → d.boot.imgOp = some (.erase slot at_) →
      Answers (.imagePageProgramDone true) d q
        ((d.nvmEraseSector (slotBase slot + at_)).modBoot fun b => { b with imgOp := none, pageErased := true })
      ∧ Answers (.imagePageProgramDone false) d q
        (((d.nvmEraseBad (slotBase slot + at_)).report 13).modBoot fun b => { b with imgOp := none, pageErased := true }))
    ∧ (∀ slot at_ l, Serving d → d.boot.imgOp = some (.program slot at_ l) →
      Answers (.imagePageProgramDone true) d q
        (({ d with nvm := nvmProgram d.nvm (slotBase slot + at_) l }.modBoot fun b =>
          { b with imgOp := none, page := [], pageAt := at_ + 256, pageErased := false }).put R.IMAGE_WCOUNT_FREE 64)
      ∧ Answers (.imagePageProgramDone false) d q
        (((d.nvmProgramBad (slotBase slot + at_) l).report 13 |>.modBoot fun b =>
          { b with imgOp := none, page := [], pageAt := at_ + 256, pageErased := false }).put R.IMAGE_WCOUNT_FREE 64))
    ∧ (∀ slot err, Serving d → d.boot.imgOp = some (.check slot) →
      Answers (.imageFinishDone err) d q
        ((((d.modBoot fun b => { b with imgOp := none, writing := none, finishing := false }).checkSlot slot err).imgDone
          2).showBusy))

/-- Slots, records and the trial after BOOT (R584, R612, R644, R647, R648, R649, R658): the boot manager checks what BOOT has
not, Thatch finds its LG slot, or raises EV126 where none is left and begins an erase, a state record takes effect when it is
written, the thermometer rises to the confirmed image's version. A trial whose window has expired fails in the next cycle, but
for a CONFIRM accepted by then. -/
def Obligations.BootManagerServesAfterBoot : Prop :=
  ∀ (d : Dev) (q : List Instr), Serving d →
    (∀ err, err < 4 → Answers (.slotCheckStandby err) d q
      (((d.each ([0, 1].filter fun s => !tbit d.boot.checked s && !d.recBase.has (srEmpty s) && d.boot.writing != some s)
        fun e s => e.checkSlot s (tbit err s) (d.recBase.has (srFailed s)))).showSvPend))
    ∧ (∀ i, d.on R.TH_CTRL_NVM_EN = true → d.lgFirst = some i →
      Answers .lgSlotFind d q ((d.put R.TH_NVM_NEXT_LG_INDEX i).set1 R.TH_STATUS_LG_READY).eraseAhead)
    ∧ (∀ v, d.confirmedSv = some v → d.otpInhibited = false → d.boot.otpOp = none → d.boot.svTarget = none →
      d.get R.OTP_STATUS_SV < v → Answers .svRaise d q ((d.modBoot fun b => { b with svTarget := some v }).svNext))
    ∧ (d.lgFirst = none → d.on R.TH_CTRL_NVM_EN = true → ∀ e,
      e = (if d.on R.TH_STATUS_LG_READY then d.report 126 else d).clr R.TH_STATUS_LG_READY →
      (e.qspiFree = true → e.wrInh = false → 0 < e.sectors .lg →
        Answers .lgSlotFind d q (e.modThatch fun t => { t with op := some (.erase .lg (e.sectorNow .lg)) }))
      ∧ (e.qspiFree = false ∨ e.wrInh = true ∨ e.sectors .lg = 0 → Answers .lgSlotFind d q e))
    ∧ (d.trialLeft = 0 → d.on R.IMAGE_STATUS_TRIAL = true →
      Answers .trialWindowExpire d q (d.modBoot fun b => { b with expired := true }))
    ∧ (d.boot.expired = true → ∀ e, e = d.modBoot (fun b => { b with expired := false }) →
      (e.recPending RecFor.isConfirm = true → d.trialOver = e)
      ∧ (e.recPending RecFor.isConfirm = false → e.on R.IMAGE_STATUS_TRIAL = true →
        e.on R.IMAGE_STATUS_FB_PEND = false → ∀ f,
        f = ((e.set1 R.IMAGE_STATUS_FB_PEND).queueRec (.fallback (e.get R.IMAGE_STATUS_RUN_SLOT))).showBusy →
        (f.mode = .standby ∨ f.mode = .safe ∨ f.mode = .drain → d.trialOver = f)
        ∧ (f.mode = .ramp ∨ f.mode = .run ∨ f.mode = .ride → d.trialOver = f.offRequest)))
    ∧ (∀ r e, d.boot.rec_ = some r → e = d.modBoot (fun b => { b with rec_ := none }) →
      Answers (.stateRecordWriteDone true) d q (e.recTakes r.why).showBusy
      ∧ (r.tries < 2 → Answers (.stateRecordWriteDone false) d q
        (((e.recSpoilt r.why).modBoot fun b => { b with recQ := { r with tries := r.tries + 1 } :: b.recQ }).showBusy))
      ∧ (2 ≤ r.tries → Answers (.stateRecordWriteDone false) d q
        (((e.recSpoilt r.why).imgDone r.why.cmd).report 13).showBusy))

/-! ## Fuses, JTAG and profiles -/

/-- OTP_ARM and the reads (R624, R625): 0xC35A arms the next command; READ answers from the shadow with its flags,
READ_ARRAY from the array at the chosen margin. JTAG (R634): a boundary instruction is loaded and raises nothing; a
debug instruction on a part whose debug lock does not act raises EV014 the first time only; on a locked part it has no
effect but BYPASS. The lock acts from the cycle after DEBUG_LOCK reads 1. -/
def Obligations.OtpReadsAndJtagAct : Prop :=
  (∀ (d : Dev) (q : List Instr),
    (∀ w, Reaches d A.OTP_ARM →
      Answers (.otpArmWrite w) d q (d.disarm.modBoot fun b => { b with armed := fieldOf w 0 16 == 0xC35A }))
    ∧ (Reaches d A.OTP_CMD → d.otpAddr < otpWords →
      Answers .otpRead d q
        ((((((d.disarm.otpRes 1 .accepted true).setWord A.OTP_RDATA (d.shadow d.otpAddr).data).putB R.OTP_RES_MARGINAL
          (d.shadow d.otpAddr).marginal).putB R.OTP_RES_CORR (d.shadow d.otpAddr).corr).putB R.OTP_RES_UNCORR
            (d.shadow d.otpAddr).uncorr)))
    ∧ (∀ f, Reaches d A.OTP_CMD → d.otpAddr < otpWords → d.get R.OTP_ADDR_MARGIN < 3 →
      f = (if d.get R.OTP_ADDR_MARGIN = 0 then (d.fuse d.otpAddr).normal
        else if d.get R.OTP_ADDR_MARGIN = 1 then (d.fuse d.otpAddr).blank else (d.fuse d.otpAddr).prog) →
      Answers .otpReadArray d q
        (((d.disarm.otpRes 2 .accepted true).setWord A.OTP_RDATA (fuseData f)).put R.OTP_RES_ECC (fuseEcc f).toNat)))
  ∧ ∀ (d : Dev) (q : List Instr) (code : Nat), Awake d →
    (code < 4 → Answers (.jtagInstructionLoad code) d q (d.modBoot fun b => { b with jtag := code }))
    ∧ (4 ≤ code → d.debugLocked = true →
      Answers (.jtagInstructionLoad code) d q (d.modBoot fun b => { b with jtag := 0 }))
    ∧ (4 ≤ code → d.debugLocked = false → d.boot.debugSeen = true →
      Answers (.jtagInstructionLoad code) d q (d.modBoot fun b => { b with jtag := code, debugSeen := true }))
    ∧ (4 ≤ code → d.debugLocked = false → d.boot.debugSeen = false →
      Answers (.jtagInstructionLoad code) d q
        ((d.modBoot fun b => { b with jtag := code, debugSeen := true }).report 14))
    ∧ (d.on R.OTP_STATUS_DEBUG_LOCK = false → d.debugLocked = false)
    ∧ (d.on R.OTP_STATUS_DEBUG_LOCK = true → d.cyc = .rest → d.debugLocked = true)

/-- PROG, LOCK and DEBUG_LOCK are answered by the first row of R626 that applies; any other write clears the arming; and
the thermometer words 0x149 to 0x14E are none that PROG reaches. -/
def Obligations.OtpProgrammingIsAnswered : Prop :=
  ∀ (d : Dev) (q : List Instr), Reaches d A.OTP_CMD →
    let o := d.disarm
    let reg := regionAt o.otpAddr
    let all (c : Code) : Prop := Answers .otpProg d q (o.otpRes 3 c true) ∧ Answers .otpLock d q (o.otpRes 4 c true)
      ∧ Answers .otpDebugLock d q (o.otpRes 5 c true)
    (d.mode ≠ .standby → d.mode ≠ .safe → all .busyRun)
    ∧ (d.mode = .standby ∨ d.mode = .safe →
      (d.boot.otpOp.isSome = true ∨ d.boot.svTarget.isSome = true → all .mode)
      ∧ (d.boot.otpOp = none → d.boot.svTarget = none →
        (o.otpInhibited = true → all .temp)
        ∧ (o.otpInhibited = false →
          (d.boot.armed = false → all .lock)
          ∧ (d.boot.armed = true →
            (0x148 < o.otpAddr ∨ o.lockBit reg = true ∨ (o.fuse o.otpAddr).normal ≠ 0
                ∨ (2 ≤ reg ∧ reg ≤ 5 ∧ ∃ g, reg < g ∧ 2 ≤ g ∧ g ≤ 5 ∧ o.lockBit g = true) →
              Answers .otpProg d q (o.otpRes 3 .lock true))
            ∧ (o.otpAddr ≤ 0x148 → o.lockBit reg = false → (o.fuse o.otpAddr).normal = 0 →
              (2 ≤ reg → reg ≤ 5 → ∀ g, reg < g → g ≤ 5 → o.lockBit g = false) →
              Answers .otpProg d q ((o.otpRes 3 .accepted false).modBoot fun b => { b with
                otpOp := some (.word o.otpAddr (fuseWord (o.word A.OTP_WDATA) (eccOf (o.word A.OTP_WDATA))))
                otpCut := false }))
            ∧ (∀ r, r = o.get R.OTP_ADDR_REGION →
              (o.lockBit r = true ∨ (2 ≤ r ∧ r ≤ 5 ∧ ∃ g, r < g ∧ 2 ≤ g ∧ g ≤ 5 ∧ o.lockBit g = true) →
                Answers .otpLock d q (o.otpRes 4 .lock true))
              ∧ (o.lockBit r = false → (2 ≤ r → r ≤ 5 → ∀ g, r < g → g ≤ 5 → o.lockBit g = false) →
                (o.on R.OTP_ADDR_FORCE = false → o.regionCrc r = false → Answers .otpLock d q (o.otpRes 4 .badProfile true))
                ∧ (o.on R.OTP_ADDR_FORCE = true ∨ o.regionCrc r = true →
                  Answers .otpLock d q ((o.otpRes 4 .accepted false).modBoot fun b => { b with
                    otpOp := some (.lock r), otpCut := false }))))
            ∧ Answers .otpDebugLock d q ((o.otpRes 5 .accepted false).modBoot fun b => { b with
              otpOp := some (.lock 7), otpCut := false })))))
    ∧ o.boot.armed = false ∧ (∀ a w, a / 4 * 4 ≠ A.OTP_CMD → d.present a w = o.present a w)
    ∧ (∀ a w, masksAt (a / 4 * 4) = none → d.present a w = (o, 0))

/-- The end of a programming operation (R627): a fuse that reads programmed stays so, whatever the array reads back; the words
take their new contents; DONE and TRIES are shown, and FAIL where the word did not verify. -/
def Obligations.FusesAreNeverUnprogrammed : Prop :=
  (∀ (d : Dev) (l : List (Nat × FuseWord)) (reads : List FuseCell) (a : Nat),
    (d.fuse a).normal &&& ((d.fuseWords l reads).fuse a).normal = (d.fuse a).normal
    ∧ (d.fuse a).blank &&& ((d.fuseWords l reads).fuse a).blank = (d.fuse a).blank
    ∧ (d.fuse a).prog &&& ((d.fuseWords l reads).fuse a).prog = (d.fuse a).prog)
  ∧ ∀ (d : Dev) (q : List Instr) (tries : Nat) (reads : List FuseCell) (a : Nat) (bits : FuseWord), Serving d →
    1 ≤ tries → tries ≤ 5 → d.boot.otpOp = some (.word a bits) →
    let e := d.fuseWords [(a, bits)] reads
    let ok := Dev.verified d e [(a, bits)] && !d.boot.otpCut
    Answers (.otpProgDone tries reads) d q
      ((((e.modBoot fun b => { b with otpOp := none, otpCut := false }).set1 R.OTP_RES_DONE).putB R.OTP_RES_FAIL (!ok)).put
        R.OTP_RES_TRIES tries)

/-- Live profiles (R54, R656, R657, R658): COMMIT hands the staged bytes over for the check, DISCARD empties the buffer, the check
of a node without a boot profile refuses, an accepted profile waits for the boundary, and where a rack turn begins each that was
accepted in an earlier cycle is taken, in the order of acceptance, the host's first of two accepted in one cycle. -/
def Obligations.LiveProfilesAreCheckedAndTaken : Prop :=
  ∀ (d : Dev) (q : List Instr),
    (Reaches d A.PROF_CMD → d.disarm.bufferBusy false = false →
      Answers .profCommit d q (d.disarm.modBoot fun b => { b with
        checking := b.checking ++ [(none, d.disarm.staged (d.get R.PROF_LEN_LEN))] }).showPend)
    ∧ (Reaches d A.PROF_CMD → Answers .profDiscard d q (d.disarm.modBoot fun b => { b with hostStage := [] }))
    ∧ (∀ l t, Serving d → d.boot.checking = (none, l) :: t → d.on R.SYS_STATUS_BOOT_PROF = false →
      Answers .profileCheckDone d q
        (((d.modBoot fun b => { b with checking := t }).profRes .badProfile profHead).showPend))
    ∧ (∀ l t p, Serving d → d.boot.checking = (none, l) :: t → d.on R.SYS_STATUS_BOOT_PROF = true →
      profParse d.roleCode 1 l = .inr p → d.afterWaiting.profMode p = none →
      let shown := d.setWord A.RAFTER_ADMIT ((d.afterWaiting.showAdmit_ (.inr p)).word A.RAFTER_ADMIT)
      let popped := shown.modBoot fun b => { b with checking := t }
      match d.afterWaiting.profValues p with
      | some sec => Answers .profileCheckDone d q (popped.profRes .badProfile sec).showPend
      | none => Answers .profileCheckDone d q
        ((popped.profRes .accepted 0).modBoot fun b => { b with waiting := b.waiting ++ [⟨d.cycles, false, l,
          (d.afterWaiting.profRwl (d.profHeld p)).isSome || (d.afterWaiting.profNode (d.profHeld p)).isSome⟩] }).showPend)
    ∧ (∀ w, Serving d → d.turnBegins = true → d.boot.waiting = [w] → w.at_ < d.cycles →
      Answers .liveProfileApply d q ((d.profTake w).modBoot fun b => { b with waiting := b.waiting.erase w }).showPend)
    ∧ (∀ v w, Serving d → d.turnBegins = true → d.boot.waiting = [v, w] → v.at_ < d.cycles → w.at_ < d.cycles →
      let take (d : Dev) (w : ProfWait) : Dev := (d.profTake w).modBoot fun b => { b with waiting := b.waiting.erase w }
      (v.at_ < w.at_ ∨ v.at_ = w.at_ ∧ (v.net = false ∨ w.net = true) →
        Answers .liveProfileApply d q (take (take d v) w).showPend)
      ∧ (w.at_ < v.at_ ∨ v.at_ = w.at_ ∧ v.net = true ∧ w.net = false →
        Answers .liveProfileApply d q (take (take d w) v).showPend))

/-! ## Ridge (spec/03_ridge_time_base.md) -/

/-- Lock, loss and sources (R119, R120, R124, R133, R135, R136, R142, R145, R159): a first lock; one that ends a loss;
one that would step an angle after a mark of its cycle, which waits for the next; a loss that FLY bridges; black start,
to which a lock that is due does not give way; the end of PULL; the cycle in which the rack angle wraps, with which the
storage anchors age; the wrong rotation, raised once for as long as it holds; copies that come to differ. Each is due by
its own conditions: the lock where those of R133 have held for 2.0 turns, the loss where the evaluation of R136 has
found one. -/
def Obligations.RidgeSourcesFollowTheMains : Prop :=
  ∀ (d : Dev) (q : List Instr), Serving d →
    (d.lockDue = true → d.src ≠ srcNone → d.lockSteps = false ∨ d.cyc.fired = [] →
      (d.ridge.lossSince = false → Answers .ridgeLock d q d.gridLock.srcAfterLock)
      ∧ (d.ridge.lossSince = true → Answers .ridgeLock d q d.gridLock.srcAfterLock.viennaResume.mainsBack))
    ∧ (d.lockDue = true → d.src ≠ srcNone → d.lockSteps = true → d.cyc.fired ≠ [] →
      Answers .ridgeLock d q { d with ridge := { d.ridge with lockHeld := true } })
    ∧ (d.on R.RIDGE_CTRL_MAINS_EN = true → d.on R.RIDGE_STATUS_GRID_LOCK = true → d.ridge.pll.lossFound = true →
      Answers .mainsLoss d q (d.gridLoss.viennaPause.mainsLost))
    ∧ (d.src = srcFree → d.get R.RIDGE_CTRL_START_TMO * 65536 ≤ d.now → d.on R.RIDGE_STATUS_GRID_LOCK = false →
      d.feedDc = false → d.on R.RIDGE_CTRL_BLACKSTART = true → d.leadsAngle = true →
      d.lockDue = false →
      Answers .startTmoExpire d q ((d.setSrc srcVirtual).setTarget (some d.vRate)))
    ∧ (d.src = srcPull → d.gridDiff.natAbs ≤ 16 * 2 ^ 32 →
      let e := (d.setSrc srcGrid).setRate d.ridge.gridRate.toNat
      Answers .pullComplete d q { e with cyc := { e.cyc with pulled := true } })
    ∧ (d.src ≠ srcNone → d.sup.clockLost = false → 2 ^ 64 ≤ d.ridge.acc.toNat + d.rate →
      Answers .eraIncrement d q d.oneCycle)
    ∧ (∀ t, d.on R.RIDGE_CTRL_MAINS_EN = true → d.ridge.pll.wrongRaised = false → d.ridge.pll.wrongSince = some t →
      65536 ≤ d.since t →
      Answers .phaseRotation d q
        (((d.modPll fun p => { p with wrongRaised := true }).set1 R.RIDGE_FLAGS_ROT_ERR).report 23))
    ∧ (∀ acc era, d.copiesDiffer = false → d.ridge.differ = false → acc ≠ 0 ∨ era ≠ 0 →
      Answers (.ridgeCheck acc era) d q (({ d with ridge := { d.ridge with
        acc2 := d.ridge.acc2 ^^^ acc, era2 := d.ridge.era2 ^^^ era, differ := true } }.set1 R.RIDGE_FLAGS_CHECK).report 24))

/-- Mains loss (R136, R137, R139): the grid lock is gone, the local grid angle keeps its value and runs on at the frozen
rate, within R127, EV017 is raised, and a rack angle that was in GRID or PULL enters FLY; where PULL ends with the same
cycle, that row of R124 governs the cycle, and FLY follows with the next one. The wrap (R119): a cycle in which the rack
angle passes from 0xFFFF_FFFF to 0 counts the era up by one, and a cycle without a wrap leaves it. -/
def Obligations.MainsLossFreezesAndWrapsCount : Prop :=
  (∀ d : Dev,
    (d.wrapsNext = true → d.tickAngles.ridge.era = d.ridge.era + 1)
    ∧ (d.wrapsNext = false → d.tickAngles.ridge.era = d.ridge.era)
    ∧ (d.wrapsNext = true → d.tickAngles.angle.toNat < d.angle.toNat)
    ∧ (d.wrapsNext = false → d.angle.toNat ≤ d.tickAngles.angle.toNat))
  ∧ ∀ d : Dev,
    d.gridLoss.on R.RIDGE_STATUS_GRID_LOCK = false
    ∧ d.gridLoss.ridge.gridRate = BitVec.ofNat 32 (clampRate d.frozenRate)
    ∧ d.gridLoss.ridge.grid = d.ridge.grid ∧ d.gridLoss.ridge.lossSince = true
    ∧ d.gridLoss.on R.RIDGE_FLAGS_LOSS = true
    ∧ d.gridLoss.raised = d.raised ++ [⟨17, noIdx, 0, false, false⟩]
    ∧ (d.cyc.pulled = false → d.src = srcGrid ∨ d.src = srcPull ∧ d.gridClose = false → d.gridLoss.src = srcFly)
    ∧ (d.cyc.pulled = true ∨ d.src = srcPull ∧ d.gridClose = true → d.gridLoss.src = srcGrid
      ∧ d.gridLoss.gridGivesWay.src = srcFly)
    ∧ (d.cyc.pulled = false → d.src ≠ srcGrid → d.src ≠ srcPull → d.gridLoss.src = d.src)

/-- The rate word (R127, R128): every rate stays in the range of R127, and a step toward a target moves by at most the step of
R128 and never past the target. A step is due once in the cycle in which the angle comes to a multiple of 8,192 reeds. -/
def Obligations.RateMovesInBoundedSteps : Prop :=
  (∀ x : Int, 56294995 ≤ clampRate x ∧ clampRate x ≤ 98516242)
  ∧ (∀ now target : Nat, (slewRate now target : Int) - now ≤ 17592 ∧ (now : Int) - slewRate now target ≤ 17592
    ∧ min now target ≤ slewRate now target ∧ slewRate now target ≤ max now target)
  ∧ (∀ (d : Dev) (q : List Instr), Serving d →
    (∀ t r, d.slewDue = true → d.ridge.target = some t → r = slewRate d.rate (clampRate t) →
      (r ≠ clampRate t →
        Answers .rateSlewStep d q { d.setRate r with cyc := { d.cyc with slewed := true } })
      ∧ (r = clampRate t →
        Answers .rateSlewStep d q (Dev.setTarget { d.setRate r with cyc := { d.cyc with slewed := true } } none))))

/-- The messages of the time base (R146 to R150, R153, R157, R398, R400) and the marks: where the rack angle has come to
an instant, once, the primary queues a beacon and its state, or hands over where a swap is due; a worker takes a
beacon's receive time, a primary compares its rival's EPOCH, a worker answers a follow-up with the servo on segment A at
once, counts a missed beacon, and takes a path delay; the primary holds a delay request, and releases its answer; a mark
whose target the angle reaches fires with its users (R157, R208, R519). GRID_PHASE_ANGLE shows the angles of the phases
over the local grid turn just ended (R132). -/
def Obligations.TimeMessagesAct : Prop :=
  ∀ (d : Dev) (q : List Instr), Serving d →
    (d.netOn = true → d.cyc.reedNew = true → d.reed % 8192 = 0 → d.cyc.served.contains instantServed = false →
      ∀ e, e = d.serve instantServed →
      (d.isPrimary = true → d.coord.swapDue = false → Answers .beaconInstant d q (e.queueBeacon e.now).sendState)
      ∧ (d.isPrimary = true → d.coord.swapDue = true → Answers .beaconInstant d q e.yieldRole)
      ∧ (d.isPrimary = false → d.isStandby = true → d.coord.swapDue = true →
        Answers .beaconInstant d q (e.takeOver true)))
    ∧ (∀ m e, Takes d tBeacon m e →
      (e.isPrimary = false → e.isWorker = true → Answers .beacon d q (e.beaconHeard m))
      ∧ (e.isPrimary = true → m.angleOnly = false → Answers .beacon d q e.rivalBeacon))
    ∧ (∀ m e x f, Takes d tFollowUp m e → (e.seg m.segB).rx = some x → e.isWorker = true →
      x.seq = beAt m.msg.payload 0 2 → x.t1 = none →
      f = ((e.modSeg m.segB fun s => { s with
        rx := some { x with t1 := some (beAt m.msg.payload 2 12) }
        last := some (beAt m.msg.payload 2 12, x.t2) }).modCoord fun c =>
          { c with lastInstant := beAt m.msg.payload 2 12 / 2 ^ 32 / 8192 * 8192 }) →
      (m.segB = true ∨ f.ridge.used = true → Answers .followUp d q f)
      ∧ (m.segB = false → f.ridge.used = false → x.seq = f.get R.RIDGE_BEACON_SEQ →
        Answers .followUp d q (f.runServo false (beAt m.msg.payload 2 12) x.t2)))
    ∧ (d.isWorker = true → d.ridge.used = true ∨ d.pairOn true = none →
      let e := (d.modSeg false fun s => { s with rx := none }).modSeg true fun s => { s with rx := none }
      Answers .beaconMissed d q ({ e with ridge := { e.ridge with used := false } }).beaconMiss)
    ∧ (d.isWorker = true → d.ridge.used = false → (d.pairOn true).isSome = true → Answers .beaconMissed d q d.instantDue)
    ∧ (∀ m e, Takes d tDelayReq m e → e.isPrimary = true → (e.seg m.segB).waiting = [] →
      Answers .delayReq d q (e.modSeg m.segB fun s => { s with
        waiting := [⟨byteAt m.msg.payload 0, beAt m.msg.payload 2 2, m.rxAt⟩] }))
    ∧ (∀ b w rest, (d.seg b).waiting = w :: rest → d.isPrimary = true → (d.seg b).released = [] →
      Answers (.delayRespRelease b) d q (((d.modSeg b fun s => { s with waiting := rest, released := [d.now] }).sendOn b
        tDelayResp w.node ([BitVec.ofNat 8 w.node, 0] ++ beBytes 2 w.seq ++ beBytes 12 w.t4)).1))
    ∧ (∀ m e o, Takes d tDelayResp m e → (e.seg m.segB).out = some o → e.isWorker = true →
      o.seq = beAt m.msg.payload 2 2 → byteAt m.msg.payload 0 = e.busId →
      Answers .delayResp d q ((e.modSeg m.segB fun s => { s with
        out := none
        delays := ((tsDiff o.t2 o.t1 + tsDiff (beAt m.msg.payload 4 12) o.t3) :: s.delays).take 4 }).pathNs m.segB))
    ∧ (∀ m, m < 64 → d.boot.waiting = [] → d.markDue m = true →
      Answers (.markFire m) d q (((d.markFire m).markTriggers m).seqMark m))
    ∧ (∀ m, m < 64 → (d.markFire m).on (firedBit m) = true
      ∧ (d.cyc.was = [] → (d.markFire m).on (R.MARKm_CFG_EN m) = (d.on (R.MARKm_CFG_EN m) && !d.on (R.MARKm_CFG_ONESHOT m))))
    ∧ (∀ s, d.ridge.pll.ended = some s →
      Answers .gridPhaseAngle d q ((((d.put R.RIDGE_PH_AB_PH_A (phaseAngle 0 (s.getD 0 (0, 0)))).put R.RIDGE_PH_AB_PH_B
        (phaseAngle 1 (s.getD 1 (0, 0)))).put R.RIDGE_PH_C_PH_C (phaseAngle 2 (s.getD 2 (0, 0)))).modPll fun p =>
          { p with ended := none }))

/-! ## PWM array (spec/04_pwm_array.md) -/

/-- The array (R172, R173, R181, R183, R192): a carrier zero of a running carrier lets what waits take effect, and meets
the stage of the channel's set; the carrier check compares each running carrier with K × A; the loss of the delay-locked
loop clears DLL_LOCK, and it and a hold of 256 reeds set their flag and raise EV030 and EV031. A word that waits is
transferred, but none during a hold. A channel drives its ball, and in LVDS mode the other half of its pair against it
(R80, R82, R193, R198). -/
def Obligations.PwmArrayEvents : Prop :=
  ∀ (d : Dev) (q : List Instr), Serving d →
    (∀ n s, n < 32 → d.setOf n = some s → d.on (R.CARs_STATUS_RUN s) = true →
      Answers (.carrierZero n) d q ((d.carrierZeroChan n).stageZero s n))
    ∧ (∀ upset s, upset < 4096 → (idxs 12 fun s => d.on (R.CARs_STATUS_RUN s)) = [s] → d.gut.armed = [] →
      ((d.pwm.cars.getD s ⟨0⟩).acc = d.carExpected s → tbit upset s = false → Answers (.carrierCheck upset) d q d)
      ∧ ((d.pwm.cars.getD s ⟨0⟩).acc ≠ d.carExpected s ∨ tbit upset s = true →
        Answers (.carrierCheck upset) d q ((d.set1 R.PWM_FLAGS_CHECK).report 30 s)))
    ∧ (d.twinUsed = true →
      Answers .dllUnlock d q (((d.clr R.PWM_FLAGS_DLL_LOCK).set1 R.PWM_FLAGS_DLL_UNLOCK).report 30))
    ∧ (d.on R.PWM_HOLD_HELD = true → d.pwm.holdTimedOut = false →
      Answers .pwmHoldTimeout d q
        ((({ d with pwm := { d.pwm with holdTimedOut := true } }.set1 R.PWM_FLAGS_HOLD_TIMEOUT).report 31).holdEv 31 0))
    ∧ (∀ n, d.on R.PWM_HOLD_HELD = true → d.transfer n = d)
    ∧ (∀ n duty, d.on R.PWM_HOLD_HELD = false → (d.chan n).waitDuty = some duty → (d.chan n).waitShift = none →
      d.transfer n = (d.modChan n fun c => { c with waitDuty := none, waitShift := none }).dutyNow n duty)
    ∧ (∀ n r, n < 32 → d.sup.powered = true → d.extestDrives = false → d.on R.SYS_STATUS_BOOT_PROF = true →
      d.role = some r →
      (r = .hub → d.ball (.pwmP n) = .unused ∧ d.ball (.pwmN n) = .unused)
      ∧ (r.conv = true → d.pwm.balls = .safeOrDriven →
        (∀ x, d.chanLevel n = some x →
          (d.ball (.pwmP n)).drive = (if x then .high else .low)
          ∧ (d.on (R.BANKb_CFG_MODE (n / 8)) = false → (d.ball (.pwmN n)).drive = .low)
          ∧ (d.on (R.BANKb_CFG_MODE (n / 8)) = true → (d.ball (.pwmN n)).drive = (if x then .low else .high)))
        ∧ (d.chanLevel n = none → (d.ball (.pwmP n)).drive = .off
          ∧ (d.on (R.BANKb_CFG_MODE (n / 8)) = true → (d.ball (.pwmN n)).drive = .off))))

/-! ## Sensing (spec/05_sensing.md) -/

/-- Conversions (R208, R211 to R216, R222, R228 to R230): a trigger whose source has come to its instant puts a
conversion into the queue of the pair, one that finds the last still waiting is an overrun, and one without the
reference is counted in ADC_SKIP; a conversion that is complete triggers the inputs chained to it, writes its results
and reaches its users; a check conversion out of tolerance twice raises EV076; calibration suspends and resumes the
pair, and DONE and FAIL tell of the last accepted one. -/
def Obligations.ConversionsAreDelivered : Prop :=
  ∀ (d : Dev) (q : List Instr), Serving d →
    (∀ n, n < 48 → d.sourceDue n (d.get (R.AINn_CFG_TSRC n)) (d.get (R.AINn_CFG_TIDX n)) = true →
      let e := d.serve n
      (e.sensing = true → e.doubled (pairOf n) = false → e.refReady = false →
        Answers (.adcTrigger n) d q (e.bump R.ADC_SKIP_SKIP))
      ∧ (e.sensing = true → e.doubled (pairOf n) = false → e.refReady = true →
      (e.waits n = false →
        Answers (.adcTrigger n) d q ((e.modSense fun x => { x with queue := insertBy servedFirst (d.cycles, n) x.queue }).modCore
          (2 * pairOf n + e.nextCore n) fun c => { c with check := none }))
      ∧ (e.waits n = true → Answers (.adcTrigger n) d q ((e.set1 R.ADC_FLAGS_OVERRUN).report 69 n))))
    ∧ (∀ n k rest e code, n < 48 → d.sensing = true → (d.ain n).convs = k :: rest → k.from_ + 41 ≤ d.cycles →
      (d.modAin n fun a => { a with convs := a.convs.drop 1 }).convResult n k = (e, code) →
      Answers (.conversionComplete n) d q ((e.chained (k.from_ + 40) n).ainDelivered n code))
    ∧ (∀ c code t, c < 8 → code < 16384 → d.sensing = true → d.gut.armed = [] → (d.core c).check = some t →
      t + 40 ≤ d.cycles → ∀ e, e = d.modCore c (fun k => { k with check := none, checked := some d.turnCount }) →
      (8192 - 64 ≤ code → code ≤ 8192 + 64 →
        Answers (.adcCheckConversion c code) d q ((e.modCore c fun k => { k with checkBad := 0 }).unholdEv 76 c))
      ∧ (code < 8192 - 64 ∨ 8192 + 64 < code → (e.core c).checkBad = 0 →
        Answers (.adcCheckConversion c code) d q (e.modCore c fun k => { k with checkBad := 1 }))
      ∧ (code < 8192 - 64 ∨ 8192 + 64 < code → (e.core c).checkBad ≠ 0 →
        Answers (.adcCheckConversion c code) d q
          (((e.set1 (R.ADC_FLAGS_CORE_CHECK.bit c)).holdEv 76 c).report 76 c)))
    ∧ (∀ c partner pair, c < 8 → Reaches d A.ADC_CAL_CMD → partner = (if c % 2 = 0 then c + 1 else c - 1) → pair = c / 2 →
      let refuses := d.calBusy partner = true
        ∨ d.mode.regulating = true ∧ (d.doubled pair = true ∨ 4000000 * (d.pairRate pair).2 < (d.pairRate pair).1)
      (refuses → Answers (.adcCal c) d q ((d.disarm.putCode R.ADC_CAL_RESULT_CODE .busyRun).put R.ADC_CAL_RESULT_CORE c))
      ∧ (¬refuses → Answers (.adcCal c) d q
        ((((((((d.disarm.putCode R.ADC_CAL_RESULT_CODE .accepted).put R.ADC_CAL_RESULT_CORE c).set1
          (R.ADC_STATUS_CAL_BUSY.bit c)).set1 (R.ADC_STATUS_PLAUS_OFF.bit (c / 2))).modCore c fun k =>
            { k with check := none }).modSense fun x => { x with calLast := some c }).clr R.ADC_CAL_RESULT_DONE).clr
              R.ADC_CAL_RESULT_FAIL)))
    ∧ (∀ c gain offset, c < 8 → gain < 2 ^ 32 → d.calBusy c = true → d.coreRests c = true → ∀ e f, e = d.clr (R.ADC_STATUS_CAL_BUSY.bit c) →
      f = (if e.sense.calLast = some c then (e.set1 R.ADC_CAL_RESULT_DONE).putB R.ADC_CAL_RESULT_FAIL false else e) →
      Answers (.adcCalDone c true gain offset) d q
        ((f.skipPair (c / 2)).modCore c fun k => { k with gain := gain, offset := offset }))
    ∧ (∀ c gain offset, c < 8 → gain < 2 ^ 32 → d.calBusy c = true → d.coreRests c = true → ∀ e f,
      e = d.clr (R.ADC_STATUS_CAL_BUSY.bit c) →
      f = (if e.sense.calLast = some c then (e.set1 R.ADC_CAL_RESULT_DONE).putB R.ADC_CAL_RESULT_FAIL true else e) →
      Answers (.adcCalDone c false gain offset) d q
        (((f.skipPair (c / 2)).set1 R.ADC_FLAGS_CAL_FAIL).report 70 c))

/-- The reference (R222, R223, R585): it settles and the converters run. It is compared once in the cycle in which the angle comes
to a multiple of 64 reeds: 16 comparisons in a row beyond 2 % raise EV068, which holds until 16 in a row agree; a reference that
has not become ready within 1 ms of clearing raises it at the next comparison, once. -/
def Obligations.ReferenceIsSupervised : Prop :=
  ∀ (d : Dev) (q : List Instr), Serving d → d.sensing = true →
    Answers .refSettled d q (((d.set1 R.ADC_STATUS_REF_RDY).cmpOuts).modSense fun x => { x with refSince := none })
    ∧ (d.cyc.reedNew = true → d.reed % 64 = 0 → d.cyc.served.contains refServed = false →
      let counts (bad good : Nat) (since : Option Nat) : Dev :=
        (d.serve refServed).modSense fun x => { x with refBad := bad, refGood := good, refSince := since }
      let faulty (e : Dev) : Dev := ((e.set1 R.ADC_FLAGS_REF_FAULT).holdEv 68 0).report 68
      let bad := d.sense.refBad
      let good := d.sense.refGood
      let since := d.sense.refSince
      (d.refReady = true ∨ (∀ t, since = some t → d.cycles < t + 200000) →
        (bad < 15 → Answers (.refCheck true) d q (counts (bad + 1) 0 since))
        ∧ (bad = 15 → Answers (.refCheck true) d q (faulty (counts 16 0 since)))
        ∧ (bad = 16 → Answers (.refCheck true) d q (counts 16 0 since))
        ∧ (good < 15 ∨ d.refReady = false →
          Answers (.refCheck false) d q (counts 0 (min 16 (good + 1)) since))
        ∧ (15 ≤ good → d.refReady = true → Answers (.refCheck false) d q ((counts 0 16 since).unholdEv 68 0)))
      ∧ (∀ t, d.refReady = false → since = some t → t + 200000 ≤ d.cycles →
        Answers (.refCheck true) d q (faulty (counts (min 16 (bad + 1)) 0 none))
        ∧ Answers (.refCheck false) d q (faulty (counts 0 (min 16 (good + 1)) none))))

/-- Fast comparators (R240, R243, R244, R246, R247): a comparison that has held past the threshold for the filter trips:
it shows OUT and TRIP, counts and takes its routes; one that has held on the other side releases, and OUT falls; a DAC
whose duplicate differs shows DAC_ERR and forces the routed output for good; a test ends when its sweep has come to code
1,023, and passes where its own comparison has changed within 8 codes of the ADC's reading. -/
def Obligations.ComparatorsTripAndRelease : Prop :=
  ∀ (d : Dev) (q : List Instr), Serving d →
    (∀ c, c < 24 → d.sensing = true → d.on (R.CMPc_CFG_EN c) = true → (d.cmp c).raw = true → (d.cmp c).past = false →
      d.get (R.CMPc_CFG_FILT c) < (d.cmp c).held →
      Answers (.cmpTrip c) d q ((d.cmpTrip c).cmpRoute c))
    ∧ (∀ c, c < 24 → (d.cmpTrip c).on (R.CMPc_STATUS_OUT c) = true ∧ (d.cmpTrip c).on (R.CMPc_STATUS_TRIP c) = true
      ∧ (d.cmpTrip c).get (R.CMPc_STATUS_COUNT c)
        = min (d.get (R.CMPc_STATUS_COUNT c) + 1) (2 ^ (R.CMPc_STATUS_COUNT c).w - 1)
      ∧ (d.cmpRoutes c = false → d.cmpRoute c = d))
    ∧ (∀ c, c < 24 → d.sensing = true → (d.cmp c).raw = false → (d.cmp c).past = true →
      d.get (R.CMPc_CFG_FILT c) < (d.cmp c).held →
      Answers (.cmpRelease c) d q ((d.modCmp c fun k => { k with past := false, held := 0 }).putB (R.CMPc_STATUS_OUT c)
        (d.on (R.CMPc_CFG_EN c) && !d.refReady)))
    ∧ (∀ c bits, c < 24 → bits < 1024 → d.sensing = true →
      ∀ e, e = d.modCmp c (fun k => { k with dup := k.dup ^^^ bits }) →
      (∀ f inj, e.dacDiffers c = (f, true, inj) →
        ((e.cmp c).forced = false → Answers (.cmpDacCheck c bits) d q ((f.dacError c inj).cmpRoute c))
        ∧ ((e.cmp c).forced = true → Answers (.cmpDacCheck c bits) d q (f.dacError c inj)))
      ∧ (∀ f inj, e.dacDiffers c = (f, false, inj) → Answers (.cmpDacCheck c bits) d q f))
    ∧ (∀ c, c < 24 → Reaches d A.CMP_TEST → d.mode.regulating = false → d.sense.testing = none →
      Answers (.cmpTest c) d q { (((d.disarm.putCode R.CMP_TEST_RES_CODE .accepted).clr R.CMP_TEST_RES_DONE).clr
        R.CMP_TEST_RES_FAIL) with sense := { d.sense with
          testing := some c, sweep := 0, sweepBase := none, sweepFlip := none } })
    ∧ (∀ c flip adc, d.sense.testing = some c → 1023 ≤ d.sense.sweep → d.sense.sweepFlip = some (flip, adc) →
      Answers .cmpTestDone d q ((((d.set1 R.CMP_TEST_RES_DONE).putB R.CMP_TEST_RES_FAIL
        (decide (8 < ((flip : Int) - adc).natAbs))).put R.CMP_TEST_RES_FLIP flip).modSense fun x =>
          { x with testing := none }))

/-- Demodulators (R236, R237, R238): a result instant that has come writes RESULT and reaches its users; a stream that
has held one level for 128 clocks clears VALID and raises EV072; 3 × OSR clocks after the enable or a change VALID sets
again. -/
def Obligations.DemodulatorsDeliver : Prop :=
  ∀ (d : Dev) (q : List Instr) (n : Nat), Serving d → n < 8 → d.sensing = true → d.on (R.SDn_CFG_EN n) = true →
    (d.sourceDue (64 + n) (d.get (R.SDn_TRIG_TSRC n)) (d.get (R.SDn_TRIG_TIDX n)) = true → ∀ e x,
      e = ((d.serve (64 + n)).sdmInstant n).1.delivered (64 + n) → x = ((d.serve (64 + n)).sdmInstant n).2 →
      e.windowResult (64 + n) x = (e, []) →
        Answers (.sdmResult n) d q (e.each (List.range 12) fun d s => d.stageResult s (64 + n) (e.inputCode (64 + n))))
    ∧ ((d.sdm n).lost = false →
        (d.sdmInstant n).1.getS (R.SDn_RES_RESULT n) = sdmResult (d.sinc n) (d.get (R.SDn_CFG_OSR n)))
    ∧ ((d.sdm n).lost = false ∨ (d.sdm n).clocks.isSome = true → 128 ≤ (d.sdm n).same → Answers (.sdmLoss n) d q
        ((((d.set1 (R.SDM_FLAGS_LOSS.bit n)).clr (R.SDn_RES_VALID n)).modSdm n fun s =>
          { s with lost := true, clocks := none }).holdEv 72 n |>.report 72 n))
    ∧ (∀ k, (d.sdm n).clocks = some k → 3 * d.get (R.SDn_CFG_OSR n) ≤ k → Answers (.sdmValid n) d q
        (((d.set1 (R.SDn_RES_VALID n)).modSdm n fun s => { s with lost := false }).unholdEv 72 n))

/-! ## Rafter and the twin engines (spec/06_rafter_engine.md, spec/08_twin_failover.md) -/

/-- Updates (R261, R264, R266): an update becomes ready when every wait input has delivered, and latches the instant; the updates
that are ready stand in the order of readiness, those of one cycle by stage; one that is ready again is an overrun, which an
ACTIVE engine reports; the engine takes the first. -/
def Obligations.UpdatesRunInOrderOfReadiness : Prop :=
  ∀ (d : Dev) (q : List Instr), Serving d →
    (∀ s, s < 12 → d.updates s = true → d.waitMet s = true → d.struct s ≠ stOff →
      let e := d.modLoop s fun l => { l with
        seen := 0, gridReed := d.gridAngle.toNat % 65536, readyAt := d.total, readyCycle := d.cycles }
      let f := { e with rafter := { e.rafter with
        ready := insertBy e.startsFirst s (d.rafter.ready.filter fun x => x != s) } }
      (s ∉ d.rafter.ready ∨ f.engineReports = false → Answers (.updateReady s) d q f)
      ∧ (s ∈ d.rafter.ready → f.engineReports = true → Answers (.updateReady s) d q
          (((f.set1 (R.STAGEs_LOOP_FLAGS_OVERRUN s)).set1 R.RAFTER_FLAGS_OVR_EV).report 26 s)))
    ∧ (∀ s l, s < d.rafter.loops.length → (d.loop s).readyCycle = d.cycles →
      (∀ t ∈ l, (d.loop t).readyCycle < d.cycles) → insertBy d.startsFirst s l = l ++ [s])
    ∧ (∀ s rest, d.rafter.ready = s :: rest →
      let e := { d with rafter := { d.rafter with ready := rest } }
      (e.activeEngine.isSome = true ∨ (e.engineIn enTakeover).isSome = true) → e.updates s = true →
      ∀ g us, e.engineInjections.runUpdate s = (g, us, false) →
      let h := ((g.sendOutputs s us).showCref s).stageAfterUpdate s
      (h.isRole .rect = false → Answers .rafterUpdate d q h)
      ∧ (h.isRole .rect = true → h.kind s = kDab → h.ssIn s [ssSoft, ssRun, ssSleep] = true →
        Answers .rafterUpdate d q
          (h.powerSample s ((h.scaled s 0 Sat.none).1.val.mul (h.scaled s 1 Sat.none).1.val))))

/-- The loop's writes (R252, R253, R276, R283, R295, R339, R364, R694). COEF_DATA_WRITE: a coefficient that differs is
refused with MODE in a regulating mode; one that breaks a check over several registers, or a reserved one that is not 0,
with BAD_PROFILE; any other is written at IDX, and an engine in RESYNC copies again. Before a boot profile, and at a
reserved index, it changes nothing. Every access moves a counting IDX on. SETPOINT_WRITE: outside the limits of R283 the
register keeps its value, and a TRIM under an enabled share group too; else it takes the word's low 24 bits, but keeps
what a message of the same cycle has set (R54) and what it held before a boot profile. -/
def Obligations.LoopWritesAct : Prop :=
  (∀ (d : Dev) (q : List Instr) (s : Nat) (w : Word), s < 12 → Reaches d (A.STAGEs_COEF_DATA s) →
    let o := d.disarm
    let i := d.get (R.STAGEs_COEF_IDX_IDX s)
    let wrote := o.modLoop s fun l => { l with coefs := updAt l.coefs i fun _ => coefNorm w }
    let copied := if (wrote.engineIn enResync).isSome then { wrote with twin := { wrote.twin with copying := true } } else wrote
    let moved (e : Dev) : Dev := if e.on (R.STAGEs_COEF_IDX_AINC s) then
      e.put (R.STAGEs_COEF_IDX_IDX s) (e.get (R.STAGEs_COEF_IDX_IDX s) + 1) else e
    let breaks := ((o.crossChecks.zip wrote.crossChecks).any fun p => p.1.2 && !p.2.2) = true
      ∨ 54 < i ∧ coefNorm w ≠ coefNorm 0
    (d.mode.regulating = true → d.coefWord s i ≠ coefNorm w →
      Answers (.coefDataWrite s w) d q (moved o) ∧ (o.coefWrite s w).2 = .mode)
    ∧ (d.mode.regulating = false ∨ d.coefWord s i = coefNorm w →
      (breaks → Answers (.coefDataWrite s w) d q (moved o) ∧ (o.coefWrite s w).2 = .badProfile)
      ∧ (¬breaks → (o.coefWrite s w).2 = .accepted
        ∧ (d.on R.SYS_STATUS_BOOT_PROF = true → i ≤ 54 → Answers (.coefDataWrite s w) d q (moved copied))
        ∧ (d.on R.SYS_STATUS_BOOT_PROF = false ∨ 54 < i → Answers (.coefDataWrite s w) d q (moved o))))
    ∧ (s < d.rafter.loops.length → i < (d.loop s).coefs.length → wrote.coefWord s i = coefNorm w
      ∧ ∀ j, j ≠ i → wrote.coefWord s j = d.coefWord s j))
  ∧ ∀ (d : Dev) (q : List Instr) (s which : Nat) (w : Word), s < 12 → which < 6 → Reaches d (setpointAddr s which) →
    let o := d.disarm
    let a := setpointAddr s which
    let x := Bf.ofWord (w.toNat % 2 ^ 24)
    let judged : Word := (d.word a &&& 0xFF000000) ||| (w &&& 0x00FFFFFF)
    let takes : Word := if d.cyc.net.contains a = true ∨ d.on R.SYS_STATUS_BOOT_PROF = false then d.word a else judged
    let outside : Prop := match which with
      | 0 => (d.coef s cSpMin).val.le x.val = false ∨ x.val.le (d.coef s cSpMax).val = false
      | 1 | 2 | 3 => x.m ≤ 0
      | 4 => x.val.abs.le (d.coef s cTrimMax).val = false
      | _ => (d.coef s cRmin).val.le x.val = false
    let bad := outside ∨ o.rowOk a judged = false ∨ o.crossFails a takes = true
    let busy := which = 4 ∧ ∃ g, g < 2 ∧ d.on (R.STG_SHAREg_CFG_EN g) = true ∧ s ∈ d.shareMembers g
    let e := (o.noteWas a).setWord a takes
    (bad → Answers (.setpointWrite s which w) d q o)
    ∧ (¬bad → busy → Answers (.setpointWrite s which w) d q o)
    ∧ (¬bad → ¬busy →
      (takes = d.word a → Answers (.setpointWrite s which w) d q e)
      ∧ (takes ≠ d.word a → Answers (.setpointWrite s which w) d q (Dev.written (o.noteWas a) e)))

/-- A check of an engine fails (R352 to R354, R357, R362, R364): an ACTIVE engine with a SYNCED or TAKEOVER standby
hands over through a hold, which discards the words that wait in the array, and ends a swap; one without is lost. Where
its check is ACC, a stage's ACC flag sets and EV025 is raised before; which stage's is open (log entry 341). A TAKEOVER
engine that fails ends a swap, is FAILED in an arbitration, and is lost in a switchover; a SYNCED or RESYNC engine fails
alone. Each raises EV028. -/
def Obligations.EngineFailuresSwitchOrLose : Prop :=
  ∀ (d : Dev) (q : List Instr) (b : Bool) (c : Nat), Serving d → c < 8 → d.checked b = true →
    (d.en b = enActive → ∃ base : Dev,
      ((c ≠ caAcc ∨ d.loopStages = []) ∧ base = d
        ∨ c = caAcc ∧ ∃ s ∈ d.loopStages, base = d.satFlags s ⟨false, true, false⟩ false false false)
      ∧ ∀ e f, e = ((base.cause b c).setEn b enFailed).dropWaiting →
        f = (if e.twin.holdFor = .swap then e.set1 R.RAFTER_TWIN_CMD_RES_DONE else e) →
      (f.en (!b) = enSynced ∨ f.en (!b) = enTakeover →
        Answers (.engineCheckFail b c) d q (((f.setEn (!b) enTakeover).beginHold .switchover true).evSwitch (!b)))
      ∧ (f.en (!b) ≠ enSynced → f.en (!b) ≠ enTakeover → Answers (.engineCheckFail b c) d q f.twinLost))
    ∧ (d.en b = enTakeover →
      (d.twin.holdFor = .swap → Answers (.engineCheckFail b c) d q
        ((((((d.cause b caKat).setEn b enFailed).cause b caKat).evStandby b).set1 R.RAFTER_TWIN_CMD_RES_DONE).endHold))
      ∧ (d.twin.holdFor ≠ .swap → ∀ e, e = ((d.cause b c).setEn b enFailed).evStandby b →
        (d.twin.holdFor = .arbitration →
          Answers (.engineCheckFail b c) d q { e with twin := { e.twin with standbyBad := true } })
        ∧ (d.twin.holdFor ≠ .arbitration → Answers (.engineCheckFail b c) d q e.twinLost)))
    ∧ (d.en b = enSynced ∨ d.en b = enResync →
      Answers (.engineCheckFail b c) d q (((d.cause b c).setEn b enFailed).evStandby b))

/-- The known-answer update and the compare (R349, R350, R351, R358, R360, R364), in engines that run: errors corrected
are counted, a wrong answer, and more errors than CE_LIM, is a failed check; a compare that fails while the standby is
SYNCED withholds the update's words and begins the arbitration, but ACC at the same update goes before; one that fails
in lockstep after a copy fails the engine in RESYNC. -/
def Obligations.TwinChecksAct : Prop :=
  ∀ (d : Dev) (q : List Instr), Serving d →
    (∀ b n, d.checked b = true →
      let e := d.bump (if b then R.RAFTER_TWIN_CE_CE_B else R.RAFTER_TWIN_CE_CE_A) n
      let lim := e.get R.RAFTER_TWIN_CTRL_CE_LIM
      (lim = 0 ∨ n ≤ lim → Answers (.knownAnswerUpdate b true n) d q e)
      ∧ (lim ≠ 0 → lim < n → Answers (.knownAnswerUpdate b true n) d q (e.engineFails b caCe))
      ∧ Answers (.knownAnswerUpdate b false n) d q (e.engineFails b caKat))
    ∧ (∀ a, d.switching = false → d.engineRuns false = true → d.engineRuns true = true → d.activeEngine = some a →
      (d.en (!a) = enSynced → ∀ e, e = (d.setEn (!a) enTakeover).beginHold .arbitration true →
        e.switching = true ∧ (e.rafter.ready = [] → Answers .compareFail d q e)
        ∧ (∀ s rest, e.rafter.ready = s :: rest →
          let f := { e with rafter := { e.rafter with ready := rest } }
          f.updates s = true → ∀ g us acc, f.runUpdate s = (g, us, acc) →
            (acc = false → Answers .compareFail d q (g.stageAfterUpdate s))
            ∧ (∀ x, acc = true → g.activeEngine = some x →
              Answers .compareFail d q ((g.engineFails x caAcc).stageAfterUpdate s))))
      ∧ (d.en (!a) = enResync → d.twin.copying = false →
        Answers .compareFail d q (((d.setEn (!a) enFailed).cause (!a) caXcmp).evStandby (!a))))

/-- The ends of what a twin command or a failure began, in engines that run (R353, R354, R357 to R360, R362, R363):
control passes to the TAKEOVER engine, or it is FAILED, with EV029 in a switchover and EV028 in a swap; an arbitration
decides by its four rows; the self-test leads to RESYNC or to FAILED with EV028; the copy and the turn of lockstep lead
to SYNCED, a late copy to FAILED. The commands (R344, R359, R362) with every answer: TEST takes the engine that is not
ACTIVE to the self-test; SWAP takes the SYNCED standby through TAKEOVER, with a hold of the array in the regulating
modes. -/
def Obligations.TwinProcessesAndCommandsAct : Prop :=
  (∀ (d : Dev) (q : List Instr) (b : Bool), Serving d →
    let control (e : Dev) (b : Bool) : Dev := ((e.setEn b enActive).bump R.RAFTER_TWIN_COUNT_SWITCHES).endHold
    let failed (e : Dev) (b : Bool) : Dev := ((e.setEn b enFailed).cause b caXcmp).cause b caKat
    (d.engineIn enTakeover = some b →
      (d.twin.holdFor = .switchover →
        Answers (.takeoverCheckDone true) d q (control d b)
        ∧ Answers (.takeoverCheckDone false) d q (((d.setEn b enFailed).cause b caKat).twinLost))
      ∧ (d.twin.holdFor = .swap →
        Answers (.takeoverCheckDone true) d q
          (((control (d.setEn (!b) enSynced) b).evSwitch b).set1 R.RAFTER_TWIN_CMD_RES_DONE)
        ∧ Answers (.takeoverCheckDone false) d q
          (((((d.setEn b enFailed).cause b caKat).evStandby b).set1 R.RAFTER_TWIN_CMD_RES_DONE).endHold)))
    ∧ (d.twin.holdFor = .arbitration → d.activeEngine = some b →
      (d.twin.standbyBad = false →
        Answers (.arbitrationDone false true) d q (control (((failed d b).dropWaiting).evSwitch (!b)) (!b))
        ∧ Answers (.arbitrationDone true false) d q (((failed d (!b)).evStandby (!b)).endHold)
        ∧ (let e := (((d.set1 R.RAFTER_TWIN_FLAGS_MISMATCH).bump R.RAFTER_TWIN_COUNT_MISMATCHES).evStandby (!b)).setEn (!b) enResync
          Answers (.arbitrationDone true true) d q ({ e with twin := { e.twin with copying := true } }).endHold))
      ∧ (∀ standby, standby = false ∨ d.twin.standbyBad = true →
        Answers (.arbitrationDone false standby) d q
          ((((((d.setEn b enFailed).setEn (!b) enFailed).cause b caXcmp).cause b caKat).cause (!b) caXcmp).cause (!b)
            caKat).twinLost)
      ∧ (∀ standby, d.twin.standbyBad = true → Answers (.arbitrationDone true standby) d q (failed d (!b)).endHold))
    ∧ (d.engineIn enTest = some b → d.engineRuns b = true →
      let e (fail : Bool) : Dev := (d.set1 R.RAFTER_TWIN_CMD_RES_DONE).putB R.RAFTER_TWIN_CMD_RES_FAIL fail
      (d.activeEngine.isSome = true →
        Answers (.selfTestDone true) d q { (e false).setEn b enResync with twin := { d.twin with copying := true } })
      ∧ (d.activeEngine = none → Answers (.selfTestDone true) d q ((e false).setEn b enFailed))
      ∧ Answers (.selfTestDone false) d q
        ((((((e true).setEn b enFailed).cause b caKat).bump
          (if b then R.RAFTER_TWIN_COUNT_TFAIL_B else R.RAFTER_TWIN_COUNT_TFAIL_A)).lockCheck).evStandby b))
    ∧ (d.engineIn enResync = some b → d.engineRuns b = true →
      (d.twin.copying = true →
        (d.activeEngine.isSome = true →
          Answers (.resyncCopyDone true) d q { d with twin := { d.twin with copying := false } })
        ∧ (d.activeEngine = none → Answers (.resyncCopyDone true) d q d)
        ∧ Answers (.resyncCopyDone false) d q (((d.setEn b enFailed).cause b caXcmp).evStandby b))
      ∧ (d.twin.copying = false → d.activeEngine.isSome = true → Answers .resyncLockstepDone d q (d.setEn b enSynced))
      ∧ (d.twin.copying = true ∨ d.activeEngine = none → Answers .resyncLockstepDone d q d)))
  ∧ ∀ (d : Dev) (q : List Instr), Reaches d A.RAFTER_TWIN_CMD →
    let o := d.disarm
    let res (cmd : Nat) (c : Code) : Dev := (o.putCode R.RAFTER_TWIN_CMD_RES_CODE c).put R.RAFTER_TWIN_CMD_RES_CMD cmd
    (d.twinUsed = false ∨ d.switching = true → Answers .twinTest d q (res 1 .mode) ∧ Answers .twinSwap d q (res 2 .mode))
    ∧ (d.twinUsed = true → d.switching = false →
      (d.activeEngine = none → Answers .twinTest d q (res 1 .mode))
      ∧ (∀ a, d.activeEngine = some a →
        (d.en (!a) = enTest ∨ d.en (!a) = enResync ∨ d.en (!a) = enTakeover ∨ d.en (!a) = enOff →
          Answers .twinTest d q (res 1 .mode))
        ∧ (d.en (!a) ≠ enTest → d.en (!a) ≠ enResync → d.en (!a) ≠ enTakeover → d.en (!a) ≠ enOff →
          (d.locked (!a) = true → Answers .twinTest d q (res 1 .lock))
          ∧ (d.locked (!a) = false → Answers .twinTest d q
            ((((res 1 .accepted).setEn (!a) enTest).clr R.RAFTER_TWIN_CMD_RES_DONE).clr R.RAFTER_TWIN_CMD_RES_FAIL))))
      ∧ (d.on R.RAFTER_TWIN_STATUS_SPARE = false → Answers .twinSwap d q (res 2 .mode))
      ∧ (∀ a, d.on R.RAFTER_TWIN_STATUS_SPARE = true → d.activeEngine = some a →
        Answers .twinSwap d q
          ((((res 2 .accepted).clr R.RAFTER_TWIN_CMD_RES_DONE).setEn (!a) enTakeover).beginHold .swap d.mode.regulating)))

/-! ## Stages (spec/07_stage_control.md) -/

/-- START, STOP and CLEAR are answered as R303 gives, row by row: code, command, and effect. A latched START outlasts the end
of STOPPING, which is OFF, and leads to WAIT once the set has come to the safe levels that follow (R314). -/
def Obligations.StageCommandsAreAnswered : Prop :=
  ∀ (d : Dev) (q : List Instr) (s : Nat), s < 12 → Reaches d (A.STAGEs_CMD s) →
    let o := d.disarm
    let res (cmd : Nat) (c : Code) : Dev := (o.putCode (R.STAGEs_CMD_RES_CODE s) c).put (R.STAGEs_CMD_RES_CMD s) cmd
    (d.mode ≠ .ramp → d.mode ≠ .run → d.mode ≠ .ride → Answers (.stageStart s) d q (res 1 .mode))
    ∧ (d.mode = .ramp ∨ d.mode = .run ∨ d.mode = .ride →
      (o.kind s = kVienna → o.feedDc = true → Answers (.stageStart s) d q (res 1 .mode))
      ∧ (o.kind s = kNone → Answers (.stageStart s) d q (res 1 .badProfile))
      ∧ (o.kind s ≠ kNone → (o.kind s ≠ kVienna ∨ o.feedDc = false) →
        (o.ss s = ssLockout → Answers (.stageStart s) d q (res 1 .mode))
        ∧ (o.ss s = ssStopping →
          Answers (.stageStart s) d q ((res 1 .accepted).set1 (R.STAGEs_STATE_START_LATCHED s)))
        ∧ (o.ss s = ssOff →
          Answers (.stageStart s) d q (((res 1 .accepted).clr (R.STAGEs_STATE_TRIES s)).offToWait s)
          ∧ (((res 1 .accepted).clr (R.STAGEs_STATE_TRIES s)).offToWait s).ss s = ssWait)
        ∧ (o.ss s ≠ ssLockout → o.ss s ≠ ssStopping → o.ss s ≠ ssOff →
          Answers (.stageStart s) d q ((res 1 .accepted).clr (R.STAGEs_STATE_STOP_PEND s)))))
    ∧ (let e := (res 2 .accepted).clr (R.STAGEs_STATE_START_LATCHED s)
      (o.ss s = ssSoft ∨ o.ss s = ssRun →
        Answers (.stageStop s) d q ((e.burstEnd s).set1 (R.STAGEs_STATE_STOP_PEND s)))
      ∧ (o.ss s = ssWait ∨ o.ss s = ssCheck ∨ o.ss s = ssSleep ∨ o.ss s = ssPause →
        Answers (.stageStop s) d q ((e.stageOff s).safeAt s 1))
      ∧ (o.ss s = ssFault → Answers (.stageStop s) d q (e.stageOff s))
      ∧ (o.ss s = ssOff ∨ o.ss s = ssStopping ∨ o.ss s = ssLockout → Answers (.stageStop s) d q e))
    ∧ (o.ss s = ssFault ∨ o.ss s = ssLockout →
      Answers (.stageClear s) d q (((res 3 .accepted).clr (R.STAGEs_STATE_TRIES s)).stageOff s)
      ∧ (((res 3 .accepted).clr (R.STAGEs_STATE_TRIES s)).stageOff s).ss s = ssOff)
    ∧ (o.ss s ≠ ssFault → o.ss s ≠ ssLockout → Answers (.stageClear s) d q (res 3 .accepted))
    ∧ ((o.stoppingEnd s).ss s = ssOff
      ∧ (o.stoppingEnd s).on (R.STAGEs_STATE_START_LATCHED s) = o.on (R.STAGEs_STATE_START_LATCHED s)
      ∧ ((o.stage s).ending = true → o.goingSafe s = false → o.on (R.STAGEs_STATE_START_LATCHED s) = true →
        o.startable s = true → (o.stoppingSafe s).ss s = ssWait))

/-- The delays and limits of a stage (R301, R302, R311, R314, R320, R321): each takes its row of R301. -/
def Obligations.StageTimersTakeTheirRows : Prop :=
  ∀ (d : Dev) (q : List Instr) (s : Nat), Serving d → s < 12 →
    (d.ss s = ssWait →
      Answers (.startDlyExpire s) d q ((d.modStage s fun g => { g with dlyDone := true }).waitDone s))
    ∧ (d.on (R.STAGEs_STATE_STOP_PEND s) = true →
      let e := d.clr (R.STAGEs_STATE_STOP_PEND s)
      (e.ss s = ssSoft ∨ e.ss s = ssRun → Answers (.stopDlyExpire s) d q (e.stageStopping s))
      ∧ (e.ss s = ssWait ∨ e.ss s = ssCheck ∨ e.ss s = ssSleep ∨ e.ss s = ssPause →
        Answers (.stopDlyExpire s) d q ((e.stageOff s).safeAt s 1))
      ∧ (e.ss s = ssFault → Answers (.stopDlyExpire s) d q (e.stageOff s)))
    ∧ (d.ss s = ssSoft →
      (d.moving s = true → Answers (.softTimeout s) d q (d.stageFault s 49))
      ∧ (d.moving s = false → Answers (.softTimeout s) d q ((d.setSs s ssRun).showNact s).waitsDone))
    ∧ (d.ss s = ssStopping →
      (d.moving s = true → Answers (.stopTimeout s) d q ((d.stageEv s 57).stoppingEnd s))
      ∧ (d.moving s = false → Answers (.stopTimeout s) d q (d.stoppingEnd s)))
    ∧ (d.ss s = ssFault → (d.mode = .ramp ∨ d.mode = .run ∨ d.mode = .ride) →
      (d.get (R.STAGEs_STATE_TRIES s) < d.get (R.STAGEs_RETRY_MAX s) →
        Answers (.stageRetry s) d q
          (((d.put (R.STAGEs_STATE_TRIES s) (d.get (R.STAGEs_STATE_TRIES s) + 1)).clr
            (R.STAGEs_STATE_STOP_PEND s)).stageWait s))
      ∧ (d.get (R.STAGEs_RETRY_MAX s) ≤ d.get (R.STAGEs_STATE_TRIES s) →
        Answers (.stageRetry s) d q (((d.quietStage s).setSs s ssLockout).stageEv s 51)))
    ∧ (d.ss s = ssFault → d.mode ≠ .ramp → d.mode ≠ .run → d.mode ≠ .ride →
      Answers (.stageRetry s) d q (d.stageOff s))
    ∧ (d.ss s = ssRun ∨ d.ss s = ssSleep → Answers (.stageRunStable s) d q (d.clr (R.STAGEs_STATE_TRIES s)))

/-- The share unit (R337, R338): a group that is enabled and of which fewer than two stages count changes nothing; where two or
more count, each counting stage's share value and then each member's trim is put within its limit. -/
def Obligations.ShareUnitTrimsItsMembers : Prop :=
  ∀ (d : Dev) (q : List Instr) (g : Nat), Serving d → g < 2 → d.on (R.STG_SHAREg_CFG_EN g) = true →
    (((d.shareMembers g).filter d.shareCounts).length < 2 → Answers (.shareTick g) d q d)
    ∧ (2 ≤ ((d.shareMembers g).filter d.shareCounts).length →
      ∃ e : Dev, Answers (.shareTick g) d q ((d.shareMembers g).foldl (fun d s =>
        let raw := (Bf.ofWord (e.get (R.STG_SHAREg_TRIM_VALUE g))).val.add (Bf.ofWord (d.get (R.STAGEs_SHARE_S_S s))).val
        let tmax := (d.coef s cTrimMax).val
        let d' := d.put (R.STAGEs_TRIM_VALUE s) (shareBf (Dy.clamp tmax.neg tmax raw)).word
        d'.when ((raw.sub (Dy.clamp tmax.neg tmax raw)).n != 0) fun d => d.stageEv s 55) e))

/-! ## Rack coordination (spec/09_rack_coordination.md) -/

/-- Reports at the node that sends and at the manager that receives them (R367, R368, R370, R384, R387, R722, R723). -/
def Obligations.ReportsAreSentAndKept : Prop :=
  ∀ (d : Dev) (q : List Instr), Serving d →
    (d.netOn = true → d.isPrimary = true ∨ d.coord.tick.isSome = true → Answers .shelfReportTick d q d.shelfReport)
    ∧ (d.role = some .dist → d.coord.pShelf.2 ≠ 0 →
      Answers .shelfPowerForm d q (d.put R.COORD_POWER_POWER
        (powerField false d.coord.pShelf.1 (d.coord.pShelf.2 * 100 * 2 ^ 33))))
    ∧ (∀ m e, Takes d tShelfReport m e → e.isManager = true → e.reportCounts m.msg.src = true →
      Answers .shelfReport d q (e.memberReport (e.homeOf m.msg.src) m.msg.payload))
    ∧ (∀ m e, Takes d tRideReport m e → e.isManager = true → e.reportCounts m.msg.src = true →
      Answers .rideReport d q (e.memberRide (e.homeOf m.msg.src) (byteAt m.msg.payload 0 == 1)))
    ∧ (∀ m e, Takes d tDemandReport m e → e.isManager = true → e.reportCounts m.msg.src = true →
      Answers .demandReport d q
        (e.memberDemand (e.homeOf m.msg.src) (beAt m.msg.payload 0 2) (beAt m.msg.payload 2 2)))
    ∧ (∀ j, j < 32 → d.isManager = true → d.fresh j = true → (2 ≤ j ∨ j = d.homeId) →
      let e := d.memberChange fun d => d.clr (R.MGR_MEMBj_FRESH j)
      (2 ≤ j ∨ j = e.homeId) → Answers (.memberNotFresh j) d q e)
    ∧ (∀ j, j < 2 → d.isManager = true → d.fresh j = true →
      let e := d.memberChange fun d => d.clr (R.MGR_MEMBj_FRESH j)
      j ≠ e.homeId → Answers (.memberNotFresh j) d q ((e.clr R.MGR_STATUS_PEER).clr R.MGR_STATUS_COPY_OK))
    ∧ (∀ h w, d.coord.demandPend = true → d.coord.demandAt = none → d.netOn = true → d.coord.demandSeen = (h, w) →
      let e := d.memberDemand d.homeId h w
      (e.isPrimary = true →
        Answers .demandRateLimitEnd d q (e.modCoord fun c => { c with demandPend := false, demandAt := some e.now }))
      ∧ (∀ f, e.isPrimary = false → e.send tDemandReport clNormal dstManagers (beBytes 2 h ++ beBytes 2 w) = (f, .accepted) →
        Answers .demandRateLimitEnd d q (f.modCoord fun c => { c with demandPend := false, demandAt := some f.now })))

/-- What a worker takes from the primary (R369, R374, R378, R390): its entry of a list message sets its shelf offset, its share
trims, its slice, or its charge allowance. -/
def Obligations.SettingsComeIntoForce : Prop :=
  ∀ (d : Dev) (q : List Instr) (m : RxMsg) (e : Dev) (x : List Byte), Serving d → e.isPrimary = false →
    (Takes d tOffsetSet m e → e.ownEntry 6 m.msg.payload = some x → e.get R.COORD_CFG_ILV_GROUP ≠ 15 →
      Answers .offsetSet d q (((e.noteNet A.PWM_SHELF_OFS).setWord A.PWM_SHELF_OFS (BitVec.ofNat 32 (beAt x 1 4))).offsetsChanged))
    ∧ (Takes d tShareTrim m e → e.ownEntry 4 m.msg.payload = some x → Answers .shareTrim d q (e.takeTrim (beAt x 0 3)))
    ∧ (Takes d tSliceSet m e → e.ownEntry 4 m.msg.payload = some x → e.isRole .dist = true → beAt x 1 2 ≠ 0 →
      Answers .sliceSet d q ((e.put R.COORD_ALLOT_SLICE (beAt x 1 2)).set1 R.COORD_ALLOT_HELD).btSlice)
    ∧ (Takes d tChargeSet m e → e.ownEntry 4 m.msg.payload = some x → e.isRole .stor = true →
      Answers .chargeSet d q ((e.put R.COORD_ALLOT_SLICE (beAt x 1 2)).set1 R.COORD_ALLOT_HELD))

/-- What the primary computes (R374, R377, R386, R387, R388): offsets, trims, the allocation and its raised values, and
the budget. -/
def Obligations.PrimaryComputesAndSends : Prop :=
  ∀ (d : Dev) (q : List Instr), Serving d →
    (d.isPrimary = true →
      Answers .rackTrimTick d q ((d.trimClass .rect).trimClass .stor)
      ∧ (d.coord.raisedAt = none → d.netOn = true → d.keyless = false → d.segUp false = true ∨ d.segUp true = true →
        Answers .raisedValuesSend d q
          (((d.queueAdmitted (d.allotMsgs clNormal d.coord.raisedVals)).giveAll d.coord.raisedVals).modCoord fun c =>
            { c with raisedVals := [] }))
      ∧ (d.coord.reallocDue = true → d.coord.reallocAt = none →
        ∃ e, Answers .reallocation d q e ∧ (e.coord.reallocAt.isSome = true))
      ∧ (d.coord.offsetsDue = true → d.coord.offsetsAt = none →
        ∃ e, Answers .interleaveRecompute d q e ∧ (e.coord.offsetsAt.isSome = true)))
    ∧ (∀ w, Answers (.budgetWrite w) d q (d.present A.MGR_BUDGET w).1)

/-- The power cap of a DIST node (R389 to R393): above the slice, every branch with a contract whose power is above it is braked
one level more; after RELAX evaluations below the margin each level falls by one; at level 15 for CAP_TMO
turns EV122 is raised. -/
def Obligations.PowerCapStepsLevels : Prop :=
  ∀ (d : Dev) (q : List Instr), Serving d → d.isRole .dist = true →
    (d.get R.COORD_ALLOT_SLICE ≠ 0 → d.on R.COORD_ALLOT_HELD = true → d.recentScans ≠ [] →
      (∀ b, d.capBranches = [b] →
        (d.get R.COORD_ALLOT_SLICE : Int) * hundredWatts * d.recentScans.length < branchSum d.recentScans b →
        (d.contract b : Int) * hundredWatts * d.recentScans.length < branchSum d.recentScans b →
        ∃ e : Dev, Answers .capEvaluation d q (e.bump (capFld b)) ∧ e.coord.overSlice = true ∧ e.coord.relax = 0
          ∧ e.on R.COORD_FLAGS_OVER = true)
      ∧ (∀ p, p = d.capBranches.foldl (fun a b => a + branchSum d.recentScans b) 0 →
        p ≤ (d.get R.COORD_ALLOT_SLICE : Int) * hundredWatts * d.recentScans.length →
        (d.get R.COORD_ALLOT_SLICE : Int) * hundredWatts * d.recentScans.length * (256 - d.get R.COORD_CAP_CFG_HYST)
          < p * 256 →
        ∃ e : Dev, Answers .capEvaluation d q e ∧ e.regs = d.regs ∧ e.coord.relax = 0 ∧ e.coord.overSlice = false)
      ∧ (∀ p, p = d.capBranches.foldl (fun a b => a + branchSum d.recentScans b) 0 →
        p * 256 ≤ (d.get R.COORD_ALLOT_SLICE : Int) * hundredWatts * d.recentScans.length * (256 - d.get R.COORD_CAP_CFG_HYST) →
        d.get R.COORD_CAP_CFG_RELAX ≤ d.coord.relax + 1 →
        ∃ e : Dev, Answers .capEvaluation d q e ∧ e.coord.relax = 0 ∧ e.coord.overSlice = false
          ∧ ∀ b, b < 8 → e.get (capFld b) = d.get (capFld b) - 1))
    ∧ (d.coord.overSlice = true → d.coord.capRaised = false → (∀ b ∈ d.capBranches, d.get (capFld b) = 15) →
      Answers .capTimeout d q ((d.coordCheck R.COORD_FLAGS_CAP_TMO).modCoord fun c => { c with capRaised := true }))

/-- The manager pair (R64, R394, R396 to R402, R421, R438). How a standby learns of a swap is the model's choice (entry 347). -/
def Obligations.ManagerPairActs : Prop :=
  ∀ (d : Dev) (q : List Instr), Serving d →
    (∀ m e, Takes d tMgrState m e → Answers .mgrState d q (e.takeState m.msg.payload))
    ∧ (d.net.listening = true → 4096 ≤ d.since d.boot.standbyAt → d.net.heard = true ∨ d.homeId ≠ 0 →
      Answers .mgrListenEnd d q (d.modNet fun n => { n with listening := false, heard := false }).takeStandby)
    ∧ (d.net.listening = true → 4096 ≤ d.since d.boot.standbyAt → d.net.heard = false → d.homeId = 0 →
      Answers .mgrListenEnd d q (d.modNet fun n => { n with listening := false, heard := false }).takePrimary)
    ∧ (d.isStandby = true → d.netOn = true →
      (d.net.segA.plcaAt.isSome = true ∨ d.net.segB.plcaAt.isSome = true → 120000 * d.rate ≤ d.plcaQuiet * 2 ^ 32 →
        Answers .primaryFailureDetect d q (d.takeOver false))
      ∧ (d.net.segA.plcaAt = none → d.net.segB.plcaAt = none → 16 * 65536 ≤ d.since d.boot.standbyAt →
        Answers .noPrimaryTimeout d q ((d.takeOver false).set1 R.COORD_FLAGS_NO_PRIMARY)))
    ∧ (d.isPrimary = true → d.coord.beacons = 8 → d.on R.MGR_STATUS_PEER = false →
      Answers .noStandby d q ((d.set1 R.COORD_FLAGS_NO_STANDBY).report 121))
    ∧ (Reaches d A.MGR_CMD → d.on R.RINNAK_NODE_MGR = true →
      let may := d.isPrimary && d.on R.MGR_STATUS_PEER && d.on R.MGR_STATUS_COPY_OK
      (may = true →
        Answers (.mgrSwap false) d q (((d.disarm.putCode R.MGR_CMD_RES_CODE .accepted).put R.MGR_CMD_RES_CMD 1).modCoord fun c =>
          { c with swapDue := true }))
      ∧ (may = false →
        Answers (.mgrSwap false) d q ((d.disarm.putCode R.MGR_CMD_RES_CODE .mode).put R.MGR_CMD_RES_CMD 1)))
    ∧ (d.isStandby = true → Answers (.mgrSwap true) d q (d.modCoord fun c => { c with swapDue := true }))
    ∧ (∀ m e, Takes d tTakeover m e → Answers .mgrTakeover d q (e.takeoverHeard m.msg.payload))
    ∧ (∀ m e, Takes d tPresence m e →
      Answers .presence d q (e.presenceHeard m.msg.src (byteAt m.msg.payload 0 % 32)))

/-! ## Rinnak (spec/10_rinnak_network.md) -/

/-- Frames (R412, R414, R418, R427, R436 to R440): at its opportunity a worker sends its highest queued frame, those
that are too long by now being dropped (the model's choice: entry 343); a frame that a collision has destroyed is
counted in COLL, one whose FCS fails is counted and dropped, one with a foreign address or EtherType too. -/
def Obligations.FramesAreSentAndFiltered : Prop :=
  ∀ (d : Dev) (q : List Instr) (b : Bool), Serving d →
    (∀ m rest, d.hasRight b = true → d.coordinator = false →
      let e := d.modNseg b fun s => { s with sent := [], queue := s.queue.filter d.fitsNow }
      e.coordinator = false → (e.nseg b).queue = m :: rest → nextOut false (m :: rest) = some m → e.keyless = false →
      ∀ collided, Answers (.transmitOpportunity b collided) d q (e.transmit b m (tbit collided 0)))
    ∧ (∀ l, d.netOn = true → Answers (.frameReceive b true l) d q ((d.bump (cntFld b ncColl)).errCount b))
    ∧ (∀ l, d.netOn = true → l.length < 18 ∨ leAt l (l.length - 4) 4 ≠ crc32 (l.take (l.length - 4)) →
      Answers (.frameReceive b false l) d q ((d.bump (cntFld b ncFcs)).errCount b))
    ∧ (∀ l, d.netOn = true → 18 ≤ l.length → leAt l (l.length - 4) 4 = crc32 (l.take (l.length - 4)) →
      slice l 0 6 ≠ rinnakDa ∨ beAt l 12 2 ≠ 0x88B5 →
      Answers (.frameReceive b false l) d q
        ((d.modNseg b fun s => { s with rxAt := some d.now }).bump (cntFld b ncForeign)))

/-- A frame that is Rinnak's own, not strange, without keys, and new, is counted and passed on once: its SRC, STAMP and SEQ
are remembered (R423, R433). A node that is no manager compares the home ID of a PRESENCE with the one before (R438). -/
def Obligations.NewFramesAreDelivered : Prop :=
  ∀ (d : Dev) (q : List Instr) (b : Bool) (l : List Byte), Serving d → d.netOn = true → 18 ≤ l.length →
    leAt l (l.length - 4) 4 = crc32 (l.take (l.length - 4)) → slice l 0 6 = rinnakDa → beAt l 12 2 = 0x88B5 →
    d.isStrange l = false → d.authOn = false → d.keyless = false →
    let m := parseFrame l
    let e := (d.modNseg b fun s => { s with rxAt := some d.now }).takeCyc b m.src (byteAt l 18 % 16)
    let taken := (e.bump (cntFld b ncRxOk)).modNet fun n => { n with
      lastPair := (m.src, m.stamp, m.seq) :: n.lastPair.filter fun p => p.1 != m.src
      delivered := (m.src, m.stamp, m.seq) :: n.delivered }
    m.src ≠ d.busId → (m.src, m.stamp, m.seq) ∉ d.net.delivered → d.pairNewer m = true →
    (m.ty ≠ tPresence ∨ taken.isPrimary = true ∨ taken.isStandby = true →
      Answers (.frameReceive b false l) d q (taken.deliver b m true false))
    ∧ (m.ty = tPresence → taken.isPrimary = false → taken.isStandby = false →
      Answers (.frameReceive b false l) d q ((taken.homeHeard m.src (byteAt m.payload 0 % 32)).deliver b m true false))

/-- Segments and late messages (R411, R440, R441, R443): a segment goes down with ERR_LIM errors, and at the coordinator
with no frame for 1.0 turn, elsewhere with no PLCA beacon for 4,096 reeds; it raises EV120 and sets its flag. One that
has served for a turn comes up; one that had been down waits for a plan index; with no segment up, messages whose bound
has passed are dropped; a PLCA beacon keeps the longest cycle, brings an index that a frame has corrected into force,
gives the plan index its next value and extends the bounds of the messages that wait (R430). -/
def Obligations.SegmentsGoDownAndUp : Prop :=
  ∀ (d : Dev) (q : List Instr) (b : Bool), Serving d → d.netOn = true →
    (d.segUp b = true →
      d.errsFull b = true
        ∨ d.coordinator = true ∧ d.past 65536 (some (d.nseg b).base) = true ∧ d.past 65536 (d.nseg b).rxAt = true
        ∨ d.coordinator = false ∧ d.past 4096 (some (d.nseg b).base) = true ∧ d.past 4096 (d.nseg b).plcaAt = true →
      Answers (.segmentDown b) d q
        (((d.modNseg b fun s => { s with wasDown := true, base := d.now }).clr (upFld b) |>.set1
          (if b then R.RINNAK_FLAGS_DOWN_B else R.RINNAK_FLAGS_DOWN_A)).report 120))
    ∧ (d.segUp b = false → d.segGood b = true →
      ((d.set1 (upFld b)).coordinator = false → ((d.set1 (upFld b)).nseg b).wasDown = true →
        Answers (.segmentUp b) d q ((d.set1 (upFld b)).modNseg b fun s =>
          { s with adopted := false, cycDue := none, wasDown := false, base := (d.set1 (upFld b)).now }))
      ∧ ((d.set1 (upFld b)).coordinator = true ∨ ((d.set1 (upFld b)).nseg b).wasDown = false →
        Answers (.segmentUp b) d q ((d.set1 (upFld b)).modNseg b fun s =>
          { s with wasDown := false, base := (d.set1 (upFld b)).now })))
    ∧ (∀ m x, d.segUp false = false → d.segUp true = false → d.net.segA.queue = [m] → d.net.segB.queue = [] →
      m.msg.cls = clUrgent → m.bound = some x → x + m.ext < d.since m.acceptedAt →
      Answers .lateDiscard d q
        ((((d.modNseg false fun s => { s with queue := [] }).bump (cntFld false ncLate) 1).set1
          R.RINNAK_FLAGS_LATE).showQueue))
    ∧ (∀ len e, e = d.extendBounds.modNet (fun n => { n with heard := n.heard || n.listening }) →
      ∀ mx : Fld, mx = (if b then R.RINNAK_CYCLE_MAX_B else R.RINNAK_CYCLE_MAX_A) → ∀ f : Dev,
      f = e.putMax mx (min len 65535) →
      ∀ g, g = f.put (cycFld b) (((f.nseg b).cycDue.getD (f.get (cycFld b)) + 1) % 12) →
      Answers (.plcaBeacon b len) d q (g.modNseg b fun s => { s with
        adopted := s.adopted || s.cycDue.isSome
        cycDue := none
        plcaSince := if g.past 4096 s.plcaAt then some g.now else s.plcaSince
        plcaAt := some g.now }))

/-- Keys and the messages of profiles and records (R58, R425, R434, R609): the first key is in force at once, a later
one waits for its activation STAMP, comes into force then, and the old key is erased 4 turns later; a refused commit
writes its code alone, and every commit keeps the keys by which frames of its cycle are judged (R443); a profile part,
an answer and a forwarded record are taken in. The primary sends a live profile part by part (R58). -/
def Obligations.KeysAndTransfersAct : Prop :=
  ∀ (d : Dev) (q : List Instr), Serving d →
    (∀ stamp : Word, Reaches d A.RINNAK_KEY_ACT →
      let n := d.net
      let late := n.key.isSome = true ∧ stampDiff stamp.toNat d.stampNow < 2
      let e (c : Code) : Dev :=
        let f := d.disarm.putCode R.RINNAK_KEY_RES_CODE c
        { f with cyc := { f.cyc with keys := some (d.cyc.keys.getD ⟨n.key, n.oldKey, n.nextKey, n.actStamp, n.oldAct⟩) } }
      (d.authOn = false → Answers (.keyCommit stamp) d q (e .mode))
      ∧ (d.authOn = true → late → Answers (.keyCommit stamp) d q (e .late))
      ∧ (d.authOn = true → ¬late →
        (n.key = none → Answers (.keyCommit stamp) d q
          (((e .accepted).modNet fun n => { n with key := some (e .accepted).stagedKey, actStamp := stamp.toNat }).keyInForce))
        ∧ (n.key.isSome = true → Answers (.keyCommit stamp) d q
          (((e .accepted).modNet fun n => { n with nextKey := some (e .accepted).stagedKey, actStamp := stamp.toNat }).set1
            R.RINNAK_STATUS_KEY_PEND))))
    ∧ (∀ k, d.net.nextKey = some k →
      (0 ≤ stampDiff d.stampNow d.net.actStamp → Answers .keyActivate d q
        ((d.modNet fun n => { n with oldKey := n.key, key := some k, nextKey := none, oldAct := n.actStamp }).clr
          R.RINNAK_STATUS_KEY_PEND))
      ∧ (stampDiff d.stampNow d.net.actStamp < 0 → Answers .keyActivate d q d))
    ∧ (4 ≤ stampDiff d.stampNow d.net.oldAct → Answers .keyErase d q (d.modNet fun n => { n with oldKey := none }))
    ∧ (stampDiff d.stampNow d.net.oldAct < 4 → Answers .keyErase d q d)
    ∧ (∀ m e, Takes d tProfileLoad m e → Answers (.profileLoad none) d q (e.profPart m.msg.src m.msg.payload))
    ∧ (∀ x : ProfSend, x.dst < 32 → x.tid < 65536 → x.bytes.length ≤ 16384 → d.isPrimary = true →
      Answers (.profileLoad (some x)) d q (d.sendAll ((profilePayloads (max 1 (d.maxLen - 8)) x).map fun p =>
        (tProfileLoad, clNormal, x.dst, p))).1)
    ∧ (∀ m e, Takes d tAck m e → Answers .netAck d q (e.modNet fun n => { n with
        lastAck := some (m.msg.src, byteAt m.msg.payload 0, byteAt m.msg.payload 1, beAt m.msg.payload 2 2) }))
    ∧ (∀ m e, Takes d tThatchFwd m e → e.isManager = true →
      Answers .thatchFwd d q (e.storeForeign (Record.ofBytes (slice m.msg.payload 4 32))))

/-! ## Branches (spec/11_branches.md) -/

/-- Seat, tray, timers and CLEAR of a branch (R447, R452 to R456, R459, R462, R464, R475): each happening takes its row
of R453 in the state it names; a retry goes to READY and counts, or to LOCKOUT where none is left; CLEAR frees a branch
that has tripped. A trip comes from BRn_TRIP at its active level in PRECHARGE or ON, and from a stall in PRECHARGE. Of
the rows that meet on a branch in one cycle the one nearest the top governs, whichever came first: what one of them
does, the others leave. -/
def Obligations.BranchesFollowTheirRows : Prop :=
  ∀ (d : Dev) (q : List Instr) (n : Nat),
    let row (e : Dev) (r : Nat) : Dev :=
      { e with cyc := { e.cyc with brRows := (n, r, e.word (A.BRn_STATE n), e.br n) :: e.cyc.brRows } }
    (d.brLive n = true → d.cyc.brRows.lookup n = none →
      (∀ e f, e = d.modBr n (fun b => { b with seat := true }) → (e.br n).seat = true → f = e.put (R.BRn_STATE_SEATED n) 1 →
        (f.bs n = brEmpty →
          Answers (.seatRise n) d q (((row f 9).put (R.BRn_STATE_STATE n) brSeating).clr (R.BRn_STATE_CAUSE n)))
        ∧ (f.bs n ≠ brEmpty → Answers (.seatRise n) d q f))
      ∧ (∀ e f, e = d.modBr n (fun b => { b with seat := false }) →
        f = ((row e 1).brLeave n brEmpty).clr (R.BRn_STATE_TRIES n) →
        (d.bs n = brEmpty → Answers (.seatLoss n) d q ((e.clr (R.BRn_STATE_SEATED n)).btSeatLow n))
        ∧ (d.bs n ≠ brEmpty → d.energised n = true →
          Answers (.seatLoss n) d q (((f.slEvent n slSeatLoss).clr (R.BRn_STATE_SEATED n)).btSeatLow n))
        ∧ (d.bs n ≠ brEmpty → d.energised n = false →
          Answers (.seatLoss n) d q ((f.clr (R.BRn_STATE_SEATED n)).btSeatLow n)))
      ∧ (d.bs n = brSeating → Answers (.seatingComplete n) d q ((row d 10).put (R.BRn_STATE_STATE n) brInsert))
      ∧ (d.bs n = brInsert → Answers (.insertComplete n) d q ((row d 11).put (R.BRn_STATE_STATE n) brReady))
      ∧ (∀ high e, e = d.modBr n (fun b => { b with trip := high }) →
        (e.energised n = true → e.tripActive n = true →
          Answers (.branchTripInput n high) d q ((row e 3).brTrip n caTripIn))
        ∧ (e.energised n = false ∨ e.tripActive n = false → Answers (.branchTripInput n high) d q e))
      ∧ (d.bs n = brPrecharge →
        (d.brDone n = false → Answers (.prechargeStall n) d q ((row d 5).brTrip n caStall))
        ∧ (d.brDone n = true → Answers (.prechargeStall n) d q d))
      ∧ (d.bs n = brOn →
        Answers (.preRelease n) d q (d.modBr n fun b => { b with pre := false })
        ∧ Answers (.branchOnStable n) d q (d.clr (R.BRn_STATE_TRIES n)))
      ∧ (d.bs n = brTripped →
        (d.get (R.BRn_STATE_TRIES n) < d.get (R.BRn_CFG_MAX n) →
          Answers (.branchRetry n) d q (((row d 15).bump (R.BRn_STATE_TRIES n)).put (R.BRn_STATE_STATE n) brReady))
        ∧ (d.get (R.BRn_CFG_MAX n) ≤ d.get (R.BRn_STATE_TRIES n) →
          let e := (row d 15).put (R.BRn_STATE_STATE n) brLockout
          Answers (.branchRetry n) d q (e.brFault n (d.get (R.BRn_STATE_CAUSE n)))))
      ∧ (d.mode = .drain → d.bs n = brPrecharge ∨ d.bs n = brOn → d.seq.csSeen = true →
        reeds (d.get (R.BRn_OFF_DLY_TURN n)) (d.get (R.BRn_OFF_DLY_REED n)) ≤ d.since d.seq.csAt →
        Answers (.branchOffDly n) d q ((row d 7).brLeave n brReady)))
    ∧ (∀ r cond act x w b, d.cyc.brRows.lookup n = some (x, w, b) →
      (x ≤ r ∨ cond (d.brBack n w b) = false → d.brRow n r cond act = d)
      ∧ (r < x → cond (d.brBack n w b) = true → d.brRow n r cond act = act (row (d.brBack n w b) r)))
    ∧ (n < 8 → Reaches d (A.BRn_CMD n) → d.cyc.brRows.lookup n = none →
      let e := d.disarm.putCode (R.BRn_CMD_RES_CODE n) .accepted
      (e.bs n = brTripped ∨ e.bs n = brLockout →
        Answers (.branchClear n) d q
          ((((row e 17).put (R.BRn_STATE_STATE n) brReady).clr (R.BRn_STATE_TRIES n)).clr (R.BRn_STATE_CAUSE n)))
      ∧ (e.bs n ≠ brTripped → e.bs n ≠ brLockout → Answers (.branchClear n) d q e))

/-- Scans, evaluations and brake lines (R389, R450, R451, R453, R460, R468, R469, R471 to R473): a scan that is due
triggers its inputs; once they have converted the evaluation acts on each branch in turn and then forms the branch
powers; a branch in ON whose count of overloads reaches FUSE_N trips with OVERLOAD; one in PRECHARGE whose output has
come within 5 % of Vsp enters ON; one in READY whose start condition holds enters PRECHARGE; one in ON without an
overload scans its legs, and has no feed where none is CLOSED any more; a brake line is high in the slots below its
level, in the regulating modes only; a tray counts the pauses of BRK0. -/
def Obligations.BranchesAreEvaluatedAndBraked : Prop :=
  (∀ (d : Dev) (q : List Instr), Serving d → d.isRole .dist = true →
    (d.scanDue (d.get R.BR_SENSE_SCAN_LOG2) = true → ∀ e, e = d.each d.scanInputs Dev.trigger →
      Answers .branchScan d q (e.modSense fun x => { x with scan := some (e.cycles, e.converting d.scanInputs) }))
    ∧ (d.scanDone d.scanInputs = true →
      Answers .branchEvaluation d q (d.scanOver.each (List.range 8) Dev.brEvaluate).scanPower)
    ∧ (∀ n, n < 8 → Answers (.brakeSlot n) d q (d.modBr n fun b =>
        { b with brake := d.mode.regulating && decide (rev4 d.brakeSlot < d.brakeLevel n) })))
  ∧ (∀ (d : Dev) (q : List Instr) (len : Nat), Serving d → d.isRole .tray = true →
    Answers (.brakePauseObserved len) d q
      { d.bump R.BRK_OBS_PAUSES with shelf := { d.shelf with left := len } })
  ∧ (∀ (d e : Dev) (n : Nat), d.brLive n = true → d.cyc.brRows.lookup n = none →
    e = d.put (R.BRn_MEAS_V_VSP n) ((d.vsp n).getD (Config.free .noVsp [n] % 2 ^ 14)) →
    let row (e : Dev) (r : Nat) : Dev :=
      { e with cyc := { e.cyc with brRows := (n, r, e.word (A.BRn_STATE n), e.br n) :: e.cyc.brRows } }
    (d.bs n = brReady →
      (e.brStart n = true →
        d.brEvaluate n = ((row e 12).put (R.BRn_STATE_STATE n) brPrecharge).modBr n fun b => { b with pre := true })
      ∧ (e.brStart n = false → d.brEvaluate n = e))
    ∧ (d.bs n = brPrecharge →
      (e.brDone n = true → d.brEvaluate n = (row e 13).brEnterOn n)
      ∧ (e.brDone n = false → d.brEvaluate n = e))
    ∧ (∀ v, e.vsp n = some v → (e.brDone n = true ↔ v * 19 ≤ e.get (R.BRn_MEAS_V_VOUT n) * 20))
    ∧ (d.bs n = brOn → ∀ f, f = e.brCapture n →
      (f.get (R.BRn_FUSE_FUSE_N n) ≤ f.brOvers n → d.brEvaluate n
        = ((row f 6).modBr n fun b => { b with overs := (row f 6).brOvers n }).brTrip n caOverload)
      ∧ (f.brOvers n < f.get (R.BRn_FUSE_FUSE_N n) → d.brEvaluate n
        = (f.modBr n fun b => { b with overs := f.brOvers n }).feedAfter n fun g => (g.legScan n false).legScan n true)))

/-! ## Batten (spec/12_batten_link.md) -/

/-- What the source of a link does (R483 to R485, R487, R491 to R494, R497 to R500, R510): it measures in DETECT, sends
what goes next on an idle line, repeats SRC_CAP until a REQUEST comes, judges a REQUEST by the rows of R494, sends PING
after tKEEP, and dissolves a contract whose reduction has not come by tRENEG. -/
def Obligations.BattenSourcesAct : Prop :=
  (∀ (d : Dev) (q : List Instr) (n : Nat), Serving d → n < 8 → d.btSource = true →
    (∀ mv e, d.lk n = lkDetect → d.sup.stopped = false →
      e = (d.put (R.BTn_SIGV_MV n) (min mv 4095)).put (R.BTn_STATE_SIG n) (sigClassOf mv) →
      (e.on (R.BRn_STATE_SEATED n) = false → Answers (.signatureMeasure n mv) d q
        (e.modBt n fun l => { l with sigClass := sigClassOf mv, sigCount := 0, stable := 0 }))
      ∧ (e.on (R.BRn_STATE_SEATED n) = true → ∀ k,
        k = (if (e.bt n).sigClass = sigClassOf mv then min 20 ((e.bt n).sigCount + 1) else 1) → k < 20 →
        Answers (.signatureMeasure n mv) d q
          (e.modBt n fun l => { l with sigClass := sigClassOf mv, sigCount := k, stable := 0 }).btLevels))
    ∧ (d.lk n = lkLinked ∨ d.lk n = lkContract → d.cyc.brRows.lookup n = none →
      (d.energised n = true → ∀ e,
        e = { d with cyc := { d.cyc with brRows := (n, 7, d.word (A.BRn_STATE n), d.br n) :: d.cyc.brRows } } →
        Answers (.detach n) d q (((e.brLeave n brReady).slEvent n slDetach).btToDetect n))
      ∧ (d.energised n = false → Answers (.detach n) d q (d.btToDetect n)))
    ∧ (∀ o, d.btActive n = true → (d.bt n).nextTx = some o →
      Answers (.packetTransmit n false) d q (d.btSend n o)
      ∧ Answers (.packetTransmit n true) d q (d.bump (R.BTn_CNT_COLL n)))
    ∧ (d.lk n = lkLinked → (d.bt n).requested = false →
      Answers (.btSrcCapRepeat n) d q (d.sendSrcCap n)
      ∧ ((d.bt n).noSink = false →
        Answers (.btNoSink n) d q ((d.btEvent n bkNoSink).modBt n fun l => { l with noSink := true })))
    ∧ (∀ f e p, d.btActive n = true → d.btReceive n f = (e, some p) → p.ty = btRequest → p.resp = false →
      (e.bt n).served = none → e.weevilOn = true → Answers (.btRequest n f) d q (e.btJudge n p))
    ∧ (d.btActive n = true → (d.bt n).has .ping = false → Answers (.btPingSend n) d q (d.btReq n .ping btPing [])))
  ∧ (∀ (d : Dev) (q : List Instr), Serving d →
    (d.weevilOn = false ∨ d.cycles < d.batten.sliceAt + tReneg + d.batten.extended → Answers .renegTimeout d q d)
    ∧ (d.weevilOn = true → d.batten.sliceAt + tReneg + d.batten.extended ≤ d.cycles →
      Answers .renegTimeout d q
        (d.each (idxs 8 fun n => (d.bt n).reduceTo.isSome) fun e n => ((e.btEvent n bkReduceTmo).btDissolveAt n true))))
  ∧ (∀ (d e : Dev) (n : Nat) (p : BtPacket),
    e = ((d.put (R.BTn_REQUEST_P_REQ n) (fieldOf (p.objs.getD 0 0) 0 16)).put (R.BTn_REQUEST_P_MIN n)
      (fieldOf (p.objs.getD 0 0) 16 16)).modBt n (fun l =>
        { l with requested := true, tx := l.tx.filter fun o => o.kind != .announce }) →
    d.contract n < fieldOf (p.objs.getD 0 0) 0 16 →
    (e.mode = .drain →
      d.btJudge n p = ((e.btRespond n p .response btAnswer Code.mode.val [noGrant n Code.mode.val]).btShow n).btSums)
    ∧ (e.mode ≠ .drain → fieldOf (p.objs.getD 0 0) 16 16 ≤ e.get R.BT_CFG_BR_MAX → e.on R.COORD_ALLOT_HELD = false →
      d.btJudge n p = (((e.btEnqueue n (fieldOf (p.objs.getD 0 0) 0 16) (fieldOf (p.objs.getD 0 0) 16 16)).btRespond n p
        .response btAnswer Code.wait.val [noGrant n Code.wait.val]).btShow n).btSums))

/-- What the sink of a link does, and either end (R480, R486 to R488, R493, R496 to R500, R502 to R508, R510, R513). A
packet with a wrong CRC, or one that is malformed, of the wrong role, or a LOOP outside TEST, is counted and discarded;
a repeated request gets its response again from memory, and a new one gets none while Weevil does not run. SRC_CAP is
answered with REQUEST, unless the hold-off after a WAIT lasts; OFFER, READY, DISSOLVE, SWAP, PING, GET, ANSWER, DATA and
ACK act as their rows give. A request without a response is sent again twice and then fails with its kind. The tray's
line comes and goes. The commands answer ACCEPTED and act, or REFUSED_MODE. The loopback test passes or raises
TEST_FAIL. Weevil's watchdog restarts it; how long that takes is open (log entry 160). -/
def Obligations.BattenLinksAct : Prop :=
  (∀ (d : Dev) (q : List Instr) (n : Nat) (f : BtFrame), Serving d → n < 8 → d.btActive n = true →
    let p := btPacketOf f
    let obj := p.objs.getD 0 0
    let v := fieldOf obj 0 16
    let cid := fieldOf obj 16 8
    let good := f.crc = btCrc f.header f.objs
    let may := maySend (!d.btSource) (!d.on (R.BTn_STATE_DHOST n)) p.ty
    let comes (ty : Nat) : Prop := good ∧ btFormed f = true ∧ p.ty = ty ∧ p.prole = (!d.isRole .tray) ∧ may = true
    let asks (ty : Nat) : Prop := comes ty ∧ d.weevilOn = true ∧ ∀ id r, (d.bt n).served = some (id, r) → id ≠ p.msgid
    let all (e : Dev) : Prop := Answers (.btSrcCap n f) d q e ∧ Answers (.btRequest n f) d q e ∧ Answers (.btOffer n f) d q e
      ∧ Answers (.btReady n f) d q e ∧ Answers (.btDissolve n f) d q e ∧ Answers (.btSwapRequest n f) d q e
      ∧ Answers (.btPing n f) d q e ∧ Answers (.btGet n f) d q e ∧ Answers (.btAnswer n f) d q e
      ∧ Answers (.btData n f) d q e ∧ Answers (.btAck n f) d q e ∧ Answers (.btLoop n f) d q e
    let again := d.modBt n fun l => { l with tx := l.tx ++ ((d.bt n).served.toList.map fun s => ⟨s.2, .again, false⟩) }
    let repeats (ty : Nat) : Prop := comes ty ∧ d.weevilOn = true ∧ ∃ r, (d.bt n).served = some (p.msgid, r)
    (¬good → all (d.bump (R.BTn_CNT_CRC_ERR n)))
    ∧ (good → btFormed f = false ∨ p.prole = d.isRole .tray ∨ p.ty = btLoop ∨ may = false → all (d.bump (R.BTn_CNT_BAD n)))
    ∧ ((repeats btOffer → Answers (.btOffer n f) d q again) ∧ (repeats btReady → Answers (.btReady n f) d q again)
      ∧ (repeats btDissolve → Answers (.btDissolve n f) d q again) ∧ (repeats btSwap → Answers (.btSwapRequest n f) d q again)
      ∧ (repeats btPing → Answers (.btPing n f) d q again) ∧ (repeats btGet → Answers (.btGet n f) d q again)
      ∧ (repeats btRequest → Answers (.btRequest n f) d q again))
    ∧ (d.weevilOn = false →
      (comes btOffer → Answers (.btOffer n f) d q d) ∧ (comes btReady → Answers (.btReady n f) d q d)
      ∧ (comes btDissolve → Answers (.btDissolve n f) d q d) ∧ (comes btSwap → Answers (.btSwapRequest n f) d q d)
      ∧ (comes btPing → Answers (.btPing n f) d q d) ∧ (comes btGet → Answers (.btGet n f) d q d))
    ∧ (comes btSrcCap → ∀ pReq pMin e, pReq = (if d.mode = .safe then 0 else d.get R.BT_SINK_REQ_P_REQ) →
      pMin = (if d.mode = .safe then 0 else d.get R.BT_SINK_REQ_P_MIN) →
      e = ((d.put (R.BTn_PEER_BR_MAX 0) v).put (R.BTn_PEER_P_PRE 0) cid).put (R.BTn_PEER_SWAP_EN 0) (fieldOf obj 27 1) →
      (∀ at_, (d.bt 0).holdOff = some (pReq, pMin, at_) → d.cycles < at_ + tWaitQ → Answers (.btSrcCap n f) d q e)
      ∧ ((∀ at_, (d.bt 0).holdOff = some (pReq, pMin, at_) → at_ + tWaitQ ≤ d.cycles) →
        Answers (.btSrcCap n f) d q (e.sinkRequest pReq pMin true)))
    ∧ (asks btOffer →
      (v ≤ d.contract 0 → Answers (.btOffer n f) d q
        (((d.setContract 0 v cid).modBt 0 fun l => { l with granted := none }).btAckWith 0 p .accepted))
      ∧ (d.contract 0 < v → Answers (.btOffer n f) d q
        ((d.modBt 0 fun l => { l with granted := some (v, cid) }).btAckWith 0 p .accepted)))
    ∧ (asks btReady → Answers (.btReady n f) d q
      (((d.setContract 0 v cid).modBt 0 fun l => { l with granted := none }).btAckWith 0 p .accepted))
    ∧ (asks btDissolve →
      let e := d.btAckWith n p .accepted
      (e.btSource = true → Answers (.btDissolve n f) d q (e.btDissolveAt n false))
      ∧ (e.btSource = false → Answers (.btDissolve n f) d q
        ((((e.modBt n fun l => { l with tx := l.tx.filter fun o => o.kind != .dissolve }).btCmdEnd n
          ((e.bt n).tx.any fun o => o.kind == .dissolve && o.mine) none).sinkDissolved).btShow n)))
    ∧ (asks btSwap →
      let busy (w : BtWait) : Prop := w.kind = .offerUp ∨ w.kind = .offerDown ∨ w.kind = .request ∨ w.kind = .capRequest ∨ w.kind = .ready
      (d.on R.BT_CFG_SWAP_EN = false → Answers (.btSwapRequest n f) d q (d.btAckWith n p .mode))
      ∧ (d.on R.BT_CFG_SWAP_EN = true →
        (∀ w, (d.bt n).out = some w → busy w → Answers (.btSwapRequest n f) d q (d.btAckWith n p .wait))
        ∧ ((∀ w, (d.bt n).out = some w → ¬busy w) →
          ((d.bt n).has .swap = true → d.btSource = true → Answers (.btSwapRequest n f) d q (d.btAckWith n p .wait))
          ∧ ((d.bt n).has .swap = true → d.btSource = false → Answers (.btSwapRequest n f) d q
            (((d.modBt n fun l => l.withdraw [.swap]).btCmdEnd n ((d.bt n).owns .swap) none).btRespond n p .swapAck btAck 0 []))
          ∧ ((d.bt n).has .swap = false → Answers (.btSwapRequest n f) d q (d.btRespond n p .swapAck btAck 0 [])))))
    ∧ (asks btPing → Answers (.btPing n f) d q (d.btAckWith n p .accepted))
    ∧ (asks btGet →
      (d.btSource = true → Answers (.btGet n f) d q (d.btRespond n p .response btData 0
        [d.word (A.BRn_STATE n), d.word (A.BRn_MEAS_V n), d.word (A.BRn_MEAS_I n), d.word A.BR_SCALE]))
      ∧ (d.btSource = false → Answers (.btGet n f) d q (d.btRespond n p .response btData 0
        [d.word (A.BT_TOBJk 0), d.word (A.BT_TOBJk 1), d.word (A.BT_TOBJk 2), d.word (A.BT_TOBJk 3)])))
    ∧ (∀ w e, (d.bt n).out = some w → w.packet.msgid = p.msgid →
      e = (d.modBt n fun l => { l with out := none, tx := l.tx.filter fun o => o.packet != w.packet }).btShow n →
      (comes btAnswer → w.packet.ty = btRequest → n = 0 →
        (p.code = 0 → v ≤ e.contract 0 → Answers (.btAnswer n f) d q
          (((e.setContract 0 v cid).modBt 0 fun l => { l with granted := none }).btCmdEnd 0 w.mine (some p.code)))
        ∧ (p.code = 0 → e.contract 0 < v → Answers (.btAnswer n f) d q
          ((e.modBt 0 fun l => { l with granted := some (v, cid) }).btCmdEnd 0 w.mine (some p.code)))
        ∧ (p.code = Code.wait.val → w.kind = .capRequest → Answers (.btAnswer n f) d q
          ((e.modBt 0 fun l => { l with holdOff := some (fieldOf (w.packet.objs.getD 0 0) 0 16,
            fieldOf (w.packet.objs.getD 0 0) 16 16, e.cycles) }).btCmdEnd 0 w.mine (some p.code)))
        ∧ (p.code ≠ 0 → p.code ≠ Code.wait.val ∨ w.kind ≠ .capRequest → Answers (.btAnswer n f) d q
          (e.btCmdEnd 0 w.mine (some p.code))))
      ∧ (comes btData → w.packet.ty = btGet → Answers (.btData n f) d q
        ((((e.setWord (A.BTn_RXOBJk n 0) obj).setWord (A.BTn_RXOBJk n 1) (p.objs.getD 1 0)).setWord (A.BTn_RXOBJk n 2)
          (p.objs.getD 2 0)).setWord (A.BTn_RXOBJk n 3) (p.objs.getD 3 0)))
      ∧ (comes btAck → w.packet.ty = btOffer ∨ w.packet.ty = btReady ∨ w.packet.ty = btDissolve ∨ w.packet.ty = btSwap
          ∨ w.packet.ty = btPing →
        let val := fieldOf (w.packet.objs.getD 0 0) 0 16
        let num := fieldOf (w.packet.objs.getD 0 0) 16 8
        let ends (g : Dev) : Dev := ((g.btCmdEnd n w.mine (some p.code)).btShow n).btSums
        (w.kind = .offerUp → p.code = 0 → Answers (.btAck n f) d q (ends (((e.modBt n fun l => { l with
          queued := if l.place == l.offered then none else l.queued
          offered := none }).putInForce n val num).btReduce)))
        ∧ (w.kind = .offerUp → p.code ≠ 0 → Answers (.btAck n f) d q
          (ends (e.modBt n fun l => { l with promised := none, offered := none })))
        ∧ (w.kind = .offerDown → p.code = 0 → Answers (.btAck n f) d q (ends (((e.modBt n fun l => { l with
          reduceTo := match l.reduceTo with | some r => if val ≤ r then none else some r | none => none }).putInForce n val
            num).btServe)))
        ∧ (w.kind = .offerDown → p.code ≠ 0 → Answers (.btAck n f) d q (ends (e.reduceFails n false)))
        ∧ (w.kind = .swap → p.code = 0 → Answers (.btAck n f) d q
          (ends (e.putB (R.BTn_STATE_DHOST n) (!e.on (R.BTn_STATE_DHOST n)))))
        ∧ (w.kind = .swap → p.code ≠ 0 → Answers (.btAck n f) d q (ends e))
        ∧ (w.kind ≠ .offerUp → w.kind ≠ .offerDown → w.kind ≠ .swap → Answers (.btAck n f) d q (ends e))))
    ∧ ((∀ w, (d.bt n).out = some w → w.packet.msgid ≠ p.msgid) → (comes btData → Answers (.btData n f) d q d) ∧ (comes btAck → Answers (.btAck n f) d q d)
      ∧ (comes btAnswer → n = 0 → Answers (.btAnswer n f) d q d)))
  ∧ (∀ (d : Dev) (q : List Instr) (n : Nat), Serving d → n < 8 → d.btActive n = true →
    (d.on (R.BTn_STATE_DHOST n) = true → (d.bt n).has .get = false →
      Answers (.btGetSend n) d q (d.btReq n .get btGet []))
    ∧ (d.on (R.BTn_STATE_DHOST n) = false ∨ (d.bt n).has .get = true → Answers (.btGetSend n) d q d)
    ∧ ((d.bt n).out = none → Answers (.btResend n) d q d)
    ∧ (∀ w, (d.bt n).out = some w →
      let e := d.modBt n fun l => { l with out := none }
      let fails (g : Dev) : Dev := ((g.btCmdEnd n w.mine none).btShow n).btSums
      (((d.bt n).tx.any fun o => o.packet == w.packet) = true → Answers (.btResend n) d q d)
      ∧ (((d.bt n).tx.any fun o => o.packet == w.packet) = false →
        (w.resends < 2 →
          Answers (.btResend n) d q ((d.modBt n fun l => { l with
            out := some { w with resends := w.resends + 1 }
            tx := ⟨w.packet, w.kind, w.mine⟩ :: l.tx }).bump (R.BTn_CNT_RESEND n)))
        ∧ (2 ≤ w.resends →
          (w.kind = .ping → Answers (.btResend n) d q (fails ((e.btEvent n bkLinkLost).btDissolveAt n true)))
          ∧ (w.kind = .offerDown → Answers (.btResend n) d q (fails (e.reduceFails n true)))
          ∧ (w.kind = .offerUp → Answers (.btResend n) d q
            (fails ((e.btEvent n bkNoResponse).modBt n fun l => { l with promised := none, offered := none })))
          ∧ (w.kind = .dissolve → Answers (.btResend n) d q
            (fails ((e.btEvent n bkNoResponse).modBt n fun l => { l with requested := l.requested && !e.btSource })))
          ∧ (w.kind ≠ .ping → w.kind ≠ .offerDown → w.kind ≠ .offerUp → w.kind ≠ .dissolve →
            Answers (.btResend n) d q (fails (e.btEvent n bkNoResponse)))))))
  ∧ (∀ (d : Dev) (q : List Instr), Serving d → d.isRole .tray = true →
    (d.lk 0 = skContract → Answers .contractLost d q ((d.noContract 0).modBt 0 fun l => { l with granted := none }))
    ∧ (d.lk 0 ≠ skContract → Answers .contractLost d q d)
    ∧ (d.lk 0 = skDown →
      Answers .lineUp d q (((d.modBt 0 BtLink.fresh).put (R.BTn_STATE_LINK 0) skUp).clr (R.BTn_STATE_DHOST 0)))
    ∧ (d.lk 0 ≠ skDown → Answers .lineUp d q d)
    ∧ (d.lk 0 = skUp ∨ d.lk 0 = skContract → Answers .lineDown d q (d.btDrop 0 skDown))
    ∧ (d.lk 0 ≠ skUp → d.lk 0 ≠ skContract → Answers .lineDown d q d))
  ∧ (∀ (d : Dev) (q : List Instr) (n : Nat), n < 8 → Reaches d (A.BTn_CMD n) →
    let o := d.disarm
    let res (cmd : Nat) (c : Code) (done : Bool) : Dev := (o.btRes n cmd c done).modBt n fun l => l.own none
    let refused (cmd : Nat) : Dev := res cmd .mode true
    let ok (cmd : Nat) : Dev := res cmd .accepted false
    (o.btActive n = false → Answers (.btCmdDissolve n) d q (refused 1) ∧ Answers (.btCmdSwap n) d q (refused 2)
      ∧ Answers (.btCmdRequest n) d q (refused 4))
    ∧ (o.btActive n = true →
      ((ok 1).btSource = true → Answers (.btCmdDissolve n) d q ((ok 1).btDissolveAt n true true))
      ∧ ((ok 1).btSource = false →
        (((ok 1).bt n).has .dissolve = true →
          Answers (.btCmdDissolve n) d q ((ok 1).modBt n fun l => l.own (some .dissolve)))
        ∧ (((ok 1).bt n).has .dissolve = false →
          Answers (.btCmdDissolve n) d q ((ok 1).btReq n .dissolve btDissolve [] true)))
      ∧ (o.on (R.BTn_PEER_SWAP_EN n) = false → Answers (.btCmdSwap n) d q (refused 2))
      ∧ (o.on (R.BTn_PEER_SWAP_EN n) = true →
        (((ok 2).bt n).has .swap = true → Answers (.btCmdSwap n) d q ((ok 2).modBt n fun l => l.own (some .swap)))
        ∧ (((ok 2).bt n).has .swap = false → Answers (.btCmdSwap n) d q ((ok 2).btReq n .swap btSwap [] true)))
      ∧ (o.isRole .tray = false → Answers (.btCmdRequest n) d q (refused 4))
      ∧ (o.isRole .tray = true → Answers (.btCmdRequest n) d q
        ((ok 4).sinkRequest ((ok 4).get R.BT_SINK_REQ_P_REQ) ((ok 4).get R.BT_SINK_REQ_P_MIN) false)))
    ∧ (o.btSource = false ∨ o.lk n ≠ lkDetect ∨ (o.bt n).stable ≠ 5 → Answers (.btCmdTest n) d q (refused 3))
    ∧ (o.btSource = true → o.lk n = lkDetect → (o.bt n).stable = 5 → Answers (.btCmdTest n) d q
      (((((ok 3).modBt n BtLink.fresh).put (R.BTn_STATE_LINK n) lkTest).clr (R.BTn_STATE_SIG n)).btReq n .loop btLoop
        (List.replicate 7 0x55555555))))
  ∧ (∀ (d : Dev) (q : List Instr), Serving d →
    (∀ n mv samples f, n < 8 → d.btSource = true → d.lk n = lkTest →
      let good := f.crc == btCrc f.header f.objs
      let formed := btFormed f && fieldOf f.header 0 4 == btLoop
      let e := if good then (if formed then d else d.bump (R.BTn_CNT_BAD n)) else d.bump (R.BTn_CNT_CRC_ERR n)
      let shown (pass : Bool) : Dev := ((e.put R.BT_TEST_RES_HIGH (min mv 4095)).putB R.BT_TEST_RES_PASS pass).put R.BT_TEST_RES_LINK n
      let pass : Prop := samples = true ∧ good = true ∧ formed = true ∧ f.objs = List.replicate 7 0x55555555 ∧ 2400 ≤ mv ∧ mv ≤ 3400
      (pass → Answers (.loopTestDone n mv samples f) d q (((shown true).set1 (R.BTn_CMD_RES_DONE n)).btToDetect n))
      ∧ (¬pass → Answers (.loopTestDone n mv samples f) d q
        ((((shown false).btEvent n bkTestFail).set1 (R.BTn_CMD_RES_DONE n)).btToDetect n)))
    ∧ (d.on R.BT_WEEVIL_RUN = false → Answers .weevilWatchdog d q d)
    ∧ (d.on R.BT_WEEVIL_RUN = true →
      let k := Config.free .weevilRestart [d.cycles] % 200001
      Answers .weevilWatchdog d q
        (((({ d with batten := { d.batten with
          restart := some (d.cycles + k), extended := d.batten.extended + k } }).showWeevil).bump R.BT_WEEVIL_RESTARTS).report 11)))

/-! ## Modes and the sequencer (spec/13_modes_sequencer.md) -/

/-- Commands and timers of the sequencer (R515 to R522, R531, R532, R535, R536, R672): ON sets its latch, OFF clears it
and drains a node that regulates, CLEAR_SAFE leads to STANDBY once the cause has gone, QUIET stops its blocks and ends
by a wake; RAMP begins only with no start condition failing; the limits of RAMP and RIDE raise EV119 and go on to RUN
and to DRAIN. With the next cycle an input that has returned ends RIDE (the model's choice: entry 334), an on request
against a thermal hold is dropped, and the OFF command of such a hold takes effect (R517, R572, R577). -/
def Obligations.ModesChangeByTheirRows : Prop :=
  ∀ (d : Dev) (q : List Instr),
    (Reaches d A.SEQ_CMD →
      (d.mode ≠ .safe →
        Answers .seqOn d q ((((d.disarm.seqRes 1 .accepted).set1 R.SEQ_STATUS_ON_LATCH).quietEnd).modSeq fun s =>
          { s with onFresh := true }))
      ∧ (d.mode = .safe → Answers .seqOn d q (d.disarm.seqRes 1 .mode))
      ∧ Answers .seqOff d q ((d.disarm.seqRes 2 .accepted).clr R.SEQ_STATUS_ON_LATCH).shelfDrain
      ∧ (d.mode = .safe → d.disarm.causeGone = true →
        Answers .clearSafe d q (((d.disarm.seqRes 3 .accepted).modSeq fun s => { s with safeSource := none }).standby))
      ∧ (d.mode = .safe → d.disarm.causeGone = false → Answers .clearSafe d q (d.disarm.seqRes 3 .mode))
      ∧ (d.mode ≠ .safe → Answers .clearSafe d q (d.disarm.seqRes 3 .accepted))
      ∧ (∀ e, e = ((d.disarm.seqRes 4 .accepted).set1 R.SYS_MODE_QUIET |>.modSup fun s =>
          { s with stopped := true, quietStop := true }).showWeevil →
        d.mode = .standby → d.disarm.isPrimary = false → d.disarm.isStandby = false →
        (e.src ≠ srcDisc → Answers .seqQuiet d q e) ∧ (e.src = srcDisc → Answers .seqQuiet d q (e.setSrc srcFly)))
      ∧ (d.mode ≠ .standby ∨ d.disarm.isPrimary = true ∨ d.disarm.isStandby = true →
        Answers .seqQuiet d q (d.disarm.seqRes 4 .mode)))
    ∧ (d.mode = .standby → d.on R.SEQ_STATUS_ON_LATCH = true →
      (d.thHoldNow = false → d.seq.offDue = false → (∀ i, i < 8 → d.blocked i = false) →
        Answers .rampStart d q (((d.enter .ramp).modSeq fun s =>
          { s with csSeen := false, onReached := 0, offPassed := 0 }).trimRamp))
      ∧ (∀ i, i < 8 → d.blocked i = true → Answers .rampStart d q d)
      ∧ (d.thHoldNow = true ∨ d.seq.offDue = true → Answers .rampStart d q d))
    ∧ (d.mode = .ramp → d.slotsPassed = true →
      Answers .rampTimeout d q (((d.set1 R.SEQ_FLAGS_RAMP_LATE).report 119).enter .run))
    ∧ (d.mode = .ride →
      (d.mainsInput = false → d.seq.inputBack = true → Answers .rideReturn d q (d.modSeq fun s => { s with rideBack := true }))
      ∧ (d.get R.SEQ_CTRL_RIDE_TMO ≠ 0 →
        Answers .rideTimeout d q ((d.set1 R.SEQ_FLAGS_RIDE_LATE).report 119).drain))
    ∧ (Serving d → Answers .minOffEnd d q (d.clr R.SEQ_STATUS_MINOFF))
    ∧ (d.mode = .standby → d.quiet = true →
      Answers .quietWake d q (d.quietEnd.modHost fun h => { h with silentTo := d.cycles + 10000 }))
    ∧ (Serving d → d.sup.lgHeld = false → d.sup.stopped = true → d.quiet = false →
      Answers .serviceRestored d q (((d.modSup fun s => { s with stopped := false, quietStop := false }).showWeevil).modNet fun n =>
        { n with segA := { n.segA with adopted := false }, segB := { n.segB with adopted := false } }))
    ∧ (∀ e, e = d.modSeq (fun s => { s with offDue := false, onFresh := false, rideBack := false, noUpDue := 0 }) →
      d.seq.noUpDue = 0 →
      (d.seq.rideBack = true → d.seq.onFresh = false → d.seq.offDue = false → e.mode = .ride → d.seqSteps = e.enter .run)
      ∧ (d.seq.rideBack = true → d.seq.onFresh = false → d.seq.offDue = false → e.mode ≠ .ride → d.seqSteps = e)
      ∧ (d.seq.rideBack = false → d.seq.onFresh = true → d.seq.offDue = false →
        (e.thHoldNow = true → d.seqSteps = (e.clr R.SEQ_STATUS_ON_LATCH).bump R.THERM_STATUS_ON_DROP)
        ∧ (e.thHoldNow = false → d.seqSteps = e))
      ∧ (d.seq.rideBack = false → d.seq.onFresh = false → d.seq.offDue = true →
        (e.mode.afterBoot = true → d.seqSteps = ((e.seqRes 2 .accepted).clr R.SEQ_STATUS_ON_LATCH).shelfDrain)))

/-- Slots, rails and reset outputs (R524 to R527, R534): a slot comes on and off once, when its delay after the common
start has passed, with its rail, its reset outputs and its stages; the rise, the absence and the loss of power-good,
where a rail that has failed to come up keeps its reset outputs, and one that rises in the cycle of its limit has come
up (R539; the model's choice: entry 334); a reset output is released when its stretch has passed. -/
def Obligations.RailsFollowTheirSlots : Prop :=
  ∀ (d : Dev) (q : List Instr) (r : Nat), Serving d → r < 16 →
    (d.mode = .ramp → d.slotDue (R.RAILr_ON_TURN r) (R.RAILr_ON_REED r) = true → d.usedSlot r = true →
      tbit d.seq.onReached r = false →
      let e := ({ d.modSeq (fun s => { s with onReached := sbit s.onReached r true }) with
        cyc := { d.cyc with onSlots := sbit d.cyc.onSlots r true } }).slotEnable r
      (e.railUse r = true → e.on (R.RAILr_CFG_PG_EN r) = true →
        Answers (.railOnSlot r) d q (e.each (e.slotStages r) Dev.stageStart))
      ∧ (e.railUse r = false ∨ e.on (R.RAILr_CFG_PG_EN r) = false →
        Answers (.railOnSlot r) d q ((e.rstoStart r).each ((e.rstoStart r).slotStages r) Dev.stageStart)))
    ∧ (d.mode = .drain → d.slotDue (R.RAILr_OFF_TURN r) (R.RAILr_OFF_REED r) = true → d.usedSlot r = true → tbit d.seq.onReached r = true → tbit d.seq.offPassed r = false →
      let e := d.modSeq fun s => { s with offPassed := sbit s.offPassed r true }
      Answers (.railOffSlot r) d q ((e.slotOff r).each (e.slotStages r) Dev.stageStop))
    ∧ (tbit d.seq.pgWait r = true → d.railEn r = true →
      Answers (.railNoUp r) d q (d.modSeq fun s => { s with noUpDue := sbit s.noUpDue r true })
      ∧ d.railFailed r = (((d.modSeq fun s => { s with pgWait := sbit s.pgWait r false, noUp := sbit s.noUp r true }).set1
        (R.SEQ_RAIL_FAIL_NOUP.bit r)).report 116 r))
    ∧ (tbit d.seq.pgWait r = false ∨ d.railEn r = false → Answers (.railNoUp r) d q d ∧ d.railFailed r = d)
    ∧ (d.railUse r = true →
      let up := ((d.set1 (R.SEQ_RAIL_LEVEL_PG.bit r)).unholdEv 117 r).modSeq fun s =>
        { s with pgWait := sbit s.pgWait r false }
      let dn := d.clr (R.SEQ_RAIL_LEVEL_PG.bit r)
      (up.slotOn r = true → up.on (R.RAILr_CFG_PG_EN r) = true → tbit up.seq.noUp r = false →
        Answers (.railPgRise r) d q (up.rstoStart r))
      ∧ (up.slotOn r = false ∨ tbit up.seq.noUp r = true → Answers (.railPgRise r) d q up)
      ∧ (dn.railEn r = true → dn.on (R.RAILr_CFG_PG_EN r) = true → dn.mode = .run ∨ dn.mode = .ride →
        Answers (.railLost r) d q
          ((((dn.set1 (R.SEQ_RAIL_FAIL_LOST.bit r)).rstoAssert r).report 117 r).holdEv 117 r))
      ∧ (dn.railEn r = false → Answers (.railLost r) d q dn))
    ∧ (∀ k, k < 4 → tbit d.seq.rstoStretch k = true →
      Answers (.rstoRelease k) d q (d.modSeq fun s =>
        { s with rstoReleased := sbit s.rstoReleased k true, rstoStretch := sbit s.rstoStretch k false }))

/-! ## Storage and temperature (spec/14_storage_estimator.md, spec/15_thermal.md) -/

/-- The estimator (R543, R545, R555, R558 to R562): a scan that is due triggers the inputs of each enabled string; once
they have converted, the evaluation takes its steps in their order and gives the node's power samples, but not in QUIET;
LEARN takes in range, DRILL by its table, a drill ends by its stop or its limit; an anchor too old raises EV107 once. -/
def Obligations.StringsAreEstimated : Prop :=
  (∀ (d : Dev) (q : List Instr), Serving d →
    (d.isRole .stor = true → d.scanDue (d.get R.ST_CFG_EST_LOG2) = true → ∀ e, e = d.each d.estInputs Dev.trigger →
      Answers .estScan d q (e.modSense fun x => { x with scan := some (e.cycles, e.converting d.estInputs) }))
    ∧ (d.isRole .stor = true → d.quiet = true → Answers .estEvaluation d q d)
    ∧ (d.isRole .stor = true → d.quiet = false → d.scanDone d.estInputs = true →
      let e := d.scanOver.each (idxs 6 d.scanOver.strOn) Dev.estString
      Answers .estEvaluation d q (e.each (idxs 6 e.strOn) fun d k => d.powerSample k ⟨-(d.strV k * d.strI k), -32⟩))
    ∧ (∀ k e, e = (((d.modStr k fun s => { s with inhWas := some (d.cycles, d.get (R.STk_STATE_CHG_INH k)) }).estRange k).estLearn
        k).estCount k →
      ∀ r, r = (((((e.estResistance k).estAnchors k).estDisagree k).estInhibits k).estDrill k).estReport k →
      d.estString k = r.modStr k fun s => { s with prev := some (r.strV k, r.strI k), prevCycle := some r.cycles })
    ∧ (∀ k, (idxs 6 d.strOn) = [k] →
      (d.on (R.STk_STATE_DRILL k) = true → Answers .drillTimeout d q (d.drillEnd k false))
      ∧ (d.get R.ST_CFG_AGE_LIM ≤ d.get (R.STk_STATE_AGE k) →
        ((d.str k).aged = false → Answers .anchorStale d q
          (((d.set1 (R.STk_STATE_STALE k)).modStr k fun s => { s with aged := true }).stEvent k 107))
        ∧ ((d.str k).aged = true → Answers .anchorStale d q d))
      ∧ (∀ per, d.get R.COORD_ALLOT_SLICE = 0 ∨ d.on R.COORD_ALLOT_HELD = false → d.get (R.STk_CAP_VALUE k) ≠ 0 →
        Answers (.ichgUpdate per) d q (d.put (R.STk_ICHG_VALUE k) (bfRound .ichg ⟨Config.round .ichg 0
          (d.get (R.STk_CAP_VALUE k)), -40⟩).word))))
  ∧ (∀ (d : Dev) (q : List Instr) (k : Nat), Reaches d A.ST_CMD → k < 6 → d.disarm.isRole .stor = true →
    (d.disarm.strOn k = true → 0 < d.disarm.get R.ST_LEARN_CAP_VALUE → 0 < d.disarm.get R.ST_LEARN_RES_R →
      0 ≤ d.disarm.getS R.ST_LEARN_Q_VALUE → d.disarm.getS R.ST_LEARN_Q_VALUE ≤ d.disarm.get R.ST_LEARN_CAP_VALUE →
      Answers (.learn k) d q ((d.disarm.modStr k fun s => { s with
        learn := some ((d.disarm.getS R.ST_LEARN_Q_VALUE).toNat, d.disarm.get R.ST_LEARN_CAP_VALUE,
          d.disarm.get R.ST_LEARN_RES_R, d.disarm.get R.ST_LEARN_U_U, d.disarm.get R.ST_LEARN_RES_AGE) }).stRes 1 k
            .accepted))
    ∧ (d.disarm.strOn k = false → Answers (.learn k) d q (d.disarm.stRes 1 k .badProfile))
    ∧ (let runs := d.disarm.strOn k = true ∧ d.mode = .run ∧ d.disarm.strStageRuns k = true
        ∧ ∀ j, j < 6 → d.on (R.STk_STATE_DRILL j) = false
      let hot := tbit (d.disarm.inhFound k) ciTemp = true ∨ tbit (d.disarm.inhFound k) ciTbad = true
      let full := tbit (d.disarm.inhFound k) ciFull = true ∨ tbit (d.disarm.inhFound k) ciRange = true
      let answers (c : Code) : Prop := Answers (.drill k) d q (d.disarm.stRes 2 k c)
      (¬runs → answers .mode)
      ∧ (runs → hot → answers .temp)
      ∧ (runs → ¬hot → full → answers .mode)
      ∧ (runs → ¬hot → ¬full →
        ((d.ichg k).lt (d.idrill k) = true → answers .budget)
        ∧ ((d.ichg k).lt (d.idrill k) = false →
          Answers (.drill k) d q (((d.disarm.stRes 2 k .accepted).set1 (R.STk_STATE_DRILL k)).modStr k fun s =>
            { s with drillAt := some (d.disarm.stRes 2 k .accepted).cycles }))))
    ∧ ((d.disarm.stRes 3 k .accepted).on (R.STk_STATE_DRILL k) = true →
      Answers (.drillStop k) d q ((d.disarm.stRes 3 k .accepted).drillEnd k false)))

/-- Temperature (R450, R567, R568, R572, R573, R575, R576): a measurement, due once in the cycle in which the angle
comes to a multiple of 8,192 reeds, triggers the inputs of the NTC channels and reads every other enabled channel in
order. Readings show HOLD, leave the OFF command of a stop condition that has begun to the next cycle, and set the
branch levels and the write window; the result of an NTC input out of range is invalid. The die condition comes at 135.0
°C and goes below 125.0 °C, and raises EV114 when it comes. -/
def Obligations.TemperaturesAreMeasured : Prop :=
  (∀ (d : Dev) (q : List Instr) (xs : List ThermIn), Serving d →
    d.cyc.reedNew = true → d.reed % 8192 = 0 → d.cyc.served.contains thermServed = false →
    ∀ e f g, e = d.serve thermServed → f = e.each ((idxs dieCh e.tsNtc).map fun c => e.get (R.TSc_CFG_IN c)).eraseDups Dev.trigger →
    g = f.each (idxs dieCh e.tsNtc) (fun d c => d.modTherm c fun x => { x with awaits := f.sensing && f.refReady }) →
    Answers (.thermalMeasure xs) d q (g.thTake ((idxs 17 fun c => g.tsOn c && (!g.tsNtc c || (f.sensing && !f.refReady))).map fun c =>
      (c, if g.tsNtc c then none else g.tsReading c (xs.getD c .broken)))))
  ∧ (∀ (d e : Dev) (l : List (Nat × Option Int)) (off : Bool), l ≠ [] →
    l.foldl (fun (acc : Dev × Bool) x => ((acc.1.thReading x.1 x.2).1, acc.2 || (acc.1.thReading x.1 x.2).2)) (d, false) = (e, off) →
    d.thTake l = (({ e.putB R.THERM_STATUS_HOLD e.thHoldNow with
      seq := { e.seq with offDue := e.seq.offDue || off } }).thLevels).writeWindow)
  ∧ (∀ (d : Dev) (c k : Nat), k < 16 ∨ 16368 < k ∨ d.refReady = false → d.ntcReading c k = none)
  ∧ (∀ (d : Dev) (t : Int), d.therm.length = 17 →
    ((d.dieCondition t).therm_ dieCh).dieCrit
      = (if 1350 ≤ t then true else if t < 1250 then false else (d.therm_ dieCh).dieCrit)
    ∧ (1350 ≤ t → (d.therm_ dieCh).dieCrit = false →
      (d.dieCondition t).raised = d.raised ++ [⟨114, dieCh, tkDie, false, false⟩]))

/-! ## Gutter and Thatch (spec/16_gutter_thatch.md) -/

/-- Gutter's commands (R580, R586, R588, R590 to R595): a raise is taken in with its index and kind, and EV010 fails a
trial besides; an upset of a duplicate fails the self-check with EV127, and again with the SAFE path alone; a host
clears the latches of sources whose ACTIVE reads 0; force raises and inverted check bits are answered by R593, and an
accepted force raises each named source in the next cycle, with index 0xFFFF; the first fault is cleared, the history
copied. -/
def Obligations.GutterCommandsAct : Prop :=
  let injects (d : Dev) (path : Nat) : Prop := tbit (d.get R.GUT_CTRL_INJ_MODE) path = true
    ∧ (d.mode.regulating = false ∨ d.on R.GUT_CTRL_INJ_RUN = true)
  (∀ (d : Dev) (q : List Instr), Awake d →
    (∀ ev idx kind, ev < 128 → idx < 65536 → kind < 256 →
      (ev ≠ 10 ∨ ¬ Serving d →
        Answers (.eventRaise ev idx kind) d q { d with raised := d.raised ++ [⟨ev, idx, kind, false, false⟩] })
      ∧ (ev = 10 → Serving d →
        Answers (.eventRaise ev idx kind) d q
          (Dev.trialFails { d with raised := d.raised ++ [⟨ev, idx, kind, false, false⟩] })))
    ∧ (∀ a bits, gutterCopied a = true → bits ≠ 0 → d.gut.upset = [] → d.gut.armed = [] →
      ∀ e, e = d.modGut (fun g => { g with upset := [(a, bits)] }) →
      (d.on R.GUT_STATUS_SELF = false → Answers (.gutterSelfCheck a bits) d q ((e.set1 R.GUT_STATUS_SELF).report 127))
      ∧ (d.on R.GUT_STATUS_SELF = true → Answers (.gutterSelfCheck a bits) d q (e.safe .gutter (some 127)))))
  ∧ (∀ (d : Dev) (q : List Instr) (n : Nat) (mask : Word), n < 4 → Reaches d (A.GUT_LATCHi n) →
    Answers (.latchClear n mask) d q
      (d.disarm.each (idxs 32 fun b => tbit mask.toNat b && !d.disarm.active (32 * n + b)) fun d b =>
        d.clr ((R.GUT_LATCHi_SRC n).bit b)))
  ∧ (∀ (d : Dev) (q : List Instr) (n : Nat) (mask : Word), n < 4 → Reaches d (A.GUT_FORCEi n) →
    (injects d 0 → ∀ l, l = (idxs 32 fun b => tbit mask.toNat b).map (fun b => 32 * n + b) →
      Answers (.forceRaise n mask) d q
        (d.disarm.modGut fun g => { g with forcing := g.forcing.filter (fun x => !l.contains x) ++ l }))
    ∧ (¬injects d 0 → Answers (.forceRaise n mask) d q d.disarm))
  ∧ (∀ d : Dev, (Dev.gutterTick d).raised = d.raised ++ d.gut.forcing.map (fun ev => ⟨ev, noIdx, 0, true, true⟩)
    ∧ (Dev.gutterTick d).gut.forcing = [])
  ∧ (∀ (d : Dev) (q : List Instr) (point index : Nat), Reaches d A.GUT_INJ_CHECK → index < 64 →
    let res (c : Code) : Dev := ((d.disarm.putCode R.GUT_INJ_RES_CODE c).put R.GUT_INJ_RES_POINT point).clr R.GUT_INJ_RES_DETECTED
    let used := match point with
      | 0 => index < 48
      | 1 => index < 8
      | 3 => d.twinUsed = true ∧ index < 12
      | 4 => (d.twinUsed = true ∨ d.isRole .dist = true) ∧ index < 24
      | 5 | 6 => d.twinUsed = true ∧ index < 2
      | _ => True
    (point < 9 → injects d 1 → used →
      ∀ i, i = (if point = 2 ∨ point = 7 ∨ point = 8 then 0 else index) → Answers (.injCheck point index) d q
        ((res .accepted).modGut fun g => { g with armed := g.armed.filter (· != ⟨point, i⟩) ++ [⟨point, i⟩] }))
    ∧ (point < 9 → injects d 1 → ¬used → Answers (.injCheck point index) d q (res .mode))
    ∧ (point < 9 → ¬injects d 1 →
      (tbit (d.get R.GUT_CTRL_INJ_MODE) 1 = false → Answers (.injCheck point index) d q (res .lock))
      ∧ (tbit (d.get R.GUT_CTRL_INJ_MODE) 1 = true → Answers (.injCheck point index) d q (res .busyRun)))
    ∧ (9 ≤ point → point < 16 → Answers (.injCheck point index) d q (res .badProfile)))
  ∧ (∀ (d : Dev) (q : List Instr), Reaches d A.GUT_CMD →
    Answers .clearFirst d q
      (((d.disarm.setWord A.GUT_FIRST 0).setWord A.GUT_FIRST_ERA 0).setWord A.GUT_FIRST_ANGLE 0)
    ∧ Answers .snapHist d q d.disarm.snapHist)

/-- Thatch's commands (R599, R600, R607, R608, R611, R613): with no gap open the oldest waiting record is committed; a
flush that is due starts when the bus is free; an operation that fails raises EV126 and sets NVM_ERR; firmware records
take the next SEQ; a snapshot latches TH_HEAD; a ring slot is read at once, an NVM record when its read is done. -/
def Obligations.ThatchCommandsAct : Prop :=
  (∀ (d : Dev) (q : List Instr) (w : Waiting) (rest : List Waiting), Awake d → d.on R.TH_STATUS_GAP_PEND = false →
    d.thatch.intake = w :: rest → ∀ e ok, (d.modThatch fun t => { t with intake := rest }).place w.record w.foreign = (e, ok) →
    Answers .recordCommit d q (if ok then e else (d.modThatch fun t => { t with intake := rest }).gapAdd w.record))
  ∧ (∀ (d : Dev) (q : List Instr), Serving d →
    (∀ part, part < 2 → d.on R.TH_CTRL_NVM_EN = true → d.sectors (if part = 0 then .hi else .lo) ≠ 0 →
      d.flushDue (if part = 0 then .hi else .lo) = true →
      (d.wrInh = true → Answers (.thatchFlush part) d q (d.set1 R.TH_STATUS_FLUSH_WAIT))
      ∧ (d.wrInh = false → d.qspiFree = true →
        Answers (.thatchFlush part) d q
          ((d.clr R.TH_STATUS_FLUSH_WAIT).startFlush (if part = 0 then .hi else .lo))))
    ∧ (∀ op, d.thatch.op = some op →
      Answers (.nvmOperationDone false) d q
        ((((d.modThatch fun t => { t with op := none }).opBad op).set1 R.TH_STATUS_NVM_ERR).report 126))
    ∧ (∀ p slots, d.thatch.op = some (.program p slots) →
      Answers (.nvmOperationDone true) d q ((((d.modThatch fun t => { t with op := none }).flushed p slots).eraseWhole p).eraseAhead))
    ∧ (∀ p s, d.thatch.op = some (.erase p s) →
      Answers (.nvmOperationDone true) d q (((d.modThatch fun t => { t with op := none }).erased p s).eraseAhead))
    ∧ (∀ p i, d.thatch.reading = some (p, i) → d.on R.TH_CTRL_NVM_EN = true → i < d.partRecs p →
      ∀ e b, e = d.modThatch (fun t => { t with reading := none }) → b = e.nvmBytes (e.recAddr p i) 32 →
      Answers (.recordReadDone true) d q
        (((e.readWindow (Record.ofBytes b)).putB R.TH_RD_STAT_VALID (!e.torn.contains (e.recAddr p i / 256 * 256)
          && !b.all (· == 0xFF) && (Record.ofBytes b).w7 == (Record.ofBytes b).crcOf)).set1 R.TH_RD_STAT_DONE))
    ∧ (∀ p i, d.thatch.reading = some (p, i) →
      Answers (.recordReadDone false) d q
        (((d.modThatch fun t => { t with reading := none }).set1 R.TH_STATUS_NVM_ERR).report 126))
    ∧ (∀ src i, src < 4 → i < 2 ^ 20 →
      Answers (.recordRead src i) d q
        (d.present A.TH_RD_SEL (R.TH_RD_SEL_SRC.into (R.TH_RD_SEL_INDEX.into 0 i) src)).1))
  ∧ (∀ (d : Dev) (q : List Instr), Reaches d A.TH_FW_CMT → Answers .fwCommit d q d.disarm.fwCommit
    ∧ d.disarm.fwCommit.get R.TH_FW_SEQ_SEQ = d.thatch.nextSeq % 2 ^ 32)
  ∧ (∀ (d : Dev) (q : List Instr), Reaches d A.TH_SNAP_CMD →
    Answers .snapOpen d q
      (((d.disarm.put R.TH_SNAP_SEQ_SEQ (d.disarm.get R.TH_HEAD_SEQ)).set1 R.TH_STATUS_SNAP_OPEN).clr R.TH_CNT_SNAP_LOST)
    ∧ Answers .snapClose d q (d.disarm.clr R.TH_STATUS_SNAP_OPEN))

/-- TH_RELEASE (R606): a write of s frees every held record of the node's own series with SEQ ≤ s, and every held record that
was forwarded to it; every other slot of the ring, and the contents of every slot, stay as they are. -/
def Obligations.ReleaseFreesRecords : Prop :=
  ∀ (d : Dev) (q : List Instr) (s : Word), Reaches d A.TH_RELEASE →
    ∃ e : Dev, Answers (.thRelease s) d q e
      ∧ e.thatch.ring.map (·.1) = d.thatch.ring.map (·.1)
      ∧ (∀ (i : Nat) (r : Nat × RingSlot), d.thatch.ring[i]? = some r →
        (r.2.state = .held → (r.2.foreign = true ∨ r.2.record.seq ≤ s.toNat) →
          e.thatch.ring[i]? = some (r.1, { r.2 with state := .released }))
        ∧ (r.2.state ≠ .held ∨ r.2.foreign = false ∧ s.toNat < r.2.record.seq → e.thatch.ring[i]? = some r))
      ∧ e.get R.TH_STATUS_HELD = (e.thatch.ring.filter fun r => r.2.state == .held).length % 2 ^ R.TH_STATUS_HELD.w
      ∧ (∀ a, a ≠ A.TH_STATUS → e.word a = d.word a)
      ∧ { e with thatch := { e.thatch with ring := d.thatch.ring }, regs := d.regs } = d.disarm

/-! ## Host target and module buses (spec/18_twowire_host.md, spec/19_register_index.md) -/

/-- ATTN (R696): bit b reads 1 exactly while a flag of the registers of group b reads 1; a write of SYS_STATUS changes no flag and
so no bit. -/
def Obligations.AttnFollowsTheFlags : Prop :=
  ∀ (d : Dev) (b : Nat), b < 16 →
    (fieldOf (d.view A.SYS_STATUS) 16 16).testBit b = ((attnGroup b).any fun a => match masksAt a with
      | some m => d.word a &&& BitVec.ofNat 32 m.rw1c != 0
      | none => false)
    ∧ ∀ w : Word, (d.mode.afterBoot = true → d.blockUsed A.SYS_STATUS = true →
      (d.present A.SYS_STATUS w).1.view A.SYS_STATUS = d.view A.SYS_STATUS)

/-- The host target (R661 to R669, R672, R673, R675 to R678, R689, R692), on the two-wire bus and on SPI: a word to a
register is presented to it and its code shown, the first at once and each further one with a cycle of its own (log
entry 352), over a firmware write of the same cycle without effect (R693); a write whose bytes end within a word raises
EV124; with PEC the words are taken once it matches; a read returns the words of one instant; what addresses another is
let pass; the sleep address, or opcode 0xAB, wakes a quiet node; a Host Notify ends by its acknowledge, and fails at the
third refusal or the sixteenth loss. -/
def Obligations.HostTargetServes : Prop :=
  (∀ (d : Dev) (q : List Instr), Serving d →
    (∀ (addr : Nat) (w : Word) e code, addr < 65536 → d.present addr w = (e, code) → e.mode.afterBoot = true →
      let f := ((e.put R.HOST_WRES_CODE code).put R.HOST_WRES_ADDR (addr / 4 * 4)).putB R.HOST_STATUS_LAST_REFUSED (code != 0)
      Answers (.registerWrite addr w) d q
        { f with cyc := { f.cyc with firmware := addr / 4 * 4 :: f.cyc.firmware } })
    ∧ (d.sup.lgRunning = false → d.spi = false → d.on R.HOST_CFG_LOWTO_DIS = false →
      Answers .sclLowTimeout d q (((d.set1 R.HOST_FLAGS_LOW_TO).report 124 0).bump R.HOST_CNT_ERR)))
  ∧ (∀ (d f : Dev) (q : List Instr) (hi lo first first1 op : Byte) (skip : List Byte), d.hostServes = true → d.quiet = false →
    d.on R.HOST_CFG_PEC_EN = false → d.host.toGo = none →
    (d.spi = false ∧ f = d ∧ first.toNat = 2 * d.get R.HOST_STATUS_ADDR_NOW ∧ op = first
        ∧ skip = [BitVec.ofNat 8 (first.toNat + 1)]
      ∨ d.spi = true ∧ f = d.shiftStatus ∧ first = 0x02 ∧ op = 0x0B ∧ skip = [first1]) →
    let a := (hi.toNat * 256 + lo.toNat) / 4 * 4
    let goes (f : Dev) (x : Option HostWords) : Dev := f.modHost fun h => { h with toGo := x }
    let g := { f with cyc := { f.cyc with net := f.cyc.firmware ++ f.cyc.net } }
    let word (b0 b1 b2 b3 : Byte) : Word :=
      BitVec.ofNat 32 (b0.toNat + 2 ^ 8 * b1.toNat + 2 ^ 16 * b2.toNat + 2 ^ 24 * b3.toNat)
    (∀ b0 b1 b2 b3 : Byte, ∀ e : Dev, a ≠ A.IMAGE_DATA →
      e = (goes g (some ⟨false, false, [(a, word b0 b1 b2 b3)]⟩)).presentWord a (word b0 b1 b2 b3) → e.mode.afterBoot = true →
      Answers (.hostWrite [first, hi, lo, b0, b1, b2, b3] false) d q ((goes e none).bump R.HOST_CNT_XFER))
    ∧ (∀ b0 b1 b2 b3 c0 c1 c2 c3 : Byte, ∀ e : Dev, a ≠ A.IMAGE_DATA → ∀ a2 v w, a2 = nextAddr a / 4 * 4 →
      v = word b0 b1 b2 b3 → w = word c0 c1 c2 c3 →
      e = (goes g (some ⟨false, false, [(a, v), (a2, w)]⟩)).presentWord a v → e.mode.afterBoot = true →
      Answers (.hostWrite [first, hi, lo, b0, b1, b2, b3, c0, c1, c2, c3] false) d q
        (goes e (some ⟨false, false, [(a2, w)]⟩)))
    ∧ (∀ b0 : Byte, f.mode.afterBoot = true →
      Answers (.hostWrite [first, hi, lo, b0] false) d q
        (((goes ((g.set1 R.HOST_FLAGS_LEN_ERR).report 124 0) none).bump R.HOST_CNT_XFER).bump R.HOST_CNT_ERR))
    ∧ (∀ r, r = f.readWords 1 ((hi.toNat * 256 + lo.toNat) / 4 * 4) →
      Answers (.hostRead ([op, hi, lo, 1] ++ skip)) d q
        ((r.1.modHost fun h => { h with readBack := r.2.flatMap fun w => leBytes 4 w.toNat }).countHost false)))
  ∧ (∀ (d : Dev) (q : List Instr) (first hi lo b0 b1 b2 b3 : Byte) (w : Word) (e : Dev), d.hostServes = true → d.quiet = false →
    d.spi = false → d.on R.HOST_CFG_PEC_EN = true → d.host.toGo = none → first.toNat = 2 * d.get R.HOST_STATUS_ADDR_NOW →
    w = BitVec.ofNat 32 (b0.toNat + 2 ^ 8 * b1.toNat + 2 ^ 16 * b2.toNat + 2 ^ 24 * b3.toNat) →
    (hi.toNat * 256 + lo.toNat) / 4 * 4 ≠ A.IMAGE_DATA → ∀ a, a = (hi.toNat * 256 + lo.toNat) / 4 * 4 →
    e = (({ d with cyc := { d.cyc with net := d.cyc.firmware ++ d.cyc.net } }).modHost fun h =>
      { h with toGo := some ⟨true, false, [(a, w)]⟩ }).presentWord a w → e.mode.afterBoot = true →
    ∀ pec : Byte,
    (pec.toNat = crc8 [first, hi, lo, b0, b1, b2, b3] →
      Answers (.hostWrite [first, hi, lo, b0, b1, b2, b3, pec] false) d q
        ((e.modHost fun h => { h with toGo := none }).bump R.HOST_CNT_XFER))
    ∧ (pec.toNat ≠ crc8 [first, hi, lo, b0, b1, b2, b3] →
      Answers (.hostWrite [first, hi, lo, b0, b1, b2, b3, pec] false) d q
        ((((d.set1 R.HOST_FLAGS_PEC_ERR).report 124 0).bump R.HOST_CNT_XFER).bump R.HOST_CNT_ERR)))
  ∧ (∀ (d : Dev) (q : List Instr) (first : Byte) (t : List Byte), d.hostServes = true → d.quiet = false → d.spi = false →
    d.host.toGo = none → first.toNat ≠ 2 * d.get R.HOST_STATUS_ADDR_NOW →
    Answers (.hostWrite (first :: t) false) d q d ∧ Answers (.hostRead (first :: t)) d q d)
  ∧ (∀ (d : Dev) (q : List Instr) (first : Byte) (t : List Byte), d.hostServes = true → d.mode = .standby → d.quiet = true →
    d.host.toGo = none → d.spi = false ∧ first.toNat / 2 = d.sleepAddr ∨ d.spi = true ∧ first = 0xAB →
    let e := d.quietEnd.modHost fun h => { h with silentTo := d.cycles + 10000 }
    Answers (.hostWrite (first :: t) false) d q e ∧ Answers (.hostRead (first :: t)) d q e)
  ∧ (∀ (d : Dev) (q : List Instr) (ev cls : Nat), d.notifyMay = true → d.host.notify = some (ev, cls) →
    let e := d.modHost fun h => { h with
      sent := [0x10, BitVec.ofNat 8 (2 * d.get R.HOST_STATUS_ADDR_NOW), BitVec.ofNat 8 ev, BitVec.ofNat 8 cls]
      waits := false }
    let end_ (e : Dev) : Dev := (e.modHost fun h => { h with notify := none, naks := 0, losses := 0, waits := false }).clr
      R.HOST_STATUS_HN_PEND
    (d.host.waits = false →
      Answers (.hostNotify true false false) d q (end_ e)
      ∧ (d.host.naks < 2 → Answers (.hostNotify false false false) d q
        (e.modHost fun h => { h with naks := h.naks + 1, losses := 0, waits := true })))
    ∧ (d.host.waits = true →
      Answers (.hostNotifyRetry true false false) d q (end_ e)
      ∧ (d.host.naks = 2 → Answers (.hostNotifyRetry false false false) d q
        ((end_ (e.modHost fun h => { h with naks := h.naks + 1, losses := 0, waits := true })).set1 R.HOST_FLAGS_HN_FAIL))
      ∧ (d.host.losses < 15 → Answers (.hostNotifyRetry false true false) d q
          ((e.set1 R.HOST_FLAGS_ARB_LOST).modHost fun h => { h with losses := h.losses + 1 })
        ∧ Answers (.hostNotifyRetry false false true) d q
          (((((e.set1 R.HOST_FLAGS_ARB_LOST).set1 R.HOST_FLAGS_PROTO_SR).report 124 0)).modHost fun h =>
            { h with losses := h.losses + 1 }))))

/-- The module buses (R670, R671, R677 to R682). Each of the nine protocols is answered by its checks, BAD_PROFILE
before MODE, and puts its bytes on the bus. A transaction ends with its outcome: the bytes that the protocol reads,
STAT, DONE, RCOUNT and TRIES (free where it does not fit its field), the flag of the outcome, and EV124 but for OK and
the two NAKs; NAK_ADDR and ARB_LOST wait for their retries first; a block longer than RLEN ends with LEN_ERR. Its
stretch limit and a stuck bus end it too. As target the controller takes and serves bytes, 0xFF past the last; a
repeated START within a write drops the last byte. -/
def Obligations.ModuleBusesServe : Prop :=
  (∀ (d : Dev) (q : List Instr) (b addr : Nat) (pec : Bool), b < 2 → addr < 128 → Reaches d (A.MBb_CMD b) →
    let o := d.disarm
    let tx (n : Nat) : List Byte := o.wordBytes (A.MBb_TXk b 0) n
    let wlen := o.get (R.MBb_LEN_WLEN b)
    let first : Byte := BitVec.ofNat 8 (2 * addr)
    let again : Byte := BitVec.ofNat 8 (2 * addr + 1)
    let code : Byte := BitVec.ofNat 8 (o.get (R.MBb_LEN_CODE b))
    let withPec (l : List Byte) : List Byte := if pec then l ++ [BitVec.ofNat 8 (crc8 l)] else l
    let does (c : Instr) (proto : Nat) (out : List Byte) : Prop :=
      let bad := 32 < wlen ∨ 32 < o.get (R.MBb_LEN_RLEN b) ∨ proto = 6 ∧ wlen = 0 ∨ pec = true ∧ 8 ≤ proto
      let busy := o.on (R.MBb_CFG_EN b) = false ∨ (o.mb b).isSome = true
      (bad → Answers c d q (o.putCode (R.MBb_RES_CODE b) .badProfile))
      ∧ (¬bad → busy → Answers c d q (o.putCode (R.MBb_RES_CODE b) .mode))
      ∧ (¬bad → ¬busy → Answers c d q
        (((o.setWord (A.MBb_RES b) 0).putCode (R.MBb_RES_CODE b) .accepted).setMb b (some ⟨proto, addr, pec, out, 0, 0, false⟩)))
    does (.mbSendByte b addr pec) 1 (withPec [first, code])
    ∧ does (.mbWriteByte b addr pec) 2 (withPec (first :: code :: tx 1))
    ∧ does (.mbWriteWord b addr pec) 3 (withPec (first :: code :: tx 2))
    ∧ does (.mbReadByte b addr pec) 4 [first, code, again]
    ∧ does (.mbReadWord b addr pec) 5 [first, code, again]
    ∧ does (.mbBlockWrite b addr pec) 6 (withPec (first :: code :: BitVec.ofNat 8 wlen :: tx wlen))
    ∧ does (.mbBlockRead b addr pec) 7 [first, code, again]
    ∧ does (.mbI2cWrite b addr pec) 8 (first :: tx wlen)
    ∧ does (.mbI2cWrRd b addr pec) 9 (first :: (tx wlen ++ [again])))
  ∧ (∀ (d : Dev) (q : List Instr) (b : Nat) (t : MbTrans) (rx : List Byte), Serving d → b < 2 → d.mb b = some t →
    let want (e : Dev) : Nat := match t.proto with
      | 4 => 1
      | 5 => 2
      | 7 | 9 => e.get (R.MBb_LEN_RLEN b)
      | _ => 0
    let ends (e : Dev) (stat : Nat) (rx : List Byte) : Dev :=
      let got := rx.take (min 32 (want e))
      let f := if t.proto = 4 ∨ t.proto = 5 ∨ t.proto = 7 ∨ t.proto = 9 then e.putBytes (A.MBb_RXk b 0) got else e
      ((((f.put (R.MBb_RES_STAT b) stat).set1 (R.MBb_RES_DONE b)).put (R.MBb_RES_RCOUNT b) got.length).put (R.MBb_RES_TRIES b)
        (Config.fit .mbTries 4 (t.naks + t.arbs : Nat))).setMb b none
    let long := t.proto = 7 ∧ d.get (R.MBb_LEN_RLEN b) < rx.length
    let raises (e : Dev) : Dev := e.report 124 (b + 1)
    (t.waits = true → (∀ stat, stat < 9 → Answers (.mbTransactionDone b stat rx) d q d)
      ∧ Answers (.mbStretchTimeout b) d q d)
    ∧ (t.waits = false →
      (¬long → Answers (.mbTransactionDone b 0 rx) d q (ends d 0 rx))
      ∧ (long → Answers (.mbTransactionDone b 0 rx) d q (raises (ends d 8 rx)))
      ∧ (t.naks < d.get (R.MBb_CFG_RETRY_MAX b) →
        Answers (.mbTransactionDone b 1 rx) d q (d.setMb b (some { t with naks := t.naks + 1, waits := true })))
      ∧ (d.get (R.MBb_CFG_RETRY_MAX b) ≤ t.naks → Answers (.mbTransactionDone b 1 rx) d q (ends d 1 rx))
      ∧ Answers (.mbTransactionDone b 2 rx) d q (ends d 2 rx)
      ∧ (∀ e, e = d.set1 (R.MBb_FLAGS_ARB_LOST b) →
        (t.arbs < e.get (R.MBb_CFG_ARB_MAX b) →
          Answers (.mbTransactionDone b 3 rx) d q (e.setMb b (some { t with arbs := t.arbs + 1, waits := true })))
        ∧ (e.get (R.MBb_CFG_ARB_MAX b) ≤ t.arbs → Answers (.mbTransactionDone b 3 rx) d q (raises (ends e 3 rx))))
      ∧ Answers (.mbTransactionDone b 4 rx) d q (raises (ends (d.set1 (R.MBb_FLAGS_LOW_TO b)) 4 rx))
      ∧ Answers (.mbTransactionDone b 5 rx) d q (raises (ends (d.set1 (R.MBb_FLAGS_PEC_ERR b)) 5 rx))
      ∧ Answers (.mbTransactionDone b 6 rx) d q
        (raises (ends ((d.set1 (R.MBb_FLAGS_PROTO_SR b)).set1 (R.MBb_FLAGS_ARB_LOST b)) 6 rx))
      ∧ Answers (.mbTransactionDone b 7 rx) d q (raises (ends (d.set1 (R.MBb_FLAGS_BUS_STUCK b)) 7 rx))
      ∧ Answers (.mbTransactionDone b 8 rx) d q (raises (ends d 8 rx))
      ∧ (d.on (R.MBb_CFG_LOWTO_DIS b) = false →
        Answers (.mbStretchTimeout b) d q (raises (ends (d.set1 (R.MBb_FLAGS_LOW_TO b)) 4 [])))
      ∧ (d.on (R.MBb_CFG_LOWTO_DIS b) = true → Answers (.mbStretchTimeout b) d q d))
    ∧ Answers (.mbRetry b) d q (d.setMb b (some { t with waits := false }))
    ∧ (d.on (R.MBb_CFG_EN b) = true →
      Answers (.busRecovery b false) d q (raises (ends (d.set1 (R.MBb_FLAGS_BUS_STUCK b)) 7 []))))
  ∧ (∀ (d : Dev) (q : List Instr) (b : Nat), Serving d → b < 2 →
    (d.mb b = none → Answers (.mbRetry b) d q d ∧ Answers (.mbStretchTimeout b) d q d
      ∧ (∀ stat rx, stat < 9 → Answers (.mbTransactionDone b stat rx) d q d)
      ∧ (d.on (R.MBb_CFG_EN b) = true →
        Answers (.busRecovery b false) d q ((d.set1 (R.MBb_FLAGS_BUS_STUCK b)).report 124 (b + 1))))
    ∧ (d.on (R.MBb_CFG_EN b) = false → Answers (.busRecovery b false) d q d))
  ∧ (∀ (d : Dev) (q : List Instr), Serving d → (∀ bus, bus < 3 → Answers (.busRecovery bus true) d q d)
    ∧ (d.spi = false → Answers (.busRecovery 2 false) d q (d.report 124 0))
    ∧ (d.spi = true → Answers (.busRecovery 2 false) d q d))
  ∧ (∀ (d : Dev) (q : List Instr) (b : Nat), Serving d → b < 2 →
    (d.on (R.MBb_CFG_EN b) = false ∨ d.get (R.MBb_CFG_OWN b) = 0 →
      (∀ l sr, Answers (.mbTargetWrite b l sr) d q d) ∧ ∀ n, Answers (.mbTargetRead b n) d q d)
    ∧ (d.on (R.MBb_CFG_EN b) = true → d.get (R.MBb_CFG_OWN b) ≠ 0 → ∀ l : List Byte,
      let e := (d.putBytes (A.MBb_TRXk b 0) (l.take 32)).put (R.MBb_TSTAT_RX_LEN b) (min 32 l.length)
      let f := (e.set1 (R.MBb_FLAGS_PROTO_SR b)).report 124 (b + 1)
      (l.length ≤ 32 → Answers (.mbTargetWrite b l false) d q (e.set1 (R.MBb_FLAGS_TGT_RX b))
        ∧ ∀ x, Answers (.mbTargetWrite b (l ++ [x]) true) d q f)
      ∧ (32 < l.length →
        Answers (.mbTargetWrite b l false) d q ((e.set1 (R.MBb_FLAGS_TGT_RX b)).set1 (R.MBb_FLAGS_TGT_OVF b))
        ∧ ∀ x, Answers (.mbTargetWrite b (l ++ [x]) true) d q (f.set1 (R.MBb_FLAGS_TGT_OVF b)))
      ∧ (∀ n, let given := d.wordBytes (A.MBb_TTXk b 0) (min 32 n) ++ List.replicate (n - 32) 0xFF
        let m := { d.mbus with returned := updAt d.mbus.returned b fun _ => given }
        Answers (.mbTargetRead b n) d q ({ d with mbus := m }.put (R.MBb_TSTAT_TX_READ b) (min 32 n)))))
end

