-- ==== Sys2Proof/Laws/Ops.lean ====
section
/-!
SUPPORT. Sys2Proof/Laws/Ops.lean: what the named operations on sparse contents, words and fields do: one lemma for each
thing that a proof needs to know of them.
-/

namespace Sys2Proof.Machine

/-! ## Sparse contents -/

theorem sread_sinsert_same {α : Type} (dflt : α) (k : Nat) (v : α) (m : Sparse α) (h : ∀ e ∈ m, e.1 ≠ k) :
    sread dflt (sinsert k v m) k = v := by
  induction m with
  | nil => simp [sinsert, sread]
  | cons e t ih =>
    obtain ⟨j, w⟩ := e
    have hj : j ≠ k := h (j, w) (by simp)
    have ht := ih fun e he => h e (by simp [he])
    by_cases hk : k < j <;> simp [sinsert, sread, hk, hj, ht]

theorem sread_sinsert_other {α : Type} (dflt : α) (k j : Nat) (v : α) (m : Sparse α) (h : j ≠ k) :
    sread dflt (sinsert k v m) j = sread dflt m j := by
  induction m with
  | nil => simp [sinsert, sread, Ne.symm h]
  | cons e t ih =>
    obtain ⟨i, w⟩ := e
    by_cases hk : k < i <;> simp [sinsert, sread, hk, Ne.symm h, ih]

theorem sread_serase_same {α : Type} (dflt : α) (k : Nat) (m : Sparse α) : sread dflt (serase k m) k = dflt := by
  induction m with
  | nil => rfl
  | cons e t ih =>
    obtain ⟨i, w⟩ := e
    simp only [serase] at ih ⊢
    by_cases h : i = k <;> simp [sread, h, ih]

theorem sread_serase_other {α : Type} (dflt : α) (k j : Nat) (m : Sparse α) (h : j ≠ k) :
    sread dflt (serase k m) j = sread dflt m j := by
  induction m with
  | nil => rfl
  | cons e t ih =>
    obtain ⟨i, w⟩ := e
    simp only [serase] at ih ⊢
    by_cases hi : i = k
    · simp [sread, hi, ih, Ne.symm h]
    · simp [sread, hi, ih]

theorem serase_keys {α : Type} (k : Nat) (m : Sparse α) : ∀ e ∈ serase k m, e.1 ≠ k := by
  simp [serase]

/-- Reading after a write: the value at its key, everything else as before. -/
theorem sread_swrite {α : Type} [DecidableEq α] (dflt : α) (m : Sparse α) (k j : Nat) (v : α) :
    sread dflt (swrite dflt m k v) j = if j = k then v else sread dflt m j := by
  unfold swrite
  by_cases hv : v = dflt <;> by_cases hj : j = k
  · simp [hv, hj, sread_serase_same]
  · simp [hv, hj, sread_serase_other]
  · simp [hv, hj, sread_sinsert_same _ _ _ _ (serase_keys k m)]
  · simp [hv, hj, sread_sinsert_other, sread_serase_other]

/-- The canonical form, read as a chain of rising keys and a bound on every entry. -/
theorem swf_iff {α : Type} [DecidableEq α] (dflt : α) (m : Sparse α) :
    swf dflt m = true ↔ (m.map (·.1)).Pairwise (· < ·) ∧ ∀ e ∈ m, e.2 ≠ dflt := by
  induction m with
  | nil => simp [swf]
  | cons e t ih =>
    obtain ⟨j, v⟩ := e
    cases t with
    | nil => simp [swf]
    | cons f t =>
      obtain ⟨k, w⟩ := f
      simp only [swf, Bool.and_eq_true, decide_eq_true_eq, ih, List.map_cons, List.pairwise_cons, List.mem_cons,
        forall_eq_or_imp]
      constructor
      · rintro ⟨⟨hv, hjk⟩, ⟨hk, ht⟩, hw, ha⟩
        exact ⟨⟨⟨hjk, fun x hx => Nat.lt_trans hjk (hk x hx)⟩, hk, ht⟩, hv, hw, ha⟩
      · rintro ⟨⟨⟨hjk, _⟩, hk, ht⟩, hv, hw, ha⟩
        exact ⟨⟨hv, hjk⟩, ⟨hk, ht⟩, hw, ha⟩

theorem mem_sinsert {α : Type} (k : Nat) (v : α) (m : Sparse α) (e : Nat × α) :
    e ∈ sinsert k v m ↔ e = (k, v) ∨ e ∈ m := by
  induction m with
  | nil => simp [sinsert]
  | cons f t ih =>
    obtain ⟨j, w⟩ := f
    by_cases hk : k < j
    · simp [sinsert, hk]
    · simp only [sinsert, hk, ite_false, List.mem_cons, ih]
      tauto

theorem sinsert_rising {α : Type} (k : Nat) (v : α) (m : Sparse α) (h : (m.map (·.1)).Pairwise (· < ·))
    (hk : ∀ e ∈ m, e.1 ≠ k) : ((sinsert k v m).map (·.1)).Pairwise (· < ·) := by
  induction m with
  | nil => simp [sinsert]
  | cons f t ih =>
    obtain ⟨j, w⟩ := f
    simp only [List.map_cons, List.pairwise_cons] at h
    by_cases hkj : k < j
    · rw [sinsert, if_pos hkj]
      simp only [List.map_cons, List.pairwise_cons, List.mem_cons, forall_eq_or_imp]
      exact ⟨⟨hkj, fun x hx => Nat.lt_trans hkj (h.1 x hx)⟩, h.1, h.2⟩
    · have hjk : j < k := by
        have := hk (j, w) (by simp)
        simp only at this
        omega
      simp only [sinsert, hkj, ite_false, List.map_cons, List.pairwise_cons]
      refine ⟨fun x hx => ?_, ih h.2 fun e he => hk e (by simp [he])⟩
      obtain ⟨e, he, rfl⟩ := List.mem_map.mp hx
      rcases (mem_sinsert k v t e).mp he with rfl | he
      · exact hjk
      · exact h.1 _ (List.mem_map.mpr ⟨e, he, rfl⟩)

theorem swf_filter {α : Type} [DecidableEq α] (dflt : α) (p : Nat × α → Bool) (m : Sparse α) (h : swf dflt m = true) :
    swf dflt (m.filter p) = true := by
  rw [swf_iff] at h ⊢
  exact ⟨h.1.sublist ((List.filter_sublist).map _), fun e he => h.2 e (List.mem_of_mem_filter he)⟩

theorem swf_serase {α : Type} [DecidableEq α] (dflt : α) (k : Nat) (m : Sparse α) (h : swf dflt m = true) :
    swf dflt (serase k m) = true := swf_filter dflt _ m h

/-- A write keeps the canonical form. -/
theorem swf_swrite {α : Type} [DecidableEq α] (dflt : α) (k : Nat) (v : α) (m : Sparse α) (h : swf dflt m = true) :
    swf dflt (swrite dflt m k v) = true := by
  have he := swf_serase dflt k m h
  unfold swrite
  split
  · exact he
  · rename_i hv
    rw [swf_iff] at he ⊢
    refine ⟨sinsert_rising k v _ he.1 (serase_keys k m), fun e hm => ?_⟩
    rcases (mem_sinsert k v _ e).mp hm with rfl | hm
    · exact hv
    · exact he.2 e hm

/-- A key that nothing lists reads as the default. -/
theorem sread_absent {α : Type} (dflt : α) (m : Sparse α) (k : Nat) (h : ∀ e ∈ m, e.1 ≠ k) : sread dflt m k = dflt := by
  induction m with
  | nil => rfl
  | cons e t ih =>
    obtain ⟨j, w⟩ := e
    have hj : j ≠ k := h (j, w) (by simp)
    simp [sread, hj, ih fun e he => h e (by simp [he])]

/-- Reading through a filter that looks at keys only. -/
theorem sread_filter_key {α : Type} (dflt : α) (p : Nat → Bool) (m : Sparse α) (k : Nat) :
    sread dflt (m.filter fun e => p e.1) k = if p k then sread dflt m k else dflt := by
  induction m with
  | nil => simp [sread]
  | cons e t ih =>
    obtain ⟨j, w⟩ := e
    by_cases hj : j = k
    · subst hj
      by_cases hp : p j <;> simp [sread, hp, ih]
    · by_cases hp : p j <;> simp [sread, hp, ih, hj]

/-! ## Masks -/

/-- A bit of a mask after one bit is set or cleared. -/
theorem testBit_sbit (m i : Nat) (b : Bool) (j : Nat) : (sbit m i b).testBit j = if j = i then b else m.testBit j := by
  unfold sbit
  split
  · rename_i h
    split
    · rename_i e
      rw [e, h]
    · rfl
  · rename_i h
    split
    · rename_i e
      rw [e]
      cases b <;> simp_all
    · rename_i e
      simp [Ne.symm e]

/-- The mask of the numbers below `n` that satisfy `p`. -/
theorem testBit_mask (p : Nat → Bool) (n j : Nat) :
    ((List.range n).foldl (fun a b => sbit a b (p b)) 0).testBit j = (decide (j < n) && p j) := by
  induction n with
  | zero => simp
  | succ n ih =>
    rw [List.range_succ, List.foldl_append]
    simp only [List.foldl_cons, List.foldl_nil, testBit_sbit, ih]
    by_cases h : j = n
    · simp [h]
    · have : (j < n + 1) = (j < n) := by
        simp only [eq_iff_iff]
        omega
      simp [h, this]

/-! ## External NVM and fuses -/

/-- A program clears bits in the bytes it is given, and leaves every other byte. -/
theorem nvmProgram_read (m : Sparse Byte) (a : Nat) (l : List Byte) (b : Nat) :
    sread 0xFF (nvmProgram m a l) b
      = if a ≤ b ∧ b < a + l.length then sread 0xFF m b &&& l.getD (b - a) 0 else sread 0xFF m b := by
  induction l generalizing m a with
  | nil => simp [nvmProgram]
  | cons x t ih =>
    rw [nvmProgram, ih, sread_swrite]
    by_cases hb : b = a
    · subst hb
      simp
    · by_cases h1 : a + 1 ≤ b ∧ b < a + 1 + t.length
      · have h2 : a ≤ b ∧ b < a + (x :: t).length := by simp only [List.length_cons]; omega
        rw [if_pos h1, if_pos h2, if_neg hb]
        have : b - a = (b - (a + 1)) + 1 := by omega
        rw [this, List.getD_cons_succ]
      · have h2 : ¬(a ≤ b ∧ b < a + (x :: t).length) := by simp only [List.length_cons]; omega
        rw [if_neg h1, if_neg h2, if_neg hb]

theorem nvmProgram_swf (m : Sparse Byte) (a : Nat) (l : List Byte) (h : swf 0xFF m = true) :
    swf 0xFF (nvmProgram m a l) = true := by
  induction l generalizing m a with
  | nil => exact h
  | cons x t ih => exact ih _ _ (swf_swrite _ _ _ _ h)

/-- An erase gives 0xFF in its range, and leaves every other byte. -/
theorem nvmErase_read (m : Sparse Byte) (a n b : Nat) :
    sread 0xFF (nvmErase m a n) b = if a ≤ b ∧ b < a + n then 0xFF else sread 0xFF m b := by
  have := sread_filter_key (0xFF : Byte) (fun k => !(decide (a ≤ k) && decide (k < a + n))) m b
  simp only [nvmErase, this]
  by_cases h1 : a ≤ b <;> by_cases h2 : b < a + n <;> simp [h1, h2]

theorem nvmErase_swf (m : Sparse Byte) (a n : Nat) (h : swf 0xFF m = true) : swf 0xFF (nvmErase m a n) = true :=
  swf_filter _ _ m h

/-! ## Words and fields -/

theorem word_setWord (d : Dev) (a b : Nat) (v : Word) : (d.setWord a v).word b = if b = a then v else d.word b :=
  sread_swrite 0 d.regs a b v

theorem setWord_swf (d : Dev) (a : Nat) (v : Word) (h : swf 0 d.regs = true) : swf 0 (d.setWord a v).regs = true :=
  swf_swrite 0 a v d.regs h

/-- The words of natural numbers that make up `withField`. -/
theorem withField_toNat (x : Word) (lo w v : Nat) (h : lo + w ≤ 32) :
    (withField x lo w v).toNat
      = x.toNat % 2 ^ lo + 2 ^ lo * (v % 2 ^ w) + 2 ^ (lo + w) * (x.toNat / 2 ^ (lo + w)) := by
  have hx := x.isLt
  have h1 : x.toNat % 2 ^ lo < 2 ^ lo := Nat.mod_lt _ (by positivity)
  have h2 : v % 2 ^ w < 2 ^ w := Nat.mod_lt _ (by positivity)
  have h3 : x.toNat / 2 ^ (lo + w) < 2 ^ (32 - (lo + w)) := by
    rw [Nat.div_lt_iff_lt_mul (by positivity), ← pow_add]
    have : 32 - (lo + w) + (lo + w) = 32 := by omega
    rw [this]
    exact hx
  have h4 : x.toNat % 2 ^ lo + 2 ^ lo * (v % 2 ^ w) < 2 ^ (lo + w) := by
    have : 2 ^ lo * (v % 2 ^ w) + 2 ^ lo ≤ 2 ^ lo * 2 ^ w := by
      rw [← Nat.mul_succ]
      exact Nat.mul_le_mul_left _ h2
    rw [pow_add]
    omega
  have h5 : 2 ^ (lo + w) * (x.toNat / 2 ^ (lo + w)) + 2 ^ (lo + w) ≤ 2 ^ 32 := by
    have : 2 ^ (lo + w) * 2 ^ (32 - (lo + w)) = 2 ^ 32 := by
      rw [← pow_add]
      congr 1
      omega
    rw [← this, ← Nat.mul_succ]
    exact Nat.mul_le_mul_left _ h3
  rw [withField, BitVec.toNat_ofNat]
  exact Nat.mod_eq_of_lt (by omega)

/-- A field reads back what was put into it. -/
theorem fieldOf_withField_same (x : Word) (lo w v : Nat) (h : lo + w ≤ 32) :
    fieldOf (withField x lo w v) lo w = v % 2 ^ w := by
  have h1 : x.toNat % 2 ^ lo < 2 ^ lo := Nat.mod_lt _ (by positivity)
  have h2 : v % 2 ^ w < 2 ^ w := Nat.mod_lt _ (by positivity)
  rw [fieldOf, withField_toNat x lo w v h]
  have : x.toNat % 2 ^ lo + 2 ^ lo * (v % 2 ^ w) + 2 ^ (lo + w) * (x.toNat / 2 ^ (lo + w))
      = x.toNat % 2 ^ lo + 2 ^ lo * (v % 2 ^ w + 2 ^ w * (x.toNat / 2 ^ (lo + w))) := by
    rw [pow_add]
    ring
  rw [this, Nat.add_mul_div_left _ _ (by positivity), Nat.div_eq_of_lt h1, Nat.zero_add, Nat.add_mul_mod_self_left,
    Nat.mod_eq_of_lt h2]

/-- A field below the one that was put stands. -/
theorem fieldOf_withField_below (x : Word) (lo w v l' w' : Nat) (h : lo + w ≤ 32) (hb : l' + w' ≤ lo) :
    fieldOf (withField x lo w v) l' w' = fieldOf x l' w' := by
  rw [fieldOf, withField_toNat x lo w v h, fieldOf]
  have e : x.toNat % 2 ^ lo + 2 ^ lo * (v % 2 ^ w) + 2 ^ (lo + w) * (x.toNat / 2 ^ (lo + w))
      = x.toNat % 2 ^ lo + 2 ^ (l' + w') * (2 ^ (lo - (l' + w')) * (v % 2 ^ w + 2 ^ w * (x.toNat / 2 ^ (lo + w)))) := by
    have : (2 : Nat) ^ lo = 2 ^ (l' + w') * 2 ^ (lo - (l' + w')) := by
      rw [← pow_add]
      congr 1
      omega
    rw [pow_add]
    conv_lhs => rw [this]
    conv_rhs => rw [this]
    ring
  have key (n : Nat) : n / 2 ^ l' % 2 ^ w' = n % 2 ^ (l' + w') / 2 ^ l' := by
    rw [pow_add, Nat.mod_mul_right_div_self]
  rw [key, key, e, Nat.add_mul_mod_self_left, Nat.mod_mod_of_dvd _ (pow_dvd_pow 2 hb)]

/-- A field above the one that was put stands. -/
theorem fieldOf_withField_above (x : Word) (lo w v l' w' : Nat) (h : lo + w ≤ 32) (ha : lo + w ≤ l') :
    fieldOf (withField x lo w v) l' w' = fieldOf x l' w' := by
  have h1 : x.toNat % 2 ^ lo < 2 ^ lo := Nat.mod_lt _ (by positivity)
  have h2 : v % 2 ^ w < 2 ^ w := Nat.mod_lt _ (by positivity)
  have h4 : x.toNat % 2 ^ lo + 2 ^ lo * (v % 2 ^ w) < 2 ^ (lo + w) := by
    have : 2 ^ lo * (v % 2 ^ w) + 2 ^ lo ≤ 2 ^ lo * 2 ^ w := by
      rw [← Nat.mul_succ]
      exact Nat.mul_le_mul_left _ h2
    rw [pow_add]
    omega
  rw [fieldOf, withField_toNat x lo w v h, fieldOf]
  have hp : (2 : Nat) ^ l' = 2 ^ (lo + w) * 2 ^ (l' - (lo + w)) := by
    rw [← pow_add]
    congr 1
    omega
  rw [hp, ← Nat.div_div_eq_div_mul, ← Nat.div_div_eq_div_mul, Nat.add_mul_div_left _ _ (by positivity),
    Nat.div_eq_of_lt h4, Nat.zero_add]

theorem get_put_same (d : Dev) (f : Fld) (v : Nat) (h : f.lo + f.w ≤ 32) : (d.put f v).get f = v % 2 ^ f.w := by
  simp [Dev.put, Dev.get, word_setWord, fieldOf_withField_same _ _ _ _ h]

theorem get_put_addr (d : Dev) (f g : Fld) (v : Nat) (h : g.addr ≠ f.addr) : (d.put f v).get g = d.get g := by
  simp [Dev.put, Dev.get, word_setWord, h]

theorem get_put_below (d : Dev) (f g : Fld) (v : Nat) (h : f.lo + f.w ≤ 32) (hb : g.lo + g.w ≤ f.lo) :
    (d.put f v).get g = d.get g := by
  by_cases ha : g.addr = f.addr
  · simp [Dev.put, Dev.get, word_setWord, ha, fieldOf_withField_below _ _ _ _ _ _ h hb]
  · exact get_put_addr d f g v ha

theorem get_put_above (d : Dev) (f g : Fld) (v : Nat) (h : f.lo + f.w ≤ 32) (ha : f.lo + f.w ≤ g.lo) :
    (d.put f v).get g = d.get g := by
  by_cases hb : g.addr = f.addr
  · simp [Dev.put, Dev.get, word_setWord, hb, fieldOf_withField_above _ _ _ _ _ _ h ha]
  · exact get_put_addr d f g v hb

theorem word_put_other (d : Dev) (f : Fld) (v a : Nat) (h : a ≠ f.addr) : (d.put f v).word a = d.word a := by
  simp [Dev.put, word_setWord, h]

/-! ## Fuses -/

/-- The data of a fuse word. -/
theorem fuseData_fuseWord (x : Word) (e : BitVec 7) : fuseData (fuseWord x e) = x := by
  ext i hi
  have h := BitVec.getLsbD_append (x := e) (y := x) (i := i)
  simp_all [fuseData, fuseWord, BitVec.getElem_extractLsb']

/-- Its check bits. -/
theorem fuseEcc_fuseWord (x : Word) (e : BitVec 7) : fuseEcc (fuseWord x e) = e := by
  ext i hi
  have h := BitVec.getLsbD_append (x := e) (y := x) (i := 32 + i)
  simp_all [fuseEcc, fuseWord, BitVec.getElem_extractLsb']

/-- A programmed word other than 0 is not blank. -/
theorem shippedWord_ne_blank (x : Word) (h : x ≠ 0) : shippedWord x ≠ blankCell := fun e =>
  h ((fuseData_fuseWord x (eccOf x)).symm.trans (congrArg (fun c => fuseData c.normal) e))

/-- The fuses of a shipped part are in canonical form. -/
theorem shippedFuses_swf : swf blankCell shippedFuses = true := by
  simp only [swf, shippedFuses, decide_eq_true (shippedWord_ne_blank 0x00007240 (by decide)),
    decide_eq_true (shippedWord_ne_blank 0x00004101 (by decide)),
    decide_eq_true (shippedWord_ne_blank 0x87084A27 (by decide)),
    decide_eq_true (shippedWord_ne_blank 0xEF87080E (by decide))]
  decide

/-- What the read at reset release shows of it (R624): its data, with no error. -/
theorem shadowOf_shipped (a : Nat) (x : Word) (h : a < thermoWord) : shadowOf a (shippedWord x) = ⟨x, false, false, false⟩ := by
  simp [shadowOf, shippedWord, Nat.not_le.mpr h, secded, fuseData_fuseWord, fuseEcc_fuseWord]

end Sys2Proof.Machine
end

