-- ==== Sys2Proof/Laws/Answers.lean ====
section
/-!
SUPPORT. Sys2Proof/Laws/Answers.lean: how a meaning answers: the gates that every meaning passes, each said once.
-/

namespace Sys2Proof.Machine

@[simp] theorem State.answer_true (s : State) (d : Dev) : s.answer true d = .next { s with dev := d.ends } := rfl

@[simp] theorem State.answer_false (s : State) (d : Dev) : s.answer false d = .fault .noSuchUnit := rfl

/-- In a mode after BOOT the command has its effect. -/
theorem Dev.inService_of {d : Dev} (h : d.mode.afterBoot = true) (f : Dev → Dev) : d.inService f = f d := by
  simp [Dev.inService, h]

/-- Before, it has none. -/
theorem Dev.inService_not {d : Dev} (h : d.mode.afterBoot = false) (f : Dev → Dev) : d.inService f = d := by
  simp [Dev.inService, h]

theorem Dev.awake_of {d : Dev} (h : d.mode ≠ .dark) (f : Dev → Dev) : d.awake f = f d := by simp [Dev.awake, h]

/-- A mode after BOOT is not DARK. -/
theorem Mode.awake_of_afterBoot {m : Mode} (h : m.afterBoot = true) : m ≠ .dark := by
  intro e
  simp [e, Mode.afterBoot] at h

theorem Dev.byRegister_of {d : Dev} {a : Nat} (h : d.mode.afterBoot = true ∧ d.blockUsed a = true) (f : Dev → Dev) :
    d.byRegister a f = f d.disarm := by
  simp [Dev.byRegister, h.1, h.2]

/-- A register that the mode or the role does not serve takes no command. -/
theorem Dev.byRegister_not {d : Dev} {a : Nat} (h : d.mode.afterBoot = false ∨ d.blockUsed a = false) (f : Dev → Dev) :
    d.byRegister a f = d := by
  rcases h with h | h <;> simp [Dev.byRegister, h]

/-- Disarming the OTP commands changes no register. -/
@[simp] theorem Dev.disarm_word (d : Dev) (a : Nat) : d.disarm.word a = d.word a := rfl

@[simp] theorem Dev.disarm_get (d : Dev) (f : Fld) : d.disarm.get f = d.get f := rfl

@[simp] theorem Dev.disarm_on (d : Dev) (f : Fld) : d.disarm.on f = d.on f := rfl

@[simp] theorem Dev.disarm_mode (d : Dev) : d.disarm.mode = d.mode := rfl

end Sys2Proof.Machine
end

