-- ==== Sys2Proof/Laws/State.lean ====
section
/-!
SUPPORT. Sys2Proof/Laws/State.lean: what each named update of the part leaves alone, one lemma for each field of the state,
so that no proof unfolds a record update.
-/

namespace Sys2Proof.Machine

variable (d : Dev)

/-! ## Writes of registers -/

@[simp] theorem Dev.setWord_sup (a : Nat) (v : Word) : (d.setWord a v).sup = d.sup := rfl
@[simp] theorem Dev.setWord_ridge (a : Nat) (v : Word) : (d.setWord a v).ridge = d.ridge := rfl
@[simp] theorem Dev.setWord_pwm (a : Nat) (v : Word) : (d.setWord a v).pwm = d.pwm := rfl
@[simp] theorem Dev.setWord_sense (a : Nat) (v : Word) : (d.setWord a v).sense = d.sense := rfl
@[simp] theorem Dev.setWord_rafter (a : Nat) (v : Word) : (d.setWord a v).rafter = d.rafter := rfl
@[simp] theorem Dev.setWord_stages (a : Nat) (v : Word) : (d.setWord a v).stages = d.stages := rfl
@[simp] theorem Dev.setWord_twin (a : Nat) (v : Word) : (d.setWord a v).twin = d.twin := rfl
@[simp] theorem Dev.setWord_coord (a : Nat) (v : Word) : (d.setWord a v).coord = d.coord := rfl
@[simp] theorem Dev.setWord_net (a : Nat) (v : Word) : (d.setWord a v).net = d.net := rfl
@[simp] theorem Dev.setWord_branches (a : Nat) (v : Word) : (d.setWord a v).branches = d.branches := rfl
@[simp] theorem Dev.setWord_shelf (a : Nat) (v : Word) : (d.setWord a v).shelf = d.shelf := rfl
@[simp] theorem Dev.setWord_batten (a : Nat) (v : Word) : (d.setWord a v).batten = d.batten := rfl
@[simp] theorem Dev.setWord_seq (a : Nat) (v : Word) : (d.setWord a v).seq = d.seq := rfl
@[simp] theorem Dev.setWord_strings (a : Nat) (v : Word) : (d.setWord a v).strings = d.strings := rfl
@[simp] theorem Dev.setWord_therm (a : Nat) (v : Word) : (d.setWord a v).therm = d.therm := rfl
@[simp] theorem Dev.setWord_gut (a : Nat) (v : Word) : (d.setWord a v).gut = d.gut := rfl
@[simp] theorem Dev.setWord_thatch (a : Nat) (v : Word) : (d.setWord a v).thatch = d.thatch := rfl
@[simp] theorem Dev.setWord_boot (a : Nat) (v : Word) : (d.setWord a v).boot = d.boot := rfl
@[simp] theorem Dev.setWord_mbus (a : Nat) (v : Word) : (d.setWord a v).mbus = d.mbus := rfl
@[simp] theorem Dev.setWord_host (a : Nat) (v : Word) : (d.setWord a v).host = d.host := rfl
@[simp] theorem Dev.setWord_otp (a : Nat) (v : Word) : (d.setWord a v).otp = d.otp := rfl
@[simp] theorem Dev.setWord_nvm (a : Nat) (v : Word) : (d.setWord a v).nvm = d.nvm := rfl
@[simp] theorem Dev.setWord_torn (a : Nat) (v : Word) : (d.setWord a v).torn = d.torn := rfl
@[simp] theorem Dev.setWord_cycles (a : Nat) (v : Word) : (d.setWord a v).cycles = d.cycles := rfl
@[simp] theorem Dev.setWord_draws (a : Nat) (v : Word) : (d.setWord a v).draws = d.draws := rfl
@[simp] theorem Dev.setWord_cyc (a : Nat) (v : Word) : (d.setWord a v).cyc = d.cyc := rfl
@[simp] theorem Dev.setWord_raised (a : Nat) (v : Word) : (d.setWord a v).raised = d.raised := rfl

@[simp] theorem Dev.put_sup (f : Fld) (v : Nat) : (d.put f v).sup = d.sup := rfl
@[simp] theorem Dev.put_ridge (f : Fld) (v : Nat) : (d.put f v).ridge = d.ridge := rfl
@[simp] theorem Dev.put_pwm (f : Fld) (v : Nat) : (d.put f v).pwm = d.pwm := rfl
@[simp] theorem Dev.put_sense (f : Fld) (v : Nat) : (d.put f v).sense = d.sense := rfl
@[simp] theorem Dev.put_rafter (f : Fld) (v : Nat) : (d.put f v).rafter = d.rafter := rfl
@[simp] theorem Dev.put_stages (f : Fld) (v : Nat) : (d.put f v).stages = d.stages := rfl
@[simp] theorem Dev.put_twin (f : Fld) (v : Nat) : (d.put f v).twin = d.twin := rfl
@[simp] theorem Dev.put_coord (f : Fld) (v : Nat) : (d.put f v).coord = d.coord := rfl
@[simp] theorem Dev.put_net (f : Fld) (v : Nat) : (d.put f v).net = d.net := rfl
@[simp] theorem Dev.put_branches (f : Fld) (v : Nat) : (d.put f v).branches = d.branches := rfl
@[simp] theorem Dev.put_shelf (f : Fld) (v : Nat) : (d.put f v).shelf = d.shelf := rfl
@[simp] theorem Dev.put_batten (f : Fld) (v : Nat) : (d.put f v).batten = d.batten := rfl
@[simp] theorem Dev.put_seq (f : Fld) (v : Nat) : (d.put f v).seq = d.seq := rfl
@[simp] theorem Dev.put_strings (f : Fld) (v : Nat) : (d.put f v).strings = d.strings := rfl
@[simp] theorem Dev.put_therm (f : Fld) (v : Nat) : (d.put f v).therm = d.therm := rfl
@[simp] theorem Dev.put_gut (f : Fld) (v : Nat) : (d.put f v).gut = d.gut := rfl
@[simp] theorem Dev.put_thatch (f : Fld) (v : Nat) : (d.put f v).thatch = d.thatch := rfl
@[simp] theorem Dev.put_boot (f : Fld) (v : Nat) : (d.put f v).boot = d.boot := rfl
@[simp] theorem Dev.put_mbus (f : Fld) (v : Nat) : (d.put f v).mbus = d.mbus := rfl
@[simp] theorem Dev.put_host (f : Fld) (v : Nat) : (d.put f v).host = d.host := rfl
@[simp] theorem Dev.put_otp (f : Fld) (v : Nat) : (d.put f v).otp = d.otp := rfl
@[simp] theorem Dev.put_nvm (f : Fld) (v : Nat) : (d.put f v).nvm = d.nvm := rfl
@[simp] theorem Dev.put_torn (f : Fld) (v : Nat) : (d.put f v).torn = d.torn := rfl
@[simp] theorem Dev.put_cycles (f : Fld) (v : Nat) : (d.put f v).cycles = d.cycles := rfl
@[simp] theorem Dev.put_draws (f : Fld) (v : Nat) : (d.put f v).draws = d.draws := rfl
@[simp] theorem Dev.put_cyc (f : Fld) (v : Nat) : (d.put f v).cyc = d.cyc := rfl
@[simp] theorem Dev.put_raised (f : Fld) (v : Nat) : (d.put f v).raised = d.raised := rfl

@[simp] theorem Dev.putB_sup (f : Fld) (b : Bool) : (d.putB f b).sup = d.sup := rfl
@[simp] theorem Dev.putB_ridge (f : Fld) (b : Bool) : (d.putB f b).ridge = d.ridge := rfl
@[simp] theorem Dev.putB_pwm (f : Fld) (b : Bool) : (d.putB f b).pwm = d.pwm := rfl
@[simp] theorem Dev.putB_sense (f : Fld) (b : Bool) : (d.putB f b).sense = d.sense := rfl
@[simp] theorem Dev.putB_rafter (f : Fld) (b : Bool) : (d.putB f b).rafter = d.rafter := rfl
@[simp] theorem Dev.putB_stages (f : Fld) (b : Bool) : (d.putB f b).stages = d.stages := rfl
@[simp] theorem Dev.putB_twin (f : Fld) (b : Bool) : (d.putB f b).twin = d.twin := rfl
@[simp] theorem Dev.putB_coord (f : Fld) (b : Bool) : (d.putB f b).coord = d.coord := rfl
@[simp] theorem Dev.putB_net (f : Fld) (b : Bool) : (d.putB f b).net = d.net := rfl
@[simp] theorem Dev.putB_branches (f : Fld) (b : Bool) : (d.putB f b).branches = d.branches := rfl
@[simp] theorem Dev.putB_shelf (f : Fld) (b : Bool) : (d.putB f b).shelf = d.shelf := rfl
@[simp] theorem Dev.putB_batten (f : Fld) (b : Bool) : (d.putB f b).batten = d.batten := rfl
@[simp] theorem Dev.putB_seq (f : Fld) (b : Bool) : (d.putB f b).seq = d.seq := rfl
@[simp] theorem Dev.putB_strings (f : Fld) (b : Bool) : (d.putB f b).strings = d.strings := rfl
@[simp] theorem Dev.putB_therm (f : Fld) (b : Bool) : (d.putB f b).therm = d.therm := rfl
@[simp] theorem Dev.putB_gut (f : Fld) (b : Bool) : (d.putB f b).gut = d.gut := rfl
@[simp] theorem Dev.putB_thatch (f : Fld) (b : Bool) : (d.putB f b).thatch = d.thatch := rfl
@[simp] theorem Dev.putB_boot (f : Fld) (b : Bool) : (d.putB f b).boot = d.boot := rfl
@[simp] theorem Dev.putB_mbus (f : Fld) (b : Bool) : (d.putB f b).mbus = d.mbus := rfl
@[simp] theorem Dev.putB_host (f : Fld) (b : Bool) : (d.putB f b).host = d.host := rfl
@[simp] theorem Dev.putB_otp (f : Fld) (b : Bool) : (d.putB f b).otp = d.otp := rfl
@[simp] theorem Dev.putB_nvm (f : Fld) (b : Bool) : (d.putB f b).nvm = d.nvm := rfl
@[simp] theorem Dev.putB_torn (f : Fld) (b : Bool) : (d.putB f b).torn = d.torn := rfl
@[simp] theorem Dev.putB_cycles (f : Fld) (b : Bool) : (d.putB f b).cycles = d.cycles := rfl
@[simp] theorem Dev.putB_draws (f : Fld) (b : Bool) : (d.putB f b).draws = d.draws := rfl
@[simp] theorem Dev.putB_cyc (f : Fld) (b : Bool) : (d.putB f b).cyc = d.cyc := rfl
@[simp] theorem Dev.putB_raised (f : Fld) (b : Bool) : (d.putB f b).raised = d.raised := rfl

@[simp] theorem Dev.putS_sup (f : Fld) (v : Int) : (d.putS f v).sup = d.sup := rfl
@[simp] theorem Dev.putS_ridge (f : Fld) (v : Int) : (d.putS f v).ridge = d.ridge := rfl
@[simp] theorem Dev.putS_pwm (f : Fld) (v : Int) : (d.putS f v).pwm = d.pwm := rfl
@[simp] theorem Dev.putS_sense (f : Fld) (v : Int) : (d.putS f v).sense = d.sense := rfl
@[simp] theorem Dev.putS_rafter (f : Fld) (v : Int) : (d.putS f v).rafter = d.rafter := rfl
@[simp] theorem Dev.putS_stages (f : Fld) (v : Int) : (d.putS f v).stages = d.stages := rfl
@[simp] theorem Dev.putS_twin (f : Fld) (v : Int) : (d.putS f v).twin = d.twin := rfl
@[simp] theorem Dev.putS_coord (f : Fld) (v : Int) : (d.putS f v).coord = d.coord := rfl
@[simp] theorem Dev.putS_net (f : Fld) (v : Int) : (d.putS f v).net = d.net := rfl
@[simp] theorem Dev.putS_branches (f : Fld) (v : Int) : (d.putS f v).branches = d.branches := rfl
@[simp] theorem Dev.putS_shelf (f : Fld) (v : Int) : (d.putS f v).shelf = d.shelf := rfl
@[simp] theorem Dev.putS_batten (f : Fld) (v : Int) : (d.putS f v).batten = d.batten := rfl
@[simp] theorem Dev.putS_seq (f : Fld) (v : Int) : (d.putS f v).seq = d.seq := rfl
@[simp] theorem Dev.putS_strings (f : Fld) (v : Int) : (d.putS f v).strings = d.strings := rfl
@[simp] theorem Dev.putS_therm (f : Fld) (v : Int) : (d.putS f v).therm = d.therm := rfl
@[simp] theorem Dev.putS_gut (f : Fld) (v : Int) : (d.putS f v).gut = d.gut := rfl
@[simp] theorem Dev.putS_thatch (f : Fld) (v : Int) : (d.putS f v).thatch = d.thatch := rfl
@[simp] theorem Dev.putS_boot (f : Fld) (v : Int) : (d.putS f v).boot = d.boot := rfl
@[simp] theorem Dev.putS_mbus (f : Fld) (v : Int) : (d.putS f v).mbus = d.mbus := rfl
@[simp] theorem Dev.putS_host (f : Fld) (v : Int) : (d.putS f v).host = d.host := rfl
@[simp] theorem Dev.putS_otp (f : Fld) (v : Int) : (d.putS f v).otp = d.otp := rfl
@[simp] theorem Dev.putS_nvm (f : Fld) (v : Int) : (d.putS f v).nvm = d.nvm := rfl
@[simp] theorem Dev.putS_torn (f : Fld) (v : Int) : (d.putS f v).torn = d.torn := rfl
@[simp] theorem Dev.putS_cycles (f : Fld) (v : Int) : (d.putS f v).cycles = d.cycles := rfl
@[simp] theorem Dev.putS_draws (f : Fld) (v : Int) : (d.putS f v).draws = d.draws := rfl
@[simp] theorem Dev.putS_cyc (f : Fld) (v : Int) : (d.putS f v).cyc = d.cyc := rfl
@[simp] theorem Dev.putS_raised (f : Fld) (v : Int) : (d.putS f v).raised = d.raised := rfl

@[simp] theorem Dev.set1_sup (f : Fld) : (d.set1 f).sup = d.sup := rfl
@[simp] theorem Dev.set1_ridge (f : Fld) : (d.set1 f).ridge = d.ridge := rfl
@[simp] theorem Dev.set1_pwm (f : Fld) : (d.set1 f).pwm = d.pwm := rfl
@[simp] theorem Dev.set1_sense (f : Fld) : (d.set1 f).sense = d.sense := rfl
@[simp] theorem Dev.set1_rafter (f : Fld) : (d.set1 f).rafter = d.rafter := rfl
@[simp] theorem Dev.set1_stages (f : Fld) : (d.set1 f).stages = d.stages := rfl
@[simp] theorem Dev.set1_twin (f : Fld) : (d.set1 f).twin = d.twin := rfl
@[simp] theorem Dev.set1_coord (f : Fld) : (d.set1 f).coord = d.coord := rfl
@[simp] theorem Dev.set1_net (f : Fld) : (d.set1 f).net = d.net := rfl
@[simp] theorem Dev.set1_branches (f : Fld) : (d.set1 f).branches = d.branches := rfl
@[simp] theorem Dev.set1_shelf (f : Fld) : (d.set1 f).shelf = d.shelf := rfl
@[simp] theorem Dev.set1_batten (f : Fld) : (d.set1 f).batten = d.batten := rfl
@[simp] theorem Dev.set1_seq (f : Fld) : (d.set1 f).seq = d.seq := rfl
@[simp] theorem Dev.set1_strings (f : Fld) : (d.set1 f).strings = d.strings := rfl
@[simp] theorem Dev.set1_therm (f : Fld) : (d.set1 f).therm = d.therm := rfl
@[simp] theorem Dev.set1_gut (f : Fld) : (d.set1 f).gut = d.gut := rfl
@[simp] theorem Dev.set1_thatch (f : Fld) : (d.set1 f).thatch = d.thatch := rfl
@[simp] theorem Dev.set1_boot (f : Fld) : (d.set1 f).boot = d.boot := rfl
@[simp] theorem Dev.set1_mbus (f : Fld) : (d.set1 f).mbus = d.mbus := rfl
@[simp] theorem Dev.set1_host (f : Fld) : (d.set1 f).host = d.host := rfl
@[simp] theorem Dev.set1_otp (f : Fld) : (d.set1 f).otp = d.otp := rfl
@[simp] theorem Dev.set1_nvm (f : Fld) : (d.set1 f).nvm = d.nvm := rfl
@[simp] theorem Dev.set1_torn (f : Fld) : (d.set1 f).torn = d.torn := rfl
@[simp] theorem Dev.set1_cycles (f : Fld) : (d.set1 f).cycles = d.cycles := rfl
@[simp] theorem Dev.set1_draws (f : Fld) : (d.set1 f).draws = d.draws := rfl
@[simp] theorem Dev.set1_cyc (f : Fld) : (d.set1 f).cyc = (d.noteSet f).cyc := rfl
@[simp] theorem Dev.set1_raised (f : Fld) : (d.set1 f).raised = d.raised := rfl

@[simp] theorem Dev.clr_sup (f : Fld) : (d.clr f).sup = d.sup := rfl
@[simp] theorem Dev.clr_ridge (f : Fld) : (d.clr f).ridge = d.ridge := rfl
@[simp] theorem Dev.clr_pwm (f : Fld) : (d.clr f).pwm = d.pwm := rfl
@[simp] theorem Dev.clr_sense (f : Fld) : (d.clr f).sense = d.sense := rfl
@[simp] theorem Dev.clr_rafter (f : Fld) : (d.clr f).rafter = d.rafter := rfl
@[simp] theorem Dev.clr_stages (f : Fld) : (d.clr f).stages = d.stages := rfl
@[simp] theorem Dev.clr_twin (f : Fld) : (d.clr f).twin = d.twin := rfl
@[simp] theorem Dev.clr_coord (f : Fld) : (d.clr f).coord = d.coord := rfl
@[simp] theorem Dev.clr_net (f : Fld) : (d.clr f).net = d.net := rfl
@[simp] theorem Dev.clr_branches (f : Fld) : (d.clr f).branches = d.branches := rfl
@[simp] theorem Dev.clr_shelf (f : Fld) : (d.clr f).shelf = d.shelf := rfl
@[simp] theorem Dev.clr_batten (f : Fld) : (d.clr f).batten = d.batten := rfl
@[simp] theorem Dev.clr_seq (f : Fld) : (d.clr f).seq = d.seq := rfl
@[simp] theorem Dev.clr_strings (f : Fld) : (d.clr f).strings = d.strings := rfl
@[simp] theorem Dev.clr_therm (f : Fld) : (d.clr f).therm = d.therm := rfl
@[simp] theorem Dev.clr_gut (f : Fld) : (d.clr f).gut = d.gut := rfl
@[simp] theorem Dev.clr_thatch (f : Fld) : (d.clr f).thatch = d.thatch := rfl
@[simp] theorem Dev.clr_boot (f : Fld) : (d.clr f).boot = d.boot := rfl
@[simp] theorem Dev.clr_mbus (f : Fld) : (d.clr f).mbus = d.mbus := rfl
@[simp] theorem Dev.clr_host (f : Fld) : (d.clr f).host = d.host := rfl
@[simp] theorem Dev.clr_otp (f : Fld) : (d.clr f).otp = d.otp := rfl
@[simp] theorem Dev.clr_nvm (f : Fld) : (d.clr f).nvm = d.nvm := rfl
@[simp] theorem Dev.clr_torn (f : Fld) : (d.clr f).torn = d.torn := rfl
@[simp] theorem Dev.clr_cycles (f : Fld) : (d.clr f).cycles = d.cycles := rfl
@[simp] theorem Dev.clr_draws (f : Fld) : (d.clr f).draws = d.draws := rfl
@[simp] theorem Dev.clr_cyc (f : Fld) : (d.clr f).cyc = d.cyc := rfl
@[simp] theorem Dev.clr_raised (f : Fld) : (d.clr f).raised = d.raised := rfl

@[simp] theorem Dev.putCode_sup (f : Fld) (c : Code) : (d.putCode f c).sup = d.sup := rfl
@[simp] theorem Dev.putCode_ridge (f : Fld) (c : Code) : (d.putCode f c).ridge = d.ridge := rfl
@[simp] theorem Dev.putCode_pwm (f : Fld) (c : Code) : (d.putCode f c).pwm = d.pwm := rfl
@[simp] theorem Dev.putCode_sense (f : Fld) (c : Code) : (d.putCode f c).sense = d.sense := rfl
@[simp] theorem Dev.putCode_rafter (f : Fld) (c : Code) : (d.putCode f c).rafter = d.rafter := rfl
@[simp] theorem Dev.putCode_stages (f : Fld) (c : Code) : (d.putCode f c).stages = d.stages := rfl
@[simp] theorem Dev.putCode_twin (f : Fld) (c : Code) : (d.putCode f c).twin = d.twin := rfl
@[simp] theorem Dev.putCode_coord (f : Fld) (c : Code) : (d.putCode f c).coord = d.coord := rfl
@[simp] theorem Dev.putCode_net (f : Fld) (c : Code) : (d.putCode f c).net = d.net := rfl
@[simp] theorem Dev.putCode_branches (f : Fld) (c : Code) : (d.putCode f c).branches = d.branches := rfl
@[simp] theorem Dev.putCode_shelf (f : Fld) (c : Code) : (d.putCode f c).shelf = d.shelf := rfl
@[simp] theorem Dev.putCode_batten (f : Fld) (c : Code) : (d.putCode f c).batten = d.batten := rfl
@[simp] theorem Dev.putCode_seq (f : Fld) (c : Code) : (d.putCode f c).seq = d.seq := rfl
@[simp] theorem Dev.putCode_strings (f : Fld) (c : Code) : (d.putCode f c).strings = d.strings := rfl
@[simp] theorem Dev.putCode_therm (f : Fld) (c : Code) : (d.putCode f c).therm = d.therm := rfl
@[simp] theorem Dev.putCode_gut (f : Fld) (c : Code) : (d.putCode f c).gut = d.gut := rfl
@[simp] theorem Dev.putCode_thatch (f : Fld) (c : Code) : (d.putCode f c).thatch = d.thatch := rfl
@[simp] theorem Dev.putCode_boot (f : Fld) (c : Code) : (d.putCode f c).boot = d.boot := rfl
@[simp] theorem Dev.putCode_mbus (f : Fld) (c : Code) : (d.putCode f c).mbus = d.mbus := rfl
@[simp] theorem Dev.putCode_host (f : Fld) (c : Code) : (d.putCode f c).host = d.host := rfl
@[simp] theorem Dev.putCode_otp (f : Fld) (c : Code) : (d.putCode f c).otp = d.otp := rfl
@[simp] theorem Dev.putCode_nvm (f : Fld) (c : Code) : (d.putCode f c).nvm = d.nvm := rfl
@[simp] theorem Dev.putCode_torn (f : Fld) (c : Code) : (d.putCode f c).torn = d.torn := rfl
@[simp] theorem Dev.putCode_cycles (f : Fld) (c : Code) : (d.putCode f c).cycles = d.cycles := rfl
@[simp] theorem Dev.putCode_draws (f : Fld) (c : Code) : (d.putCode f c).draws = d.draws := rfl
@[simp] theorem Dev.putCode_cyc (f : Fld) (c : Code) : (d.putCode f c).cyc = d.cyc := rfl
@[simp] theorem Dev.putCode_raised (f : Fld) (c : Code) : (d.putCode f c).raised = d.raised := rfl

@[simp] theorem Dev.bump_sup (f : Fld) (k : Nat) : (d.bump f k).sup = d.sup := rfl
@[simp] theorem Dev.bump_ridge (f : Fld) (k : Nat) : (d.bump f k).ridge = d.ridge := rfl
@[simp] theorem Dev.bump_pwm (f : Fld) (k : Nat) : (d.bump f k).pwm = d.pwm := rfl
@[simp] theorem Dev.bump_sense (f : Fld) (k : Nat) : (d.bump f k).sense = d.sense := rfl
@[simp] theorem Dev.bump_rafter (f : Fld) (k : Nat) : (d.bump f k).rafter = d.rafter := rfl
@[simp] theorem Dev.bump_stages (f : Fld) (k : Nat) : (d.bump f k).stages = d.stages := rfl
@[simp] theorem Dev.bump_twin (f : Fld) (k : Nat) : (d.bump f k).twin = d.twin := rfl
@[simp] theorem Dev.bump_coord (f : Fld) (k : Nat) : (d.bump f k).coord = d.coord := rfl
@[simp] theorem Dev.bump_net (f : Fld) (k : Nat) : (d.bump f k).net = d.net := rfl
@[simp] theorem Dev.bump_branches (f : Fld) (k : Nat) : (d.bump f k).branches = d.branches := rfl
@[simp] theorem Dev.bump_shelf (f : Fld) (k : Nat) : (d.bump f k).shelf = d.shelf := rfl
@[simp] theorem Dev.bump_batten (f : Fld) (k : Nat) : (d.bump f k).batten = d.batten := rfl
@[simp] theorem Dev.bump_seq (f : Fld) (k : Nat) : (d.bump f k).seq = d.seq := rfl
@[simp] theorem Dev.bump_strings (f : Fld) (k : Nat) : (d.bump f k).strings = d.strings := rfl
@[simp] theorem Dev.bump_therm (f : Fld) (k : Nat) : (d.bump f k).therm = d.therm := rfl
@[simp] theorem Dev.bump_gut (f : Fld) (k : Nat) : (d.bump f k).gut = d.gut := rfl
@[simp] theorem Dev.bump_thatch (f : Fld) (k : Nat) : (d.bump f k).thatch = d.thatch := rfl
@[simp] theorem Dev.bump_boot (f : Fld) (k : Nat) : (d.bump f k).boot = d.boot := rfl
@[simp] theorem Dev.bump_mbus (f : Fld) (k : Nat) : (d.bump f k).mbus = d.mbus := rfl
@[simp] theorem Dev.bump_host (f : Fld) (k : Nat) : (d.bump f k).host = d.host := rfl
@[simp] theorem Dev.bump_otp (f : Fld) (k : Nat) : (d.bump f k).otp = d.otp := rfl
@[simp] theorem Dev.bump_nvm (f : Fld) (k : Nat) : (d.bump f k).nvm = d.nvm := rfl
@[simp] theorem Dev.bump_torn (f : Fld) (k : Nat) : (d.bump f k).torn = d.torn := rfl
@[simp] theorem Dev.bump_cycles (f : Fld) (k : Nat) : (d.bump f k).cycles = d.cycles := rfl
@[simp] theorem Dev.bump_draws (f : Fld) (k : Nat) : (d.bump f k).draws = d.draws := rfl
@[simp] theorem Dev.bump_cyc (f : Fld) (k : Nat) : (d.bump f k).cyc =
    (d.noteAs f (min (fieldOf (d.setsNow f.addr) f.lo f.w + k) (2 ^ f.w - 1))).cyc := rfl
@[simp] theorem Dev.bump_raised (f : Fld) (k : Nat) : (d.bump f k).raised = d.raised := rfl

@[simp] theorem Dev.putMax_sup (f : Fld) (v : Nat) : (d.putMax f v).sup = d.sup := rfl
@[simp] theorem Dev.putMax_ridge (f : Fld) (v : Nat) : (d.putMax f v).ridge = d.ridge := rfl
@[simp] theorem Dev.putMax_pwm (f : Fld) (v : Nat) : (d.putMax f v).pwm = d.pwm := rfl
@[simp] theorem Dev.putMax_sense (f : Fld) (v : Nat) : (d.putMax f v).sense = d.sense := rfl
@[simp] theorem Dev.putMax_rafter (f : Fld) (v : Nat) : (d.putMax f v).rafter = d.rafter := rfl
@[simp] theorem Dev.putMax_stages (f : Fld) (v : Nat) : (d.putMax f v).stages = d.stages := rfl
@[simp] theorem Dev.putMax_twin (f : Fld) (v : Nat) : (d.putMax f v).twin = d.twin := rfl
@[simp] theorem Dev.putMax_coord (f : Fld) (v : Nat) : (d.putMax f v).coord = d.coord := rfl
@[simp] theorem Dev.putMax_net (f : Fld) (v : Nat) : (d.putMax f v).net = d.net := rfl
@[simp] theorem Dev.putMax_branches (f : Fld) (v : Nat) : (d.putMax f v).branches = d.branches := rfl
@[simp] theorem Dev.putMax_shelf (f : Fld) (v : Nat) : (d.putMax f v).shelf = d.shelf := rfl
@[simp] theorem Dev.putMax_batten (f : Fld) (v : Nat) : (d.putMax f v).batten = d.batten := rfl
@[simp] theorem Dev.putMax_seq (f : Fld) (v : Nat) : (d.putMax f v).seq = d.seq := rfl
@[simp] theorem Dev.putMax_strings (f : Fld) (v : Nat) : (d.putMax f v).strings = d.strings := rfl
@[simp] theorem Dev.putMax_therm (f : Fld) (v : Nat) : (d.putMax f v).therm = d.therm := rfl
@[simp] theorem Dev.putMax_gut (f : Fld) (v : Nat) : (d.putMax f v).gut = d.gut := rfl
@[simp] theorem Dev.putMax_thatch (f : Fld) (v : Nat) : (d.putMax f v).thatch = d.thatch := rfl
@[simp] theorem Dev.putMax_boot (f : Fld) (v : Nat) : (d.putMax f v).boot = d.boot := rfl
@[simp] theorem Dev.putMax_mbus (f : Fld) (v : Nat) : (d.putMax f v).mbus = d.mbus := rfl
@[simp] theorem Dev.putMax_host (f : Fld) (v : Nat) : (d.putMax f v).host = d.host := rfl
@[simp] theorem Dev.putMax_otp (f : Fld) (v : Nat) : (d.putMax f v).otp = d.otp := rfl
@[simp] theorem Dev.putMax_nvm (f : Fld) (v : Nat) : (d.putMax f v).nvm = d.nvm := rfl
@[simp] theorem Dev.putMax_torn (f : Fld) (v : Nat) : (d.putMax f v).torn = d.torn := rfl
@[simp] theorem Dev.putMax_cycles (f : Fld) (v : Nat) : (d.putMax f v).cycles = d.cycles := rfl
@[simp] theorem Dev.putMax_draws (f : Fld) (v : Nat) : (d.putMax f v).draws = d.draws := rfl
@[simp] theorem Dev.putMax_cyc (f : Fld) (v : Nat) : (d.putMax f v).cyc =
    (d.noteAs f (max (fieldOf (d.setsNow f.addr) f.lo f.w) (min v (2 ^ f.w - 1)))).cyc := rfl
@[simp] theorem Dev.putMax_raised (f : Fld) (v : Nat) : (d.putMax f v).raised = d.raised := rfl

@[simp] theorem Dev.setMode_sup (m : Mode) : (d.setMode m).sup = d.sup := rfl
@[simp] theorem Dev.setMode_ridge (m : Mode) : (d.setMode m).ridge = d.ridge := rfl
@[simp] theorem Dev.setMode_pwm (m : Mode) : (d.setMode m).pwm = d.pwm := rfl
@[simp] theorem Dev.setMode_sense (m : Mode) : (d.setMode m).sense = d.sense := rfl
@[simp] theorem Dev.setMode_rafter (m : Mode) : (d.setMode m).rafter = d.rafter := rfl
@[simp] theorem Dev.setMode_stages (m : Mode) : (d.setMode m).stages = d.stages := rfl
@[simp] theorem Dev.setMode_twin (m : Mode) : (d.setMode m).twin = d.twin := rfl
@[simp] theorem Dev.setMode_coord (m : Mode) : (d.setMode m).coord = d.coord := rfl
@[simp] theorem Dev.setMode_net (m : Mode) : (d.setMode m).net = d.net := rfl
@[simp] theorem Dev.setMode_branches (m : Mode) : (d.setMode m).branches = d.branches := rfl
@[simp] theorem Dev.setMode_shelf (m : Mode) : (d.setMode m).shelf = d.shelf := rfl
@[simp] theorem Dev.setMode_batten (m : Mode) : (d.setMode m).batten = d.batten := rfl
@[simp] theorem Dev.setMode_seq (m : Mode) : (d.setMode m).seq = d.seq := rfl
@[simp] theorem Dev.setMode_strings (m : Mode) : (d.setMode m).strings = d.strings := rfl
@[simp] theorem Dev.setMode_therm (m : Mode) : (d.setMode m).therm = d.therm := rfl
@[simp] theorem Dev.setMode_gut (m : Mode) : (d.setMode m).gut = d.gut := rfl
@[simp] theorem Dev.setMode_thatch (m : Mode) : (d.setMode m).thatch = d.thatch := rfl
@[simp] theorem Dev.setMode_boot (m : Mode) : (d.setMode m).boot = d.boot := rfl
@[simp] theorem Dev.setMode_mbus (m : Mode) : (d.setMode m).mbus = d.mbus := rfl
@[simp] theorem Dev.setMode_host (m : Mode) : (d.setMode m).host = d.host := rfl
@[simp] theorem Dev.setMode_otp (m : Mode) : (d.setMode m).otp = d.otp := rfl
@[simp] theorem Dev.setMode_nvm (m : Mode) : (d.setMode m).nvm = d.nvm := rfl
@[simp] theorem Dev.setMode_torn (m : Mode) : (d.setMode m).torn = d.torn := rfl
@[simp] theorem Dev.setMode_cycles (m : Mode) : (d.setMode m).cycles = d.cycles := rfl
@[simp] theorem Dev.setMode_draws (m : Mode) : (d.setMode m).draws = d.draws := rfl
@[simp] theorem Dev.setMode_cyc (m : Mode) : (d.setMode m).cyc = d.cyc := rfl
@[simp] theorem Dev.setMode_raised (m : Mode) : (d.setMode m).raised = d.raised := rfl

/-! ## Updates of the blocks -/

@[simp] theorem Dev.modSup_regs (f : Supply → Supply) : (d.modSup f).regs = d.regs := rfl
@[simp] theorem Dev.modSup_ridge (f : Supply → Supply) : (d.modSup f).ridge = d.ridge := rfl
@[simp] theorem Dev.modSup_pwm (f : Supply → Supply) : (d.modSup f).pwm = d.pwm := rfl
@[simp] theorem Dev.modSup_sense (f : Supply → Supply) : (d.modSup f).sense = d.sense := rfl
@[simp] theorem Dev.modSup_rafter (f : Supply → Supply) : (d.modSup f).rafter = d.rafter := rfl
@[simp] theorem Dev.modSup_stages (f : Supply → Supply) : (d.modSup f).stages = d.stages := rfl
@[simp] theorem Dev.modSup_twin (f : Supply → Supply) : (d.modSup f).twin = d.twin := rfl
@[simp] theorem Dev.modSup_coord (f : Supply → Supply) : (d.modSup f).coord = d.coord := rfl
@[simp] theorem Dev.modSup_net (f : Supply → Supply) : (d.modSup f).net = d.net := rfl
@[simp] theorem Dev.modSup_branches (f : Supply → Supply) : (d.modSup f).branches = d.branches := rfl
@[simp] theorem Dev.modSup_shelf (f : Supply → Supply) : (d.modSup f).shelf = d.shelf := rfl
@[simp] theorem Dev.modSup_batten (f : Supply → Supply) : (d.modSup f).batten = d.batten := rfl
@[simp] theorem Dev.modSup_seq (f : Supply → Supply) : (d.modSup f).seq = d.seq := rfl
@[simp] theorem Dev.modSup_strings (f : Supply → Supply) : (d.modSup f).strings = d.strings := rfl
@[simp] theorem Dev.modSup_therm (f : Supply → Supply) : (d.modSup f).therm = d.therm := rfl
@[simp] theorem Dev.modSup_gut (f : Supply → Supply) : (d.modSup f).gut = d.gut := rfl
@[simp] theorem Dev.modSup_thatch (f : Supply → Supply) : (d.modSup f).thatch = d.thatch := rfl
@[simp] theorem Dev.modSup_boot (f : Supply → Supply) : (d.modSup f).boot = d.boot := rfl
@[simp] theorem Dev.modSup_mbus (f : Supply → Supply) : (d.modSup f).mbus = d.mbus := rfl
@[simp] theorem Dev.modSup_host (f : Supply → Supply) : (d.modSup f).host = d.host := rfl
@[simp] theorem Dev.modSup_otp (f : Supply → Supply) : (d.modSup f).otp = d.otp := rfl
@[simp] theorem Dev.modSup_nvm (f : Supply → Supply) : (d.modSup f).nvm = d.nvm := rfl
@[simp] theorem Dev.modSup_torn (f : Supply → Supply) : (d.modSup f).torn = d.torn := rfl
@[simp] theorem Dev.modSup_cycles (f : Supply → Supply) : (d.modSup f).cycles = d.cycles := rfl
@[simp] theorem Dev.modSup_draws (f : Supply → Supply) : (d.modSup f).draws = d.draws := rfl
@[simp] theorem Dev.modSup_cyc (f : Supply → Supply) : (d.modSup f).cyc = d.cyc := rfl
@[simp] theorem Dev.modSup_raised (f : Supply → Supply) : (d.modSup f).raised = d.raised := rfl
@[simp] theorem Dev.modSup_word (f : Supply → Supply) (a' : Nat) : (d.modSup f).word a' = d.word a' := rfl
@[simp] theorem Dev.modSup_get (f : Supply → Supply) (g : Fld) : (d.modSup f).get g = d.get g := rfl
@[simp] theorem Dev.modSup_on (f : Supply → Supply) (g : Fld) : (d.modSup f).on g = d.on g := rfl
@[simp] theorem Dev.modSup_mode (f : Supply → Supply) : (d.modSup f).mode = d.mode := rfl
@[simp] theorem Dev.modSup_sup (f : Supply → Supply) : (d.modSup f).sup = f d.sup := rfl

@[simp] theorem Dev.modChan_regs (n : Nat) (f : Chan → Chan) : (d.modChan n f).regs = d.regs := rfl
@[simp] theorem Dev.modChan_sup (n : Nat) (f : Chan → Chan) : (d.modChan n f).sup = d.sup := rfl
@[simp] theorem Dev.modChan_ridge (n : Nat) (f : Chan → Chan) : (d.modChan n f).ridge = d.ridge := rfl
@[simp] theorem Dev.modChan_sense (n : Nat) (f : Chan → Chan) : (d.modChan n f).sense = d.sense := rfl
@[simp] theorem Dev.modChan_rafter (n : Nat) (f : Chan → Chan) : (d.modChan n f).rafter = d.rafter := rfl
@[simp] theorem Dev.modChan_stages (n : Nat) (f : Chan → Chan) : (d.modChan n f).stages = d.stages := rfl
@[simp] theorem Dev.modChan_twin (n : Nat) (f : Chan → Chan) : (d.modChan n f).twin = d.twin := rfl
@[simp] theorem Dev.modChan_coord (n : Nat) (f : Chan → Chan) : (d.modChan n f).coord = d.coord := rfl
@[simp] theorem Dev.modChan_net (n : Nat) (f : Chan → Chan) : (d.modChan n f).net = d.net := rfl
@[simp] theorem Dev.modChan_branches (n : Nat) (f : Chan → Chan) : (d.modChan n f).branches = d.branches := rfl
@[simp] theorem Dev.modChan_shelf (n : Nat) (f : Chan → Chan) : (d.modChan n f).shelf = d.shelf := rfl
@[simp] theorem Dev.modChan_batten (n : Nat) (f : Chan → Chan) : (d.modChan n f).batten = d.batten := rfl
@[simp] theorem Dev.modChan_seq (n : Nat) (f : Chan → Chan) : (d.modChan n f).seq = d.seq := rfl
@[simp] theorem Dev.modChan_strings (n : Nat) (f : Chan → Chan) : (d.modChan n f).strings = d.strings := rfl
@[simp] theorem Dev.modChan_therm (n : Nat) (f : Chan → Chan) : (d.modChan n f).therm = d.therm := rfl
@[simp] theorem Dev.modChan_gut (n : Nat) (f : Chan → Chan) : (d.modChan n f).gut = d.gut := rfl
@[simp] theorem Dev.modChan_thatch (n : Nat) (f : Chan → Chan) : (d.modChan n f).thatch = d.thatch := rfl
@[simp] theorem Dev.modChan_boot (n : Nat) (f : Chan → Chan) : (d.modChan n f).boot = d.boot := rfl
@[simp] theorem Dev.modChan_mbus (n : Nat) (f : Chan → Chan) : (d.modChan n f).mbus = d.mbus := rfl
@[simp] theorem Dev.modChan_host (n : Nat) (f : Chan → Chan) : (d.modChan n f).host = d.host := rfl
@[simp] theorem Dev.modChan_otp (n : Nat) (f : Chan → Chan) : (d.modChan n f).otp = d.otp := rfl
@[simp] theorem Dev.modChan_nvm (n : Nat) (f : Chan → Chan) : (d.modChan n f).nvm = d.nvm := rfl
@[simp] theorem Dev.modChan_torn (n : Nat) (f : Chan → Chan) : (d.modChan n f).torn = d.torn := rfl
@[simp] theorem Dev.modChan_cycles (n : Nat) (f : Chan → Chan) : (d.modChan n f).cycles = d.cycles := rfl
@[simp] theorem Dev.modChan_draws (n : Nat) (f : Chan → Chan) : (d.modChan n f).draws = d.draws := rfl
@[simp] theorem Dev.modChan_cyc (n : Nat) (f : Chan → Chan) : (d.modChan n f).cyc = d.cyc := rfl
@[simp] theorem Dev.modChan_raised (n : Nat) (f : Chan → Chan) : (d.modChan n f).raised = d.raised := rfl
@[simp] theorem Dev.modChan_word (n : Nat) (f : Chan → Chan) (a' : Nat) : (d.modChan n f).word a' = d.word a' := rfl
@[simp] theorem Dev.modChan_get (n : Nat) (f : Chan → Chan) (g : Fld) : (d.modChan n f).get g = d.get g := rfl
@[simp] theorem Dev.modChan_on (n : Nat) (f : Chan → Chan) (g : Fld) : (d.modChan n f).on g = d.on g := rfl
@[simp] theorem Dev.modChan_mode (n : Nat) (f : Chan → Chan) : (d.modChan n f).mode = d.mode := rfl

@[simp] theorem Dev.modAin_regs (n : Nat) (f : Ain → Ain) : (d.modAin n f).regs = d.regs := rfl
@[simp] theorem Dev.modAin_sup (n : Nat) (f : Ain → Ain) : (d.modAin n f).sup = d.sup := rfl
@[simp] theorem Dev.modAin_ridge (n : Nat) (f : Ain → Ain) : (d.modAin n f).ridge = d.ridge := rfl
@[simp] theorem Dev.modAin_pwm (n : Nat) (f : Ain → Ain) : (d.modAin n f).pwm = d.pwm := rfl
@[simp] theorem Dev.modAin_rafter (n : Nat) (f : Ain → Ain) : (d.modAin n f).rafter = d.rafter := rfl
@[simp] theorem Dev.modAin_stages (n : Nat) (f : Ain → Ain) : (d.modAin n f).stages = d.stages := rfl
@[simp] theorem Dev.modAin_twin (n : Nat) (f : Ain → Ain) : (d.modAin n f).twin = d.twin := rfl
@[simp] theorem Dev.modAin_coord (n : Nat) (f : Ain → Ain) : (d.modAin n f).coord = d.coord := rfl
@[simp] theorem Dev.modAin_net (n : Nat) (f : Ain → Ain) : (d.modAin n f).net = d.net := rfl
@[simp] theorem Dev.modAin_branches (n : Nat) (f : Ain → Ain) : (d.modAin n f).branches = d.branches := rfl
@[simp] theorem Dev.modAin_shelf (n : Nat) (f : Ain → Ain) : (d.modAin n f).shelf = d.shelf := rfl
@[simp] theorem Dev.modAin_batten (n : Nat) (f : Ain → Ain) : (d.modAin n f).batten = d.batten := rfl
@[simp] theorem Dev.modAin_seq (n : Nat) (f : Ain → Ain) : (d.modAin n f).seq = d.seq := rfl
@[simp] theorem Dev.modAin_strings (n : Nat) (f : Ain → Ain) : (d.modAin n f).strings = d.strings := rfl
@[simp] theorem Dev.modAin_therm (n : Nat) (f : Ain → Ain) : (d.modAin n f).therm = d.therm := rfl
@[simp] theorem Dev.modAin_gut (n : Nat) (f : Ain → Ain) : (d.modAin n f).gut = d.gut := rfl
@[simp] theorem Dev.modAin_thatch (n : Nat) (f : Ain → Ain) : (d.modAin n f).thatch = d.thatch := rfl
@[simp] theorem Dev.modAin_boot (n : Nat) (f : Ain → Ain) : (d.modAin n f).boot = d.boot := rfl
@[simp] theorem Dev.modAin_mbus (n : Nat) (f : Ain → Ain) : (d.modAin n f).mbus = d.mbus := rfl
@[simp] theorem Dev.modAin_host (n : Nat) (f : Ain → Ain) : (d.modAin n f).host = d.host := rfl
@[simp] theorem Dev.modAin_otp (n : Nat) (f : Ain → Ain) : (d.modAin n f).otp = d.otp := rfl
@[simp] theorem Dev.modAin_nvm (n : Nat) (f : Ain → Ain) : (d.modAin n f).nvm = d.nvm := rfl
@[simp] theorem Dev.modAin_torn (n : Nat) (f : Ain → Ain) : (d.modAin n f).torn = d.torn := rfl
@[simp] theorem Dev.modAin_cycles (n : Nat) (f : Ain → Ain) : (d.modAin n f).cycles = d.cycles := rfl
@[simp] theorem Dev.modAin_draws (n : Nat) (f : Ain → Ain) : (d.modAin n f).draws = d.draws := rfl
@[simp] theorem Dev.modAin_cyc (n : Nat) (f : Ain → Ain) : (d.modAin n f).cyc = d.cyc := rfl
@[simp] theorem Dev.modAin_raised (n : Nat) (f : Ain → Ain) : (d.modAin n f).raised = d.raised := rfl
@[simp] theorem Dev.modAin_word (n : Nat) (f : Ain → Ain) (a' : Nat) : (d.modAin n f).word a' = d.word a' := rfl
@[simp] theorem Dev.modAin_get (n : Nat) (f : Ain → Ain) (g : Fld) : (d.modAin n f).get g = d.get g := rfl
@[simp] theorem Dev.modAin_on (n : Nat) (f : Ain → Ain) (g : Fld) : (d.modAin n f).on g = d.on g := rfl
@[simp] theorem Dev.modAin_mode (n : Nat) (f : Ain → Ain) : (d.modAin n f).mode = d.mode := rfl

@[simp] theorem Dev.modCore_regs (c : Nat) (f : Core → Core) : (d.modCore c f).regs = d.regs := rfl
@[simp] theorem Dev.modCore_sup (c : Nat) (f : Core → Core) : (d.modCore c f).sup = d.sup := rfl
@[simp] theorem Dev.modCore_ridge (c : Nat) (f : Core → Core) : (d.modCore c f).ridge = d.ridge := rfl
@[simp] theorem Dev.modCore_pwm (c : Nat) (f : Core → Core) : (d.modCore c f).pwm = d.pwm := rfl
@[simp] theorem Dev.modCore_rafter (c : Nat) (f : Core → Core) : (d.modCore c f).rafter = d.rafter := rfl
@[simp] theorem Dev.modCore_stages (c : Nat) (f : Core → Core) : (d.modCore c f).stages = d.stages := rfl
@[simp] theorem Dev.modCore_twin (c : Nat) (f : Core → Core) : (d.modCore c f).twin = d.twin := rfl
@[simp] theorem Dev.modCore_coord (c : Nat) (f : Core → Core) : (d.modCore c f).coord = d.coord := rfl
@[simp] theorem Dev.modCore_net (c : Nat) (f : Core → Core) : (d.modCore c f).net = d.net := rfl
@[simp] theorem Dev.modCore_branches (c : Nat) (f : Core → Core) : (d.modCore c f).branches = d.branches := rfl
@[simp] theorem Dev.modCore_shelf (c : Nat) (f : Core → Core) : (d.modCore c f).shelf = d.shelf := rfl
@[simp] theorem Dev.modCore_batten (c : Nat) (f : Core → Core) : (d.modCore c f).batten = d.batten := rfl
@[simp] theorem Dev.modCore_seq (c : Nat) (f : Core → Core) : (d.modCore c f).seq = d.seq := rfl
@[simp] theorem Dev.modCore_strings (c : Nat) (f : Core → Core) : (d.modCore c f).strings = d.strings := rfl
@[simp] theorem Dev.modCore_therm (c : Nat) (f : Core → Core) : (d.modCore c f).therm = d.therm := rfl
@[simp] theorem Dev.modCore_gut (c : Nat) (f : Core → Core) : (d.modCore c f).gut = d.gut := rfl
@[simp] theorem Dev.modCore_thatch (c : Nat) (f : Core → Core) : (d.modCore c f).thatch = d.thatch := rfl
@[simp] theorem Dev.modCore_boot (c : Nat) (f : Core → Core) : (d.modCore c f).boot = d.boot := rfl
@[simp] theorem Dev.modCore_mbus (c : Nat) (f : Core → Core) : (d.modCore c f).mbus = d.mbus := rfl
@[simp] theorem Dev.modCore_host (c : Nat) (f : Core → Core) : (d.modCore c f).host = d.host := rfl
@[simp] theorem Dev.modCore_otp (c : Nat) (f : Core → Core) : (d.modCore c f).otp = d.otp := rfl
@[simp] theorem Dev.modCore_nvm (c : Nat) (f : Core → Core) : (d.modCore c f).nvm = d.nvm := rfl
@[simp] theorem Dev.modCore_torn (c : Nat) (f : Core → Core) : (d.modCore c f).torn = d.torn := rfl
@[simp] theorem Dev.modCore_cycles (c : Nat) (f : Core → Core) : (d.modCore c f).cycles = d.cycles := rfl
@[simp] theorem Dev.modCore_draws (c : Nat) (f : Core → Core) : (d.modCore c f).draws = d.draws := rfl
@[simp] theorem Dev.modCore_cyc (c : Nat) (f : Core → Core) : (d.modCore c f).cyc = d.cyc := rfl
@[simp] theorem Dev.modCore_raised (c : Nat) (f : Core → Core) : (d.modCore c f).raised = d.raised := rfl
@[simp] theorem Dev.modCore_word (c : Nat) (f : Core → Core) (a' : Nat) : (d.modCore c f).word a' = d.word a' := rfl
@[simp] theorem Dev.modCore_get (c : Nat) (f : Core → Core) (g : Fld) : (d.modCore c f).get g = d.get g := rfl
@[simp] theorem Dev.modCore_on (c : Nat) (f : Core → Core) (g : Fld) : (d.modCore c f).on g = d.on g := rfl
@[simp] theorem Dev.modCore_mode (c : Nat) (f : Core → Core) : (d.modCore c f).mode = d.mode := rfl

@[simp] theorem Dev.modWin_regs (w : Nat) (f : Win → Win) : (d.modWin w f).regs = d.regs := rfl
@[simp] theorem Dev.modWin_sup (w : Nat) (f : Win → Win) : (d.modWin w f).sup = d.sup := rfl
@[simp] theorem Dev.modWin_ridge (w : Nat) (f : Win → Win) : (d.modWin w f).ridge = d.ridge := rfl
@[simp] theorem Dev.modWin_pwm (w : Nat) (f : Win → Win) : (d.modWin w f).pwm = d.pwm := rfl
@[simp] theorem Dev.modWin_rafter (w : Nat) (f : Win → Win) : (d.modWin w f).rafter = d.rafter := rfl
@[simp] theorem Dev.modWin_stages (w : Nat) (f : Win → Win) : (d.modWin w f).stages = d.stages := rfl
@[simp] theorem Dev.modWin_twin (w : Nat) (f : Win → Win) : (d.modWin w f).twin = d.twin := rfl
@[simp] theorem Dev.modWin_coord (w : Nat) (f : Win → Win) : (d.modWin w f).coord = d.coord := rfl
@[simp] theorem Dev.modWin_net (w : Nat) (f : Win → Win) : (d.modWin w f).net = d.net := rfl
@[simp] theorem Dev.modWin_branches (w : Nat) (f : Win → Win) : (d.modWin w f).branches = d.branches := rfl
@[simp] theorem Dev.modWin_shelf (w : Nat) (f : Win → Win) : (d.modWin w f).shelf = d.shelf := rfl
@[simp] theorem Dev.modWin_batten (w : Nat) (f : Win → Win) : (d.modWin w f).batten = d.batten := rfl
@[simp] theorem Dev.modWin_seq (w : Nat) (f : Win → Win) : (d.modWin w f).seq = d.seq := rfl
@[simp] theorem Dev.modWin_strings (w : Nat) (f : Win → Win) : (d.modWin w f).strings = d.strings := rfl
@[simp] theorem Dev.modWin_therm (w : Nat) (f : Win → Win) : (d.modWin w f).therm = d.therm := rfl
@[simp] theorem Dev.modWin_gut (w : Nat) (f : Win → Win) : (d.modWin w f).gut = d.gut := rfl
@[simp] theorem Dev.modWin_thatch (w : Nat) (f : Win → Win) : (d.modWin w f).thatch = d.thatch := rfl
@[simp] theorem Dev.modWin_boot (w : Nat) (f : Win → Win) : (d.modWin w f).boot = d.boot := rfl
@[simp] theorem Dev.modWin_mbus (w : Nat) (f : Win → Win) : (d.modWin w f).mbus = d.mbus := rfl
@[simp] theorem Dev.modWin_host (w : Nat) (f : Win → Win) : (d.modWin w f).host = d.host := rfl
@[simp] theorem Dev.modWin_otp (w : Nat) (f : Win → Win) : (d.modWin w f).otp = d.otp := rfl
@[simp] theorem Dev.modWin_nvm (w : Nat) (f : Win → Win) : (d.modWin w f).nvm = d.nvm := rfl
@[simp] theorem Dev.modWin_torn (w : Nat) (f : Win → Win) : (d.modWin w f).torn = d.torn := rfl
@[simp] theorem Dev.modWin_cycles (w : Nat) (f : Win → Win) : (d.modWin w f).cycles = d.cycles := rfl
@[simp] theorem Dev.modWin_draws (w : Nat) (f : Win → Win) : (d.modWin w f).draws = d.draws := rfl
@[simp] theorem Dev.modWin_cyc (w : Nat) (f : Win → Win) : (d.modWin w f).cyc = d.cyc := rfl
@[simp] theorem Dev.modWin_raised (w : Nat) (f : Win → Win) : (d.modWin w f).raised = d.raised := rfl
@[simp] theorem Dev.modWin_word (w : Nat) (f : Win → Win) (a' : Nat) : (d.modWin w f).word a' = d.word a' := rfl
@[simp] theorem Dev.modWin_get (w : Nat) (f : Win → Win) (g : Fld) : (d.modWin w f).get g = d.get g := rfl
@[simp] theorem Dev.modWin_on (w : Nat) (f : Win → Win) (g : Fld) : (d.modWin w f).on g = d.on g := rfl
@[simp] theorem Dev.modWin_mode (w : Nat) (f : Win → Win) : (d.modWin w f).mode = d.mode := rfl

@[simp] theorem Dev.modSdm_regs (n : Nat) (f : Sdm → Sdm) : (d.modSdm n f).regs = d.regs := rfl
@[simp] theorem Dev.modSdm_sup (n : Nat) (f : Sdm → Sdm) : (d.modSdm n f).sup = d.sup := rfl
@[simp] theorem Dev.modSdm_ridge (n : Nat) (f : Sdm → Sdm) : (d.modSdm n f).ridge = d.ridge := rfl
@[simp] theorem Dev.modSdm_pwm (n : Nat) (f : Sdm → Sdm) : (d.modSdm n f).pwm = d.pwm := rfl
@[simp] theorem Dev.modSdm_rafter (n : Nat) (f : Sdm → Sdm) : (d.modSdm n f).rafter = d.rafter := rfl
@[simp] theorem Dev.modSdm_stages (n : Nat) (f : Sdm → Sdm) : (d.modSdm n f).stages = d.stages := rfl
@[simp] theorem Dev.modSdm_twin (n : Nat) (f : Sdm → Sdm) : (d.modSdm n f).twin = d.twin := rfl
@[simp] theorem Dev.modSdm_coord (n : Nat) (f : Sdm → Sdm) : (d.modSdm n f).coord = d.coord := rfl
@[simp] theorem Dev.modSdm_net (n : Nat) (f : Sdm → Sdm) : (d.modSdm n f).net = d.net := rfl
@[simp] theorem Dev.modSdm_branches (n : Nat) (f : Sdm → Sdm) : (d.modSdm n f).branches = d.branches := rfl
@[simp] theorem Dev.modSdm_shelf (n : Nat) (f : Sdm → Sdm) : (d.modSdm n f).shelf = d.shelf := rfl
@[simp] theorem Dev.modSdm_batten (n : Nat) (f : Sdm → Sdm) : (d.modSdm n f).batten = d.batten := rfl
@[simp] theorem Dev.modSdm_seq (n : Nat) (f : Sdm → Sdm) : (d.modSdm n f).seq = d.seq := rfl
@[simp] theorem Dev.modSdm_strings (n : Nat) (f : Sdm → Sdm) : (d.modSdm n f).strings = d.strings := rfl
@[simp] theorem Dev.modSdm_therm (n : Nat) (f : Sdm → Sdm) : (d.modSdm n f).therm = d.therm := rfl
@[simp] theorem Dev.modSdm_gut (n : Nat) (f : Sdm → Sdm) : (d.modSdm n f).gut = d.gut := rfl
@[simp] theorem Dev.modSdm_thatch (n : Nat) (f : Sdm → Sdm) : (d.modSdm n f).thatch = d.thatch := rfl
@[simp] theorem Dev.modSdm_boot (n : Nat) (f : Sdm → Sdm) : (d.modSdm n f).boot = d.boot := rfl
@[simp] theorem Dev.modSdm_mbus (n : Nat) (f : Sdm → Sdm) : (d.modSdm n f).mbus = d.mbus := rfl
@[simp] theorem Dev.modSdm_host (n : Nat) (f : Sdm → Sdm) : (d.modSdm n f).host = d.host := rfl
@[simp] theorem Dev.modSdm_otp (n : Nat) (f : Sdm → Sdm) : (d.modSdm n f).otp = d.otp := rfl
@[simp] theorem Dev.modSdm_nvm (n : Nat) (f : Sdm → Sdm) : (d.modSdm n f).nvm = d.nvm := rfl
@[simp] theorem Dev.modSdm_torn (n : Nat) (f : Sdm → Sdm) : (d.modSdm n f).torn = d.torn := rfl
@[simp] theorem Dev.modSdm_cycles (n : Nat) (f : Sdm → Sdm) : (d.modSdm n f).cycles = d.cycles := rfl
@[simp] theorem Dev.modSdm_draws (n : Nat) (f : Sdm → Sdm) : (d.modSdm n f).draws = d.draws := rfl
@[simp] theorem Dev.modSdm_cyc (n : Nat) (f : Sdm → Sdm) : (d.modSdm n f).cyc = d.cyc := rfl
@[simp] theorem Dev.modSdm_raised (n : Nat) (f : Sdm → Sdm) : (d.modSdm n f).raised = d.raised := rfl
@[simp] theorem Dev.modSdm_word (n : Nat) (f : Sdm → Sdm) (a' : Nat) : (d.modSdm n f).word a' = d.word a' := rfl
@[simp] theorem Dev.modSdm_get (n : Nat) (f : Sdm → Sdm) (g : Fld) : (d.modSdm n f).get g = d.get g := rfl
@[simp] theorem Dev.modSdm_on (n : Nat) (f : Sdm → Sdm) (g : Fld) : (d.modSdm n f).on g = d.on g := rfl
@[simp] theorem Dev.modSdm_mode (n : Nat) (f : Sdm → Sdm) : (d.modSdm n f).mode = d.mode := rfl

@[simp] theorem Dev.modCmp_regs (c : Nat) (f : Cmp → Cmp) : (d.modCmp c f).regs = d.regs := rfl
@[simp] theorem Dev.modCmp_sup (c : Nat) (f : Cmp → Cmp) : (d.modCmp c f).sup = d.sup := rfl
@[simp] theorem Dev.modCmp_ridge (c : Nat) (f : Cmp → Cmp) : (d.modCmp c f).ridge = d.ridge := rfl
@[simp] theorem Dev.modCmp_pwm (c : Nat) (f : Cmp → Cmp) : (d.modCmp c f).pwm = d.pwm := rfl
@[simp] theorem Dev.modCmp_rafter (c : Nat) (f : Cmp → Cmp) : (d.modCmp c f).rafter = d.rafter := rfl
@[simp] theorem Dev.modCmp_stages (c : Nat) (f : Cmp → Cmp) : (d.modCmp c f).stages = d.stages := rfl
@[simp] theorem Dev.modCmp_twin (c : Nat) (f : Cmp → Cmp) : (d.modCmp c f).twin = d.twin := rfl
@[simp] theorem Dev.modCmp_coord (c : Nat) (f : Cmp → Cmp) : (d.modCmp c f).coord = d.coord := rfl
@[simp] theorem Dev.modCmp_net (c : Nat) (f : Cmp → Cmp) : (d.modCmp c f).net = d.net := rfl
@[simp] theorem Dev.modCmp_branches (c : Nat) (f : Cmp → Cmp) : (d.modCmp c f).branches = d.branches := rfl
@[simp] theorem Dev.modCmp_shelf (c : Nat) (f : Cmp → Cmp) : (d.modCmp c f).shelf = d.shelf := rfl
@[simp] theorem Dev.modCmp_batten (c : Nat) (f : Cmp → Cmp) : (d.modCmp c f).batten = d.batten := rfl
@[simp] theorem Dev.modCmp_seq (c : Nat) (f : Cmp → Cmp) : (d.modCmp c f).seq = d.seq := rfl
@[simp] theorem Dev.modCmp_strings (c : Nat) (f : Cmp → Cmp) : (d.modCmp c f).strings = d.strings := rfl
@[simp] theorem Dev.modCmp_therm (c : Nat) (f : Cmp → Cmp) : (d.modCmp c f).therm = d.therm := rfl
@[simp] theorem Dev.modCmp_gut (c : Nat) (f : Cmp → Cmp) : (d.modCmp c f).gut = d.gut := rfl
@[simp] theorem Dev.modCmp_thatch (c : Nat) (f : Cmp → Cmp) : (d.modCmp c f).thatch = d.thatch := rfl
@[simp] theorem Dev.modCmp_boot (c : Nat) (f : Cmp → Cmp) : (d.modCmp c f).boot = d.boot := rfl
@[simp] theorem Dev.modCmp_mbus (c : Nat) (f : Cmp → Cmp) : (d.modCmp c f).mbus = d.mbus := rfl
@[simp] theorem Dev.modCmp_host (c : Nat) (f : Cmp → Cmp) : (d.modCmp c f).host = d.host := rfl
@[simp] theorem Dev.modCmp_otp (c : Nat) (f : Cmp → Cmp) : (d.modCmp c f).otp = d.otp := rfl
@[simp] theorem Dev.modCmp_nvm (c : Nat) (f : Cmp → Cmp) : (d.modCmp c f).nvm = d.nvm := rfl
@[simp] theorem Dev.modCmp_torn (c : Nat) (f : Cmp → Cmp) : (d.modCmp c f).torn = d.torn := rfl
@[simp] theorem Dev.modCmp_cycles (c : Nat) (f : Cmp → Cmp) : (d.modCmp c f).cycles = d.cycles := rfl
@[simp] theorem Dev.modCmp_draws (c : Nat) (f : Cmp → Cmp) : (d.modCmp c f).draws = d.draws := rfl
@[simp] theorem Dev.modCmp_cyc (c : Nat) (f : Cmp → Cmp) : (d.modCmp c f).cyc = d.cyc := rfl
@[simp] theorem Dev.modCmp_raised (c : Nat) (f : Cmp → Cmp) : (d.modCmp c f).raised = d.raised := rfl
@[simp] theorem Dev.modCmp_word (c : Nat) (f : Cmp → Cmp) (a' : Nat) : (d.modCmp c f).word a' = d.word a' := rfl
@[simp] theorem Dev.modCmp_get (c : Nat) (f : Cmp → Cmp) (g : Fld) : (d.modCmp c f).get g = d.get g := rfl
@[simp] theorem Dev.modCmp_on (c : Nat) (f : Cmp → Cmp) (g : Fld) : (d.modCmp c f).on g = d.on g := rfl
@[simp] theorem Dev.modCmp_mode (c : Nat) (f : Cmp → Cmp) : (d.modCmp c f).mode = d.mode := rfl

@[simp] theorem Dev.modLoop_regs (s : Nat) (f : Loop → Loop) : (d.modLoop s f).regs = d.regs := rfl
@[simp] theorem Dev.modLoop_sup (s : Nat) (f : Loop → Loop) : (d.modLoop s f).sup = d.sup := rfl
@[simp] theorem Dev.modLoop_ridge (s : Nat) (f : Loop → Loop) : (d.modLoop s f).ridge = d.ridge := rfl
@[simp] theorem Dev.modLoop_pwm (s : Nat) (f : Loop → Loop) : (d.modLoop s f).pwm = d.pwm := rfl
@[simp] theorem Dev.modLoop_sense (s : Nat) (f : Loop → Loop) : (d.modLoop s f).sense = d.sense := rfl
@[simp] theorem Dev.modLoop_stages (s : Nat) (f : Loop → Loop) : (d.modLoop s f).stages = d.stages := rfl
@[simp] theorem Dev.modLoop_twin (s : Nat) (f : Loop → Loop) : (d.modLoop s f).twin = d.twin := rfl
@[simp] theorem Dev.modLoop_coord (s : Nat) (f : Loop → Loop) : (d.modLoop s f).coord = d.coord := rfl
@[simp] theorem Dev.modLoop_net (s : Nat) (f : Loop → Loop) : (d.modLoop s f).net = d.net := rfl
@[simp] theorem Dev.modLoop_branches (s : Nat) (f : Loop → Loop) : (d.modLoop s f).branches = d.branches := rfl
@[simp] theorem Dev.modLoop_shelf (s : Nat) (f : Loop → Loop) : (d.modLoop s f).shelf = d.shelf := rfl
@[simp] theorem Dev.modLoop_batten (s : Nat) (f : Loop → Loop) : (d.modLoop s f).batten = d.batten := rfl
@[simp] theorem Dev.modLoop_seq (s : Nat) (f : Loop → Loop) : (d.modLoop s f).seq = d.seq := rfl
@[simp] theorem Dev.modLoop_strings (s : Nat) (f : Loop → Loop) : (d.modLoop s f).strings = d.strings := rfl
@[simp] theorem Dev.modLoop_therm (s : Nat) (f : Loop → Loop) : (d.modLoop s f).therm = d.therm := rfl
@[simp] theorem Dev.modLoop_gut (s : Nat) (f : Loop → Loop) : (d.modLoop s f).gut = d.gut := rfl
@[simp] theorem Dev.modLoop_thatch (s : Nat) (f : Loop → Loop) : (d.modLoop s f).thatch = d.thatch := rfl
@[simp] theorem Dev.modLoop_boot (s : Nat) (f : Loop → Loop) : (d.modLoop s f).boot = d.boot := rfl
@[simp] theorem Dev.modLoop_mbus (s : Nat) (f : Loop → Loop) : (d.modLoop s f).mbus = d.mbus := rfl
@[simp] theorem Dev.modLoop_host (s : Nat) (f : Loop → Loop) : (d.modLoop s f).host = d.host := rfl
@[simp] theorem Dev.modLoop_otp (s : Nat) (f : Loop → Loop) : (d.modLoop s f).otp = d.otp := rfl
@[simp] theorem Dev.modLoop_nvm (s : Nat) (f : Loop → Loop) : (d.modLoop s f).nvm = d.nvm := rfl
@[simp] theorem Dev.modLoop_torn (s : Nat) (f : Loop → Loop) : (d.modLoop s f).torn = d.torn := rfl
@[simp] theorem Dev.modLoop_cycles (s : Nat) (f : Loop → Loop) : (d.modLoop s f).cycles = d.cycles := rfl
@[simp] theorem Dev.modLoop_draws (s : Nat) (f : Loop → Loop) : (d.modLoop s f).draws = d.draws := rfl
@[simp] theorem Dev.modLoop_cyc (s : Nat) (f : Loop → Loop) : (d.modLoop s f).cyc = d.cyc := rfl
@[simp] theorem Dev.modLoop_raised (s : Nat) (f : Loop → Loop) : (d.modLoop s f).raised = d.raised := rfl
@[simp] theorem Dev.modLoop_word (s : Nat) (f : Loop → Loop) (a' : Nat) : (d.modLoop s f).word a' = d.word a' := rfl
@[simp] theorem Dev.modLoop_get (s : Nat) (f : Loop → Loop) (g : Fld) : (d.modLoop s f).get g = d.get g := rfl
@[simp] theorem Dev.modLoop_on (s : Nat) (f : Loop → Loop) (g : Fld) : (d.modLoop s f).on g = d.on g := rfl
@[simp] theorem Dev.modLoop_mode (s : Nat) (f : Loop → Loop) : (d.modLoop s f).mode = d.mode := rfl

@[simp] theorem Dev.modStage_regs (s : Nat) (f : Stage → Stage) : (d.modStage s f).regs = d.regs := rfl
@[simp] theorem Dev.modStage_sup (s : Nat) (f : Stage → Stage) : (d.modStage s f).sup = d.sup := rfl
@[simp] theorem Dev.modStage_ridge (s : Nat) (f : Stage → Stage) : (d.modStage s f).ridge = d.ridge := rfl
@[simp] theorem Dev.modStage_pwm (s : Nat) (f : Stage → Stage) : (d.modStage s f).pwm = d.pwm := rfl
@[simp] theorem Dev.modStage_sense (s : Nat) (f : Stage → Stage) : (d.modStage s f).sense = d.sense := rfl
@[simp] theorem Dev.modStage_rafter (s : Nat) (f : Stage → Stage) : (d.modStage s f).rafter = d.rafter := rfl
@[simp] theorem Dev.modStage_twin (s : Nat) (f : Stage → Stage) : (d.modStage s f).twin = d.twin := rfl
@[simp] theorem Dev.modStage_coord (s : Nat) (f : Stage → Stage) : (d.modStage s f).coord = d.coord := rfl
@[simp] theorem Dev.modStage_net (s : Nat) (f : Stage → Stage) : (d.modStage s f).net = d.net := rfl
@[simp] theorem Dev.modStage_branches (s : Nat) (f : Stage → Stage) : (d.modStage s f).branches = d.branches := rfl
@[simp] theorem Dev.modStage_shelf (s : Nat) (f : Stage → Stage) : (d.modStage s f).shelf = d.shelf := rfl
@[simp] theorem Dev.modStage_batten (s : Nat) (f : Stage → Stage) : (d.modStage s f).batten = d.batten := rfl
@[simp] theorem Dev.modStage_seq (s : Nat) (f : Stage → Stage) : (d.modStage s f).seq = d.seq := rfl
@[simp] theorem Dev.modStage_strings (s : Nat) (f : Stage → Stage) : (d.modStage s f).strings = d.strings := rfl
@[simp] theorem Dev.modStage_therm (s : Nat) (f : Stage → Stage) : (d.modStage s f).therm = d.therm := rfl
@[simp] theorem Dev.modStage_gut (s : Nat) (f : Stage → Stage) : (d.modStage s f).gut = d.gut := rfl
@[simp] theorem Dev.modStage_thatch (s : Nat) (f : Stage → Stage) : (d.modStage s f).thatch = d.thatch := rfl
@[simp] theorem Dev.modStage_boot (s : Nat) (f : Stage → Stage) : (d.modStage s f).boot = d.boot := rfl
@[simp] theorem Dev.modStage_mbus (s : Nat) (f : Stage → Stage) : (d.modStage s f).mbus = d.mbus := rfl
@[simp] theorem Dev.modStage_host (s : Nat) (f : Stage → Stage) : (d.modStage s f).host = d.host := rfl
@[simp] theorem Dev.modStage_otp (s : Nat) (f : Stage → Stage) : (d.modStage s f).otp = d.otp := rfl
@[simp] theorem Dev.modStage_nvm (s : Nat) (f : Stage → Stage) : (d.modStage s f).nvm = d.nvm := rfl
@[simp] theorem Dev.modStage_torn (s : Nat) (f : Stage → Stage) : (d.modStage s f).torn = d.torn := rfl
@[simp] theorem Dev.modStage_cycles (s : Nat) (f : Stage → Stage) : (d.modStage s f).cycles = d.cycles := rfl
@[simp] theorem Dev.modStage_draws (s : Nat) (f : Stage → Stage) : (d.modStage s f).draws = d.draws := rfl
@[simp] theorem Dev.modStage_cyc (s : Nat) (f : Stage → Stage) : (d.modStage s f).cyc = d.cyc := rfl
@[simp] theorem Dev.modStage_raised (s : Nat) (f : Stage → Stage) : (d.modStage s f).raised = d.raised := rfl
@[simp] theorem Dev.modStage_word (s : Nat) (f : Stage → Stage) (a' : Nat) : (d.modStage s f).word a' = d.word a' := rfl
@[simp] theorem Dev.modStage_get (s : Nat) (f : Stage → Stage) (g : Fld) : (d.modStage s f).get g = d.get g := rfl
@[simp] theorem Dev.modStage_on (s : Nat) (f : Stage → Stage) (g : Fld) : (d.modStage s f).on g = d.on g := rfl
@[simp] theorem Dev.modStage_mode (s : Nat) (f : Stage → Stage) : (d.modStage s f).mode = d.mode := rfl

@[simp] theorem Dev.modCoord_regs (f : Coord → Coord) : (d.modCoord f).regs = d.regs := rfl
@[simp] theorem Dev.modCoord_sup (f : Coord → Coord) : (d.modCoord f).sup = d.sup := rfl
@[simp] theorem Dev.modCoord_ridge (f : Coord → Coord) : (d.modCoord f).ridge = d.ridge := rfl
@[simp] theorem Dev.modCoord_pwm (f : Coord → Coord) : (d.modCoord f).pwm = d.pwm := rfl
@[simp] theorem Dev.modCoord_sense (f : Coord → Coord) : (d.modCoord f).sense = d.sense := rfl
@[simp] theorem Dev.modCoord_rafter (f : Coord → Coord) : (d.modCoord f).rafter = d.rafter := rfl
@[simp] theorem Dev.modCoord_stages (f : Coord → Coord) : (d.modCoord f).stages = d.stages := rfl
@[simp] theorem Dev.modCoord_twin (f : Coord → Coord) : (d.modCoord f).twin = d.twin := rfl
@[simp] theorem Dev.modCoord_net (f : Coord → Coord) : (d.modCoord f).net = d.net := rfl
@[simp] theorem Dev.modCoord_branches (f : Coord → Coord) : (d.modCoord f).branches = d.branches := rfl
@[simp] theorem Dev.modCoord_shelf (f : Coord → Coord) : (d.modCoord f).shelf = d.shelf := rfl
@[simp] theorem Dev.modCoord_batten (f : Coord → Coord) : (d.modCoord f).batten = d.batten := rfl
@[simp] theorem Dev.modCoord_seq (f : Coord → Coord) : (d.modCoord f).seq = d.seq := rfl
@[simp] theorem Dev.modCoord_strings (f : Coord → Coord) : (d.modCoord f).strings = d.strings := rfl
@[simp] theorem Dev.modCoord_therm (f : Coord → Coord) : (d.modCoord f).therm = d.therm := rfl
@[simp] theorem Dev.modCoord_gut (f : Coord → Coord) : (d.modCoord f).gut = d.gut := rfl
@[simp] theorem Dev.modCoord_thatch (f : Coord → Coord) : (d.modCoord f).thatch = d.thatch := rfl
@[simp] theorem Dev.modCoord_boot (f : Coord → Coord) : (d.modCoord f).boot = d.boot := rfl
@[simp] theorem Dev.modCoord_mbus (f : Coord → Coord) : (d.modCoord f).mbus = d.mbus := rfl
@[simp] theorem Dev.modCoord_host (f : Coord → Coord) : (d.modCoord f).host = d.host := rfl
@[simp] theorem Dev.modCoord_otp (f : Coord → Coord) : (d.modCoord f).otp = d.otp := rfl
@[simp] theorem Dev.modCoord_nvm (f : Coord → Coord) : (d.modCoord f).nvm = d.nvm := rfl
@[simp] theorem Dev.modCoord_torn (f : Coord → Coord) : (d.modCoord f).torn = d.torn := rfl
@[simp] theorem Dev.modCoord_cycles (f : Coord → Coord) : (d.modCoord f).cycles = d.cycles := rfl
@[simp] theorem Dev.modCoord_draws (f : Coord → Coord) : (d.modCoord f).draws = d.draws := rfl
@[simp] theorem Dev.modCoord_cyc (f : Coord → Coord) : (d.modCoord f).cyc = d.cyc := rfl
@[simp] theorem Dev.modCoord_raised (f : Coord → Coord) : (d.modCoord f).raised = d.raised := rfl
@[simp] theorem Dev.modCoord_word (f : Coord → Coord) (a' : Nat) : (d.modCoord f).word a' = d.word a' := rfl
@[simp] theorem Dev.modCoord_get (f : Coord → Coord) (g : Fld) : (d.modCoord f).get g = d.get g := rfl
@[simp] theorem Dev.modCoord_on (f : Coord → Coord) (g : Fld) : (d.modCoord f).on g = d.on g := rfl
@[simp] theorem Dev.modCoord_mode (f : Coord → Coord) : (d.modCoord f).mode = d.mode := rfl
@[simp] theorem Dev.modCoord_coord (f : Coord → Coord) : (d.modCoord f).coord = f d.coord := rfl

@[simp] theorem Dev.modMember_regs (j : Nat) (f : Member → Member) : (d.modMember j f).regs = d.regs := rfl
@[simp] theorem Dev.modMember_sup (j : Nat) (f : Member → Member) : (d.modMember j f).sup = d.sup := rfl
@[simp] theorem Dev.modMember_ridge (j : Nat) (f : Member → Member) : (d.modMember j f).ridge = d.ridge := rfl
@[simp] theorem Dev.modMember_pwm (j : Nat) (f : Member → Member) : (d.modMember j f).pwm = d.pwm := rfl
@[simp] theorem Dev.modMember_sense (j : Nat) (f : Member → Member) : (d.modMember j f).sense = d.sense := rfl
@[simp] theorem Dev.modMember_rafter (j : Nat) (f : Member → Member) : (d.modMember j f).rafter = d.rafter := rfl
@[simp] theorem Dev.modMember_stages (j : Nat) (f : Member → Member) : (d.modMember j f).stages = d.stages := rfl
@[simp] theorem Dev.modMember_twin (j : Nat) (f : Member → Member) : (d.modMember j f).twin = d.twin := rfl
@[simp] theorem Dev.modMember_net (j : Nat) (f : Member → Member) : (d.modMember j f).net = d.net := rfl
@[simp] theorem Dev.modMember_branches (j : Nat) (f : Member → Member) : (d.modMember j f).branches = d.branches := rfl
@[simp] theorem Dev.modMember_shelf (j : Nat) (f : Member → Member) : (d.modMember j f).shelf = d.shelf := rfl
@[simp] theorem Dev.modMember_batten (j : Nat) (f : Member → Member) : (d.modMember j f).batten = d.batten := rfl
@[simp] theorem Dev.modMember_seq (j : Nat) (f : Member → Member) : (d.modMember j f).seq = d.seq := rfl
@[simp] theorem Dev.modMember_strings (j : Nat) (f : Member → Member) : (d.modMember j f).strings = d.strings := rfl
@[simp] theorem Dev.modMember_therm (j : Nat) (f : Member → Member) : (d.modMember j f).therm = d.therm := rfl
@[simp] theorem Dev.modMember_gut (j : Nat) (f : Member → Member) : (d.modMember j f).gut = d.gut := rfl
@[simp] theorem Dev.modMember_thatch (j : Nat) (f : Member → Member) : (d.modMember j f).thatch = d.thatch := rfl
@[simp] theorem Dev.modMember_boot (j : Nat) (f : Member → Member) : (d.modMember j f).boot = d.boot := rfl
@[simp] theorem Dev.modMember_mbus (j : Nat) (f : Member → Member) : (d.modMember j f).mbus = d.mbus := rfl
@[simp] theorem Dev.modMember_host (j : Nat) (f : Member → Member) : (d.modMember j f).host = d.host := rfl
@[simp] theorem Dev.modMember_otp (j : Nat) (f : Member → Member) : (d.modMember j f).otp = d.otp := rfl
@[simp] theorem Dev.modMember_nvm (j : Nat) (f : Member → Member) : (d.modMember j f).nvm = d.nvm := rfl
@[simp] theorem Dev.modMember_torn (j : Nat) (f : Member → Member) : (d.modMember j f).torn = d.torn := rfl
@[simp] theorem Dev.modMember_cycles (j : Nat) (f : Member → Member) : (d.modMember j f).cycles = d.cycles := rfl
@[simp] theorem Dev.modMember_draws (j : Nat) (f : Member → Member) : (d.modMember j f).draws = d.draws := rfl
@[simp] theorem Dev.modMember_cyc (j : Nat) (f : Member → Member) : (d.modMember j f).cyc = d.cyc := rfl
@[simp] theorem Dev.modMember_raised (j : Nat) (f : Member → Member) : (d.modMember j f).raised = d.raised := rfl
@[simp] theorem Dev.modMember_word (j : Nat) (f : Member → Member) (a' : Nat) : (d.modMember j f).word a' = d.word a' := rfl
@[simp] theorem Dev.modMember_get (j : Nat) (f : Member → Member) (g : Fld) : (d.modMember j f).get g = d.get g := rfl
@[simp] theorem Dev.modMember_on (j : Nat) (f : Member → Member) (g : Fld) : (d.modMember j f).on g = d.on g := rfl
@[simp] theorem Dev.modMember_mode (j : Nat) (f : Member → Member) : (d.modMember j f).mode = d.mode := rfl

@[simp] theorem Dev.modNet_regs (f : Net → Net) : (d.modNet f).regs = d.regs := rfl
@[simp] theorem Dev.modNet_sup (f : Net → Net) : (d.modNet f).sup = d.sup := rfl
@[simp] theorem Dev.modNet_ridge (f : Net → Net) : (d.modNet f).ridge = d.ridge := rfl
@[simp] theorem Dev.modNet_pwm (f : Net → Net) : (d.modNet f).pwm = d.pwm := rfl
@[simp] theorem Dev.modNet_sense (f : Net → Net) : (d.modNet f).sense = d.sense := rfl
@[simp] theorem Dev.modNet_rafter (f : Net → Net) : (d.modNet f).rafter = d.rafter := rfl
@[simp] theorem Dev.modNet_stages (f : Net → Net) : (d.modNet f).stages = d.stages := rfl
@[simp] theorem Dev.modNet_twin (f : Net → Net) : (d.modNet f).twin = d.twin := rfl
@[simp] theorem Dev.modNet_coord (f : Net → Net) : (d.modNet f).coord = d.coord := rfl
@[simp] theorem Dev.modNet_branches (f : Net → Net) : (d.modNet f).branches = d.branches := rfl
@[simp] theorem Dev.modNet_shelf (f : Net → Net) : (d.modNet f).shelf = d.shelf := rfl
@[simp] theorem Dev.modNet_batten (f : Net → Net) : (d.modNet f).batten = d.batten := rfl
@[simp] theorem Dev.modNet_seq (f : Net → Net) : (d.modNet f).seq = d.seq := rfl
@[simp] theorem Dev.modNet_strings (f : Net → Net) : (d.modNet f).strings = d.strings := rfl
@[simp] theorem Dev.modNet_therm (f : Net → Net) : (d.modNet f).therm = d.therm := rfl
@[simp] theorem Dev.modNet_gut (f : Net → Net) : (d.modNet f).gut = d.gut := rfl
@[simp] theorem Dev.modNet_thatch (f : Net → Net) : (d.modNet f).thatch = d.thatch := rfl
@[simp] theorem Dev.modNet_boot (f : Net → Net) : (d.modNet f).boot = d.boot := rfl
@[simp] theorem Dev.modNet_mbus (f : Net → Net) : (d.modNet f).mbus = d.mbus := rfl
@[simp] theorem Dev.modNet_host (f : Net → Net) : (d.modNet f).host = d.host := rfl
@[simp] theorem Dev.modNet_otp (f : Net → Net) : (d.modNet f).otp = d.otp := rfl
@[simp] theorem Dev.modNet_nvm (f : Net → Net) : (d.modNet f).nvm = d.nvm := rfl
@[simp] theorem Dev.modNet_torn (f : Net → Net) : (d.modNet f).torn = d.torn := rfl
@[simp] theorem Dev.modNet_cycles (f : Net → Net) : (d.modNet f).cycles = d.cycles := rfl
@[simp] theorem Dev.modNet_draws (f : Net → Net) : (d.modNet f).draws = d.draws := rfl
@[simp] theorem Dev.modNet_cyc (f : Net → Net) : (d.modNet f).cyc = d.cyc := rfl
@[simp] theorem Dev.modNet_raised (f : Net → Net) : (d.modNet f).raised = d.raised := rfl
@[simp] theorem Dev.modNet_word (f : Net → Net) (a' : Nat) : (d.modNet f).word a' = d.word a' := rfl
@[simp] theorem Dev.modNet_get (f : Net → Net) (g : Fld) : (d.modNet f).get g = d.get g := rfl
@[simp] theorem Dev.modNet_on (f : Net → Net) (g : Fld) : (d.modNet f).on g = d.on g := rfl
@[simp] theorem Dev.modNet_mode (f : Net → Net) : (d.modNet f).mode = d.mode := rfl
@[simp] theorem Dev.modNet_net (f : Net → Net) : (d.modNet f).net = f d.net := rfl

@[simp] theorem Dev.modNseg_regs (b : Bool) (f : NetSeg → NetSeg) : (d.modNseg b f).regs = d.regs := by cases b <;> rfl
@[simp] theorem Dev.modNseg_sup (b : Bool) (f : NetSeg → NetSeg) : (d.modNseg b f).sup = d.sup := by cases b <;> rfl
@[simp] theorem Dev.modNseg_ridge (b : Bool) (f : NetSeg → NetSeg) : (d.modNseg b f).ridge = d.ridge := by cases b <;> rfl
@[simp] theorem Dev.modNseg_pwm (b : Bool) (f : NetSeg → NetSeg) : (d.modNseg b f).pwm = d.pwm := by cases b <;> rfl
@[simp] theorem Dev.modNseg_sense (b : Bool) (f : NetSeg → NetSeg) : (d.modNseg b f).sense = d.sense := by cases b <;> rfl
@[simp] theorem Dev.modNseg_rafter (b : Bool) (f : NetSeg → NetSeg) : (d.modNseg b f).rafter = d.rafter := by cases b <;> rfl
@[simp] theorem Dev.modNseg_stages (b : Bool) (f : NetSeg → NetSeg) : (d.modNseg b f).stages = d.stages := by cases b <;> rfl
@[simp] theorem Dev.modNseg_twin (b : Bool) (f : NetSeg → NetSeg) : (d.modNseg b f).twin = d.twin := by cases b <;> rfl
@[simp] theorem Dev.modNseg_coord (b : Bool) (f : NetSeg → NetSeg) : (d.modNseg b f).coord = d.coord := by cases b <;> rfl
@[simp] theorem Dev.modNseg_branches (b : Bool) (f : NetSeg → NetSeg) : (d.modNseg b f).branches = d.branches := by cases b <;> rfl
@[simp] theorem Dev.modNseg_shelf (b : Bool) (f : NetSeg → NetSeg) : (d.modNseg b f).shelf = d.shelf := by cases b <;> rfl
@[simp] theorem Dev.modNseg_batten (b : Bool) (f : NetSeg → NetSeg) : (d.modNseg b f).batten = d.batten := by cases b <;> rfl
@[simp] theorem Dev.modNseg_seq (b : Bool) (f : NetSeg → NetSeg) : (d.modNseg b f).seq = d.seq := by cases b <;> rfl
@[simp] theorem Dev.modNseg_strings (b : Bool) (f : NetSeg → NetSeg) : (d.modNseg b f).strings = d.strings := by cases b <;> rfl
@[simp] theorem Dev.modNseg_therm (b : Bool) (f : NetSeg → NetSeg) : (d.modNseg b f).therm = d.therm := by cases b <;> rfl
@[simp] theorem Dev.modNseg_gut (b : Bool) (f : NetSeg → NetSeg) : (d.modNseg b f).gut = d.gut := by cases b <;> rfl
@[simp] theorem Dev.modNseg_thatch (b : Bool) (f : NetSeg → NetSeg) : (d.modNseg b f).thatch = d.thatch := by cases b <;> rfl
@[simp] theorem Dev.modNseg_boot (b : Bool) (f : NetSeg → NetSeg) : (d.modNseg b f).boot = d.boot := by cases b <;> rfl
@[simp] theorem Dev.modNseg_mbus (b : Bool) (f : NetSeg → NetSeg) : (d.modNseg b f).mbus = d.mbus := by cases b <;> rfl
@[simp] theorem Dev.modNseg_host (b : Bool) (f : NetSeg → NetSeg) : (d.modNseg b f).host = d.host := by cases b <;> rfl
@[simp] theorem Dev.modNseg_otp (b : Bool) (f : NetSeg → NetSeg) : (d.modNseg b f).otp = d.otp := by cases b <;> rfl
@[simp] theorem Dev.modNseg_nvm (b : Bool) (f : NetSeg → NetSeg) : (d.modNseg b f).nvm = d.nvm := by cases b <;> rfl
@[simp] theorem Dev.modNseg_torn (b : Bool) (f : NetSeg → NetSeg) : (d.modNseg b f).torn = d.torn := by cases b <;> rfl
@[simp] theorem Dev.modNseg_cycles (b : Bool) (f : NetSeg → NetSeg) : (d.modNseg b f).cycles = d.cycles := by cases b <;> rfl
@[simp] theorem Dev.modNseg_draws (b : Bool) (f : NetSeg → NetSeg) : (d.modNseg b f).draws = d.draws := by cases b <;> rfl
@[simp] theorem Dev.modNseg_cyc (b : Bool) (f : NetSeg → NetSeg) : (d.modNseg b f).cyc = d.cyc := by cases b <;> rfl
@[simp] theorem Dev.modNseg_raised (b : Bool) (f : NetSeg → NetSeg) : (d.modNseg b f).raised = d.raised := by cases b <;> rfl
@[simp] theorem Dev.modNseg_word (b : Bool) (f : NetSeg → NetSeg) (a' : Nat) : (d.modNseg b f).word a' = d.word a' := by cases b <;> rfl
@[simp] theorem Dev.modNseg_get (b : Bool) (f : NetSeg → NetSeg) (g : Fld) : (d.modNseg b f).get g = d.get g := by cases b <;> rfl
@[simp] theorem Dev.modNseg_on (b : Bool) (f : NetSeg → NetSeg) (g : Fld) : (d.modNseg b f).on g = d.on g := by cases b <;> rfl
@[simp] theorem Dev.modNseg_mode (b : Bool) (f : NetSeg → NetSeg) : (d.modNseg b f).mode = d.mode := by cases b <;> rfl

@[simp] theorem Dev.modSeg_regs (b : Bool) (f : RidgeSeg → RidgeSeg) : (d.modSeg b f).regs = d.regs := by cases b <;> rfl
@[simp] theorem Dev.modSeg_sup (b : Bool) (f : RidgeSeg → RidgeSeg) : (d.modSeg b f).sup = d.sup := by cases b <;> rfl
@[simp] theorem Dev.modSeg_pwm (b : Bool) (f : RidgeSeg → RidgeSeg) : (d.modSeg b f).pwm = d.pwm := by cases b <;> rfl
@[simp] theorem Dev.modSeg_sense (b : Bool) (f : RidgeSeg → RidgeSeg) : (d.modSeg b f).sense = d.sense := by cases b <;> rfl
@[simp] theorem Dev.modSeg_rafter (b : Bool) (f : RidgeSeg → RidgeSeg) : (d.modSeg b f).rafter = d.rafter := by cases b <;> rfl
@[simp] theorem Dev.modSeg_stages (b : Bool) (f : RidgeSeg → RidgeSeg) : (d.modSeg b f).stages = d.stages := by cases b <;> rfl
@[simp] theorem Dev.modSeg_twin (b : Bool) (f : RidgeSeg → RidgeSeg) : (d.modSeg b f).twin = d.twin := by cases b <;> rfl
@[simp] theorem Dev.modSeg_coord (b : Bool) (f : RidgeSeg → RidgeSeg) : (d.modSeg b f).coord = d.coord := by cases b <;> rfl
@[simp] theorem Dev.modSeg_net (b : Bool) (f : RidgeSeg → RidgeSeg) : (d.modSeg b f).net = d.net := by cases b <;> rfl
@[simp] theorem Dev.modSeg_branches (b : Bool) (f : RidgeSeg → RidgeSeg) : (d.modSeg b f).branches = d.branches := by cases b <;> rfl
@[simp] theorem Dev.modSeg_shelf (b : Bool) (f : RidgeSeg → RidgeSeg) : (d.modSeg b f).shelf = d.shelf := by cases b <;> rfl
@[simp] theorem Dev.modSeg_batten (b : Bool) (f : RidgeSeg → RidgeSeg) : (d.modSeg b f).batten = d.batten := by cases b <;> rfl
@[simp] theorem Dev.modSeg_seq (b : Bool) (f : RidgeSeg → RidgeSeg) : (d.modSeg b f).seq = d.seq := by cases b <;> rfl
@[simp] theorem Dev.modSeg_strings (b : Bool) (f : RidgeSeg → RidgeSeg) : (d.modSeg b f).strings = d.strings := by cases b <;> rfl
@[simp] theorem Dev.modSeg_therm (b : Bool) (f : RidgeSeg → RidgeSeg) : (d.modSeg b f).therm = d.therm := by cases b <;> rfl
@[simp] theorem Dev.modSeg_gut (b : Bool) (f : RidgeSeg → RidgeSeg) : (d.modSeg b f).gut = d.gut := by cases b <;> rfl
@[simp] theorem Dev.modSeg_thatch (b : Bool) (f : RidgeSeg → RidgeSeg) : (d.modSeg b f).thatch = d.thatch := by cases b <;> rfl
@[simp] theorem Dev.modSeg_boot (b : Bool) (f : RidgeSeg → RidgeSeg) : (d.modSeg b f).boot = d.boot := by cases b <;> rfl
@[simp] theorem Dev.modSeg_mbus (b : Bool) (f : RidgeSeg → RidgeSeg) : (d.modSeg b f).mbus = d.mbus := by cases b <;> rfl
@[simp] theorem Dev.modSeg_host (b : Bool) (f : RidgeSeg → RidgeSeg) : (d.modSeg b f).host = d.host := by cases b <;> rfl
@[simp] theorem Dev.modSeg_otp (b : Bool) (f : RidgeSeg → RidgeSeg) : (d.modSeg b f).otp = d.otp := by cases b <;> rfl
@[simp] theorem Dev.modSeg_nvm (b : Bool) (f : RidgeSeg → RidgeSeg) : (d.modSeg b f).nvm = d.nvm := by cases b <;> rfl
@[simp] theorem Dev.modSeg_torn (b : Bool) (f : RidgeSeg → RidgeSeg) : (d.modSeg b f).torn = d.torn := by cases b <;> rfl
@[simp] theorem Dev.modSeg_cycles (b : Bool) (f : RidgeSeg → RidgeSeg) : (d.modSeg b f).cycles = d.cycles := by cases b <;> rfl
@[simp] theorem Dev.modSeg_draws (b : Bool) (f : RidgeSeg → RidgeSeg) : (d.modSeg b f).draws = d.draws := by cases b <;> rfl
@[simp] theorem Dev.modSeg_cyc (b : Bool) (f : RidgeSeg → RidgeSeg) : (d.modSeg b f).cyc = d.cyc := by cases b <;> rfl
@[simp] theorem Dev.modSeg_raised (b : Bool) (f : RidgeSeg → RidgeSeg) : (d.modSeg b f).raised = d.raised := by cases b <;> rfl
@[simp] theorem Dev.modSeg_word (b : Bool) (f : RidgeSeg → RidgeSeg) (a' : Nat) : (d.modSeg b f).word a' = d.word a' := by cases b <;> rfl
@[simp] theorem Dev.modSeg_get (b : Bool) (f : RidgeSeg → RidgeSeg) (g : Fld) : (d.modSeg b f).get g = d.get g := by cases b <;> rfl
@[simp] theorem Dev.modSeg_on (b : Bool) (f : RidgeSeg → RidgeSeg) (g : Fld) : (d.modSeg b f).on g = d.on g := by cases b <;> rfl
@[simp] theorem Dev.modSeg_mode (b : Bool) (f : RidgeSeg → RidgeSeg) : (d.modSeg b f).mode = d.mode := by cases b <;> rfl

@[simp] theorem Dev.modBr_regs (n : Nat) (f : Branch → Branch) : (d.modBr n f).regs = d.regs := rfl
@[simp] theorem Dev.modBr_sup (n : Nat) (f : Branch → Branch) : (d.modBr n f).sup = d.sup := rfl
@[simp] theorem Dev.modBr_ridge (n : Nat) (f : Branch → Branch) : (d.modBr n f).ridge = d.ridge := rfl
@[simp] theorem Dev.modBr_pwm (n : Nat) (f : Branch → Branch) : (d.modBr n f).pwm = d.pwm := rfl
@[simp] theorem Dev.modBr_sense (n : Nat) (f : Branch → Branch) : (d.modBr n f).sense = d.sense := rfl
@[simp] theorem Dev.modBr_rafter (n : Nat) (f : Branch → Branch) : (d.modBr n f).rafter = d.rafter := rfl
@[simp] theorem Dev.modBr_stages (n : Nat) (f : Branch → Branch) : (d.modBr n f).stages = d.stages := rfl
@[simp] theorem Dev.modBr_twin (n : Nat) (f : Branch → Branch) : (d.modBr n f).twin = d.twin := rfl
@[simp] theorem Dev.modBr_coord (n : Nat) (f : Branch → Branch) : (d.modBr n f).coord = d.coord := rfl
@[simp] theorem Dev.modBr_net (n : Nat) (f : Branch → Branch) : (d.modBr n f).net = d.net := rfl
@[simp] theorem Dev.modBr_shelf (n : Nat) (f : Branch → Branch) : (d.modBr n f).shelf = d.shelf := rfl
@[simp] theorem Dev.modBr_batten (n : Nat) (f : Branch → Branch) : (d.modBr n f).batten = d.batten := rfl
@[simp] theorem Dev.modBr_seq (n : Nat) (f : Branch → Branch) : (d.modBr n f).seq = d.seq := rfl
@[simp] theorem Dev.modBr_strings (n : Nat) (f : Branch → Branch) : (d.modBr n f).strings = d.strings := rfl
@[simp] theorem Dev.modBr_therm (n : Nat) (f : Branch → Branch) : (d.modBr n f).therm = d.therm := rfl
@[simp] theorem Dev.modBr_gut (n : Nat) (f : Branch → Branch) : (d.modBr n f).gut = d.gut := rfl
@[simp] theorem Dev.modBr_thatch (n : Nat) (f : Branch → Branch) : (d.modBr n f).thatch = d.thatch := rfl
@[simp] theorem Dev.modBr_boot (n : Nat) (f : Branch → Branch) : (d.modBr n f).boot = d.boot := rfl
@[simp] theorem Dev.modBr_mbus (n : Nat) (f : Branch → Branch) : (d.modBr n f).mbus = d.mbus := rfl
@[simp] theorem Dev.modBr_host (n : Nat) (f : Branch → Branch) : (d.modBr n f).host = d.host := rfl
@[simp] theorem Dev.modBr_otp (n : Nat) (f : Branch → Branch) : (d.modBr n f).otp = d.otp := rfl
@[simp] theorem Dev.modBr_nvm (n : Nat) (f : Branch → Branch) : (d.modBr n f).nvm = d.nvm := rfl
@[simp] theorem Dev.modBr_torn (n : Nat) (f : Branch → Branch) : (d.modBr n f).torn = d.torn := rfl
@[simp] theorem Dev.modBr_cycles (n : Nat) (f : Branch → Branch) : (d.modBr n f).cycles = d.cycles := rfl
@[simp] theorem Dev.modBr_draws (n : Nat) (f : Branch → Branch) : (d.modBr n f).draws = d.draws := rfl
@[simp] theorem Dev.modBr_cyc (n : Nat) (f : Branch → Branch) : (d.modBr n f).cyc = d.cyc := rfl
@[simp] theorem Dev.modBr_raised (n : Nat) (f : Branch → Branch) : (d.modBr n f).raised = d.raised := rfl
@[simp] theorem Dev.modBr_word (n : Nat) (f : Branch → Branch) (a' : Nat) : (d.modBr n f).word a' = d.word a' := rfl
@[simp] theorem Dev.modBr_get (n : Nat) (f : Branch → Branch) (g : Fld) : (d.modBr n f).get g = d.get g := rfl
@[simp] theorem Dev.modBr_on (n : Nat) (f : Branch → Branch) (g : Fld) : (d.modBr n f).on g = d.on g := rfl
@[simp] theorem Dev.modBr_mode (n : Nat) (f : Branch → Branch) : (d.modBr n f).mode = d.mode := rfl

@[simp] theorem Dev.modBt_regs (n : Nat) (f : BtLink → BtLink) : (d.modBt n f).regs = d.regs := rfl
@[simp] theorem Dev.modBt_sup (n : Nat) (f : BtLink → BtLink) : (d.modBt n f).sup = d.sup := rfl
@[simp] theorem Dev.modBt_ridge (n : Nat) (f : BtLink → BtLink) : (d.modBt n f).ridge = d.ridge := rfl
@[simp] theorem Dev.modBt_pwm (n : Nat) (f : BtLink → BtLink) : (d.modBt n f).pwm = d.pwm := rfl
@[simp] theorem Dev.modBt_sense (n : Nat) (f : BtLink → BtLink) : (d.modBt n f).sense = d.sense := rfl
@[simp] theorem Dev.modBt_rafter (n : Nat) (f : BtLink → BtLink) : (d.modBt n f).rafter = d.rafter := rfl
@[simp] theorem Dev.modBt_stages (n : Nat) (f : BtLink → BtLink) : (d.modBt n f).stages = d.stages := rfl
@[simp] theorem Dev.modBt_twin (n : Nat) (f : BtLink → BtLink) : (d.modBt n f).twin = d.twin := rfl
@[simp] theorem Dev.modBt_coord (n : Nat) (f : BtLink → BtLink) : (d.modBt n f).coord = d.coord := rfl
@[simp] theorem Dev.modBt_net (n : Nat) (f : BtLink → BtLink) : (d.modBt n f).net = d.net := rfl
@[simp] theorem Dev.modBt_branches (n : Nat) (f : BtLink → BtLink) : (d.modBt n f).branches = d.branches := rfl
@[simp] theorem Dev.modBt_shelf (n : Nat) (f : BtLink → BtLink) : (d.modBt n f).shelf = d.shelf := rfl
@[simp] theorem Dev.modBt_seq (n : Nat) (f : BtLink → BtLink) : (d.modBt n f).seq = d.seq := rfl
@[simp] theorem Dev.modBt_strings (n : Nat) (f : BtLink → BtLink) : (d.modBt n f).strings = d.strings := rfl
@[simp] theorem Dev.modBt_therm (n : Nat) (f : BtLink → BtLink) : (d.modBt n f).therm = d.therm := rfl
@[simp] theorem Dev.modBt_gut (n : Nat) (f : BtLink → BtLink) : (d.modBt n f).gut = d.gut := rfl
@[simp] theorem Dev.modBt_thatch (n : Nat) (f : BtLink → BtLink) : (d.modBt n f).thatch = d.thatch := rfl
@[simp] theorem Dev.modBt_boot (n : Nat) (f : BtLink → BtLink) : (d.modBt n f).boot = d.boot := rfl
@[simp] theorem Dev.modBt_mbus (n : Nat) (f : BtLink → BtLink) : (d.modBt n f).mbus = d.mbus := rfl
@[simp] theorem Dev.modBt_host (n : Nat) (f : BtLink → BtLink) : (d.modBt n f).host = d.host := rfl
@[simp] theorem Dev.modBt_otp (n : Nat) (f : BtLink → BtLink) : (d.modBt n f).otp = d.otp := rfl
@[simp] theorem Dev.modBt_nvm (n : Nat) (f : BtLink → BtLink) : (d.modBt n f).nvm = d.nvm := rfl
@[simp] theorem Dev.modBt_torn (n : Nat) (f : BtLink → BtLink) : (d.modBt n f).torn = d.torn := rfl
@[simp] theorem Dev.modBt_cycles (n : Nat) (f : BtLink → BtLink) : (d.modBt n f).cycles = d.cycles := rfl
@[simp] theorem Dev.modBt_draws (n : Nat) (f : BtLink → BtLink) : (d.modBt n f).draws = d.draws := rfl
@[simp] theorem Dev.modBt_cyc (n : Nat) (f : BtLink → BtLink) : (d.modBt n f).cyc = d.cyc := rfl
@[simp] theorem Dev.modBt_raised (n : Nat) (f : BtLink → BtLink) : (d.modBt n f).raised = d.raised := rfl
@[simp] theorem Dev.modBt_word (n : Nat) (f : BtLink → BtLink) (a' : Nat) : (d.modBt n f).word a' = d.word a' := rfl
@[simp] theorem Dev.modBt_get (n : Nat) (f : BtLink → BtLink) (g : Fld) : (d.modBt n f).get g = d.get g := rfl
@[simp] theorem Dev.modBt_on (n : Nat) (f : BtLink → BtLink) (g : Fld) : (d.modBt n f).on g = d.on g := rfl
@[simp] theorem Dev.modBt_mode (n : Nat) (f : BtLink → BtLink) : (d.modBt n f).mode = d.mode := rfl

@[simp] theorem Dev.modSeq_regs (f : Seq → Seq) : (d.modSeq f).regs = d.regs := rfl
@[simp] theorem Dev.modSeq_sup (f : Seq → Seq) : (d.modSeq f).sup = d.sup := rfl
@[simp] theorem Dev.modSeq_ridge (f : Seq → Seq) : (d.modSeq f).ridge = d.ridge := rfl
@[simp] theorem Dev.modSeq_pwm (f : Seq → Seq) : (d.modSeq f).pwm = d.pwm := rfl
@[simp] theorem Dev.modSeq_sense (f : Seq → Seq) : (d.modSeq f).sense = d.sense := rfl
@[simp] theorem Dev.modSeq_rafter (f : Seq → Seq) : (d.modSeq f).rafter = d.rafter := rfl
@[simp] theorem Dev.modSeq_stages (f : Seq → Seq) : (d.modSeq f).stages = d.stages := rfl
@[simp] theorem Dev.modSeq_twin (f : Seq → Seq) : (d.modSeq f).twin = d.twin := rfl
@[simp] theorem Dev.modSeq_coord (f : Seq → Seq) : (d.modSeq f).coord = d.coord := rfl
@[simp] theorem Dev.modSeq_net (f : Seq → Seq) : (d.modSeq f).net = d.net := rfl
@[simp] theorem Dev.modSeq_branches (f : Seq → Seq) : (d.modSeq f).branches = d.branches := rfl
@[simp] theorem Dev.modSeq_shelf (f : Seq → Seq) : (d.modSeq f).shelf = d.shelf := rfl
@[simp] theorem Dev.modSeq_batten (f : Seq → Seq) : (d.modSeq f).batten = d.batten := rfl
@[simp] theorem Dev.modSeq_strings (f : Seq → Seq) : (d.modSeq f).strings = d.strings := rfl
@[simp] theorem Dev.modSeq_therm (f : Seq → Seq) : (d.modSeq f).therm = d.therm := rfl
@[simp] theorem Dev.modSeq_gut (f : Seq → Seq) : (d.modSeq f).gut = d.gut := rfl
@[simp] theorem Dev.modSeq_thatch (f : Seq → Seq) : (d.modSeq f).thatch = d.thatch := rfl
@[simp] theorem Dev.modSeq_boot (f : Seq → Seq) : (d.modSeq f).boot = d.boot := rfl
@[simp] theorem Dev.modSeq_mbus (f : Seq → Seq) : (d.modSeq f).mbus = d.mbus := rfl
@[simp] theorem Dev.modSeq_host (f : Seq → Seq) : (d.modSeq f).host = d.host := rfl
@[simp] theorem Dev.modSeq_otp (f : Seq → Seq) : (d.modSeq f).otp = d.otp := rfl
@[simp] theorem Dev.modSeq_nvm (f : Seq → Seq) : (d.modSeq f).nvm = d.nvm := rfl
@[simp] theorem Dev.modSeq_torn (f : Seq → Seq) : (d.modSeq f).torn = d.torn := rfl
@[simp] theorem Dev.modSeq_cycles (f : Seq → Seq) : (d.modSeq f).cycles = d.cycles := rfl
@[simp] theorem Dev.modSeq_draws (f : Seq → Seq) : (d.modSeq f).draws = d.draws := rfl
@[simp] theorem Dev.modSeq_cyc (f : Seq → Seq) : (d.modSeq f).cyc = d.cyc := rfl
@[simp] theorem Dev.modSeq_raised (f : Seq → Seq) : (d.modSeq f).raised = d.raised := rfl
@[simp] theorem Dev.modSeq_word (f : Seq → Seq) (a' : Nat) : (d.modSeq f).word a' = d.word a' := rfl
@[simp] theorem Dev.modSeq_get (f : Seq → Seq) (g : Fld) : (d.modSeq f).get g = d.get g := rfl
@[simp] theorem Dev.modSeq_on (f : Seq → Seq) (g : Fld) : (d.modSeq f).on g = d.on g := rfl
@[simp] theorem Dev.modSeq_mode (f : Seq → Seq) : (d.modSeq f).mode = d.mode := rfl
@[simp] theorem Dev.modSeq_seq (f : Seq → Seq) : (d.modSeq f).seq = f d.seq := rfl

@[simp] theorem Dev.modStr_regs (k : Nat) (f : Str → Str) : (d.modStr k f).regs = d.regs := rfl
@[simp] theorem Dev.modStr_sup (k : Nat) (f : Str → Str) : (d.modStr k f).sup = d.sup := rfl
@[simp] theorem Dev.modStr_ridge (k : Nat) (f : Str → Str) : (d.modStr k f).ridge = d.ridge := rfl
@[simp] theorem Dev.modStr_pwm (k : Nat) (f : Str → Str) : (d.modStr k f).pwm = d.pwm := rfl
@[simp] theorem Dev.modStr_sense (k : Nat) (f : Str → Str) : (d.modStr k f).sense = d.sense := rfl
@[simp] theorem Dev.modStr_rafter (k : Nat) (f : Str → Str) : (d.modStr k f).rafter = d.rafter := rfl
@[simp] theorem Dev.modStr_stages (k : Nat) (f : Str → Str) : (d.modStr k f).stages = d.stages := rfl
@[simp] theorem Dev.modStr_twin (k : Nat) (f : Str → Str) : (d.modStr k f).twin = d.twin := rfl
@[simp] theorem Dev.modStr_coord (k : Nat) (f : Str → Str) : (d.modStr k f).coord = d.coord := rfl
@[simp] theorem Dev.modStr_net (k : Nat) (f : Str → Str) : (d.modStr k f).net = d.net := rfl
@[simp] theorem Dev.modStr_branches (k : Nat) (f : Str → Str) : (d.modStr k f).branches = d.branches := rfl
@[simp] theorem Dev.modStr_shelf (k : Nat) (f : Str → Str) : (d.modStr k f).shelf = d.shelf := rfl
@[simp] theorem Dev.modStr_batten (k : Nat) (f : Str → Str) : (d.modStr k f).batten = d.batten := rfl
@[simp] theorem Dev.modStr_seq (k : Nat) (f : Str → Str) : (d.modStr k f).seq = d.seq := rfl
@[simp] theorem Dev.modStr_therm (k : Nat) (f : Str → Str) : (d.modStr k f).therm = d.therm := rfl
@[simp] theorem Dev.modStr_gut (k : Nat) (f : Str → Str) : (d.modStr k f).gut = d.gut := rfl
@[simp] theorem Dev.modStr_thatch (k : Nat) (f : Str → Str) : (d.modStr k f).thatch = d.thatch := rfl
@[simp] theorem Dev.modStr_boot (k : Nat) (f : Str → Str) : (d.modStr k f).boot = d.boot := rfl
@[simp] theorem Dev.modStr_mbus (k : Nat) (f : Str → Str) : (d.modStr k f).mbus = d.mbus := rfl
@[simp] theorem Dev.modStr_host (k : Nat) (f : Str → Str) : (d.modStr k f).host = d.host := rfl
@[simp] theorem Dev.modStr_otp (k : Nat) (f : Str → Str) : (d.modStr k f).otp = d.otp := rfl
@[simp] theorem Dev.modStr_nvm (k : Nat) (f : Str → Str) : (d.modStr k f).nvm = d.nvm := rfl
@[simp] theorem Dev.modStr_torn (k : Nat) (f : Str → Str) : (d.modStr k f).torn = d.torn := rfl
@[simp] theorem Dev.modStr_cycles (k : Nat) (f : Str → Str) : (d.modStr k f).cycles = d.cycles := rfl
@[simp] theorem Dev.modStr_draws (k : Nat) (f : Str → Str) : (d.modStr k f).draws = d.draws := rfl
@[simp] theorem Dev.modStr_cyc (k : Nat) (f : Str → Str) : (d.modStr k f).cyc = d.cyc := rfl
@[simp] theorem Dev.modStr_raised (k : Nat) (f : Str → Str) : (d.modStr k f).raised = d.raised := rfl
@[simp] theorem Dev.modStr_word (k : Nat) (f : Str → Str) (a' : Nat) : (d.modStr k f).word a' = d.word a' := rfl
@[simp] theorem Dev.modStr_get (k : Nat) (f : Str → Str) (g : Fld) : (d.modStr k f).get g = d.get g := rfl
@[simp] theorem Dev.modStr_on (k : Nat) (f : Str → Str) (g : Fld) : (d.modStr k f).on g = d.on g := rfl
@[simp] theorem Dev.modStr_mode (k : Nat) (f : Str → Str) : (d.modStr k f).mode = d.mode := rfl

@[simp] theorem Dev.modTherm_regs (c : Nat) (f : Therm → Therm) : (d.modTherm c f).regs = d.regs := rfl
@[simp] theorem Dev.modTherm_sup (c : Nat) (f : Therm → Therm) : (d.modTherm c f).sup = d.sup := rfl
@[simp] theorem Dev.modTherm_ridge (c : Nat) (f : Therm → Therm) : (d.modTherm c f).ridge = d.ridge := rfl
@[simp] theorem Dev.modTherm_pwm (c : Nat) (f : Therm → Therm) : (d.modTherm c f).pwm = d.pwm := rfl
@[simp] theorem Dev.modTherm_sense (c : Nat) (f : Therm → Therm) : (d.modTherm c f).sense = d.sense := rfl
@[simp] theorem Dev.modTherm_rafter (c : Nat) (f : Therm → Therm) : (d.modTherm c f).rafter = d.rafter := rfl
@[simp] theorem Dev.modTherm_stages (c : Nat) (f : Therm → Therm) : (d.modTherm c f).stages = d.stages := rfl
@[simp] theorem Dev.modTherm_twin (c : Nat) (f : Therm → Therm) : (d.modTherm c f).twin = d.twin := rfl
@[simp] theorem Dev.modTherm_coord (c : Nat) (f : Therm → Therm) : (d.modTherm c f).coord = d.coord := rfl
@[simp] theorem Dev.modTherm_net (c : Nat) (f : Therm → Therm) : (d.modTherm c f).net = d.net := rfl
@[simp] theorem Dev.modTherm_branches (c : Nat) (f : Therm → Therm) : (d.modTherm c f).branches = d.branches := rfl
@[simp] theorem Dev.modTherm_shelf (c : Nat) (f : Therm → Therm) : (d.modTherm c f).shelf = d.shelf := rfl
@[simp] theorem Dev.modTherm_batten (c : Nat) (f : Therm → Therm) : (d.modTherm c f).batten = d.batten := rfl
@[simp] theorem Dev.modTherm_seq (c : Nat) (f : Therm → Therm) : (d.modTherm c f).seq = d.seq := rfl
@[simp] theorem Dev.modTherm_strings (c : Nat) (f : Therm → Therm) : (d.modTherm c f).strings = d.strings := rfl
@[simp] theorem Dev.modTherm_gut (c : Nat) (f : Therm → Therm) : (d.modTherm c f).gut = d.gut := rfl
@[simp] theorem Dev.modTherm_thatch (c : Nat) (f : Therm → Therm) : (d.modTherm c f).thatch = d.thatch := rfl
@[simp] theorem Dev.modTherm_boot (c : Nat) (f : Therm → Therm) : (d.modTherm c f).boot = d.boot := rfl
@[simp] theorem Dev.modTherm_mbus (c : Nat) (f : Therm → Therm) : (d.modTherm c f).mbus = d.mbus := rfl
@[simp] theorem Dev.modTherm_host (c : Nat) (f : Therm → Therm) : (d.modTherm c f).host = d.host := rfl
@[simp] theorem Dev.modTherm_otp (c : Nat) (f : Therm → Therm) : (d.modTherm c f).otp = d.otp := rfl
@[simp] theorem Dev.modTherm_nvm (c : Nat) (f : Therm → Therm) : (d.modTherm c f).nvm = d.nvm := rfl
@[simp] theorem Dev.modTherm_torn (c : Nat) (f : Therm → Therm) : (d.modTherm c f).torn = d.torn := rfl
@[simp] theorem Dev.modTherm_cycles (c : Nat) (f : Therm → Therm) : (d.modTherm c f).cycles = d.cycles := rfl
@[simp] theorem Dev.modTherm_draws (c : Nat) (f : Therm → Therm) : (d.modTherm c f).draws = d.draws := rfl
@[simp] theorem Dev.modTherm_cyc (c : Nat) (f : Therm → Therm) : (d.modTherm c f).cyc = d.cyc := rfl
@[simp] theorem Dev.modTherm_raised (c : Nat) (f : Therm → Therm) : (d.modTherm c f).raised = d.raised := rfl
@[simp] theorem Dev.modTherm_word (c : Nat) (f : Therm → Therm) (a' : Nat) : (d.modTherm c f).word a' = d.word a' := rfl
@[simp] theorem Dev.modTherm_get (c : Nat) (f : Therm → Therm) (g : Fld) : (d.modTherm c f).get g = d.get g := rfl
@[simp] theorem Dev.modTherm_on (c : Nat) (f : Therm → Therm) (g : Fld) : (d.modTherm c f).on g = d.on g := rfl
@[simp] theorem Dev.modTherm_mode (c : Nat) (f : Therm → Therm) : (d.modTherm c f).mode = d.mode := rfl

@[simp] theorem Dev.modGut_regs (f : Gutter → Gutter) : (d.modGut f).regs = d.regs := rfl
@[simp] theorem Dev.modGut_sup (f : Gutter → Gutter) : (d.modGut f).sup = d.sup := rfl
@[simp] theorem Dev.modGut_ridge (f : Gutter → Gutter) : (d.modGut f).ridge = d.ridge := rfl
@[simp] theorem Dev.modGut_pwm (f : Gutter → Gutter) : (d.modGut f).pwm = d.pwm := rfl
@[simp] theorem Dev.modGut_sense (f : Gutter → Gutter) : (d.modGut f).sense = d.sense := rfl
@[simp] theorem Dev.modGut_rafter (f : Gutter → Gutter) : (d.modGut f).rafter = d.rafter := rfl
@[simp] theorem Dev.modGut_stages (f : Gutter → Gutter) : (d.modGut f).stages = d.stages := rfl
@[simp] theorem Dev.modGut_twin (f : Gutter → Gutter) : (d.modGut f).twin = d.twin := rfl
@[simp] theorem Dev.modGut_coord (f : Gutter → Gutter) : (d.modGut f).coord = d.coord := rfl
@[simp] theorem Dev.modGut_net (f : Gutter → Gutter) : (d.modGut f).net = d.net := rfl
@[simp] theorem Dev.modGut_branches (f : Gutter → Gutter) : (d.modGut f).branches = d.branches := rfl
@[simp] theorem Dev.modGut_shelf (f : Gutter → Gutter) : (d.modGut f).shelf = d.shelf := rfl
@[simp] theorem Dev.modGut_batten (f : Gutter → Gutter) : (d.modGut f).batten = d.batten := rfl
@[simp] theorem Dev.modGut_seq (f : Gutter → Gutter) : (d.modGut f).seq = d.seq := rfl
@[simp] theorem Dev.modGut_strings (f : Gutter → Gutter) : (d.modGut f).strings = d.strings := rfl
@[simp] theorem Dev.modGut_therm (f : Gutter → Gutter) : (d.modGut f).therm = d.therm := rfl
@[simp] theorem Dev.modGut_thatch (f : Gutter → Gutter) : (d.modGut f).thatch = d.thatch := rfl
@[simp] theorem Dev.modGut_boot (f : Gutter → Gutter) : (d.modGut f).boot = d.boot := rfl
@[simp] theorem Dev.modGut_mbus (f : Gutter → Gutter) : (d.modGut f).mbus = d.mbus := rfl
@[simp] theorem Dev.modGut_host (f : Gutter → Gutter) : (d.modGut f).host = d.host := rfl
@[simp] theorem Dev.modGut_otp (f : Gutter → Gutter) : (d.modGut f).otp = d.otp := rfl
@[simp] theorem Dev.modGut_nvm (f : Gutter → Gutter) : (d.modGut f).nvm = d.nvm := rfl
@[simp] theorem Dev.modGut_torn (f : Gutter → Gutter) : (d.modGut f).torn = d.torn := rfl
@[simp] theorem Dev.modGut_cycles (f : Gutter → Gutter) : (d.modGut f).cycles = d.cycles := rfl
@[simp] theorem Dev.modGut_draws (f : Gutter → Gutter) : (d.modGut f).draws = d.draws := rfl
@[simp] theorem Dev.modGut_cyc (f : Gutter → Gutter) : (d.modGut f).cyc = d.cyc := rfl
@[simp] theorem Dev.modGut_raised (f : Gutter → Gutter) : (d.modGut f).raised = d.raised := rfl
@[simp] theorem Dev.modGut_word (f : Gutter → Gutter) (a' : Nat) : (d.modGut f).word a' = d.word a' := rfl
@[simp] theorem Dev.modGut_get (f : Gutter → Gutter) (g : Fld) : (d.modGut f).get g = d.get g := rfl
@[simp] theorem Dev.modGut_on (f : Gutter → Gutter) (g : Fld) : (d.modGut f).on g = d.on g := rfl
@[simp] theorem Dev.modGut_mode (f : Gutter → Gutter) : (d.modGut f).mode = d.mode := rfl
@[simp] theorem Dev.modGut_gut (f : Gutter → Gutter) : (d.modGut f).gut = f d.gut := rfl

@[simp] theorem Dev.modThatch_regs (f : Thatch → Thatch) : (d.modThatch f).regs = d.regs := rfl
@[simp] theorem Dev.modThatch_sup (f : Thatch → Thatch) : (d.modThatch f).sup = d.sup := rfl
@[simp] theorem Dev.modThatch_ridge (f : Thatch → Thatch) : (d.modThatch f).ridge = d.ridge := rfl
@[simp] theorem Dev.modThatch_pwm (f : Thatch → Thatch) : (d.modThatch f).pwm = d.pwm := rfl
@[simp] theorem Dev.modThatch_sense (f : Thatch → Thatch) : (d.modThatch f).sense = d.sense := rfl
@[simp] theorem Dev.modThatch_rafter (f : Thatch → Thatch) : (d.modThatch f).rafter = d.rafter := rfl
@[simp] theorem Dev.modThatch_stages (f : Thatch → Thatch) : (d.modThatch f).stages = d.stages := rfl
@[simp] theorem Dev.modThatch_twin (f : Thatch → Thatch) : (d.modThatch f).twin = d.twin := rfl
@[simp] theorem Dev.modThatch_coord (f : Thatch → Thatch) : (d.modThatch f).coord = d.coord := rfl
@[simp] theorem Dev.modThatch_net (f : Thatch → Thatch) : (d.modThatch f).net = d.net := rfl
@[simp] theorem Dev.modThatch_branches (f : Thatch → Thatch) : (d.modThatch f).branches = d.branches := rfl
@[simp] theorem Dev.modThatch_shelf (f : Thatch → Thatch) : (d.modThatch f).shelf = d.shelf := rfl
@[simp] theorem Dev.modThatch_batten (f : Thatch → Thatch) : (d.modThatch f).batten = d.batten := rfl
@[simp] theorem Dev.modThatch_seq (f : Thatch → Thatch) : (d.modThatch f).seq = d.seq := rfl
@[simp] theorem Dev.modThatch_strings (f : Thatch → Thatch) : (d.modThatch f).strings = d.strings := rfl
@[simp] theorem Dev.modThatch_therm (f : Thatch → Thatch) : (d.modThatch f).therm = d.therm := rfl
@[simp] theorem Dev.modThatch_gut (f : Thatch → Thatch) : (d.modThatch f).gut = d.gut := rfl
@[simp] theorem Dev.modThatch_boot (f : Thatch → Thatch) : (d.modThatch f).boot = d.boot := rfl
@[simp] theorem Dev.modThatch_mbus (f : Thatch → Thatch) : (d.modThatch f).mbus = d.mbus := rfl
@[simp] theorem Dev.modThatch_host (f : Thatch → Thatch) : (d.modThatch f).host = d.host := rfl
@[simp] theorem Dev.modThatch_otp (f : Thatch → Thatch) : (d.modThatch f).otp = d.otp := rfl
@[simp] theorem Dev.modThatch_nvm (f : Thatch → Thatch) : (d.modThatch f).nvm = d.nvm := rfl
@[simp] theorem Dev.modThatch_torn (f : Thatch → Thatch) : (d.modThatch f).torn = d.torn := rfl
@[simp] theorem Dev.modThatch_cycles (f : Thatch → Thatch) : (d.modThatch f).cycles = d.cycles := rfl
@[simp] theorem Dev.modThatch_draws (f : Thatch → Thatch) : (d.modThatch f).draws = d.draws := rfl
@[simp] theorem Dev.modThatch_cyc (f : Thatch → Thatch) : (d.modThatch f).cyc = d.cyc := rfl
@[simp] theorem Dev.modThatch_raised (f : Thatch → Thatch) : (d.modThatch f).raised = d.raised := rfl
@[simp] theorem Dev.modThatch_word (f : Thatch → Thatch) (a' : Nat) : (d.modThatch f).word a' = d.word a' := rfl
@[simp] theorem Dev.modThatch_get (f : Thatch → Thatch) (g : Fld) : (d.modThatch f).get g = d.get g := rfl
@[simp] theorem Dev.modThatch_on (f : Thatch → Thatch) (g : Fld) : (d.modThatch f).on g = d.on g := rfl
@[simp] theorem Dev.modThatch_mode (f : Thatch → Thatch) : (d.modThatch f).mode = d.mode := rfl
@[simp] theorem Dev.modThatch_thatch (f : Thatch → Thatch) : (d.modThatch f).thatch = f d.thatch := rfl

@[simp] theorem Dev.modBoot_regs (f : Boot → Boot) : (d.modBoot f).regs = d.regs := rfl
@[simp] theorem Dev.modBoot_sup (f : Boot → Boot) : (d.modBoot f).sup = d.sup := rfl
@[simp] theorem Dev.modBoot_ridge (f : Boot → Boot) : (d.modBoot f).ridge = d.ridge := rfl
@[simp] theorem Dev.modBoot_pwm (f : Boot → Boot) : (d.modBoot f).pwm = d.pwm := rfl
@[simp] theorem Dev.modBoot_sense (f : Boot → Boot) : (d.modBoot f).sense = d.sense := rfl
@[simp] theorem Dev.modBoot_rafter (f : Boot → Boot) : (d.modBoot f).rafter = d.rafter := rfl
@[simp] theorem Dev.modBoot_stages (f : Boot → Boot) : (d.modBoot f).stages = d.stages := rfl
@[simp] theorem Dev.modBoot_twin (f : Boot → Boot) : (d.modBoot f).twin = d.twin := rfl
@[simp] theorem Dev.modBoot_coord (f : Boot → Boot) : (d.modBoot f).coord = d.coord := rfl
@[simp] theorem Dev.modBoot_net (f : Boot → Boot) : (d.modBoot f).net = d.net := rfl
@[simp] theorem Dev.modBoot_branches (f : Boot → Boot) : (d.modBoot f).branches = d.branches := rfl
@[simp] theorem Dev.modBoot_shelf (f : Boot → Boot) : (d.modBoot f).shelf = d.shelf := rfl
@[simp] theorem Dev.modBoot_batten (f : Boot → Boot) : (d.modBoot f).batten = d.batten := rfl
@[simp] theorem Dev.modBoot_seq (f : Boot → Boot) : (d.modBoot f).seq = d.seq := rfl
@[simp] theorem Dev.modBoot_strings (f : Boot → Boot) : (d.modBoot f).strings = d.strings := rfl
@[simp] theorem Dev.modBoot_therm (f : Boot → Boot) : (d.modBoot f).therm = d.therm := rfl
@[simp] theorem Dev.modBoot_gut (f : Boot → Boot) : (d.modBoot f).gut = d.gut := rfl
@[simp] theorem Dev.modBoot_thatch (f : Boot → Boot) : (d.modBoot f).thatch = d.thatch := rfl
@[simp] theorem Dev.modBoot_mbus (f : Boot → Boot) : (d.modBoot f).mbus = d.mbus := rfl
@[simp] theorem Dev.modBoot_host (f : Boot → Boot) : (d.modBoot f).host = d.host := rfl
@[simp] theorem Dev.modBoot_otp (f : Boot → Boot) : (d.modBoot f).otp = d.otp := rfl
@[simp] theorem Dev.modBoot_nvm (f : Boot → Boot) : (d.modBoot f).nvm = d.nvm := rfl
@[simp] theorem Dev.modBoot_torn (f : Boot → Boot) : (d.modBoot f).torn = d.torn := rfl
@[simp] theorem Dev.modBoot_cycles (f : Boot → Boot) : (d.modBoot f).cycles = d.cycles := rfl
@[simp] theorem Dev.modBoot_draws (f : Boot → Boot) : (d.modBoot f).draws = d.draws := rfl
@[simp] theorem Dev.modBoot_cyc (f : Boot → Boot) : (d.modBoot f).cyc = d.cyc := rfl
@[simp] theorem Dev.modBoot_raised (f : Boot → Boot) : (d.modBoot f).raised = d.raised := rfl
@[simp] theorem Dev.modBoot_word (f : Boot → Boot) (a' : Nat) : (d.modBoot f).word a' = d.word a' := rfl
@[simp] theorem Dev.modBoot_get (f : Boot → Boot) (g : Fld) : (d.modBoot f).get g = d.get g := rfl
@[simp] theorem Dev.modBoot_on (f : Boot → Boot) (g : Fld) : (d.modBoot f).on g = d.on g := rfl
@[simp] theorem Dev.modBoot_mode (f : Boot → Boot) : (d.modBoot f).mode = d.mode := rfl
@[simp] theorem Dev.modBoot_boot (f : Boot → Boot) : (d.modBoot f).boot = f d.boot := rfl

@[simp] theorem Dev.setMb_regs (b : Nat) (t : Option MbTrans) : (d.setMb b t).regs = d.regs := rfl
@[simp] theorem Dev.setMb_sup (b : Nat) (t : Option MbTrans) : (d.setMb b t).sup = d.sup := rfl
@[simp] theorem Dev.setMb_ridge (b : Nat) (t : Option MbTrans) : (d.setMb b t).ridge = d.ridge := rfl
@[simp] theorem Dev.setMb_pwm (b : Nat) (t : Option MbTrans) : (d.setMb b t).pwm = d.pwm := rfl
@[simp] theorem Dev.setMb_sense (b : Nat) (t : Option MbTrans) : (d.setMb b t).sense = d.sense := rfl
@[simp] theorem Dev.setMb_rafter (b : Nat) (t : Option MbTrans) : (d.setMb b t).rafter = d.rafter := rfl
@[simp] theorem Dev.setMb_stages (b : Nat) (t : Option MbTrans) : (d.setMb b t).stages = d.stages := rfl
@[simp] theorem Dev.setMb_twin (b : Nat) (t : Option MbTrans) : (d.setMb b t).twin = d.twin := rfl
@[simp] theorem Dev.setMb_coord (b : Nat) (t : Option MbTrans) : (d.setMb b t).coord = d.coord := rfl
@[simp] theorem Dev.setMb_net (b : Nat) (t : Option MbTrans) : (d.setMb b t).net = d.net := rfl
@[simp] theorem Dev.setMb_branches (b : Nat) (t : Option MbTrans) : (d.setMb b t).branches = d.branches := rfl
@[simp] theorem Dev.setMb_shelf (b : Nat) (t : Option MbTrans) : (d.setMb b t).shelf = d.shelf := rfl
@[simp] theorem Dev.setMb_batten (b : Nat) (t : Option MbTrans) : (d.setMb b t).batten = d.batten := rfl
@[simp] theorem Dev.setMb_seq (b : Nat) (t : Option MbTrans) : (d.setMb b t).seq = d.seq := rfl
@[simp] theorem Dev.setMb_strings (b : Nat) (t : Option MbTrans) : (d.setMb b t).strings = d.strings := rfl
@[simp] theorem Dev.setMb_therm (b : Nat) (t : Option MbTrans) : (d.setMb b t).therm = d.therm := rfl
@[simp] theorem Dev.setMb_gut (b : Nat) (t : Option MbTrans) : (d.setMb b t).gut = d.gut := rfl
@[simp] theorem Dev.setMb_thatch (b : Nat) (t : Option MbTrans) : (d.setMb b t).thatch = d.thatch := rfl
@[simp] theorem Dev.setMb_boot (b : Nat) (t : Option MbTrans) : (d.setMb b t).boot = d.boot := rfl
@[simp] theorem Dev.setMb_host (b : Nat) (t : Option MbTrans) : (d.setMb b t).host = d.host := rfl
@[simp] theorem Dev.setMb_otp (b : Nat) (t : Option MbTrans) : (d.setMb b t).otp = d.otp := rfl
@[simp] theorem Dev.setMb_nvm (b : Nat) (t : Option MbTrans) : (d.setMb b t).nvm = d.nvm := rfl
@[simp] theorem Dev.setMb_torn (b : Nat) (t : Option MbTrans) : (d.setMb b t).torn = d.torn := rfl
@[simp] theorem Dev.setMb_cycles (b : Nat) (t : Option MbTrans) : (d.setMb b t).cycles = d.cycles := rfl
@[simp] theorem Dev.setMb_draws (b : Nat) (t : Option MbTrans) : (d.setMb b t).draws = d.draws := rfl
@[simp] theorem Dev.setMb_cyc (b : Nat) (t : Option MbTrans) : (d.setMb b t).cyc = d.cyc := rfl
@[simp] theorem Dev.setMb_raised (b : Nat) (t : Option MbTrans) : (d.setMb b t).raised = d.raised := rfl
@[simp] theorem Dev.setMb_word (b : Nat) (t : Option MbTrans) (a' : Nat) : (d.setMb b t).word a' = d.word a' := rfl
@[simp] theorem Dev.setMb_get (b : Nat) (t : Option MbTrans) (g : Fld) : (d.setMb b t).get g = d.get g := rfl
@[simp] theorem Dev.setMb_on (b : Nat) (t : Option MbTrans) (g : Fld) : (d.setMb b t).on g = d.on g := rfl
@[simp] theorem Dev.setMb_mode (b : Nat) (t : Option MbTrans) : (d.setMb b t).mode = d.mode := rfl

@[simp] theorem Dev.modHost_regs (f : HostIf → HostIf) : (d.modHost f).regs = d.regs := rfl
@[simp] theorem Dev.modHost_sup (f : HostIf → HostIf) : (d.modHost f).sup = d.sup := rfl
@[simp] theorem Dev.modHost_ridge (f : HostIf → HostIf) : (d.modHost f).ridge = d.ridge := rfl
@[simp] theorem Dev.modHost_pwm (f : HostIf → HostIf) : (d.modHost f).pwm = d.pwm := rfl
@[simp] theorem Dev.modHost_sense (f : HostIf → HostIf) : (d.modHost f).sense = d.sense := rfl
@[simp] theorem Dev.modHost_rafter (f : HostIf → HostIf) : (d.modHost f).rafter = d.rafter := rfl
@[simp] theorem Dev.modHost_stages (f : HostIf → HostIf) : (d.modHost f).stages = d.stages := rfl
@[simp] theorem Dev.modHost_twin (f : HostIf → HostIf) : (d.modHost f).twin = d.twin := rfl
@[simp] theorem Dev.modHost_coord (f : HostIf → HostIf) : (d.modHost f).coord = d.coord := rfl
@[simp] theorem Dev.modHost_net (f : HostIf → HostIf) : (d.modHost f).net = d.net := rfl
@[simp] theorem Dev.modHost_branches (f : HostIf → HostIf) : (d.modHost f).branches = d.branches := rfl
@[simp] theorem Dev.modHost_shelf (f : HostIf → HostIf) : (d.modHost f).shelf = d.shelf := rfl
@[simp] theorem Dev.modHost_batten (f : HostIf → HostIf) : (d.modHost f).batten = d.batten := rfl
@[simp] theorem Dev.modHost_seq (f : HostIf → HostIf) : (d.modHost f).seq = d.seq := rfl
@[simp] theorem Dev.modHost_strings (f : HostIf → HostIf) : (d.modHost f).strings = d.strings := rfl
@[simp] theorem Dev.modHost_therm (f : HostIf → HostIf) : (d.modHost f).therm = d.therm := rfl
@[simp] theorem Dev.modHost_gut (f : HostIf → HostIf) : (d.modHost f).gut = d.gut := rfl
@[simp] theorem Dev.modHost_thatch (f : HostIf → HostIf) : (d.modHost f).thatch = d.thatch := rfl
@[simp] theorem Dev.modHost_boot (f : HostIf → HostIf) : (d.modHost f).boot = d.boot := rfl
@[simp] theorem Dev.modHost_mbus (f : HostIf → HostIf) : (d.modHost f).mbus = d.mbus := rfl
@[simp] theorem Dev.modHost_otp (f : HostIf → HostIf) : (d.modHost f).otp = d.otp := rfl
@[simp] theorem Dev.modHost_nvm (f : HostIf → HostIf) : (d.modHost f).nvm = d.nvm := rfl
@[simp] theorem Dev.modHost_torn (f : HostIf → HostIf) : (d.modHost f).torn = d.torn := rfl
@[simp] theorem Dev.modHost_cycles (f : HostIf → HostIf) : (d.modHost f).cycles = d.cycles := rfl
@[simp] theorem Dev.modHost_draws (f : HostIf → HostIf) : (d.modHost f).draws = d.draws := rfl
@[simp] theorem Dev.modHost_cyc (f : HostIf → HostIf) : (d.modHost f).cyc = d.cyc := rfl
@[simp] theorem Dev.modHost_raised (f : HostIf → HostIf) : (d.modHost f).raised = d.raised := rfl
@[simp] theorem Dev.modHost_word (f : HostIf → HostIf) (a' : Nat) : (d.modHost f).word a' = d.word a' := rfl
@[simp] theorem Dev.modHost_get (f : HostIf → HostIf) (g : Fld) : (d.modHost f).get g = d.get g := rfl
@[simp] theorem Dev.modHost_on (f : HostIf → HostIf) (g : Fld) : (d.modHost f).on g = d.on g := rfl
@[simp] theorem Dev.modHost_mode (f : HostIf → HostIf) : (d.modHost f).mode = d.mode := rfl
@[simp] theorem Dev.modHost_host (f : HostIf → HostIf) : (d.modHost f).host = f d.host := rfl

@[simp] theorem Dev.setFuse_regs (a : Nat) (c : FuseCell) : (d.setFuse a c).regs = d.regs := rfl
@[simp] theorem Dev.setFuse_sup (a : Nat) (c : FuseCell) : (d.setFuse a c).sup = d.sup := rfl
@[simp] theorem Dev.setFuse_ridge (a : Nat) (c : FuseCell) : (d.setFuse a c).ridge = d.ridge := rfl
@[simp] theorem Dev.setFuse_pwm (a : Nat) (c : FuseCell) : (d.setFuse a c).pwm = d.pwm := rfl
@[simp] theorem Dev.setFuse_sense (a : Nat) (c : FuseCell) : (d.setFuse a c).sense = d.sense := rfl
@[simp] theorem Dev.setFuse_rafter (a : Nat) (c : FuseCell) : (d.setFuse a c).rafter = d.rafter := rfl
@[simp] theorem Dev.setFuse_stages (a : Nat) (c : FuseCell) : (d.setFuse a c).stages = d.stages := rfl
@[simp] theorem Dev.setFuse_twin (a : Nat) (c : FuseCell) : (d.setFuse a c).twin = d.twin := rfl
@[simp] theorem Dev.setFuse_coord (a : Nat) (c : FuseCell) : (d.setFuse a c).coord = d.coord := rfl
@[simp] theorem Dev.setFuse_net (a : Nat) (c : FuseCell) : (d.setFuse a c).net = d.net := rfl
@[simp] theorem Dev.setFuse_branches (a : Nat) (c : FuseCell) : (d.setFuse a c).branches = d.branches := rfl
@[simp] theorem Dev.setFuse_shelf (a : Nat) (c : FuseCell) : (d.setFuse a c).shelf = d.shelf := rfl
@[simp] theorem Dev.setFuse_batten (a : Nat) (c : FuseCell) : (d.setFuse a c).batten = d.batten := rfl
@[simp] theorem Dev.setFuse_seq (a : Nat) (c : FuseCell) : (d.setFuse a c).seq = d.seq := rfl
@[simp] theorem Dev.setFuse_strings (a : Nat) (c : FuseCell) : (d.setFuse a c).strings = d.strings := rfl
@[simp] theorem Dev.setFuse_therm (a : Nat) (c : FuseCell) : (d.setFuse a c).therm = d.therm := rfl
@[simp] theorem Dev.setFuse_gut (a : Nat) (c : FuseCell) : (d.setFuse a c).gut = d.gut := rfl
@[simp] theorem Dev.setFuse_thatch (a : Nat) (c : FuseCell) : (d.setFuse a c).thatch = d.thatch := rfl
@[simp] theorem Dev.setFuse_boot (a : Nat) (c : FuseCell) : (d.setFuse a c).boot = d.boot := rfl
@[simp] theorem Dev.setFuse_mbus (a : Nat) (c : FuseCell) : (d.setFuse a c).mbus = d.mbus := rfl
@[simp] theorem Dev.setFuse_host (a : Nat) (c : FuseCell) : (d.setFuse a c).host = d.host := rfl
@[simp] theorem Dev.setFuse_nvm (a : Nat) (c : FuseCell) : (d.setFuse a c).nvm = d.nvm := rfl
@[simp] theorem Dev.setFuse_torn (a : Nat) (c : FuseCell) : (d.setFuse a c).torn = d.torn := rfl
@[simp] theorem Dev.setFuse_cycles (a : Nat) (c : FuseCell) : (d.setFuse a c).cycles = d.cycles := rfl
@[simp] theorem Dev.setFuse_draws (a : Nat) (c : FuseCell) : (d.setFuse a c).draws = d.draws := rfl
@[simp] theorem Dev.setFuse_cyc (a : Nat) (c : FuseCell) : (d.setFuse a c).cyc = d.cyc := rfl
@[simp] theorem Dev.setFuse_raised (a : Nat) (c : FuseCell) : (d.setFuse a c).raised = d.raised := rfl
@[simp] theorem Dev.setFuse_word (a : Nat) (c : FuseCell) (a' : Nat) : (d.setFuse a c).word a' = d.word a' := rfl
@[simp] theorem Dev.setFuse_get (a : Nat) (c : FuseCell) (g : Fld) : (d.setFuse a c).get g = d.get g := rfl
@[simp] theorem Dev.setFuse_on (a : Nat) (c : FuseCell) (g : Fld) : (d.setFuse a c).on g = d.on g := rfl
@[simp] theorem Dev.setFuse_mode (a : Nat) (c : FuseCell) : (d.setFuse a c).mode = d.mode := rfl

@[simp] theorem Dev.disarm_regs : (d.disarm).regs = d.regs := rfl
@[simp] theorem Dev.disarm_sup : (d.disarm).sup = d.sup := rfl
@[simp] theorem Dev.disarm_ridge : (d.disarm).ridge = d.ridge := rfl
@[simp] theorem Dev.disarm_pwm : (d.disarm).pwm = d.pwm := rfl
@[simp] theorem Dev.disarm_sense : (d.disarm).sense = d.sense := rfl
@[simp] theorem Dev.disarm_rafter : (d.disarm).rafter = d.rafter := rfl
@[simp] theorem Dev.disarm_stages : (d.disarm).stages = d.stages := rfl
@[simp] theorem Dev.disarm_twin : (d.disarm).twin = d.twin := rfl
@[simp] theorem Dev.disarm_coord : (d.disarm).coord = d.coord := rfl
@[simp] theorem Dev.disarm_net : (d.disarm).net = d.net := rfl
@[simp] theorem Dev.disarm_branches : (d.disarm).branches = d.branches := rfl
@[simp] theorem Dev.disarm_shelf : (d.disarm).shelf = d.shelf := rfl
@[simp] theorem Dev.disarm_batten : (d.disarm).batten = d.batten := rfl
@[simp] theorem Dev.disarm_seq : (d.disarm).seq = d.seq := rfl
@[simp] theorem Dev.disarm_strings : (d.disarm).strings = d.strings := rfl
@[simp] theorem Dev.disarm_therm : (d.disarm).therm = d.therm := rfl
@[simp] theorem Dev.disarm_gut : (d.disarm).gut = d.gut := rfl
@[simp] theorem Dev.disarm_thatch : (d.disarm).thatch = d.thatch := rfl
@[simp] theorem Dev.disarm_mbus : (d.disarm).mbus = d.mbus := rfl
@[simp] theorem Dev.disarm_host : (d.disarm).host = d.host := rfl
@[simp] theorem Dev.disarm_otp : (d.disarm).otp = d.otp := rfl
@[simp] theorem Dev.disarm_nvm : (d.disarm).nvm = d.nvm := rfl
@[simp] theorem Dev.disarm_torn : (d.disarm).torn = d.torn := rfl
@[simp] theorem Dev.disarm_cycles : (d.disarm).cycles = d.cycles := rfl
@[simp] theorem Dev.disarm_draws : (d.disarm).draws = d.draws := rfl
@[simp] theorem Dev.disarm_cyc : (d.disarm).cyc = d.cyc := rfl
@[simp] theorem Dev.disarm_raised : (d.disarm).raised = d.raised := rfl

@[simp] theorem Dev.report_regs (ev idx kind : Nat) (inj : Bool) : (d.report ev idx kind inj).regs = d.regs := rfl
@[simp] theorem Dev.report_sup (ev idx kind : Nat) (inj : Bool) : (d.report ev idx kind inj).sup = d.sup := rfl
@[simp] theorem Dev.report_ridge (ev idx kind : Nat) (inj : Bool) : (d.report ev idx kind inj).ridge = d.ridge := rfl
@[simp] theorem Dev.report_pwm (ev idx kind : Nat) (inj : Bool) : (d.report ev idx kind inj).pwm = d.pwm := rfl
@[simp] theorem Dev.report_sense (ev idx kind : Nat) (inj : Bool) : (d.report ev idx kind inj).sense = d.sense := rfl
@[simp] theorem Dev.report_rafter (ev idx kind : Nat) (inj : Bool) : (d.report ev idx kind inj).rafter = d.rafter := rfl
@[simp] theorem Dev.report_stages (ev idx kind : Nat) (inj : Bool) : (d.report ev idx kind inj).stages = d.stages := rfl
@[simp] theorem Dev.report_twin (ev idx kind : Nat) (inj : Bool) : (d.report ev idx kind inj).twin = d.twin := rfl
@[simp] theorem Dev.report_coord (ev idx kind : Nat) (inj : Bool) : (d.report ev idx kind inj).coord = d.coord := rfl
@[simp] theorem Dev.report_net (ev idx kind : Nat) (inj : Bool) : (d.report ev idx kind inj).net = d.net := rfl
@[simp] theorem Dev.report_branches (ev idx kind : Nat) (inj : Bool) : (d.report ev idx kind inj).branches = d.branches := rfl
@[simp] theorem Dev.report_shelf (ev idx kind : Nat) (inj : Bool) : (d.report ev idx kind inj).shelf = d.shelf := rfl
@[simp] theorem Dev.report_batten (ev idx kind : Nat) (inj : Bool) : (d.report ev idx kind inj).batten = d.batten := rfl
@[simp] theorem Dev.report_seq (ev idx kind : Nat) (inj : Bool) : (d.report ev idx kind inj).seq = d.seq := rfl
@[simp] theorem Dev.report_strings (ev idx kind : Nat) (inj : Bool) : (d.report ev idx kind inj).strings = d.strings := rfl
@[simp] theorem Dev.report_therm (ev idx kind : Nat) (inj : Bool) : (d.report ev idx kind inj).therm = d.therm := rfl
@[simp] theorem Dev.report_gut (ev idx kind : Nat) (inj : Bool) : (d.report ev idx kind inj).gut = d.gut := rfl
@[simp] theorem Dev.report_thatch (ev idx kind : Nat) (inj : Bool) : (d.report ev idx kind inj).thatch = d.thatch := rfl
@[simp] theorem Dev.report_boot (ev idx kind : Nat) (inj : Bool) : (d.report ev idx kind inj).boot = d.boot := rfl
@[simp] theorem Dev.report_mbus (ev idx kind : Nat) (inj : Bool) : (d.report ev idx kind inj).mbus = d.mbus := rfl
@[simp] theorem Dev.report_host (ev idx kind : Nat) (inj : Bool) : (d.report ev idx kind inj).host = d.host := rfl
@[simp] theorem Dev.report_otp (ev idx kind : Nat) (inj : Bool) : (d.report ev idx kind inj).otp = d.otp := rfl
@[simp] theorem Dev.report_nvm (ev idx kind : Nat) (inj : Bool) : (d.report ev idx kind inj).nvm = d.nvm := rfl
@[simp] theorem Dev.report_torn (ev idx kind : Nat) (inj : Bool) : (d.report ev idx kind inj).torn = d.torn := rfl
@[simp] theorem Dev.report_cycles (ev idx kind : Nat) (inj : Bool) : (d.report ev idx kind inj).cycles = d.cycles := rfl
@[simp] theorem Dev.report_draws (ev idx kind : Nat) (inj : Bool) : (d.report ev idx kind inj).draws = d.draws := rfl
@[simp] theorem Dev.report_cyc (ev idx kind : Nat) (inj : Bool) : (d.report ev idx kind inj).cyc = d.cyc := rfl
@[simp] theorem Dev.report_word (ev idx kind : Nat) (inj : Bool) (a' : Nat) : (d.report ev idx kind inj).word a' = d.word a' := rfl
@[simp] theorem Dev.report_get (ev idx kind : Nat) (inj : Bool) (g : Fld) : (d.report ev idx kind inj).get g = d.get g := rfl
@[simp] theorem Dev.report_on (ev idx kind : Nat) (inj : Bool) (g : Fld) : (d.report ev idx kind inj).on g = d.on g := rfl
@[simp] theorem Dev.report_mode (ev idx kind : Nat) (inj : Bool) : (d.report ev idx kind inj).mode = d.mode := rfl

@[simp] theorem Dev.report_raised (ev idx kind : Nat) (inj : Bool) :
    (d.report ev idx kind inj).raised = d.raised ++ [⟨ev, idx, kind, inj, false⟩] := rfl

@[simp] theorem Dev.modSense_regs (f : Sense → Sense) : (d.modSense f).regs = d.regs := rfl
@[simp] theorem Dev.modSense_sup (f : Sense → Sense) : (d.modSense f).sup = d.sup := rfl
@[simp] theorem Dev.modSense_ridge (f : Sense → Sense) : (d.modSense f).ridge = d.ridge := rfl
@[simp] theorem Dev.modSense_pwm (f : Sense → Sense) : (d.modSense f).pwm = d.pwm := rfl
@[simp] theorem Dev.modSense_rafter (f : Sense → Sense) : (d.modSense f).rafter = d.rafter := rfl
@[simp] theorem Dev.modSense_stages (f : Sense → Sense) : (d.modSense f).stages = d.stages := rfl
@[simp] theorem Dev.modSense_twin (f : Sense → Sense) : (d.modSense f).twin = d.twin := rfl
@[simp] theorem Dev.modSense_coord (f : Sense → Sense) : (d.modSense f).coord = d.coord := rfl
@[simp] theorem Dev.modSense_net (f : Sense → Sense) : (d.modSense f).net = d.net := rfl
@[simp] theorem Dev.modSense_branches (f : Sense → Sense) : (d.modSense f).branches = d.branches := rfl
@[simp] theorem Dev.modSense_shelf (f : Sense → Sense) : (d.modSense f).shelf = d.shelf := rfl
@[simp] theorem Dev.modSense_batten (f : Sense → Sense) : (d.modSense f).batten = d.batten := rfl
@[simp] theorem Dev.modSense_seq (f : Sense → Sense) : (d.modSense f).seq = d.seq := rfl
@[simp] theorem Dev.modSense_strings (f : Sense → Sense) : (d.modSense f).strings = d.strings := rfl
@[simp] theorem Dev.modSense_therm (f : Sense → Sense) : (d.modSense f).therm = d.therm := rfl
@[simp] theorem Dev.modSense_gut (f : Sense → Sense) : (d.modSense f).gut = d.gut := rfl
@[simp] theorem Dev.modSense_thatch (f : Sense → Sense) : (d.modSense f).thatch = d.thatch := rfl
@[simp] theorem Dev.modSense_boot (f : Sense → Sense) : (d.modSense f).boot = d.boot := rfl
@[simp] theorem Dev.modSense_mbus (f : Sense → Sense) : (d.modSense f).mbus = d.mbus := rfl
@[simp] theorem Dev.modSense_host (f : Sense → Sense) : (d.modSense f).host = d.host := rfl
@[simp] theorem Dev.modSense_otp (f : Sense → Sense) : (d.modSense f).otp = d.otp := rfl
@[simp] theorem Dev.modSense_nvm (f : Sense → Sense) : (d.modSense f).nvm = d.nvm := rfl
@[simp] theorem Dev.modSense_torn (f : Sense → Sense) : (d.modSense f).torn = d.torn := rfl
@[simp] theorem Dev.modSense_cycles (f : Sense → Sense) : (d.modSense f).cycles = d.cycles := rfl
@[simp] theorem Dev.modSense_draws (f : Sense → Sense) : (d.modSense f).draws = d.draws := rfl
@[simp] theorem Dev.modSense_cyc (f : Sense → Sense) : (d.modSense f).cyc = d.cyc := rfl
@[simp] theorem Dev.modSense_raised (f : Sense → Sense) : (d.modSense f).raised = d.raised := rfl
@[simp] theorem Dev.modSense_word (f : Sense → Sense) (a' : Nat) : (d.modSense f).word a' = d.word a' := rfl
@[simp] theorem Dev.modSense_get (f : Sense → Sense) (g : Fld) : (d.modSense f).get g = d.get g := rfl
@[simp] theorem Dev.modSense_on (f : Sense → Sense) (g : Fld) : (d.modSense f).on g = d.on g := rfl
@[simp] theorem Dev.modSense_mode (f : Sense → Sense) : (d.modSense f).mode = d.mode := rfl
@[simp] theorem Dev.modSense_sense (f : Sense → Sense) : (d.modSense f).sense = f d.sense := rfl

@[simp] theorem Dev.modPll_regs (f : Pll → Pll) : (d.modPll f).regs = d.regs := rfl
@[simp] theorem Dev.modPll_sup (f : Pll → Pll) : (d.modPll f).sup = d.sup := rfl
@[simp] theorem Dev.modPll_pwm (f : Pll → Pll) : (d.modPll f).pwm = d.pwm := rfl
@[simp] theorem Dev.modPll_sense (f : Pll → Pll) : (d.modPll f).sense = d.sense := rfl
@[simp] theorem Dev.modPll_rafter (f : Pll → Pll) : (d.modPll f).rafter = d.rafter := rfl
@[simp] theorem Dev.modPll_stages (f : Pll → Pll) : (d.modPll f).stages = d.stages := rfl
@[simp] theorem Dev.modPll_twin (f : Pll → Pll) : (d.modPll f).twin = d.twin := rfl
@[simp] theorem Dev.modPll_coord (f : Pll → Pll) : (d.modPll f).coord = d.coord := rfl
@[simp] theorem Dev.modPll_net (f : Pll → Pll) : (d.modPll f).net = d.net := rfl
@[simp] theorem Dev.modPll_branches (f : Pll → Pll) : (d.modPll f).branches = d.branches := rfl
@[simp] theorem Dev.modPll_shelf (f : Pll → Pll) : (d.modPll f).shelf = d.shelf := rfl
@[simp] theorem Dev.modPll_batten (f : Pll → Pll) : (d.modPll f).batten = d.batten := rfl
@[simp] theorem Dev.modPll_seq (f : Pll → Pll) : (d.modPll f).seq = d.seq := rfl
@[simp] theorem Dev.modPll_strings (f : Pll → Pll) : (d.modPll f).strings = d.strings := rfl
@[simp] theorem Dev.modPll_therm (f : Pll → Pll) : (d.modPll f).therm = d.therm := rfl
@[simp] theorem Dev.modPll_gut (f : Pll → Pll) : (d.modPll f).gut = d.gut := rfl
@[simp] theorem Dev.modPll_thatch (f : Pll → Pll) : (d.modPll f).thatch = d.thatch := rfl
@[simp] theorem Dev.modPll_boot (f : Pll → Pll) : (d.modPll f).boot = d.boot := rfl
@[simp] theorem Dev.modPll_mbus (f : Pll → Pll) : (d.modPll f).mbus = d.mbus := rfl
@[simp] theorem Dev.modPll_host (f : Pll → Pll) : (d.modPll f).host = d.host := rfl
@[simp] theorem Dev.modPll_otp (f : Pll → Pll) : (d.modPll f).otp = d.otp := rfl
@[simp] theorem Dev.modPll_nvm (f : Pll → Pll) : (d.modPll f).nvm = d.nvm := rfl
@[simp] theorem Dev.modPll_torn (f : Pll → Pll) : (d.modPll f).torn = d.torn := rfl
@[simp] theorem Dev.modPll_cycles (f : Pll → Pll) : (d.modPll f).cycles = d.cycles := rfl
@[simp] theorem Dev.modPll_draws (f : Pll → Pll) : (d.modPll f).draws = d.draws := rfl
@[simp] theorem Dev.modPll_cyc (f : Pll → Pll) : (d.modPll f).cyc = d.cyc := rfl
@[simp] theorem Dev.modPll_raised (f : Pll → Pll) : (d.modPll f).raised = d.raised := rfl
@[simp] theorem Dev.modPll_word (f : Pll → Pll) (a' : Nat) : (d.modPll f).word a' = d.word a' := rfl
@[simp] theorem Dev.modPll_get (f : Pll → Pll) (g : Fld) : (d.modPll f).get g = d.get g := rfl
@[simp] theorem Dev.modPll_on (f : Pll → Pll) (g : Fld) : (d.modPll f).on g = d.on g := rfl
@[simp] theorem Dev.modPll_mode (f : Pll → Pll) : (d.modPll f).mode = d.mode := rfl
@[simp] theorem Dev.modPll_ridge (f : Pll → Pll) : (d.modPll f).ridge = { d.ridge with pll := f d.ridge.pll } := rfl

@[simp] theorem Dev.noteSet_regs (f : Fld) : (d.noteSet f).regs = d.regs := rfl
@[simp] theorem Dev.noteSet_sup (f : Fld) : (d.noteSet f).sup = d.sup := rfl
@[simp] theorem Dev.noteSet_ridge (f : Fld) : (d.noteSet f).ridge = d.ridge := rfl
@[simp] theorem Dev.noteSet_pwm (f : Fld) : (d.noteSet f).pwm = d.pwm := rfl
@[simp] theorem Dev.noteSet_sense (f : Fld) : (d.noteSet f).sense = d.sense := rfl
@[simp] theorem Dev.noteSet_rafter (f : Fld) : (d.noteSet f).rafter = d.rafter := rfl
@[simp] theorem Dev.noteSet_stages (f : Fld) : (d.noteSet f).stages = d.stages := rfl
@[simp] theorem Dev.noteSet_twin (f : Fld) : (d.noteSet f).twin = d.twin := rfl
@[simp] theorem Dev.noteSet_coord (f : Fld) : (d.noteSet f).coord = d.coord := rfl
@[simp] theorem Dev.noteSet_net (f : Fld) : (d.noteSet f).net = d.net := rfl
@[simp] theorem Dev.noteSet_branches (f : Fld) : (d.noteSet f).branches = d.branches := rfl
@[simp] theorem Dev.noteSet_shelf (f : Fld) : (d.noteSet f).shelf = d.shelf := rfl
@[simp] theorem Dev.noteSet_batten (f : Fld) : (d.noteSet f).batten = d.batten := rfl
@[simp] theorem Dev.noteSet_seq (f : Fld) : (d.noteSet f).seq = d.seq := rfl
@[simp] theorem Dev.noteSet_strings (f : Fld) : (d.noteSet f).strings = d.strings := rfl
@[simp] theorem Dev.noteSet_therm (f : Fld) : (d.noteSet f).therm = d.therm := rfl
@[simp] theorem Dev.noteSet_gut (f : Fld) : (d.noteSet f).gut = d.gut := rfl
@[simp] theorem Dev.noteSet_thatch (f : Fld) : (d.noteSet f).thatch = d.thatch := rfl
@[simp] theorem Dev.noteSet_boot (f : Fld) : (d.noteSet f).boot = d.boot := rfl
@[simp] theorem Dev.noteSet_mbus (f : Fld) : (d.noteSet f).mbus = d.mbus := rfl
@[simp] theorem Dev.noteSet_host (f : Fld) : (d.noteSet f).host = d.host := rfl
@[simp] theorem Dev.noteSet_otp (f : Fld) : (d.noteSet f).otp = d.otp := rfl
@[simp] theorem Dev.noteSet_nvm (f : Fld) : (d.noteSet f).nvm = d.nvm := rfl
@[simp] theorem Dev.noteSet_torn (f : Fld) : (d.noteSet f).torn = d.torn := rfl
@[simp] theorem Dev.noteSet_cycles (f : Fld) : (d.noteSet f).cycles = d.cycles := rfl
@[simp] theorem Dev.noteSet_draws (f : Fld) : (d.noteSet f).draws = d.draws := rfl
@[simp] theorem Dev.noteSet_raised (f : Fld) : (d.noteSet f).raised = d.raised := rfl
@[simp] theorem Dev.noteSet_word (f : Fld) (a' : Nat) : (d.noteSet f).word a' = d.word a' := rfl
@[simp] theorem Dev.noteSet_get (f : Fld) (g : Fld) : (d.noteSet f).get g = d.get g := rfl
@[simp] theorem Dev.noteSet_on (f : Fld) (g : Fld) : (d.noteSet f).on g = d.on g := rfl
@[simp] theorem Dev.noteSet_mode (f : Fld) : (d.noteSet f).mode = d.mode := rfl

@[simp] theorem Dev.noteAs_regs (f : Fld) (k : Nat) : (d.noteAs f k).regs = d.regs := rfl
@[simp] theorem Dev.noteAs_sup (f : Fld) (k : Nat) : (d.noteAs f k).sup = d.sup := rfl
@[simp] theorem Dev.noteAs_ridge (f : Fld) (k : Nat) : (d.noteAs f k).ridge = d.ridge := rfl
@[simp] theorem Dev.noteAs_pwm (f : Fld) (k : Nat) : (d.noteAs f k).pwm = d.pwm := rfl
@[simp] theorem Dev.noteAs_sense (f : Fld) (k : Nat) : (d.noteAs f k).sense = d.sense := rfl
@[simp] theorem Dev.noteAs_rafter (f : Fld) (k : Nat) : (d.noteAs f k).rafter = d.rafter := rfl
@[simp] theorem Dev.noteAs_stages (f : Fld) (k : Nat) : (d.noteAs f k).stages = d.stages := rfl
@[simp] theorem Dev.noteAs_twin (f : Fld) (k : Nat) : (d.noteAs f k).twin = d.twin := rfl
@[simp] theorem Dev.noteAs_coord (f : Fld) (k : Nat) : (d.noteAs f k).coord = d.coord := rfl
@[simp] theorem Dev.noteAs_net (f : Fld) (k : Nat) : (d.noteAs f k).net = d.net := rfl
@[simp] theorem Dev.noteAs_branches (f : Fld) (k : Nat) : (d.noteAs f k).branches = d.branches := rfl
@[simp] theorem Dev.noteAs_shelf (f : Fld) (k : Nat) : (d.noteAs f k).shelf = d.shelf := rfl
@[simp] theorem Dev.noteAs_batten (f : Fld) (k : Nat) : (d.noteAs f k).batten = d.batten := rfl
@[simp] theorem Dev.noteAs_seq (f : Fld) (k : Nat) : (d.noteAs f k).seq = d.seq := rfl
@[simp] theorem Dev.noteAs_strings (f : Fld) (k : Nat) : (d.noteAs f k).strings = d.strings := rfl
@[simp] theorem Dev.noteAs_therm (f : Fld) (k : Nat) : (d.noteAs f k).therm = d.therm := rfl
@[simp] theorem Dev.noteAs_gut (f : Fld) (k : Nat) : (d.noteAs f k).gut = d.gut := rfl
@[simp] theorem Dev.noteAs_thatch (f : Fld) (k : Nat) : (d.noteAs f k).thatch = d.thatch := rfl
@[simp] theorem Dev.noteAs_boot (f : Fld) (k : Nat) : (d.noteAs f k).boot = d.boot := rfl
@[simp] theorem Dev.noteAs_mbus (f : Fld) (k : Nat) : (d.noteAs f k).mbus = d.mbus := rfl
@[simp] theorem Dev.noteAs_host (f : Fld) (k : Nat) : (d.noteAs f k).host = d.host := rfl
@[simp] theorem Dev.noteAs_otp (f : Fld) (k : Nat) : (d.noteAs f k).otp = d.otp := rfl
@[simp] theorem Dev.noteAs_nvm (f : Fld) (k : Nat) : (d.noteAs f k).nvm = d.nvm := rfl
@[simp] theorem Dev.noteAs_torn (f : Fld) (k : Nat) : (d.noteAs f k).torn = d.torn := rfl
@[simp] theorem Dev.noteAs_cycles (f : Fld) (k : Nat) : (d.noteAs f k).cycles = d.cycles := rfl
@[simp] theorem Dev.noteAs_draws (f : Fld) (k : Nat) : (d.noteAs f k).draws = d.draws := rfl
@[simp] theorem Dev.noteAs_raised (f : Fld) (k : Nat) : (d.noteAs f k).raised = d.raised := rfl
@[simp] theorem Dev.noteAs_word (f : Fld) (k : Nat) (a' : Nat) : (d.noteAs f k).word a' = d.word a' := rfl
@[simp] theorem Dev.noteAs_get (f : Fld) (k : Nat) (g : Fld) : (d.noteAs f k).get g = d.get g := rfl
@[simp] theorem Dev.noteAs_on (f : Fld) (k : Nat) (g : Fld) : (d.noteAs f k).on g = d.on g := rfl
@[simp] theorem Dev.noteAs_mode (f : Fld) (k : Nat) : (d.noteAs f k).mode = d.mode := rfl

@[simp] theorem Dev.noteNet_regs (a : Nat) : (d.noteNet a).regs = d.regs := rfl
@[simp] theorem Dev.noteNet_sup (a : Nat) : (d.noteNet a).sup = d.sup := rfl
@[simp] theorem Dev.noteNet_ridge (a : Nat) : (d.noteNet a).ridge = d.ridge := rfl
@[simp] theorem Dev.noteNet_pwm (a : Nat) : (d.noteNet a).pwm = d.pwm := rfl
@[simp] theorem Dev.noteNet_sense (a : Nat) : (d.noteNet a).sense = d.sense := rfl
@[simp] theorem Dev.noteNet_rafter (a : Nat) : (d.noteNet a).rafter = d.rafter := rfl
@[simp] theorem Dev.noteNet_stages (a : Nat) : (d.noteNet a).stages = d.stages := rfl
@[simp] theorem Dev.noteNet_twin (a : Nat) : (d.noteNet a).twin = d.twin := rfl
@[simp] theorem Dev.noteNet_coord (a : Nat) : (d.noteNet a).coord = d.coord := rfl
@[simp] theorem Dev.noteNet_net (a : Nat) : (d.noteNet a).net = d.net := rfl
@[simp] theorem Dev.noteNet_branches (a : Nat) : (d.noteNet a).branches = d.branches := rfl
@[simp] theorem Dev.noteNet_shelf (a : Nat) : (d.noteNet a).shelf = d.shelf := rfl
@[simp] theorem Dev.noteNet_batten (a : Nat) : (d.noteNet a).batten = d.batten := rfl
@[simp] theorem Dev.noteNet_seq (a : Nat) : (d.noteNet a).seq = d.seq := rfl
@[simp] theorem Dev.noteNet_strings (a : Nat) : (d.noteNet a).strings = d.strings := rfl
@[simp] theorem Dev.noteNet_therm (a : Nat) : (d.noteNet a).therm = d.therm := rfl
@[simp] theorem Dev.noteNet_gut (a : Nat) : (d.noteNet a).gut = d.gut := rfl
@[simp] theorem Dev.noteNet_thatch (a : Nat) : (d.noteNet a).thatch = d.thatch := rfl
@[simp] theorem Dev.noteNet_boot (a : Nat) : (d.noteNet a).boot = d.boot := rfl
@[simp] theorem Dev.noteNet_mbus (a : Nat) : (d.noteNet a).mbus = d.mbus := rfl
@[simp] theorem Dev.noteNet_host (a : Nat) : (d.noteNet a).host = d.host := rfl
@[simp] theorem Dev.noteNet_otp (a : Nat) : (d.noteNet a).otp = d.otp := rfl
@[simp] theorem Dev.noteNet_nvm (a : Nat) : (d.noteNet a).nvm = d.nvm := rfl
@[simp] theorem Dev.noteNet_torn (a : Nat) : (d.noteNet a).torn = d.torn := rfl
@[simp] theorem Dev.noteNet_cycles (a : Nat) : (d.noteNet a).cycles = d.cycles := rfl
@[simp] theorem Dev.noteNet_draws (a : Nat) : (d.noteNet a).draws = d.draws := rfl
@[simp] theorem Dev.noteNet_raised (a : Nat) : (d.noteNet a).raised = d.raised := rfl
@[simp] theorem Dev.noteNet_word (a : Nat) (a' : Nat) : (d.noteNet a).word a' = d.word a' := rfl
@[simp] theorem Dev.noteNet_get (a : Nat) (g : Fld) : (d.noteNet a).get g = d.get g := rfl
@[simp] theorem Dev.noteNet_on (a : Nat) (g : Fld) : (d.noteNet a).on g = d.on g := rfl
@[simp] theorem Dev.noteNet_mode (a : Nat) : (d.noteNet a).mode = d.mode := rfl

end Sys2Proof.Machine
end

