-- ==== Sys2Proof/Laws/End.lean ====
section
/-!
SUPPORT. Sys2Proof/Laws/End.lean: what every command ends with (`Dev.ends`), said once: what each of its parts may write, and
that a meaning answers by it whatever the command.
-/

namespace Sys2Proof.Machine

/-- Every meaning answers through one gate: its operands' well-formedness, and a part with the end of every command. -/
theorem exec_answer (c : Instr) (s : State) : ∃ d, exec c s = s.answer c.wf d := by
  cases c <;> exact ⟨_, rfl⟩

/-- A command answers a next state with the queue as it is, or stops with noSuchUnit. -/
theorem exec_next (c : Instr) (d : Dev) (q : List Instr) (t : State) (h : exec c ⟨d, q⟩ = .next t) :
    t.pending = q ∧ ∃ e : Dev, t.dev = e.ends := by
  obtain ⟨e, he⟩ := exec_answer c ⟨d, q⟩
  rw [he] at h
  unfold State.answer at h
  split at h
  · injection h with h
    subst h
    exact ⟨rfl, e, rfl⟩
  · cases h

/-- Nothing raised, nothing settled. -/
theorem settle_nil (n : Nat) (d : Dev) (h : d.raised = []) : d.settle n = d := by
  cases n with
  | zero => rfl
  | succ n => simp [Dev.settle, h]

/-- The start of a flush that has waited writes Thatch's state and FLUSH_WAIT of TH_STATUS. -/
theorem flushWaiting_frame (d : Dev) : ∃ t v,
    d.flushWaiting = { d with thatch := t, regs := v } ∧ ∀ a, a ≠ A.TH_STATUS → sread 0 v a = d.word a := by
  unfold Dev.flushWaiting
  split
  · exact ⟨d.thatch, d.regs, rfl, fun _ _ => rfl⟩
  · have hw : ∀ a, a ≠ A.TH_STATUS → (d.clr R.TH_STATUS_FLUSH_WAIT).word a = d.word a :=
      fun a ha => word_put_other d R.TH_STATUS_FLUSH_WAIT 0 a ha
    simp only
    split
    · unfold Dev.startFlush
      simp only
      split
      · exact ⟨_, _, rfl, hw⟩
      · exact ⟨_, _, rfl, hw⟩
    · exact ⟨_, _, rfl, hw⟩

/-- The start of what the boot manager has waiting writes its own state and Thatch's, BUSY of IMAGE_STATUS and FLUSH_WAIT of
TH_STATUS. -/
theorem imgStart_frame (d : Dev) : ∃ b t v, d.imgStart = { d with boot := b, thatch := t, regs := v }
    ∧ ∀ a, a ≠ A.IMAGE_STATUS → a ≠ A.TH_STATUS → sread 0 v a = d.word a := by
  unfold Dev.imgStart
  have hf : ∃ t v, d.when (d.mode.afterBoot && !d.sup.lgRunning) Dev.flushWaiting = { d with thatch := t, regs := v }
      ∧ ∀ a, a ≠ A.TH_STATUS → sread 0 v a = d.word a := by
    unfold Dev.when
    split
    · exact flushWaiting_frame d
    · exact ⟨d.thatch, d.regs, rfl, fun _ _ => rfl⟩
  obtain ⟨t, v, he, hv⟩ := hf
  rw [he]
  have same (b : Boot) : ∃ b' t' v', ({ d with boot := b, thatch := t, regs := v } : Dev)
      = { d with boot := b', thatch := t', regs := v' }
      ∧ ∀ a, a ≠ A.IMAGE_STATUS → a ≠ A.TH_STATUS → sread 0 v' a = d.word a :=
    ⟨b, t, v, rfl, fun a _ ha => hv a ha⟩
  simp only
  split
  · exact same d.boot
  · split
    · split
      · exact same d.boot
      · exact same _
    · split
      · exact same d.boot
      · split
        · exact same d.boot
        · refine ⟨_, _, _, rfl, fun a ha hb => ?_⟩
          exact (word_put_other _ R.IMAGE_STATUS_BUSY _ a ha).trans (hv a hb)

/-- Showing the address in force writes HOST_STATUS. -/
theorem showAddr_word (d : Dev) (a : Nat) (h : a ≠ A.HOST_STATUS) : d.showAddr.word a = d.word a := by
  unfold Dev.showAddr
  split
  · exact word_put_other _ _ _ _ h
  · rfl

theorem showAddr_rest (d : Dev) : { d.showAddr with regs := d.regs } = d := by
  unfold Dev.showAddr
  split <;> rfl

/-- A field follows the word of its register. -/
theorem on_of_word (d e : Dev) (f : Fld) (h : d.word f.addr = e.word f.addr) : d.on f = e.on f := by
  simp [Dev.on, Dev.get, h]

/-- A bit of a field just written. -/
theorem bit_put (d : Dev) (f : Fld) (v i : Nat) (h : f.lo + f.w ≤ 32) (hi : i < f.w) :
    (d.put f v).on (f.bit i) = v.testBit i := by
  have hx := get_put_same d f v h
  simp only [Dev.on, Dev.get, Fld.bit, fieldOf] at hx ⊢
  rw [pow_add, ← Nat.div_div_eq_div_mul]
  have : ∀ n : Nat, n / 2 ^ i % 2 ^ 1 = n % 2 ^ f.w / 2 ^ i % 2 ^ 1 := by
    intro n
    have : (2:Nat) ^ f.w = 2 ^ i * 2 ^ (f.w - i) := by rw [← pow_add]; congr 1; omega
    rw [this, Nat.mod_mul_right_div_self, Nat.mod_mod_of_dvd]
    exact pow_dvd_pow 2 (by omega)
  rw [this, hx, ← this, Nat.testBit_eq_decide_div_mod_eq]
  have := Nat.mod_two_eq_zero_or_one (v / 2 ^ i)
  rcases this with h | h <;> simp [h]

theorem each_four (d : Dev) (f : Dev → Nat → Dev) : d.each (List.range 4) f = f (f (f (f d 0) 1) 2) 3 := rfl

/-- A write of a field that may be left out. -/
theorem word_when_put (d : Dev) (c : Bool) (f : Fld) (v a : Nat) (h : a ≠ f.addr) :
    (d.when c fun d => d.put f v).word a = d.word a := by
  cases c
  · rfl
  · exact word_put_other d f v a h

/-- Showing what Gutter holds writes GUT_ACTIVE0 to GUT_ACTIVE3 and EVENT of GUT_STATUS. -/
theorem showGutter_word (d : Dev) (a : Nat) (h1 : a ≠ A.GUT_STATUS) (h2 : ∀ i, i < 4 → a ≠ A.GUT_ACTIVEi i) :
    d.showGutter.word a = d.word a := by
  simp only [Dev.showGutter, each_four]
  rw [word_when_put _ _ _ _ _ h1, word_put_other _ _ _ _ (h2 3 (by decide)), word_put_other _ _ _ _ (h2 2 (by decide)),
    word_put_other _ _ _ _ (h2 1 (by decide)), word_put_other _ _ _ _ (h2 0 (by decide))]

theorem showGutter_rest (d : Dev) : { d.showGutter with regs := d.regs } = d := by
  simp only [Dev.showGutter, Dev.when]
  split <;> rfl

/-- Capturing writes no register. -/
@[simp] theorem capture_word (d : Dev) (a : Nat) : d.capture.word a = d.word a := rfl

end Sys2Proof.Machine
end

