-- ==== Sys2Proof/Tests/Slice0.lean ====
section
/-!
SUPPORT. Sys2Proof/Tests/Slice0.lean: tests of single operations against figures of the spec; an ill-formed command for each
check of Instr.wf; and, for each statement of the obligations, states and operands that meet its hypotheses, clause by clause.
-/

namespace Sys2Proof.Tests

open Sys2Proof Sys2Proof.Machine

set_option maxRecDepth 8000
set_option Elab.async false

/-- The part at rest with these fields of its registers. -/
def reg (l : List (Fld × Nat)) : Dev := l.foldl (fun d p => d.put p.1 p.2) Dev.rest

/-- The same in mode `m` and role `r` (0 RECT, 1 STOR, 2 DIST, 3 TRAY, 4 HUB). -/
def up (m : Mode) (r : Nat) (l : List (Fld × Nat)) : Dev := reg ([(R.SYS_MODE_MODE, m.code), (R.SYS_MODE_ROLE, r)] ++ l)

/-! ## Figures of the spec -/

/-- The rate word of 50 Hz by R118: 50 × 1,407,374.8836 = 70,368,744. The mains range of R127 is 40 Hz to 70 Hz. -/
theorem test_rate_range : clampRate 70368744 = 70368744 ∧ clampRate 0 = 56294995 ∧ clampRate 200000000 = 98516242 := by
  decide +kernel

/-- One cycle adds the rate word to the accumulator (R117). -/
theorem test_cycle_adds_the_rate :
    ((up .run 0 [(R.RIDGE_STATUS_SRC, srcGrid), (R.RIDGE_RATE_RATE, 70368744)]).tickAngles).ridge.acc = 70368744#64 := by
  decide +kernel

/-- CRC-32 of "123456789" is 0xCBF43926; CRC-8 is 0xF4. -/
theorem test_crc : crc32 [0x31, 0x32, 0x33, 0x34, 0x35, 0x36, 0x37, 0x38, 0x39] = 0xCBF43926
    ∧ crc8 [0x31, 0x32, 0x33, 0x34, 0x35, 0x36, 0x37, 0x38, 0x39] = 0xF4 := by decide +kernel

/-- The classes of R483 at their edges. -/
theorem test_signature_classes : [2601, 14, 25, 60, 150, 260, 600, 1000, 1500, 2300, 15, 61].map sigClassOf
    = [1, 2, 3, 3, 4, 4, 5, 5, 6, 6, 7, 7] := by decide +kernel

/-- f(T) of R575 at the ends and in the middle of THR_HI to STOP_HI. -/
theorem test_throttle : throttle 800 800 1000 = 0 ∧ throttle 1000 800 1000 = 15 ∧ throttle 801 800 1000 = 1
    ∧ throttle 1200 800 1000 = 15 := by decide +kernel

/-- The brake slots in bit-reversed order (R471). -/
theorem test_brake_order : (List.range 16).map rev4 = [0, 8, 4, 12, 2, 10, 6, 14, 1, 9, 5, 13, 3, 11, 7, 15] := by
  decide +kernel

/-- The regulators start as the first command after reset, and the queue is empty then (R94). -/
theorem test_first_step : ∃ t, step { State.reset with pending := [.regulatorStart] } = .next t ∧ t.pending = []
    ∧ t.dev.sup.powered = true ∧ t.dev.mode = .dark := ⟨_, rfl, rfl, rfl, by decide +kernel⟩

/-- A command that names a unit the part has not stops by name. -/
theorem test_no_such_unit : step { State.reset with pending := [.stageStart 12] } = .fault .noSuchUnit := by
  rfl

/-- ON of a part in SAFE is refused with REFUSED_MODE (R517). -/
theorem test_on_in_safe : ((up .safe 0 []).cmdOn).get R.SEQ_CMD_RES_CODE = 2 ∧ ((up .safe 0 []).cmdOn).mode = .safe := by
  decide +kernel

/-- Below the ride threshold for four results a DIST node in RUN enters RIDE (R521). -/
theorem test_ride : (let d := up .run 2 [(R.SEQ_CTRL_IN_EN, 1), (R.BR_SENSE_SPA_IN, 40), (R.BR_SENSE_SPB_IN, 41),
      (R.SEQ_INPUT_RIDE_TH, 9000), (R.SEQ_INPUT_STOP_TH, 4000), (R.BR_SPINE_MEAS_VSPA, 5000), (R.BR_SPINE_MEAS_VSPB, 6000)]
    let e := ((d.seqInput 40 5000).seqInput 40 5000).seqInput 40 5000
    e.mode = .run ∧ (e.seqInput 40 5000).mode = .ride) := by decide +kernel

/-! ## Ill-formed commands: one for each check of Instr.wf -/

/-- A frame of no content. -/
def noFrame : BtFrame := ⟨0, [], 0⟩

theorem test_ill_formed_1 : ([.internalResetRelease 8 false false, .bootComplete true true 4, .slotCheckStandby 4,
    .otpProgDone 0 [], .otpProgDone 6 [], .supplyRailFault 3, .markFire 64, .carrierZero 32, .carrierCheck 4096, .adcTrigger 48,
    .conversionComplete 48, .adcCheckConversion 8 0, .adcCheckConversion 0 16384, .adcCal 8,
    .adcCalDone 8 true 0 0, .adcCalDone 0 true (2 ^ 32) 0, .cmpTest 32, .sdmResult 8,
    .sdmLoss 8, .sdmValid 8, .cmpTrip 24, .cmpRelease 24, .cmpDacCheck 24 0, .cmpDacCheck 0 1024, .updateReady 12, .coefDataWrite 12 0,
    .setpointWrite 12 0 0, .setpointWrite 0 6 0, .engineCheckFail false 8, .stageStart 12, .stageStop 12, .stageClear 12,
    .startDlyExpire 12, .stopDlyExpire 12, .softTimeout 12, .stopTimeout 12, .stageRetry 12, .stageRunStable 12,
    .shareTick 2] : List Instr).all (fun c => !c.wf) = true := by decide +kernel

theorem test_ill_formed_2 : ([.seatRise 8, .seatLoss 8, .seatingComplete 8, .insertComplete 8, .branchTripInput 8 true,
    .prechargeStall 8, .preRelease 8, .branchRetry 8, .branchOnStable 8, .branchOffDly 8, .branchClear 8, .brakeSlot 8,
    .signatureMeasure 8 0, .detach 8, .packetTransmit 8 false, .btSrcCap 8 noFrame, .btSrcCapRepeat 8, .btNoSink 8,
    .btRequest 8 noFrame, .btAnswer 8 noFrame, .btOffer 8 noFrame, .btReady 8 noFrame, .btDissolve 8 noFrame,
    .btSwapRequest 8 noFrame, .btPing 8 noFrame, .btPingSend 8, .btGet 8 noFrame, .btGetSend 8, .btData 8 noFrame,
    .btAck 8 noFrame, .btLoop 8 noFrame, .btResend 8, .btCmdDissolve 8, .btCmdSwap 8, .btCmdTest 8, .btCmdRequest 8,
    .loopTestDone 8 0 true noFrame] : List Instr).all (fun c => !c.wf) = true := by decide +kernel

theorem test_ill_formed_3 : ([.railOnSlot 16, .railOffSlot 16, .railPgRise 16, .railNoUp 16, .railLost 16, .rstoRelease 4,
    .learn 8, .drill 8, .drillStop 8, .eventRaise 128 0 0, .eventRaise 0 65536 0, .eventRaise 0 0 256, .latchClear 4 0,
    .forceRaise 4 0, .injCheck 16 0, .injCheck 0 64, .thatchFlush 2, .recordRead 4 0, .recordRead 0 (2 ^ 20),
    .registerWrite 65536 0, .mbSendByte 2 0 false, .mbSendByte 0 128 false, .mbWriteByte 2 0 false, .mbWriteByte 0 128 false,
    .mbWriteWord 2 0 false, .mbWriteWord 0 128 false, .mbReadByte 2 0 false, .mbReadByte 0 128 false, .mbReadWord 2 0 false,
    .mbReadWord 0 128 false, .mbBlockWrite 2 0 false, .mbBlockWrite 0 128 false, .mbBlockRead 2 0 false,
    .mbBlockRead 0 128 false, .mbI2cWrite 2 0 false, .mbI2cWrite 0 128 false, .mbI2cWrRd 2 0 false, .mbI2cWrRd 0 128 false,
    .mbTransactionDone 2 0 [], .mbTransactionDone 0 9 [], .mbRetry 2, .mbStretchTimeout 2, .busRecovery 3 true,
    .mbTargetWrite 2 [] false, .mbTargetRead 2 0, .memberNotFresh 32] : List Instr).all (fun c => !c.wf) = true := by decide +kernel

/-! ## What meets the hypotheses of the statements: the machine, supply, images, fuses, profiles -/

/-- The part with one message in its inbox. -/
def mail (d : Dev) (ty src : Nat) (payload : List Byte) : Dev :=
  d.modNet fun n => { n with inbox := [⟨⟨ty, 0, src, 255, 1, 0, payload⟩, false, 0, true, false⟩] }

/-- The message of `mail`. -/
def letter (ty src : Nat) (payload : List Byte) : RxMsg := ⟨⟨ty, 0, src, 255, 1, 0, payload⟩, false, 0, true, false⟩

/-- The part after that message has been taken. -/
def opened (d : Dev) (ty src : Nat) (payload : List Byte) : Dev :=
  ((mail d ty src payload).modNet fun n => { n with inbox := n.inbox.erase (letter ty src payload) }).peerSeen src

theorem takes_mail (d : Dev) (ty src : Nat) (payload : List Byte) :
    Takes (mail d ty src payload) ty (letter ty src payload) (opened d ty src payload) := by
  refine ⟨_, ?_, rfl⟩
  simp [Dev.takeMsg, mail, letter, Dev.modNet]

/-- EmptyQueueIsOneCycle: DARK, or without CLK200, or neither; the copies agree. -/
theorem test_meets_EmptyQueueIsOneCycle :
    State.reset.dev.mode = .dark ∧ ((up .run 0 []).modSup fun u => { u with clockLost := true }).sup.clockLost = true
    ∧ (up .run 0 []).mode ≠ .dark ∧ (up .run 0 []).sup.clockLost = false ∧ (up .run 0 []).copiesDiffer = false := by
  decide +kernel

/-- WellFormedCommandsComplete: the last stage there is, and the first that is not. -/
theorem test_meets_WellFormedCommandsComplete : (Instr.stageStart 11).wf = true ∧ (Instr.stageStart 12).wf = false := by
  decide +kernel

/-- QueueIsServedInOrder: two commands wait. -/
theorem test_meets_QueueIsServedInOrder :
    (∀ c ∈ [Instr.regulatorStart, .internalResetRelease 0 false false], c.wf = true) ∧ 2 ≤ [Instr.regulatorStart,
      .internalResetRelease 0 false false].length := by decide +kernel

/-- EveryStepKeepsShown: a part in STANDBY with a condition that holds, and a step of it. -/
theorem test_meets_EveryStepKeepsShown :
    let d := (up .standby 0 []).ends.report 1 |>.holdEv 1 0 |>.ends;
    ((List.range 128).all fun ev => d.activeShown ev == d.heldActive ev) = true
    ∧ d.activeShown 1 = true
    ∧ (d.on R.GUT_STATUS_EVENT = (List.range 128).any fun ev => d.latched ev && d.srcReact ev != .none)
    ∧ d.get R.HOST_STATUS_ADDR_NOW = 0x58 ∧ d.get R.HOST_CFG_ADDR = 0 ∧ d.mode.afterBoot = true
    ∧ (Instr.seqOn).wf = true := by decide +kernel

/-- FieldWriteFrame: the top bits of a word, a neighbour below, and a field of another register. -/
theorem test_meets_FieldWriteFrame :
    (⟨0x100, 16, 16⟩ : Fld).lo + 16 ≤ 32 ∧ (⟨0x100, 0, 16⟩ : Fld).lo + 16 ≤ 16 ∧ (⟨0x104, 16, 16⟩ : Fld).addr ≠ 0x100 := by
  decide +kernel

/-- SparseContentsStayCanonical: contents with an entry each. -/
theorem test_meets_SparseContentsStayCanonical : swf 0 (up .run 0 []).regs = true ∧ swf 0xFF [((5 : Nat), (0 : Byte))] = true
    ∧ swf blankCell [((5 : Nat), (⟨1, 1, 1⟩ : FuseCell))] = true := by decide +kernel

/-- QuietEndChangesNothingElse: a part in STANDBY. -/
theorem test_meets_QuietEndChangesNothingElse : let d := (up .standby 0 []).ends;
    d.raised = [] ∧ d.ridge.stepFrom = none ∧ d.levels = d ∧ d.boot.recQ = [] ∧ d.boot.writing = none
    ∧ d.on R.TH_STATUS_FLUSH_WAIT = false := by decide +kernel

/-- DarkKeepsFusesAndNvmOnly, clause by clause. -/
theorem test_meets_DarkKeepsFusesAndNvmOnly :
    (let d := up .run 0 []; d.boot.otpOp = none ∧ d.thatch.op = none ∧ d.boot.imgOp = none ∧ d.boot.rec_ = none)
    ∧ (let d := (up .run 0 []).modSup fun u => { u with powered := true }; d.sup.powered = true ∧ d.bypass = false)
    ∧ (let d := up .run 0 [(R.SYS_MODE_BYPASS, 1)]; Awake d ∧ d.bypass = true)
    ∧ (let d := up .standby 0 [(R.IMAGE_STATUS_FB_PEND, 1)];
      d.on R.IMAGE_STATUS_FB_PEND = true ∧ d.mode = .standby ∧ d.recPending RecFor.isFallback = false)
    ∧ (up .safe 0 []).mode = .safe := by decide +kernel

/-- ResetReleaseSamplesStraps: both kinds of supply, the last role. -/
theorem test_meets_ResetReleaseSamplesStraps :
    State.reset.dev.sup.powered = false ∧ State.reset.dev.mode = .dark ∧ 7 < 8
    ∧ (let d := State.reset.dev.modSup (fun u => { u with powered := true, railOk := [true, true, true] });
      d.mode = .dark ∧ d.sup.powered = true ∧ d.sup.railOk.all id = true) := by decide +kernel

/-- A part of role `r` in BOOT. -/
def bootDev (r : Nat) : Dev := up .boot r []

/-- BootEndsInStandbyOrSafe: trim missing (blank fuses). -/
theorem test_meets_BootEndsInStandbyOrSafe_1 :
    (bootDev 0).mode = .boot ∧ (bootDev 0).otpRead.region 1 ≠ 2 ∧ 3 < 4 := by decide +kernel

/-- SupplyAndLastGaspEvents, clause by clause. -/
theorem test_meets_SupplyAndLastGaspEvents :
    (let d := up .run 0 []; Awake d ∧ d.sup.clockLost = false ∧ d.bypass = false ∧ 2 < 3 ∧ Serving d)
    ∧ (let d := (up .run 0 []).modSup fun u => { u with powered := true, lgArmed := true, shtdnOff := true };
      Awake d ∧ d.sup.lgArmed = true ∧ d.sup.lgRunning = false ∧ d.sup.powered = true ∧ d.bypass = false
        ∧ d.sup.shtdnOff = true)
    ∧ (let d := (up .safe 0 []).modSup fun u => { u with lgRunning := true };
      Awake d ∧ d.sup.lgRunning = true ∧ d.sup.lgArmed = false)
    ∧ (let d := (up .safe 0 []).modSup fun u => { u with lgRunning := true, lgArmed := true };
      Awake d ∧ d.sup.lgRunning = true ∧ d.sup.lgArmed = true)
    ∧ (let d := Dev.rest.modSup fun u => { u with powered := true };
      d.sup.powered = true ∧ d.bypass = false ∧ d.mode = .dark ∧ 2 < 3)
    ∧ (up .run 0 [(R.SYS_MODE_BYPASS, 1)]).bypass = true := by decide +kernel

/-- ImageCommandsStart, clause by clause. -/
theorem test_meets_ImageCommandsStart :
    (let d := up .standby 4 [];
      Reaches d A.IMAGE_CMD ∧ d.wrInh = false ∧ d.on R.IMAGE_STATUS_TRIAL = false ∧ d.boot.writing = none
        ∧ d.disarm.targetSlot = some 1)
    ∧ (let d := (up .standby 4 []).modBoot fun b => { b with writing := some 1 };
      Reaches d A.IMAGE_CMD ∧ d.boot.writing.isSome = true ∧ d.boot.finishing = false ∧ d.on R.IMAGE_WCOUNT_OVF = false)
    ∧ (let d := up .standby 4 [(R.IMAGE_SLOT1_STATE, 2)]; d.disarm.targetSlot = some 1 ∧ d.disarm.slotIs 1 2 = true)
    ∧ (up .standby 4 [(R.IMAGE_STATUS_TRIAL, 1)]).on R.IMAGE_STATUS_TRIAL = true := by decide +kernel

/-- ImagePagesAreWritten: the last word that fits the slot and the first that does not; no room; each operation. -/
theorem test_meets_ImagePagesAreWritten :
    (let d := (up .standby 0 [(R.IMAGE_WCOUNT_FREE, 1), (R.IMAGE_WCOUNT_BYTES, 1048572)]).modBoot fun b =>
        { b with writing := some 0 };
      Reaches d A.IMAGE_DATA ∧ d.boot.writing = some 0 ∧ d.boot.finishing = false ∧ d.get R.IMAGE_WCOUNT_FREE ≠ 0
        ∧ d.get R.IMAGE_WCOUNT_BYTES + 4 ≤ 1048576)
    ∧ 1048576 < (up .standby 0 [(R.IMAGE_WCOUNT_FREE, 1), (R.IMAGE_WCOUNT_BYTES, 1048576)]).get R.IMAGE_WCOUNT_BYTES + 4
    ∧ (up .standby 0 [(R.IMAGE_WCOUNT_FREE, 0)]).get R.IMAGE_WCOUNT_FREE = 0
    ∧ ((up .standby 0 []).modBoot fun b => { b with imgOp := some (.erase 1 4096) }).boot.imgOp = some (.erase 1 4096)
    ∧ ((up .standby 0 []).modBoot fun b => { b with imgOp := some (.program 1 256 [7]) }).boot.imgOp = some (.program 1 256 [7])
    ∧ ((up .safe 0 []).modBoot fun b => { b with imgOp := some (.check 1) }).boot.imgOp = some (.check 1) := by decide +kernel

/-- BootManagerServesAfterBoot, clause by clause. -/
theorem test_meets_BootManagerServesAfterBoot :
    (Serving (up .standby 0 []) ∧ 3 < 4)
    ∧ (let d := up .standby 0 [(R.TH_CTRL_NVM_EN, 1), (R.TH_NVM_PART0_LG_SECT, 1)];
      d.on R.TH_CTRL_NVM_EN = true ∧ d.lgFirst = some 0)
    ∧ (let d := up .run 0 [(R.IMAGE_STATUS_CONF_VALID, 1), (R.IMAGE_SLOT0_STATE, 2), (R.IMAGE_SLOT0_SV, 1)];
      d.confirmedSv = some 1 ∧ d.otpInhibited = false ∧ d.boot.otpOp = none ∧ d.boot.svTarget = none
        ∧ d.get R.OTP_STATUS_SV < 1)
    ∧ (let d := up .standby 0 [(R.TH_CTRL_NVM_EN, 1), (R.TH_STATUS_LG_READY, 1)];
      let e := (d.report 126).clr R.TH_STATUS_LG_READY;
      Serving d ∧ d.lgFirst = none ∧ d.on R.TH_CTRL_NVM_EN = true ∧ d.on R.TH_STATUS_LG_READY = true ∧ e.sectors .lg = 0)
    ∧ (let u := up .standby 0 [(R.TH_CTRL_NVM_EN, 1), (R.TH_NVM_PART0_LG_SECT, 1)];
      let d := { u with torn := (List.range 16).map fun k => u.recAddr .lg (8 * k) };
      let e := d.clr R.TH_STATUS_LG_READY;
      Serving d ∧ d.lgFirst = none ∧ d.on R.TH_CTRL_NVM_EN = true ∧ d.on R.TH_STATUS_LG_READY = false ∧ e.qspiFree = true
        ∧ e.wrInh = false ∧ 0 < e.sectors .lg)
    ∧ (let d := up .run 0 [(R.IMAGE_STATUS_TRIAL, 1)];
      Serving d ∧ d.trialLeft = 0 ∧ d.on R.IMAGE_STATUS_TRIAL = true)
    ∧ (let f (m : Mode) (q : List RecWrite) : Dev := (up m 0 [(R.IMAGE_STATUS_TRIAL, 1)]).modBoot fun b =>
        { b with expired := true, recQ := q };
      let g (d : Dev) : Dev :=
        ((d.set1 R.IMAGE_STATUS_FB_PEND).queueRec (.fallback (d.get R.IMAGE_STATUS_RUN_SLOT))).showBusy;
      Serving (f .run []) ∧ (f .run []).boot.expired = true ∧ (f .run [⟨.confirm 1, 0⟩]).recPending RecFor.isConfirm = true
        ∧ (f .run []).recPending RecFor.isConfirm = false ∧ (f .run []).on R.IMAGE_STATUS_TRIAL = true
        ∧ (f .run []).on R.IMAGE_STATUS_FB_PEND = false ∧ (g (f .drain [])).mode = .drain ∧ (g (f .ride [])).mode = .ride)
    ∧ ((up .standby 0 []).modBoot fun b => { b with rec_ := some ⟨.arm 0, 1⟩ }).boot.rec_ = some ⟨.arm 0, 1⟩
    ∧ (⟨.arm 0, 1⟩ : RecWrite).tries < 2 ∧ 2 ≤ (⟨.arm 0, 2⟩ : RecWrite).tries := by
  decide +kernel

/-- OtpReadsAndJtagAct: the last fuse word, each margin; the codes 3 and 4. -/
theorem test_meets_OtpReadsAndJtagAct :
    (let d := up .run 0 [(R.OTP_ADDR_ADDR, otpWords - 1), (R.OTP_ADDR_MARGIN, 2)];
      Reaches d A.OTP_ARM ∧ Reaches d A.OTP_CMD ∧ d.otpAddr < otpWords ∧ d.get R.OTP_ADDR_MARGIN < 3)
    ∧ Awake (up .boot 0 []) ∧ 3 < 4 ∧ 4 ≤ 4
    ∧ (let d := up .boot 0 [(R.OTP_STATUS_DEBUG_LOCK, 1)];
      d.on R.OTP_STATUS_DEBUG_LOCK = true ∧ d.cyc = .rest ∧ d.debugLocked = true)
    ∧ (up .boot 0 []).debugLocked = false ∧ (up .boot 0 []).on R.OTP_STATUS_DEBUG_LOCK = false ∧ (up .boot 0 []).boot.debugSeen = false
    ∧ ((up .boot 0 []).modBoot fun b => { b with debugSeen := true }).boot.debugSeen = true := by decide +kernel

/-- OtpProgrammingIsAnswered: each row's condition, with the rows above it excluded. -/
theorem test_meets_OtpProgrammingIsAnswered :
    let armed (l : List (Fld × Nat)) : Dev := (up .safe 0 l).modBoot fun b => { b with armed := true };
    let locked (bit : Nat) (d : Dev) : Dev := d.modBoot fun b => { b with
      shadow := [(lockWord, ⟨BitVec.ofNat 32 (7 * 2 ^ (3 * bit)), false, false, false⟩)] };
    Reaches (up .run 0 []) A.OTP_CMD ∧ (up .run 0 []).mode ≠ .standby ∧ (up .run 0 []).mode ≠ .safe
    ∧ ((up .standby 0 []).modBoot fun b => { b with svTarget := some 1 }).boot.svTarget.isSome = true
    ∧ ((up .standby 0 []).modBoot fun b => { b with otpOp := some (.lock 0) }).boot.otpOp.isSome = true
    ∧ (up .standby 0 [(R.THERM_STATUS_WR_INH, 1)]).otpInhibited = true
    ∧ ((up .standby 0 []).otpInhibited = false ∧ (up .standby 0 []).boot.armed = false
      ∧ (up .standby 0 []).boot.otpOp = none ∧ (up .standby 0 []).boot.svTarget = none)
    ∧ (let d := armed [(R.OTP_ADDR_ADDR, 0x149)]; d.boot.armed = true ∧ 0x148 < d.disarm.otpAddr)
    ∧ (locked 0 (armed [])).lockBit 0 = true
    ∧ (let d := locked 5 (armed [(R.OTP_ADDR_ADDR, 0x40)]);
      regionAt d.disarm.otpAddr = 2 ∧ d.lockBit 2 = false ∧ d.disarm.lockBit 5 = true)
    ∧ (let d := { armed [] with otp := [(0, ⟨1, 1, 1⟩)] }; (d.disarm.fuse d.disarm.otpAddr).normal ≠ 0)
    ∧ (let d := armed [(R.OTP_ADDR_ADDR, 0x148)];
      d.disarm.otpAddr ≤ 0x148 ∧ d.disarm.lockBit (regionAt d.disarm.otpAddr) = false
        ∧ (d.disarm.fuse d.disarm.otpAddr).normal = 0 ∧ 5 < regionAt d.disarm.otpAddr)
    ∧ (let d := armed [(R.OTP_ADDR_REGION, 5)];
      d.disarm.get R.OTP_ADDR_REGION = 5 ∧ d.disarm.lockBit 5 = false ∧ d.disarm.on R.OTP_ADDR_FORCE = false
        ∧ d.disarm.regionCrc 5 = false)
    ∧ (armed [(R.OTP_ADDR_FORCE, 1)]).disarm.on R.OTP_ADDR_FORCE = true
    ∧ 0x10 / 4 * 4 ≠ A.OTP_CMD ∧ masksAt 0xFFFC = none := by decide +kernel

/-- FusesAreNeverUnprogrammed: a word in programming, at the most attempts. -/
theorem test_meets_FusesAreNeverUnprogrammed :
    let d := (up .standby 0 []).modBoot fun b => { b with otpOp := some (.word 3 5) };
    Serving d ∧ 1 ≤ 5 ∧ 5 ≤ 5 ∧ d.boot.otpOp = some (.word 3 5) := by decide +kernel

/-- A live profile for role HUB: one section, SYS, without a run. -/
def profile : List Byte := [0x47, 0x48, 0x50, 0x46] ++ leBytes 2 1 ++ leBytes 2 1 ++ leBytes 4 24 ++ [4, 1, 0, 0]
  ++ leBytes 2 1 ++ leBytes 2 0 ++ leBytes 4 (crc32 [])

/-- LiveProfilesAreCheckedAndTaken: an empty buffer, a profile under check, one that waits, two of either order. -/
theorem test_meets_LiveProfilesAreCheckedAndTaken :
    (let d := up .run 4 []; Reaches d A.PROF_CMD ∧ d.disarm.bufferBusy false = false)
    ∧ (let d := (up .run 4 [(R.SYS_STATUS_BOOT_PROF, 0)]).modBoot fun b => { b with checking := [(none, profile)] };
      Serving d ∧ d.boot.checking = [(none, profile)] ∧ d.on R.SYS_STATUS_BOOT_PROF = false)
    ∧ (let d := (up .standby 4 [(R.SYS_STATUS_BOOT_PROF, 1)]).modBoot fun b => { b with checking := [(none, profile)] };
      Serving d ∧ d.on R.SYS_STATUS_BOOT_PROF = true ∧ profParse d.roleCode 1 profile = .inr ⟨[], []⟩
        ∧ d.afterWaiting.profMode ⟨[], []⟩ = none)
    ∧ (let waits (l : List ProfWait) : Dev :=
        { (up .run 4 []).modBoot fun b => { b with waiting := l } with cycles := 9, cyc := { ThisCycle.rest with reedNew := true } };
      let v : ProfWait := ⟨7, false, [], false⟩;
      Serving (waits [v]) ∧ (waits [v]).turnBegins = true ∧ (waits [v]).boot.waiting = [v] ∧ v.at_ < (waits [v]).cycles
      ∧ (let w : ProfWait := ⟨8, true, [], false⟩; (waits [v, w]).boot.waiting = [v, w] ∧ w.at_ < 9 ∧ v.at_ < w.at_)
      ∧ (let w : ProfWait := ⟨7, true, [], false⟩; v.at_ = w.at_ ∧ v.net = false ∧ w.net = true)) := by
  decide +kernel

/-- The CRC of a calibration region of zeros. -/
def zeroCrc : Word := BitVec.ofNat 32 (crc32 (List.replicate 188 0))

/-- Fuses whose trim region (R628) is locked with its CRC, and whose other regions are blank. -/
def trimmed (d : Dev) : Dev := { d with otp := [(0x3F, shippedWord zeroCrc), (lockWord, ⟨0x38, 0x38, 0x38⟩)] }

theorem shadow_of_trimmed (d : Dev) : ((trimmed d).otp.filter fun c => decide (c.1 < otpWords)).foldl
    (fun m c => swrite blankShadow m c.1 (shadowOf c.1 c.2)) []
    = [(0x3F, ⟨zeroCrc, false, false, false⟩), (lockWord, ⟨0x38, false, false, false⟩)] := by
  have h1 : shadowOf 0x3F (shippedWord zeroCrc) = ⟨zeroCrc, false, false, false⟩ := shadowOf_shipped _ _ (by decide)
  have h2 : shadowOf lockWord ⟨0x38, 0x38, 0x38⟩ = ⟨0x38, false, false, false⟩ := by decide
  have h3 : ((trimmed d).otp.filter fun c => decide (c.1 < otpWords))
    = [(0x3F, shippedWord zeroCrc), (lockWord, ⟨0x38, 0x38, 0x38⟩)] := by simp [trimmed, lockWord, otpWords]
  rw [h3]
  simp only [List.foldl_cons, List.foldl_nil, h1, h2]
  decide +kernel

/-- BootEndsInStandbyOrSafe: a part whose trim is complete and whose slots are empty, with the engines lost (the last
clause but one) and with one engine (the last). -/
theorem test_meets_BootEndsInStandbyOrSafe_2 : (trimmed (bootDev 0)).otpRead.region 1 = 2
    ∧ (trimmed (bootDev 0)).mode = .boot
    ∧ (let p := (trimmed (bootDev 0)).otpRead.bootImage 3;
      p.2 = none ∧ (p.1.bootEngines false false).noSlot.otpMarginal.twinUsed = true
        ∧ (p.1.bootEngines true false).noSlot.otpMarginal.standby.showSvPend.on R.RINNAK_NODE_MGR = false
        ∧ ((p.1.bootEngines true false).noSlot.otpMarginal.put R.RINNAK_NODE_MGR 1).standby.showSvPend.on
          R.RINNAK_NODE_MGR = true) := by
  unfold Dev.otpRead
  simp only [shadow_of_trimmed]
  decide +kernel

/-! ## The same: time base, array, sensing, engines -/

/-- The part with its rack angle at `x`, and the cycle in which it came to a new reed. -/
def atAngle (d : Dev) (x : BitVec 64) : Dev :=
  { d with ridge := { d.ridge with acc := x, acc2 := x }, cyc := { ThisCycle.rest with reedNew := true } }

/-- RidgeSourcesFollowTheMains, clause by clause, each span at its end. -/
theorem test_meets_RidgeSourcesFollowTheMains :
    (let d := (atAngle (up .run 0 [(R.RIDGE_CTRL_MAINS_EN, 1), (R.RIDGE_STATUS_SRC, srcFree)]) 0x20000_0000_0000).modPll
        fun p => { p with okSince := some 0 };
      let e := { d with ridge := { d.ridge with lossSince := true } };
      let f := { e with cyc := { e.cyc with fired := [63] } };
      let g := d.put R.RIDGE_STATUS_SRC srcFly;
      Serving d ∧ d.lockDue = true ∧ d.src ≠ srcNone ∧ d.cyc.fired = [] ∧ d.ridge.lossSince = false
        ∧ Serving g ∧ g.lockDue = true ∧ g.src ≠ srcNone ∧ g.lockSteps = false ∧ g.ridge.lossSince = false
        ∧ Serving e ∧ e.lockDue = true ∧ e.src ≠ srcNone ∧ e.lockSteps = true ∧ e.cyc.fired = [] ∧ e.ridge.lossSince = true
        ∧ Serving f ∧ f.lockDue = true ∧ f.src ≠ srcNone ∧ f.lockSteps = true ∧ f.cyc.fired ≠ [])
    ∧ (let d := (up .run 0 [(R.RIDGE_CTRL_MAINS_EN, 1), (R.RIDGE_STATUS_GRID_LOCK, 1)]).modPll fun p =>
        { p with lossFound := true };
      d.on R.RIDGE_CTRL_MAINS_EN = true ∧ d.on R.RIDGE_STATUS_GRID_LOCK = true ∧ d.ridge.pll.lossFound = true)
    ∧ (let d := atAngle (up .standby 0 [(R.RIDGE_STATUS_SRC, srcFree), (R.RIDGE_CTRL_BLACKSTART, 1),
        (R.RIDGE_CTRL_START_TMO, 2), (R.MGR_STATUS_MROLE, 1)]) 0x20000_0000_0000;
      d.src = srcFree ∧ d.get R.RIDGE_CTRL_START_TMO * 65536 ≤ d.now ∧ d.on R.RIDGE_STATUS_GRID_LOCK = false
        ∧ d.feedDc = false ∧ d.on R.RIDGE_CTRL_BLACKSTART = true ∧ d.leadsAngle = true ∧ d.lockDue = false)
    ∧ (let d := atAngle (up .run 0 [(R.RIDGE_STATUS_SRC, srcPull)]) 0x10_0000_0000;
      d.src = srcPull ∧ d.gridDiff.natAbs = 16 * 2 ^ 32)
    ∧ (let d := atAngle (up .run 0 [(R.RIDGE_STATUS_SRC, srcFree), (R.RIDGE_RATE_RATE, 1)]) 0xFFFF_FFFF_FFFF_FFFF;
      d.src ≠ srcNone ∧ d.sup.clockLost = false ∧ 2 ^ 64 ≤ d.ridge.acc.toNat + d.rate)
    ∧ (let d := (atAngle (up .run 0 [(R.RIDGE_CTRL_MAINS_EN, 1)]) 0x10000_0000_0000).modPll fun p =>
        { p with wrongSince := some 0 };
      d.ridge.pll.wrongRaised = false ∧ d.ridge.pll.wrongSince = some 0 ∧ d.since 0 = 65536)
    ∧ (up .run 0 []).copiesDiffer = false ∧ (up .run 0 []).ridge.differ = false ∧ (0 : BitVec 64) ≠ 1 := by decide +kernel

/-- MainsLossFreezesAndWrapsCount: the cycle before a wrap and the one before that; each source. -/
theorem test_meets_MainsLossFreezesAndWrapsCount :
    (let l := [(R.RIDGE_STATUS_SRC, srcGrid), (R.RIDGE_RATE_RATE, 2)];
      (atAngle (up .run 0 l) 0xFFFF_FFFF_FFFF_FFFE).wrapsNext = true
        ∧ (atAngle (up .run 0 l) 0xFFFF_FFFF_FFFF_FFFD).wrapsNext = false)
    ∧ (up .run 0 [(R.RIDGE_STATUS_SRC, srcGrid)]).src = srcGrid ∧ (up .run 0 []).cyc.pulled = false
    ∧ (let d := up .run 0 [(R.RIDGE_STATUS_SRC, srcPull)]; d.src = srcPull ∧ d.gridClose = true
      ∧ (atAngle d 0x10_0000_0001).src = srcPull ∧ (atAngle d 0x10_0000_0001).gridClose = false)
    ∧ ({ up .run 0 [] with cyc := { ThisCycle.rest with pulled := true } }).cyc.pulled = true
    ∧ (up .run 0 [(R.RIDGE_STATUS_SRC, srcDisc)]).src ≠ srcGrid ∧ (up .run 0 [(R.RIDGE_STATUS_SRC, srcDisc)]).src ≠ srcPull := by
  decide +kernel

/-- RateMovesInBoundedSteps: one step more than a step away, and exactly a step away. -/
theorem test_meets_RateMovesInBoundedSteps :
    (let d := (atAngle (up .run 0 [(R.RIDGE_RATE_RATE, 70368744)]) 0x2000_0000_0000).setTarget (some (70368744 + 17593));
      Serving d ∧ d.slewDue = true ∧ d.ridge.target = some (70368744 + 17593)
        ∧ slewRate d.rate (clampRate (70368744 + 17593)) ≠ clampRate (70368744 + 17593))
    ∧ slewRate 70368744 (clampRate (70368744 + 17592)) = clampRate (70368744 + 17592) := by decide +kernel

/-- TimeMessagesAct: the primary. -/
theorem test_meets_TimeMessagesAct_1 :
    let d := up .run 0 [(R.MGR_STATUS_MROLE, 1), (R.RINNAK_CTRL_EN, 1)];
    let f (role : Nat) (due : Bool) : Dev := (({ up .run 0 [(R.MGR_STATUS_MROLE, role), (R.RINNAK_CTRL_EN, 1)] with
      cyc := { ThisCycle.rest with reedNew := true } }).modCoord fun c => { c with swapDue := due });
    Serving d ∧ d.isPrimary = true
    ∧ ([f 1 false, f 1 true, f 2 true].all fun d => d.netOn && d.cyc.reedNew && decide (d.reed % 8192 = 0)
      && !d.cyc.served.contains instantServed) = true
    ∧ (f 1 false).isPrimary = true ∧ (f 1 false).coord.swapDue = false ∧ (f 1 true).coord.swapDue = true
    ∧ (f 2 true).isPrimary = false ∧ (f 2 true).isStandby = true ∧ (f 2 true).coord.swapDue = true
    ∧ (opened d tBeacon 3 [0, 0, 0, 9]).isPrimary = true ∧ (letter tBeacon 3 [0, 0, 0, 9]).angleOnly = false
    ∧ (opened d tDelayReq 3 [3, 0, 0, 9]).isPrimary = true
    ∧ ((opened d tDelayReq 3 [3, 0, 0, 9]).seg false).waiting = []
    ∧ (let e := d.modSeg true fun s => { s with waiting := [⟨3, 9, 77⟩] };
      (e.seg true).waiting = ⟨3, 9, 77⟩ :: [] ∧ e.isPrimary = true ∧ (e.seg true).released = []) := by decide +kernel

/-- TimeMessagesAct: a worker; its messages are taken by takes_mail. -/
theorem test_meets_TimeMessagesAct_2 :
    let d := up .run 0 [(R.RINNAK_CTRL_EN, 1)];
    Serving d
    ∧ (opened d tBeacon 0 [0, 0, 0, 9]).isPrimary = false ∧ (opened d tBeacon 0 [0, 0, 0, 9]).isWorker = true
    ∧ (let f := (d.modSeg false fun s => { s with rx := some ⟨9, 5, none⟩ });
      let e := opened { f with ridge := { f.ridge with used := true } } tFollowUp 0 ([0, 9] ++ List.replicate 12 0);
      (e.seg false).rx = some ⟨9, 5, none⟩ ∧ e.isWorker = true ∧ 9 = beAt ([0, 9] ++ List.replicate 12 0) 0 2
        ∧ e.ridge.used = true ∧ (letter tFollowUp 0 ([0, 9] ++ List.replicate 12 0)).segB = false)
    ∧ d.isWorker = true ∧ ({ d with ridge := { d.ridge with used := true } }).ridge.used = true
    ∧ (let f := d.modSeg true fun s => { s with rx := some ⟨0, 5, some 4⟩ };
      f.isWorker = true ∧ f.ridge.used = false ∧ (f.pairOn true).isSome = true)
    ∧ (let f := d.modSeg false fun s => { s with out := some ⟨9, 4, 3, 2⟩ };
      let e := opened f tDelayResp 0 ([0, 0, 0, 9] ++ List.replicate 12 0);
      (e.seg false).out = some ⟨9, 4, 3, 2⟩ ∧ e.isWorker = true
        ∧ 9 = beAt ([0, 0, 0, 9] ++ List.replicate 12 (0 : Byte)) 2 2 ∧ 0 = e.busId) := by decide +kernel

/-- TimeMessagesAct: the last mark reaches its target; the sums of a grid turn; no beacon pair on either segment. -/
theorem test_meets_TimeMessagesAct_3 :
    (let d := atAngle (up .run 0 [(R.MARKm_CFG_EN 63, 1)]) 0;
      63 < 64 ∧ d.boot.waiting = [] ∧ d.markDue 63 = true ∧ d.cyc.was = [])
    ∧ ((up .run 0 []).modPll fun p => { p with ended := some [(1, 2)] }).ridge.pll.ended = some [(1, 2)]
    ∧ (up .run 0 []).pairOn true = none := by decide +kernel

/-- PwmArrayEvents, clause by clause: the last channel and the last set. -/
theorem test_meets_PwmArrayEvents :
    let d := up .run 0 [(R.PWMn_CFG_SET 31, 11), (R.CARs_STATUS_RUN 11, 1), (R.PWM_HOLD_HELD, 1)];
    Serving d ∧ 31 < 32 ∧ d.setOf 31 = some 11 ∧ d.on (R.CARs_STATUS_RUN 11) = true
    ∧ (idxs 12 fun s => d.on (R.CARs_STATUS_RUN s)) = [11] ∧ d.gut.armed = [] ∧ 2 ^ 11 < 4096
    ∧ (d.pwm.cars.getD 11 ⟨0⟩).acc = d.carExpected 11 ∧ tbit 0 11 = false ∧ tbit (2 ^ 11) 11 = true
    ∧ (let e := { d with pwm := { d.pwm with cars := List.replicate 12 ⟨1⟩ } };
      (e.pwm.cars.getD 11 ⟨0⟩).acc ≠ e.carExpected 11)
    ∧ d.twinUsed = true ∧ d.on R.PWM_HOLD_HELD = true ∧ d.pwm.holdTimedOut = false
    ∧ (let e := (d.clr R.PWM_HOLD_HELD).modChan 31 fun c => { c with waitDuty := some 7 };
      e.on R.PWM_HOLD_HELD = false ∧ (e.chan 31).waitDuty = some 7 ∧ (e.chan 31).waitShift = none) := by decide +kernel

/-- PwmArrayEvents, the balls: a HUB node, and a channel of a RECT node at each of its levels, in either mode of its bank. -/
theorem test_meets_PwmArrayEvents_balls :
    let powered (d : Dev) : Dev :=
      { d.modSup fun u => { u with powered := true } with pwm := { d.pwm with balls := .safeOrDriven } };
    let at_ (safe lvds : Nat) : Dev := powered (up .run 0 [(R.SYS_STATUS_BOOT_PROF, 1), (R.BANKb_CFG_MODE 3, lvds),
      (R.PWMn_CFG_SAFE 31, safe), (R.PWMn_CFG_SET 31, 15)]);
    (let d := powered (up .run 4 [(R.SYS_STATUS_BOOT_PROF, 1)]);
      d.sup.powered = true ∧ d.extestDrives = false ∧ d.on R.SYS_STATUS_BOOT_PROF = true ∧ d.role = some .hub)
    ∧ (let d := at_ 1 1; d.sup.powered = true ∧ d.extestDrives = false ∧ d.on R.SYS_STATUS_BOOT_PROF = true ∧ d.role = some .rect
      ∧ Role.rect.conv = true ∧ d.pwm.balls = .safeOrDriven ∧ d.chanLevel 31 = some true
      ∧ d.on (R.BANKb_CFG_MODE (31 / 8)) = true)
    ∧ (at_ 0 0).chanLevel 31 = some false ∧ (at_ 0 0).on (R.BANKb_CFG_MODE (31 / 8)) = false ∧ (at_ 2 1).chanLevel 31 = none := by
  decide +kernel

/-- A part whose converters run. -/
def sense (l : List (Fld × Nat)) : Dev := let d := up .run 0 l; { d with sense := { d.sense with applied := true } }

/-- ConversionsAreDelivered, clause by clause: the last input, the last code, the first cycle in which each is complete, the
edges of the tolerance. -/
theorem test_meets_ConversionsAreDelivered :
    let d := { sense [(R.AINn_CFG_TSRC 47, 3), (R.ADC_STATUS_REF_RDY, 1)] with
      cycles := 41, cyc := { ThisCycle.rest with due := [47] } };
    Serving d ∧ 47 < 48 ∧ d.sourceDue 47 (d.get (R.AINn_CFG_TSRC 47)) (d.get (R.AINn_CFG_TIDX 47)) = true
    ∧ (d.serve 47).sensing = true ∧ (d.serve 47).doubled (pairOf 47) = false ∧ (d.serve 47).refReady = true
    ∧ (let e := d.clr R.ADC_STATUS_REF_RDY;
      e.sourceDue 47 (e.get (R.AINn_CFG_TSRC 47)) (e.get (R.AINn_CFG_TIDX 47)) = true
      ∧ (e.serve 47).sensing = true ∧ (e.serve 47).doubled (pairOf 47) = false ∧ (e.serve 47).refReady = false)
    ∧ (d.serve 47).waits 47 = false ∧ ((d.modSense fun x => { x with queue := [(40, 47)] }).serve 47).waits 47 = true
    ∧ (let k : Conv := ⟨0, 0, none, 5, false⟩; let e := d.modAin 47 fun a => { a with convs := [k] };
      (e.ain 47).convs = [k] ∧ k.from_ + 41 ≤ e.cycles)
    ∧ d.sensing = true ∧ d.gut.armed = [] ∧ 7 < 8 ∧ 8192 - 64 ≤ 8128 ∧ 8128 ≤ 8192 + 64 ∧ 8127 < 8192 - 64
    ∧ 8192 + 64 < 8257
    ∧ (let e := d.modCore 7 fun k => { k with check := some 1 }; (e.core 7).check = some 1 ∧ 1 + 40 ≤ e.cycles)
    ∧ ((d.modCore 7 fun k => { k with check := none, checked := some d.turnCount }).core 7).checkBad = 0
    ∧ ((d.modCore 7 fun k => { k with checkBad := 1 }).core 7).checkBad ≠ 0
    ∧ (let e := up .standby 0 [(R.ADC_CTRL_DOUBLED.bit 3, 1)]; let f := e.put R.SYS_MODE_MODE Mode.run.code;
      Reaches e A.ADC_CAL_CMD ∧ e.calBusy 6 = false ∧ e.mode.regulating = false ∧ f.mode.regulating = true ∧ f.doubled 3 = true
      ∧ (up .run 0 []).doubled 3 = false ∧ ¬4000000 * ((up .run 0 []).pairRate 3).2 < ((up .run 0 []).pairRate 3).1
      ∧ (up .standby 0 [(R.ADC_STATUS_CAL_BUSY.bit 6, 1)]).calBusy 6 = true)
    ∧ (let e := (sense [(R.ADC_STATUS_CAL_BUSY.bit 7, 1)]).modSense fun x => { x with calLast := some 7 };
      e.calBusy 7 = true ∧ e.coreRests 7 = true ∧ (e.clr (R.ADC_STATUS_CAL_BUSY.bit 7)).sense.calLast = some 7) := by decide +kernel

/-- ReferenceIsSupervised: 14, 15 and 16 comparisons before; the first cycle in which 1 ms has passed, and the one before. -/
theorem test_meets_ReferenceIsSupervised :
    let d := { sense [] with cycles := 200001, cyc := { ThisCycle.rest with reedNew := true } };
    let bad (n : Nat) : Dev := { d with sense := { d.sense with refBad := n } };
    let good (n : Nat) : Dev := { d with sense := { d.sense with refGood := n } };
    let since (t : Option Nat) : Dev := { d with sense := { d.sense with refSince := t } };
    Serving d ∧ d.sensing = true ∧ d.cyc.reedNew = true ∧ d.reed % 64 = 0 ∧ d.cyc.served.contains refServed = false
    ∧ (bad 14).sense.refBad < 15 ∧ (bad 15).sense.refBad = 15 ∧ (bad 16).sense.refBad = 16
    ∧ (good 14).sense.refGood < 15 ∧ d.refReady = false ∧ d.sense.refSince = none
    ∧ 15 ≤ (good 15).sense.refGood ∧ (d.put R.ADC_STATUS_REF_RDY 1).refReady = true
    ∧ (since (some 2)).sense.refSince = some 2 ∧ d.cycles < 2 + 200000
    ∧ (since (some 1)).sense.refSince = some 1 ∧ 1 + 200000 ≤ d.cycles := by decide +kernel

/-- ComparatorsTripAndRelease, clause by clause: the last comparator, one cycle beyond its filter. -/
theorem test_meets_ComparatorsTripAndRelease :
    let d (l : List (Fld × Nat)) (k : Cmp) : Dev := (sense ([(R.CMPc_CFG_FILT 23, 15)] ++ l)).modCmp 23 fun _ => k;
    (let e := d [(R.CMPc_CFG_EN 23, 1)] ⟨false, false, true, 16, 5, 5⟩;
      Serving e ∧ 23 < 24 ∧ e.sensing = true ∧ e.on (R.CMPc_CFG_EN 23) = true ∧ (e.cmp 23).raw = true
        ∧ (e.cmp 23).past = false ∧ e.get (R.CMPc_CFG_FILT 23) < (e.cmp 23).held)
    ∧ (up .standby 0 []).cmpRoutes 23 = false
    ∧ (let e := d [] ⟨false, true, false, 16, 5, 5⟩; (e.cmp 23).raw = false ∧ (e.cmp 23).past = true
      ∧ e.get (R.CMPc_CFG_FILT 23) < (e.cmp 23).held)
    ∧ (let e := d [] ⟨false, false, false, 0, 1023, 1023⟩; 1023 < 1024 ∧ e.sensing = true
      ∧ (let f := e.modCmp 23 fun k => { k with dup := k.dup ^^^ 1023 };
        (f.dacDiffers 23).2 = (true, false) ∧ (f.cmp 23).forced = false)
      ∧ (let f := e.modCmp 23 fun k => { k with dup := k.dup ^^^ 1023, forced := true };
        (f.dacDiffers 23).2 = (true, false) ∧ (f.cmp 23).forced = true)
      ∧ (let f := e.modCmp 23 fun k => { k with dup := k.dup ^^^ 0 }; (f.dacDiffers 23).2 = (false, false)))
    ∧ (let e := up .standby 0 []; Reaches e A.CMP_TEST ∧ e.mode.regulating = false ∧ e.sense.testing = none)
    ∧ (let e := (up .standby 0 []).modSense fun x => { x with testing := some 23, sweep := 1023, sweepFlip := some (9, 1) };
      e.sense.testing = some 23 ∧ 1023 ≤ e.sense.sweep ∧ e.sense.sweepFlip = some (9, 1)) := by
  decide +kernel

/-- DemodulatorsDeliver: the last demodulator at its instant; a stream stuck for 128 clocks; settled after 3 × OSR. -/
theorem test_meets_DemodulatorsDeliver :
    let d := { sense [(R.SDn_CFG_EN 7, 1), (R.SDn_CFG_OSR 7, 16), (R.SDn_TRIG_TSRC 7, 2), (R.WINw_CFG_SRC 0, 1)] with
      cyc := { ThisCycle.rest with due := [71] } };
    Serving d ∧ 7 < 8 ∧ d.sensing = true ∧ d.on (R.SDn_CFG_EN 7) = true
    ∧ d.sourceDue (64 + 7) (d.get (R.SDn_TRIG_TSRC 7)) (d.get (R.SDn_TRIG_TIDX 7)) = true
    ∧ (let lost := (d.modSdm 7 fun s => { s with lost := true }).serve (64 + 7);
      let e := (lost.sdmInstant 7).1.delivered (64 + 7); e.windowResult (64 + 7) (lost.sdmInstant 7).2 = (e, []))
    ∧ (let e := d.modSdm 7 fun s => { s with same := 128 }; (e.sdm 7).lost = false ∧ 128 ≤ (e.sdm 7).same)
    ∧ (let e := d.modSdm 7 fun s => { s with same := 128, lost := true, clocks := some 0 };
      (e.sdm 7).clocks.isSome = true ∧ 128 ≤ (e.sdm 7).same)
    ∧ (let e := d.modSdm 7 fun s => { s with clocks := some 48 };
      (e.sdm 7).clocks = some 48 ∧ 3 * e.get (R.SDn_CFG_OSR 7) ≤ 48) := by decide +kernel

/-- UpdatesRunInOrderOfReadiness: the last stage becomes ready, and is ready again, with an ACTIVE engine and without; the order of
two stages that become ready in different cycles. -/
theorem test_meets_UpdatesRunInOrderOfReadiness :
    let l := [(R.STAGEs_LOOP_STATUS_RUN 11, 1), (R.STAGEs_LOOP_CFG_WAIT 11, 1), (R.STAGEs_LOOP_CFG_STRUCT 11, 1)];
    let d := (up .run 0 (l ++ [(R.RAFTER_TWIN_STATUS_ST_A, enActive)])).modLoop 11 fun l => { l with seen := 1 };
    let e := { d with rafter := { d.rafter with ready := [11] } };
    Serving d ∧ 11 < 12 ∧ d.updates 11 = true ∧ d.waitMet 11 = true ∧ d.struct 11 ≠ stOff ∧ 11 ∉ d.rafter.ready
    ∧ 11 ∈ e.rafter.ready ∧ e.rafter.ready = 11 :: [] ∧ d.engineReports = true ∧ (up .run 0 (l ++ [(R.RAFTER_TWIN_STATUS_ST_A, enTakeover)])).engineReports = false
    ∧ (let f := { d.modLoop 11 (fun l => { l with readyCycle := 1 }) with cycles := 1 };
      11 < f.rafter.loops.length ∧ (f.loop 11).readyCycle = f.cycles ∧ (f.loop 0).readyCycle < f.cycles) := by decide +kernel

/-- UpdatesRunInOrderOfReadiness, the update: a set-point structure on a part that is no RECT, and on one that is. -/
theorem test_meets_UpdatesRunInOrderOfReadiness_run :
    let d (role : Nat) : Dev := { up .run role [(R.STAGEs_LOOP_STATUS_RUN 3, 1), (R.STAGEs_LOOP_CFG_WAIT 3, 1),
      (R.STAGEs_LOOP_CFG_STRUCT 3, 1), (R.STAGEs_CFG_KIND 3, kDab), (R.STAGEs_STATE_STATE 3, ssRun),
      (R.RAFTER_TWIN_STATUS_ST_A, enActive)] with rafter := { (up .run role []).rafter with ready := [3] } };
    let h (role : Nat) : Dev :=
      let e := { d role with rafter := { (d role).rafter with ready := [] } };
      let r := e.engineInjections.runUpdate 3;
      ((r.1.sendOutputs 3 r.2.1).showCref 3).stageAfterUpdate 3;
    Serving (d 1) ∧ (d 1).rafter.ready = [3] ∧ (d 1).activeEngine.isSome = true ∧ (d 1).updates 3 = true
    ∧ ((d 1).engineInjections.runUpdate 3).2.2 = false ∧ (h 1).isRole .rect = false ∧ (h 0).isRole .rect = true
    ∧ (h 0).kind 3 = kDab ∧ (h 0).ssIn 3 [ssSoft, ssRun, ssSleep] = true := by decide +kernel

/-- LoopWritesAct: coefficients of the last stage at the last index that means something, and beyond it; a set-point register
inside and outside its range, and a trim that a share group holds. -/
theorem test_meets_LoopWritesAct :
    (let d (m : Mode) (i b : Nat) : Dev := up m 0 [(R.STAGEs_COEF_IDX_IDX 11, i), (R.SYS_STATUS_BOOT_PROF, b)];
      let breaks (d : Dev) (w : Word) : Bool :=
        let e := d.disarm.modLoop 11 fun l => { l with coefs := updAt l.coefs (d.get (R.STAGEs_COEF_IDX_IDX 11)) fun _ => coefNorm w }
        (d.disarm.crossChecks.zip e.crossChecks).any fun p => p.1.2 && !p.2.2
      11 < 12 ∧ Reaches (d .standby 54 1) (A.STAGEs_COEF_DATA 11) ∧ (d .standby 54 1).mode.regulating = false
      ∧ breaks (d .standby 54 1) 0x00010001 = false ∧ (d .standby 54 1).on R.SYS_STATUS_BOOT_PROF = true
      ∧ (d .standby 54 1).get (R.STAGEs_COEF_IDX_IDX 11) = 54 ∧ (d .standby 54 0).on R.SYS_STATUS_BOOT_PROF = false
      ∧ breaks (d .standby 55 1) 0 = false ∧ 54 < (d .standby 55 1).get (R.STAGEs_COEF_IDX_IDX 11) ∧ coefNorm 1 ≠ coefNorm 0
      ∧ Reaches (d .run 54 1) (A.STAGEs_COEF_DATA 11) ∧ (d .run 54 1).mode.regulating = true
      ∧ (d .run 54 1).coefWord 11 54 = coefNorm 0 ∧ (d .run 54 1).coefWord 11 54 ≠ coefNorm 1
      ∧ 11 < (d .run 54 1).rafter.loops.length ∧ 54 < ((d .run 54 1).loop 11).coefs.length)
    ∧ (let d (b : Nat) : Dev := up .standby 0 [(R.SYS_STATUS_BOOT_PROF, b)];
      let a (k : Nat) : Nat := setpointAddr 11 k;
      5 < 6 ∧ Reaches (d 1) (a 5) ∧ (Bf.ofWord 0).m ≤ 0
      ∧ ((d 1).coef 11 cSpMin).val.le (Bf.ofWord 0).val = true ∧ (Bf.ofWord 0).val.le ((d 1).coef 11 cSpMax).val = true
      ∧ (d 1).disarm.rowOk (a 0) 0 = true ∧ (d 1).disarm.crossFails (a 0) 0 = false ∧ (d 1).word (a 0) = 0
      ∧ (Bf.ofWord 0x00010001).m > 0 ∧ (d 1).disarm.rowOk (a 1) 0x00010001 = true
      ∧ (d 1).disarm.crossFails (a 1) 0x00010001 = false ∧ (d 1).word (a 1) ≠ 0x00010001
      ∧ (d 0).on R.SYS_STATUS_BOOT_PROF = false)
    ∧ (let d := up .standby 0 [(R.SYS_STATUS_BOOT_PROF, 1), (R.STG_SHAREg_CFG_EN 1, 1), (R.STAGEs_CFG_SHARE 11, 2)];
      let a := setpointAddr 11 4;
      Reaches d a ∧ 4 < 6 ∧ 1 < 2 ∧ d.on (R.STG_SHAREg_CFG_EN 1) = true ∧ d.shareMembers 1 = [11]
      ∧ (Bf.ofWord 0).val.abs.le (d.coef 11 cTrimMax).val = true ∧ d.disarm.rowOk a 0 = true
      ∧ d.disarm.crossFails a 0 = false) := by decide +kernel

/-- Two engines in these states. -/
def twins (a b : Nat) (l : List (Fld × Nat)) : Dev :=
  up .run 0 ([(R.RAFTER_TWIN_STATUS_ST_A, a), (R.RAFTER_TWIN_STATUS_ST_B, b)] ++ l)

/-- EngineFailuresSwitchOrLose, clause by clause: the last cause and that of a saturated accumulator, with and without a loop;
the active engine, alone, with a standby and in a swap; an engine that takes over, by each hold; a standby. -/
theorem test_meets_EngineFailuresSwitchOrLose :
    let held (d : Dev) (h : HoldFor) : Dev := { d with twin := { d.twin with holdFor := h } };
    let fails (d : Dev) (c : Nat) : Dev := ((d.cause false c).setEn false enFailed).dropWaiting;
    (let d := twins enActive enSynced [];
     Serving d ∧ 7 < 8 ∧ d.checked false = true ∧ d.en false = enActive ∧ 7 ≠ caAcc ∧ caAcc < 8 ∧ d.loopStages = []
       ∧ (fails d 7).twin.holdFor ≠ .swap ∧ (fails d 7).en true = enSynced ∧ d.checked true = true ∧ d.en true = enSynced)
    ∧ (let d := twins enActive enSynced [(R.STAGEs_LOOP_CFG_STRUCT 11, 1), (R.STAGEs_LOOP_STATUS_RUN 11, 1)];
      d.checked false = true ∧ d.en false = enActive ∧ 11 ∈ d.loopStages)
    ∧ (let d := held (twins enActive enTakeover []) .swap;
      d.checked false = true ∧ d.en false = enActive ∧ (fails d 7).twin.holdFor = .swap
        ∧ ((fails d 7).set1 R.RAFTER_TWIN_CMD_RES_DONE).en true = enTakeover)
    ∧ (let d := twins enActive enFailed [];
      d.checked false = true ∧ (fails d 7).en true ≠ enSynced ∧ (fails d 7).en true ≠ enTakeover)
    ∧ (let d := twins enActive enTakeover [];
      (held d .swap).checked true = true ∧ (held d .swap).en true = enTakeover ∧ (held d .swap).twin.holdFor = .swap
        ∧ (held d .arbitration).checked true = true ∧ (held d .arbitration).twin.holdFor = .arbitration
        ∧ (held d .switchover).checked true = true ∧ (held d .switchover).twin.holdFor ≠ .swap
        ∧ (held d .switchover).twin.holdFor ≠ .arbitration)
    ∧ (let d := twins enActive enResync []; d.checked true = true ∧ d.en true = enResync) := by decide +kernel

/-- TwinChecksAct, clause by clause: error counts at CE_LIM and one above; without a waiting update, and with one, whose
accumulator saturates or not; a standby in RESYNC. -/
theorem test_meets_TwinChecksAct :
    let l := [(R.STAGEs_LOOP_STATUS_RUN 11, 1), (R.STAGEs_LOOP_CFG_STRUCT 11, 1), (R.RAFTER_TWIN_CTRL_CE_LIM, 3)];
    let d := twins enActive enSynced l;
    let ready (l : List Nat) : Dev := { d with rafter := { d.rafter with ready := l } };
    let e (l : List Nat) : Dev := ((ready l).setEn true enTakeover).beginHold .arbitration true;
    Serving d ∧ d.checked true = true ∧ (d.bump R.RAFTER_TWIN_CE_CE_B 3).get R.RAFTER_TWIN_CTRL_CE_LIM = 3 ∧ 3 < 4
    ∧ ((twins enActive enSynced []).bump R.RAFTER_TWIN_CE_CE_B 255).get R.RAFTER_TWIN_CTRL_CE_LIM = 0
    ∧ d.switching = false ∧ d.engineRuns false = true ∧ d.engineRuns true = true ∧ d.activeEngine = some false
    ∧ d.en true = enSynced ∧ (e []).rafter.ready = [] ∧ (e [11]).rafter.ready = [11] ∧ (e [11]).updates 11 = true
    ∧ (let f := { e [11] with rafter := { (e [11]).rafter with ready := [] } }; (f.runUpdate 11).2.2 = false)
    ∧ (let r := twins enActive enResync l;
      r.switching = false ∧ r.engineRuns false = true ∧ r.engineRuns true = true ∧ r.activeEngine = some false
        ∧ r.en true = enResync ∧ r.twin.copying = false) := by decide +kernel

/-- TwinProcessesAndCommandsAct, clause by clause. -/
theorem test_meets_TwinProcessesAndCommandsAct :
    let held (d : Dev) (h : HoldFor) : Dev := { d with twin := { d.twin with holdFor := h } };
    let copies (d : Dev) : Dev := { d with twin := { d.twin with copying := true } };
    (let d := twins enFailed enTakeover [];
     Serving d ∧ d.engineIn enTakeover = some true ∧ (held d .switchover).twin.holdFor = .switchover
       ∧ (held d .swap).engineIn enTakeover = some true)
    ∧ (let d := held (twins enTakeover enActive []) .arbitration;
      d.twin.holdFor = .arbitration ∧ d.activeEngine = some true ∧ d.twin.standbyBad = false
        ∧ ({ d with twin := { d.twin with standbyBad := true } }).twin.standbyBad = true)
    ∧ (let d := twins enActive enTest [];
      d.engineIn enTest = some true ∧ d.engineRuns true = true ∧ d.activeEngine.isSome = true)
    ∧ (let d := twins enFailed enTest [];
      d.engineIn enTest = some true ∧ d.engineRuns true = true ∧ d.activeEngine = none)
    ∧ (let d := twins enActive enResync [];
      d.engineIn enResync = some true ∧ d.engineRuns true = true ∧ d.twin.copying = false ∧ d.activeEngine.isSome = true
        ∧ (copies d).twin.copying = true)
    ∧ (let d := twins enFailed enResync [];
      d.engineIn enResync = some true ∧ d.engineRuns true = true ∧ d.twin.copying = false ∧ d.activeEngine = none
        ∧ (copies d).twin.copying = true)
    ∧ (let d := twins enActive enFailed [(R.RAFTER_TWIN_STATUS_SPARE, 0)];
      Reaches d A.RAFTER_TWIN_CMD ∧ d.twinUsed = true ∧ d.switching = false ∧ d.activeEngine = some false
        ∧ d.en true ≠ enTest ∧ d.en true ≠ enResync ∧ d.en true ≠ enTakeover ∧ d.en true ≠ enOff ∧ d.locked true = false
        ∧ d.on R.RAFTER_TWIN_STATUS_SPARE = false ∧ (d.set1 R.RAFTER_TWIN_STATUS_SWITCHING).switching = true)
    ∧ (let d := twins enActive enFailed [(R.RAFTER_TWIN_STATUS_LOCK_B, 1)];
      Reaches d A.RAFTER_TWIN_CMD ∧ d.locked true = true)
    ∧ (let d := twins enFailed enFailed []; d.twinUsed = true ∧ d.switching = false ∧ d.activeEngine = none)
    ∧ ((twins enActive enTest []).en true = enTest ∧ (twins enActive enTest []).switching = false)
    ∧ (let d := twins enActive enSynced [(R.RAFTER_TWIN_STATUS_SPARE, 1)];
      Reaches d A.RAFTER_TWIN_CMD ∧ d.twinUsed = true ∧ d.switching = false ∧ d.on R.RAFTER_TWIN_STATUS_SPARE = true
        ∧ d.activeEngine = some false) := by decide +kernel

/-! ## The same: stages, rack, Rinnak -/

/-- A stage of a kind in a state, in a mode; its number is 11. -/
def stage (m : Mode) (kind st : Nat) (l : List (Fld × Nat)) : Dev :=
  up m 0 ([(R.STAGEs_CFG_KIND 11, kind), (R.STAGEs_STATE_STATE 11, st)] ++ l)

/-- StageCommandsAreAnswered: every row of R303, in the modes at their edges. -/
theorem test_meets_StageCommandsAreAnswered :
    11 < 12 ∧ Reaches (stage .run 2 ssOff []) (A.STAGEs_CMD 11)
    ∧ (stage .standby 2 ssOff []).mode ≠ .ramp ∧ (stage .standby 2 ssOff []).mode ≠ .run
      ∧ (stage .standby 2 ssOff []).mode ≠ .ride
    ∧ (let o := (stage .ramp kVienna ssOff [(R.RIDGE_CTRL_FEED, 1)]).disarm; o.kind 11 = kVienna ∧ o.feedDc = true)
    ∧ (stage .ride kNone ssOff []).disarm.kind 11 = kNone
    ∧ (let o := (stage .ride kVienna ssLockout []).disarm; o.kind 11 ≠ kNone ∧ o.feedDc = false ∧ o.ss 11 = ssLockout)
    ∧ (stage .run 2 ssStopping []).disarm.ss 11 = ssStopping ∧ (stage .run 2 ssOff []).disarm.ss 11 = ssOff
    ∧ (let o := (stage .run 2 ssSleep []).disarm; o.ss 11 ≠ ssLockout ∧ o.ss 11 ≠ ssStopping ∧ o.ss 11 ≠ ssOff)
    ∧ (stage .drain 2 ssSoft []).disarm.ss 11 = ssSoft ∧ (stage .drain 2 ssRun []).disarm.ss 11 = ssRun
    ∧ (stage .drain 2 ssWait []).disarm.ss 11 = ssWait ∧ (stage .drain 2 ssCheck []).disarm.ss 11 = ssCheck
    ∧ (stage .drain 2 ssPause []).disarm.ss 11 = ssPause ∧ (stage .safe 2 ssFault []).disarm.ss 11 = ssFault
    ∧ (stage .safe 2 ssLockout []).disarm.ss 11 = ssLockout
    ∧ (let o := ((stage .run 2 ssOff [(R.STAGEs_STATE_START_LATCHED 11, 1)]).modStage 11 fun g => { g with ending := true }).disarm;
      (o.stage 11).ending = true ∧ o.goingSafe 11 = false ∧ o.on (R.STAGEs_STATE_START_LATCHED 11) = true
        ∧ o.startable 11 = true) := by decide +kernel

/-- StageTimersTakeTheirRows: one retry left, and none. -/
theorem test_meets_StageTimersTakeTheirRows :
    Serving (stage .run 2 ssWait []) ∧ (stage .run 2 ssWait []).ss 11 = ssWait
    ∧ (stage .run 2 ssRun [(R.STAGEs_STATE_STOP_PEND 11, 1)]).on (R.STAGEs_STATE_STOP_PEND 11) = true
    ∧ ((stage .run 2 ssSoft [(R.STAGEs_STATE_STOP_PEND 11, 1)]).clr (R.STAGEs_STATE_STOP_PEND 11)).ss 11 = ssSoft
    ∧ ((stage .run 2 ssPause [(R.STAGEs_STATE_STOP_PEND 11, 1)]).clr (R.STAGEs_STATE_STOP_PEND 11)).ss 11 = ssPause
    ∧ (let moved (st : Nat) : Dev := (stage .run 2 st [(R.STAGEs_LOOP_STATUS_RUN 11, 1)]).modLoop 11 fun l => { l with v := ⟨1, 0⟩ };
      (moved ssSoft).ss 11 = ssSoft ∧ (moved ssSoft).moving 11 = true
        ∧ (moved ssStopping).ss 11 = ssStopping ∧ (moved ssStopping).moving 11 = true)
    ∧ (stage .run 2 ssSoft []).moving 11 = false
    ∧ (stage .run 2 ssStopping []).ss 11 = ssStopping ∧ (stage .run 2 ssStopping []).moving 11 = false
    ∧ ((stage .run 2 ssFault [(R.STAGEs_STATE_STOP_PEND 11, 1)]).clr (R.STAGEs_STATE_STOP_PEND 11)).ss 11 = ssFault
    ∧ (stage .drain 2 ssFault []).ss 11 = ssFault
    ∧ (let d := stage .ride 2 ssFault [(R.STAGEs_STATE_TRIES 11, 2), (R.STAGEs_RETRY_MAX 11, 3)];
      d.ss 11 = ssFault ∧ d.mode = .ride ∧ d.get (R.STAGEs_STATE_TRIES 11) < d.get (R.STAGEs_RETRY_MAX 11))
    ∧ (let d := stage .ride 2 ssFault [(R.STAGEs_STATE_TRIES 11, 3), (R.STAGEs_RETRY_MAX 11, 3)];
      d.get (R.STAGEs_RETRY_MAX 11) ≤ d.get (R.STAGEs_STATE_TRIES 11))
    ∧ (stage .run 2 ssSleep []).ss 11 = ssSleep := by decide +kernel

/-- ShareUnitTrimsItsMembers: one member that counts, and two. -/
theorem test_meets_ShareUnitTrimsItsMembers :
    let l := [(R.STG_SHAREg_CFG_EN 1, 1), (R.STAGEs_CFG_SHARE 11, 2)];
    let d := stage .run 2 ssRun l;
    let e := stage .run 2 ssRun (l ++ [(R.STAGEs_CFG_SHARE 0, 2), (R.STAGEs_STATE_STATE 0, ssRun)]);
    Serving d ∧ 1 < 2 ∧ d.on (R.STG_SHAREg_CFG_EN 1) = true
    ∧ ((d.shareMembers 1).filter d.shareCounts).length < 2
    ∧ 2 ≤ ((e.shareMembers 1).filter e.shareCounts).length := by decide +kernel

/-- A manager with Rinnak on. -/
def manager (l : List (Fld × Nat)) : Dev :=
  up .run 4 ([(R.RINNAK_NODE_MGR, 1), (R.MGR_STATUS_MROLE, 1), (R.RINNAK_CTRL_EN, 1)] ++ l)

/-- ReportsAreSentAndKept, clause by clause; the messages are taken by takes_mail. -/
theorem test_meets_ReportsAreSentAndKept :
    (let d := manager []; Serving d ∧ d.netOn = true ∧ d.isPrimary = true)
    ∧ (let d := (up .run 2 []).modCoord fun c => { c with pShelf := (5, 1) }; d.role = some .dist ∧ d.coord.pShelf.2 ≠ 0)
    ∧ (let e := opened (manager []) tShelfReport 31 (List.replicate 12 0); e.isManager = true ∧ e.reportCounts 31 = true)
    ∧ (let e := opened (manager []) tRideReport 31 [1]; e.isManager = true ∧ e.reportCounts 31 = true)
    ∧ (let e := opened (manager []) tDemandReport 31 [0, 1, 0, 2]; e.isManager = true ∧ e.reportCounts 31 = true)
    ∧ (let d := manager [(R.MGR_MEMBj_FRESH 31, 1)];
      31 < 32 ∧ d.isManager = true ∧ d.fresh 31 = true ∧ 2 ≤ 31)
    ∧ (let d := (manager []).modCoord fun c => { c with demandPend := true, demandSeen := (7, 8) };
      d.coord.demandPend = true ∧ d.coord.demandAt = none ∧ d.netOn = true ∧ d.coord.demandSeen = (7, 8)
        ∧ (d.memberDemand d.homeId 7 8).isPrimary = true)
    ∧ (let d := manager [(R.MGR_MEMBj_FRESH 1, 1)];
      1 < 2 ∧ d.isManager = true ∧ d.fresh 1 = true
        ∧ 1 ≠ (d.memberChange fun d => d.clr (R.MGR_MEMBj_FRESH 1)).homeId)
    ∧ (let d := (up .run 2 [(R.RINNAK_CTRL_EN, 1), (R.RINNAK_STATUS_UP_A, 1), (R.RINNAK_CTRL_NODES, 4),
        (R.RINNAK_BUDGET_CFRAME, 300)]).modCoord fun c => { c with demandPend := true, demandSeen := (7, 8) };
      let e := d.memberDemand d.homeId 7 8;
      d.coord.demandPend = true ∧ d.coord.demandAt = none ∧ d.netOn = true ∧ d.coord.demandSeen = (7, 8)
        ∧ e.isPrimary = false ∧ (e.send tDemandReport clNormal dstManagers (beBytes 2 7 ++ beBytes 2 8)).2 = .accepted)
    := by decide +kernel

/-- SettingsComeIntoForce, clause by clause. -/
theorem test_meets_SettingsComeIntoForce :
    (let e := opened (up .run 0 []) tOffsetSet 0 [1, 0, 0, 0, 1, 2, 3, 4];
      e.isPrimary = false ∧ e.ownEntry 6 [1, 0, 0, 0, 1, 2, 3, 4] = some [0, 1, 2, 3, 4]
        ∧ (opened (up .run 0 [(R.COORD_CFG_ILV_GROUP, 7)]) tOffsetSet 0 [1, 0, 0, 0, 1, 2, 3, 4]).get R.COORD_CFG_ILV_GROUP ≠ 15)
    ∧ (opened (up .run 0 []) tShareTrim 0 [1, 0, 0, 1, 2, 3]).ownEntry 4 [1, 0, 0, 1, 2, 3] = some [1, 2, 3]
    ∧ (let e := opened (up .run 2 []) tSliceSet 0 [1, 0, 0, 0, 1, 2];
      e.isPrimary = false ∧ e.ownEntry 4 [1, 0, 0, 0, 1, 2] = some [0, 1, 2] ∧ e.isRole .dist = true
        ∧ beAt [(0 : Byte), 1, 2] 1 2 ≠ 0)
    ∧ (let e := opened (up .run 1 []) tChargeSet 0 [1, 0, 0, 0, 1, 2];
      e.ownEntry 4 [1, 0, 0, 0, 1, 2] = some [0, 1, 2] ∧ e.isRole .stor = true) := by decide +kernel

/-- PrimaryComputesAndSends, clause by clause. -/
theorem test_meets_PrimaryComputesAndSends :
    let d := (manager [(R.RINNAK_STATUS_UP_A, 1)]).modCoord fun c => { c with reallocDue := true, offsetsDue := true };
    Serving d ∧ d.isPrimary = true ∧ d.coord.raisedAt = none
    ∧ d.netOn = true ∧ d.keyless = false ∧ d.segUp false = true
    ∧ d.coord.reallocDue = true ∧ d.coord.reallocAt = none ∧ d.coord.offsetsDue = true ∧ d.coord.offsetsAt = none := by
  decide +kernel

/-- A DIST node with a slice of 1 and one branch with a contract of 1, whose one scan measured `p` for it. -/
def capped (p : Int) : Dev :=
  (up .run 2 [(R.COORD_ALLOT_SLICE, 1), (R.COORD_ALLOT_HELD, 1), (R.BTn_CONTRACT_VALUE 7, 1)]).modCoord fun c =>
    { c with scans := [(0, [0, 0, 0, 0, 0, 0, 0, p])] }

/-- PowerCapStepsLevels: just above the slice, and at it. -/
theorem test_meets_PowerCapStepsLevels :
    (let d := capped (hundredWatts + 1);
      Serving d ∧ d.isRole .dist = true ∧ d.get R.COORD_ALLOT_SLICE ≠ 0 ∧ d.on R.COORD_ALLOT_HELD = true
        ∧ d.recentScans ≠ [] ∧ d.capBranches = [7]
        ∧ (d.get R.COORD_ALLOT_SLICE : Int) * hundredWatts * d.recentScans.length < branchSum d.recentScans 7
        ∧ (d.contract 7 : Int) * hundredWatts * d.recentScans.length < branchSum d.recentScans 7)
    ∧ (let d := capped hundredWatts;
      let p := d.capBranches.foldl (fun a b => a + branchSum d.recentScans b) 0;
      p ≤ (d.get R.COORD_ALLOT_SLICE : Int) * hundredWatts * d.recentScans.length
        ∧ (let e := { d with regs := (d.put R.COORD_CAP_CFG_HYST 1).regs };
          (e.get R.COORD_ALLOT_SLICE : Int) * hundredWatts * e.recentScans.length * (256 - e.get R.COORD_CAP_CFG_HYST)
            < p * 256))
    ∧ (let d := capped 0;
      d.capBranches.foldl (fun a b => a + branchSum d.recentScans b) 0 * 256
          ≤ (d.get R.COORD_ALLOT_SLICE : Int) * hundredWatts * d.recentScans.length * (256 - d.get R.COORD_CAP_CFG_HYST)
        ∧ ((d.put R.COORD_CAP_CFG_RELAX 1).get R.COORD_CAP_CFG_RELAX ≤ d.coord.relax + 1))
    ∧ (let d := ((capped 0).put (capFld 7) 15).modCoord fun c => { c with overSlice := true };
      d.coord.overSlice = true ∧ d.coord.capRaised = false ∧ (d.capBranches.all fun b => d.get (capFld b) == 15) = true) := by
  decide +kernel

/-- ManagerPairActs, clause by clause: the listening and the wait at their ends. -/
theorem test_meets_ManagerPairActs :
    (let d (heard : Bool) : Dev := atAngle ((up .standby 4 []).modNet fun n => { n with listening := true, heard := heard })
        0x1000_0000_0000;
      Serving (d true) ∧ (d true).net.listening = true ∧ (d true).since (d true).boot.standbyAt = 4096
        ∧ (d true).net.heard = true ∧ (d false).net.heard = false ∧ (d false).homeId = 0
        ∧ (atAngle (up .standby 4 [(R.RINNAK_NODE_NODE_ID, 1)]) 0x1000_0000_0000).homeId ≠ 0)
    ∧ (let d := atAngle (manager [(R.MGR_STATUS_MROLE, 2), (R.RIDGE_RATE_RATE, 70368744)]) 0x10_0000_0000_0000;
      let e := d.modNseg true fun s => { s with plcaAt := some 0 };
      d.isStandby = true ∧ d.netOn = true ∧ d.net.segA.plcaAt = none ∧ d.net.segB.plcaAt = none
        ∧ d.since d.boot.standbyAt = 16 * 65536
        ∧ e.isStandby = true ∧ e.netOn = true ∧ e.net.segB.plcaAt.isSome = true
        ∧ 120000 * e.rate ≤ e.plcaQuiet * 2 ^ 32)
    ∧ (let d := (manager []).modCoord fun c => { c with beacons := 8 };
      d.isPrimary = true ∧ d.coord.beacons = 8 ∧ d.on R.MGR_STATUS_PEER = false)
    ∧ (let may (d : Dev) : Bool := d.isPrimary && d.on R.MGR_STATUS_PEER && d.on R.MGR_STATUS_COPY_OK;
      let d := manager [(R.MGR_STATUS_PEER, 1), (R.MGR_STATUS_COPY_OK, 1)];
      Reaches d A.MGR_CMD ∧ d.on R.RINNAK_NODE_MGR = true ∧ may d = true
        ∧ Reaches (manager []) A.MGR_CMD ∧ (manager []).on R.RINNAK_NODE_MGR = true ∧ may (manager []) = false) := by
  decide +kernel

/-- A frame of bus ID 3: PRESENCE of home ID 3, with its FCS. -/
def frame : List Byte := frameBytes ⟨tPresence, 3, 3, 255, 7, 0, [3]⟩ none 0

/-- FramesAreSentAndFiltered, clause by clause. -/
theorem test_meets_FramesAreSentAndFiltered :
    (let o : OutMsg := ⟨⟨tPresence, 3, 0, 255, 7, 0, [0]⟩, 0, none, 0, false⟩;
      let d := (up .run 0 [(R.RINNAK_CTRL_EN, 1)]).modNseg true fun s => { s with adopted := true, queue := [o] };
      let e := d.modNseg true fun s => { s with sent := [], queue := s.queue.filter d.fitsNow };
      Serving d ∧ d.hasRight true = true ∧ d.coordinator = false ∧ e.coordinator = false ∧ (e.nseg true).queue = [o]
        ∧ nextOut false [o] = some o ∧ e.keyless = false)
    ∧ (up .run 0 [(R.RINNAK_CTRL_EN, 1)]).netOn = true
    ∧ (let l : List Byte := List.replicate 18 0; leAt l (l.length - 4) 4 ≠ crc32 (l.take (l.length - 4)))
    ∧ (let l : List Byte := List.replicate 14 0 ++ leBytes 4 (crc32 (List.replicate 14 0));
      18 ≤ l.length ∧ leAt l (l.length - 4) 4 = crc32 (l.take (l.length - 4)) ∧ slice l 0 6 ≠ rinnakDa)
    ∧ (let l : List Byte := rinnakDa ++ List.replicate 8 0; beAt l 12 2 ≠ 0x88B5) := by decide +kernel

/-- NewFramesAreDelivered: that frame. -/
theorem test_meets_NewFramesAreDelivered :
    let d := up .run 0 [(R.RINNAK_CTRL_EN, 1), (R.RINNAK_CTRL_NODES, 32)];
    Serving d ∧ d.netOn = true ∧ 18 ≤ frame.length
    ∧ leAt frame (frame.length - 4) 4 = crc32 (frame.take (frame.length - 4)) ∧ slice frame 0 6 = rinnakDa
    ∧ beAt frame 12 2 = 0x88B5 ∧ d.isStrange frame = false ∧ d.authOn = false ∧ d.keyless = false
    ∧ (parseFrame frame).src ≠ d.busId ∧ (parseFrame frame).src = 3
    ∧ ((parseFrame frame).src, (parseFrame frame).stamp, (parseFrame frame).seq) ∉ d.net.delivered
    ∧ d.pairNewer (parseFrame frame) = true ∧ (parseFrame frame).ty = tPresence
    ∧ d.isPrimary = false ∧ d.isStandby = false ∧ (manager []).isPrimary = true
    ∧ (manager [(R.MGR_STATUS_MROLE, 2)]).isStandby = true := by decide +kernel

/-- SegmentsGoDownAndUp, clause by clause: the bound passed by one reed; the longest cycle allowed. -/
theorem test_meets_SegmentsGoDownAndUp :
    (let up1 (co : Nat) (lim : Nat) (rx plca : Option Nat) : Dev := (atAngle (up .run 0 [(R.RINNAK_CTRL_EN, 1), (upFld true, 1),
        (R.RINNAK_STATUS_COORD, co), (R.RINNAK_CTRL_ERR_LIM, lim)]) 0x10000_0000_0000).modNseg true fun s =>
        { s with rxAt := rx, plcaAt := plca };
      let e := up1 0 0 none none; let f := up1 1 9 (some 0) none; let g := up1 0 9 none (some 61440);
      Serving e ∧ e.netOn = true ∧ e.segUp true = true ∧ e.errsFull true = true
      ∧ f.segUp true = true ∧ f.coordinator = true ∧ f.past 65536 (some (f.nseg true).base) = true
      ∧ f.past 65536 (f.nseg true).rxAt = true ∧ (f.nseg true).rxAt = some 0
      ∧ g.segUp true = true ∧ g.coordinator = false ∧ g.past 4096 (some (g.nseg true).base) = true
      ∧ g.past 4096 (g.nseg true).plcaAt = true ∧ (g.nseg true).plcaAt = some 61440)
    ∧ (let down (was : Bool) : Dev := (atAngle (up .run 0 [(R.RINNAK_CTRL_EN, 1), (R.RINNAK_CTRL_ERR_LIM, 1)]) 0x10000_0000_0000).modNseg
        true fun s => { s with wasDown := was, plcaSince := some 0, plcaAt := some 65536 };
      (down true).netOn = true ∧ (down true).segUp true = false ∧ (down true).segGood true = true
        ∧ (((down true).set1 (upFld true)).nseg true).wasDown = true ∧ ((down true).set1 (upFld true)).coordinator = false
        ∧ (down false).segGood true = true ∧ (((down false).set1 (upFld true)).nseg true).wasDown = false)
    ∧ (let o : OutMsg := ⟨⟨tPresence, clUrgent, 0, 255, 7, 0, [0]⟩, 0, some 4, 2, true⟩;
      let d := { (up .run 0 [(R.RINNAK_CTRL_EN, 1)]).modNseg false (fun s => { s with queue := [o] }) with
        ridge := { (up .run 0 []).ridge with acc := 7 * 2 ^ 32 } };
      d.segUp false = false ∧ d.segUp true = false ∧ d.net.segA.queue = [o] ∧ d.net.segB.queue = []
        ∧ o.msg.cls = clUrgent ∧ 4 + o.ext < d.since o.acceptedAt)
    ∧ (let d := up .run 0 [(R.RINNAK_CTRL_EN, 1), (R.RINNAK_CYCLE_MAX_B, 9)];
      d.net.segA.plcaAt = none ∧ d.net.segB.plcaAt = none ∧ d.net.listening = false ∧ d.net.heard = false
        ∧ 9 ≤ d.get R.RINNAK_CYCLE_MAX_B) := by decide +kernel

/-- KeysAndTransfersAct, clause by clause: the first stamp at which a commit is in time, and the one before; the stamps of a
key's activation and of the old key's end, and those before. -/
theorem test_meets_KeysAndTransfersAct :
    let auth : Dev := up .run 0 [(R.RINNAK_CTRL_EN, 1), (R.RINNAK_CTRL_AUTH_EN, 1)];
    let keys (act old : Nat) : Dev := auth.modNet fun n =>
      { n with key := some [1], nextKey := some [2], actStamp := act, oldAct := old };
    Serving auth ∧ Reaches auth A.RINNAK_KEY_ACT ∧ auth.authOn = true ∧ auth.net.key = none ∧ (up .run 0 []).authOn = false
    ∧ (keys 0 0).authOn = true ∧ (keys 0 0).net.key.isSome = true ∧ ¬stampDiff 2 (keys 0 0).stampNow < 2
    ∧ stampDiff 1 (keys 0 0).stampNow < 2
    ∧ (keys 0 0).net.nextKey = some [2] ∧ stampDiff (keys 0 0).stampNow (keys 0 0).net.actStamp = 0
    ∧ stampDiff (keys 1 0).stampNow (keys 1 0).net.actStamp < 0
    ∧ stampDiff (keys 0 0xFFFFFFFC).stampNow (keys 0 0xFFFFFFFC).net.oldAct = 4
    ∧ stampDiff (keys 0 0xFFFFFFFD).stampNow (keys 0 0xFFFFFFFD).net.oldAct < 4
    ∧ (let x : ProfSend := ⟨31, 65535, [1, 2]⟩; x.dst < 32 ∧ x.tid < 65536 ∧ x.bytes.length ≤ 16384 ∧ (manager []).isPrimary = true)
    ∧ (opened (manager []) tThatchFwd 3 (List.replicate 36 0)).isManager = true := by decide +kernel

/-! ## The same: branches and Batten -/

/-- A DIST node whose branch 7 is in use and in a state, with its link in a state. -/
def branch (m : Mode) (st link : Nat) (l : List (Fld × Nat)) : Dev :=
  up m 2 ([(R.BRn_CFG_USE 7, 1), (R.BRn_CFG_EN 7, 1), (R.BRn_STATE_STATE 7, st), (R.BTn_STATE_LINK 7, link)] ++ l)

/-- BranchesFollowTheirRows, clause by clause: the last branch, no row before in the cycle and one; one retry left, and none. -/
theorem test_meets_BranchesFollowTheirRows :
    (let d := branch .run brEmpty 0 [];
      let e := (d.modBr 7 fun b => { b with seat := true });
      d.brLive 7 = true ∧ d.cyc.brRows.lookup 7 = none ∧ (e.br 7).seat = true ∧ (e.put (R.BRn_STATE_SEATED 7) 1).bs 7 = brEmpty
        ∧ d.bs 7 = brEmpty)
    ∧ (let d := branch .run brOn lkContract [(R.BRn_STATE_SEATED 7, 1)];
      d.brLive 7 = true ∧ d.bs 7 ≠ brEmpty ∧ d.energised 7 = true ∧ d.bs 7 = brOn ∧ (d.put (R.BRn_STATE_SEATED 7) 1).bs 7 ≠ brEmpty)
    ∧ (let d := branch .run brReady 0 []; d.bs 7 ≠ brEmpty ∧ d.energised 7 = false)
    ∧ (branch .run brSeating 0 []).bs 7 = brSeating ∧ (branch .run brInsert 0 []).bs 7 = brInsert
    ∧ (let e (b : Nat) (high : Bool) : Dev := (branch .run b 0 []).modBr 7 fun b => { b with trip := high };
      (e brPrecharge true).energised 7 = true ∧ (e brPrecharge true).tripActive 7 = true
        ∧ (e brReady true).energised 7 = false ∧ (e brOn false).tripActive 7 = false)
    ∧ (let d (v : Nat) : Dev := branch .run brPrecharge 0 [(R.BRn_CFG_LEG_A 7, 1), (R.BR_SPINE_WIN_SP_HI, 100), (R.BR_SPINE_MEAS_VSPA, 100),
        (R.BRn_MEAS_V_VOUT 7, v)];
      (d 0).bs 7 = brPrecharge ∧ (d 94).brDone 7 = false ∧ (d 95).bs 7 = brPrecharge ∧ (d 95).brDone 7 = true)
    ∧ (let d := branch .run brTripped 0 [(R.BRn_STATE_TRIES 7, 1), (R.BRn_CFG_MAX 7, 2)];
      d.bs 7 = brTripped ∧ d.get (R.BRn_STATE_TRIES 7) < d.get (R.BRn_CFG_MAX 7))
    ∧ (let d := branch .run brTripped 0 [(R.BRn_STATE_TRIES 7, 2), (R.BRn_CFG_MAX 7, 2)];
      d.bs 7 = brTripped ∧ d.get (R.BRn_CFG_MAX 7) ≤ d.get (R.BRn_STATE_TRIES 7))
    ∧ (let d := (branch .drain brOn 0 []).modSeq fun s => { s with csSeen := true };
      d.brLive 7 = true ∧ d.mode = .drain ∧ d.bs 7 = brOn ∧ d.seq.csSeen = true
        ∧ reeds (d.get (R.BRn_OFF_DLY_TURN 7)) (d.get (R.BRn_OFF_DLY_REED 7)) ≤ d.since d.seq.csAt)
    ∧ (let d := branch .run brReady 0 [];
      let e := { d with cyc := { d.cyc with brRows := [(7, 7, (branch .run brOn 0 []).word (A.BRn_STATE 7), d.br 7)] } };
      e.cyc.brRows.lookup 7 = some (7, (branch .run brOn 0 []).word (A.BRn_STATE 7), d.br 7)
        ∧ (e.brBack 7 ((branch .run brOn 0 []).word (A.BRn_STATE 7)) (d.br 7)).bs 7 = brOn ∧ 3 < 7)
    ∧ (let d := branch .run brLockout 0 [];
      7 < 8 ∧ Reaches d (A.BRn_CMD 7) ∧ d.cyc.brRows.lookup 7 = none
        ∧ (d.disarm.putCode (R.BRn_CMD_RES_CODE 7) .accepted).bs 7 = brLockout)
    ∧ (let e := (branch .run brOn 0 []).disarm.putCode (R.BRn_CMD_RES_CODE 7) .accepted;
      e.bs 7 ≠ brTripped ∧ e.bs 7 ≠ brLockout) := by decide +kernel

/-- BranchesAreEvaluatedAndBraked, clause by clause: 95 % of Vsp, and one code below; the last scan before the fuse trips, and
the one before that. -/
theorem test_meets_BranchesAreEvaluatedAndBraked :
    let leg := [(R.BRn_CFG_LEG_A 7, 1), (R.BR_SPINE_WIN_SP_HI, 4000), (R.BR_SPINE_MEAS_VSPA, 2000)];
    let ev (d : Dev) : Dev := d.put (R.BRn_MEAS_V_VSP 7) ((d.vsp 7).getD (Config.free .noVsp [7] % 2 ^ 14));
    (let d := branch .run brReady lkLinked leg;
      Serving d ∧ d.isRole .dist = true ∧ 7 < 8 ∧ d.brLive 7 = true ∧ d.cyc.brRows.lookup 7 = none ∧ d.bs 7 = brReady
        ∧ (ev d).brStart 7 = true ∧ (ev (branch .standby brReady lkLinked leg)).brStart 7 = false)
    ∧ (let d := atAngle (branch .run brReady lkLinked []) 0;
      d.scanDue (d.get R.BR_SENSE_SCAN_LOG2) = true ∧ d.scanInputs ≠ []
        ∧ (d.modSense fun x => { x with scan := some (0, true) }).scanDone d.scanInputs = true)
    ∧ (let d := up .run 3 []; Serving d ∧ d.isRole .tray = true)
    ∧ (let d := branch .run brPrecharge lkLinked (leg ++ [(R.BRn_MEAS_V_VOUT 7, 1900)]);
      d.brLive 7 = true ∧ d.bs 7 = brPrecharge ∧ (ev d).vsp 7 = some 2000 ∧ (ev d).brDone 7 = true)
    ∧ (let d := branch .run brPrecharge lkLinked (leg ++ [(R.BRn_MEAS_V_VOUT 7, 1899)]);
      d.bs 7 = brPrecharge ∧ (ev d).brDone 7 = false)
    ∧ (let d := branch .run brOn lkLinked (leg ++ [(R.BRn_FUSE_FUSE_TH 7, 5), (R.BRn_FUSE_FUSE_N 7, 2),
        (R.BRn_MEAS_I_IA 7, 5), (R.BR_ZERO_ZI, 0)]);
      let f (d : Dev) : Dev := (ev d).brCapture 7;
      d.brLive 7 = true ∧ d.bs 7 = brOn ∧ (f d).brOvers 7 < (f d).get (R.BRn_FUSE_FUSE_N 7)
        ∧ (let e := d.modBr 7 fun b => { b with overs := 1 };
          e.bs 7 = brOn ∧ (f e).get (R.BRn_FUSE_FUSE_N 7) ≤ (f e).brOvers 7)) := by decide +kernel

/-- A packet from the other end. -/
def packet (ty : Nat) (source resp : Bool) (objs : List Word) : BtPacket := ⟨ty, !source, false, 1, resp, 0, objs⟩

/-- It is received as it is by a part `d` at link `n`, and no request before it has been served. -/
def arrives (d : Dev) (n : Nat) (p : BtPacket) : Bool :=
  let r := d.btReceive n p.frame
  r.2 == some p && (r.1.bt n).served == none

/-- BattenSourcesAct, clause by clause. -/
theorem test_meets_BattenSourcesAct :
    (let d := branch .run brEmpty lkDetect [];
      let e (d : Dev) : Dev := (d.put (R.BTn_SIGV_MV 7) (min 14 4095)).put (R.BTn_STATE_SIG 7) (sigClassOf 14);
      let f := (d.set1 (R.BRn_STATE_SEATED 7)).modBt 7 fun l => { l with sigClass := sigClassOf 14, sigCount := 18 };
      Serving d ∧ 7 < 8 ∧ d.btSource = true ∧ d.lk 7 = lkDetect ∧ d.sup.stopped = false
        ∧ (e d).on (R.BRn_STATE_SEATED 7) = false
        ∧ f.lk 7 = lkDetect ∧ f.sup.stopped = false ∧ (e f).on (R.BRn_STATE_SEATED 7) = true
        ∧ ((e f).bt 7).sigClass = sigClassOf 14 ∧ min 20 (((e f).bt 7).sigCount + 1) = 19
        ∧ ((e (d.set1 (R.BRn_STATE_SEATED 7))).bt 7).sigClass ≠ sigClassOf 14)
    ∧ (let d := branch .run brOn lkContract []; d.lk 7 = lkContract ∧ d.cyc.brRows.lookup 7 = none ∧ d.energised 7 = true)
    ∧ (let d := branch .run brReady lkLinked [(R.BT_WEEVIL_RUN, 1)]; d.lk 7 = lkLinked ∧ d.energised 7 = false
      ∧ d.btActive 7 = true ∧ (d.bt 7).requested = false ∧ (d.bt 7).noSink = false ∧ (d.bt 7).has .ping = false
      ∧ (let o : BtOut := ⟨packet btPing true false [], .ping, false⟩;
        ((d.modBt 7 fun l => { l with tx := [o] }).bt 7).nextTx = some o)
      ∧ arrives d 7 (packet btRequest false false [0x00010002]) = true
      ∧ (d.btReceive 7 (packet btRequest false false [0x00010002]).frame).1.weevilOn = true
      ∧ d.cycles < d.batten.sliceAt + tReneg + d.batten.extended
      ∧ (let e := { d with cycles := tReneg, batten := { d.batten with sliceAt := 0 } };
        e.weevilOn = true ∧ e.batten.sliceAt + tReneg + e.batten.extended = e.cycles)
      ∧ (branch .run brReady lkLinked [(R.BT_WEEVIL_RUN, 0)]).weevilOn = false)
    ∧ (let p := packet btRequest false false [0x00010002]; let d := branch .drain brReady lkLinked [];
      d.contract 7 < fieldOf (p.objs.getD 0 0) 0 16
      ∧ (let e := ((d.put (R.BTn_REQUEST_P_REQ 7) (fieldOf (p.objs.getD 0 0) 0 16)).put (R.BTn_REQUEST_P_MIN 7)
          (fieldOf (p.objs.getD 0 0) 16 16)).modBt 7 (fun l =>
          { l with requested := true, tx := l.tx.filter fun o => o.kind != .announce }); e.mode = .drain))
    ∧ (let p := packet btRequest false false [0x00010002]; let d := branch .run brReady lkLinked [(R.BT_CFG_BR_MAX, 1)];
      let e := ((d.put (R.BTn_REQUEST_P_REQ 7) (fieldOf (p.objs.getD 0 0) 0 16)).put (R.BTn_REQUEST_P_MIN 7)
        (fieldOf (p.objs.getD 0 0) 16 16)).modBt 7 (fun l =>
          { l with requested := true, tx := l.tx.filter fun o => o.kind != .announce });
      d.contract 7 < fieldOf (p.objs.getD 0 0) 0 16 ∧ e.mode ≠ .drain
        ∧ fieldOf (p.objs.getD 0 0) 16 16 ≤ e.get R.BT_CFG_BR_MAX ∧ e.on R.COORD_ALLOT_HELD = false) := by decide +kernel

/-- A tray with its line in a state. -/
def tray (link : Nat) (l : List (Fld × Nat)) : Dev := up .run 3 ([(R.BTn_STATE_LINK 0, link)] ++ l)

/-- The packet is one of type `ty` that part `d` takes in at link `n`. -/
def comes (d : Dev) (n : Nat) (p : BtPacket) (ty : Nat) : Bool :=
  let f := p.frame
  let x := btPacketOf f
  f.crc == btCrc f.header f.objs && btFormed f && x.ty == ty && x.prole == !d.isRole .tray
    && maySend (!d.btSource) (!d.on (R.BTn_STATE_DHOST n)) x.ty

/-- BattenLinksAct: packets of each type that are taken in, with Weevil and without, served before or not; packets that are
not; a SRC_CAP within tWAITQ and at its end; offers up to the contract and above it; requests for a swap. -/
theorem test_meets_BattenLinksAct_1 :
    let link (l : List (Fld × Nat)) (f : BtLink → BtLink) : Dev := (tray skUp ([(R.BT_WEEVIL_RUN, 1)] ++ l)).modBt 0 f;
    let d := link [] id;
    let own := link [(R.BTn_STATE_DHOST 0, 1)] id;
    let asked := packet btPing true false [];
    Serving d ∧ 0 < 8 ∧ d.btActive 0 = true ∧ d.weevilOn = true ∧ (d.bt 0).served = none
    ∧ (tray skUp [(R.BT_WEEVIL_RUN, 0)]).weevilOn = false
    ∧ ([btOffer, btReady, btSrcCap].all fun ty => comes d 0 (packet ty true false [1]) ty) = true
    ∧ ([btDissolve, btSwap, btPing, btGet].all fun ty => comes d 0 (packet ty true false []) ty) = true
    ∧ comes d 0 (packet btAnswer true true [1]) btAnswer = true ∧ comes d 0 (packet btAck true true []) btAck = true
    ∧ comes own 0 (packet btData true true [1, 2, 3, 4]) btData = true
    ∧ (let s := branch .run brReady lkContract [(R.BT_WEEVIL_RUN, 1)];
      Serving s ∧ s.btActive 7 = true ∧ s.weevilOn = true ∧ s.btSource = true ∧ d.btSource = false
      ∧ comes s 7 (packet btRequest false false [1]) btRequest = true
      ∧ comes s 7 (packet btDissolve false false []) btDissolve = true
      ∧ (s.btAckWith 7 (packet btDissolve false false []) .accepted).btSource = true
      ∧ (d.btAckWith 0 (packet btDissolve true false []) .accepted).btSource = false
      ∧ comes (s.set1 (R.BTn_STATE_DHOST 7)) 7 (packet btGet false false []) btGet = false
      ∧ comes (s.clr (R.BTn_STATE_DHOST 7)) 7 (packet btGet false false []) btGet = true)
    ∧ (let e := link [] fun l => { l with served := some (1, asked) }; (e.bt 0).served = some (1, asked) ∧ asked.msgid = 1)
    ∧ (let f := { asked.frame with crc := asked.frame.crc + 1 }; f.crc ≠ btCrc f.header f.objs)
    ∧ (let f := (packet btPing true false [1]).frame; f.crc = btCrc f.header f.objs ∧ btFormed f = false)
    ∧ (btPacketOf (packet btPing false false []).frame).prole = d.isRole .tray
    ∧ (btPacketOf (packet btLoop true false (List.replicate 7 0)).frame).ty = btLoop
    ∧ maySend (!d.btSource) (!d.on (R.BTn_STATE_DHOST 0)) btRequest = false
    ∧ (let e (c : Nat) : Dev := { link [] fun l => { l with holdOff := some (0, 0, 5) } with cycles := c };
      ((e 0).bt 0).holdOff = some (0, 0, 5) ∧ (e 0).get R.BT_SINK_REQ_P_REQ = 0 ∧ (e 0).get R.BT_SINK_REQ_P_MIN = 0
        ∧ (e 0).cycles < 5 + tWaitQ ∧ 5 + tWaitQ ≤ (e (5 + tWaitQ)).cycles ∧ (d.bt 0).holdOff = none)
    ∧ d.contract 0 < 1 ∧ (d.setContract 0 1 1).contract 0 = 1
    ∧ d.on R.BT_CFG_SWAP_EN = false ∧ (link [(R.BT_CFG_SWAP_EN, 1)] id).on R.BT_CFG_SWAP_EN = true
    ∧ (let w (k : BtKind) : BtWait := ⟨asked, k, 1, false⟩;
      ((link [] fun l => { l with out := some (w .request) }).bt 0).out = some (w .request) ∧ (d.bt 0).out = none
        ∧ ((link [] fun l => { l with out := some (w .swap) }).bt 0).has .swap = true ∧ (d.bt 0).has .swap = false) := by
  decide +kernel

/-- BattenLinksAct: answers to the outstanding request and to none, GET, the last resend and the end of the resends. -/
theorem test_meets_BattenLinksAct_2 :
    let link (l : List (Fld × Nat)) (f : BtLink → BtLink) : Dev := (tray skUp l).modBt 0 f;
    let w (k : BtKind) (ty resends : Nat) : BtWait := ⟨packet ty false false [1], k, resends, true⟩;
    let out (k : BtKind) (ty resends : Nat) : Dev := link [] fun l => { l with out := some (w k ty resends) };
    (let d := out .request btRequest 0;
      let e := (d.modBt 0 fun l =>
        { l with out := none, tx := l.tx.filter fun o => o.packet != (w .request btRequest 0).packet }).btShow 0;
      Serving d ∧ 0 < 8 ∧ d.btActive 0 = true ∧ (d.bt 0).out = some (w .request btRequest 0)
      ∧ (w .request btRequest 0).packet.msgid = (packet btAnswer true true [1]).msgid
      ∧ (w .request btRequest 0).packet.ty = btRequest ∧ comes d 0 (packet btAnswer true true [1]) btAnswer = true
      ∧ (packet btAnswer true true [1]).code = 0 ∧ e.contract 0 < 1 ∧ 0 ≤ e.contract 0
      ∧ comes d 0 { packet btAnswer true true [1] with code := Code.wait.val } btAnswer = true
      ∧ ((out .capRequest btRequest 0).bt 0).out = some (w .capRequest btRequest 0))
    ∧ (let d := link [(R.BTn_STATE_DHOST 0, 1)] fun l => { l with out := some (w .get btGet 0) };
      d.btActive 0 = true ∧ (d.bt 0).out = some (w .get btGet 0) ∧ (w .get btGet 0).packet.ty = btGet
        ∧ comes d 0 (packet btData true true [1, 2, 3, 4]) btData = true)
    ∧ ([(BtKind.offerUp, btOffer), (.offerDown, btOffer), (.ready, btReady), (.dissolve, btDissolve), (.swap, btSwap),
        (.ping, btPing)].all fun x => ((out x.1 x.2 0).bt 0).out == some (w x.1 x.2 0)
          && (w x.1 x.2 0).packet.msgid == 1 && comes (out x.1 x.2 0) 0 (packet btAck true true []) btAck
          && comes (out x.1 x.2 0) 0 { packet btAck true true [] with code := 2 } btAck) = true
    ∧ ((link [] id).bt 0).out = none
    ∧ (let e := link [(R.BTn_STATE_DHOST 0, 1)] id; e.on (R.BTn_STATE_DHOST 0) = true ∧ (e.bt 0).has .get = false)
    ∧ (link [] id).on (R.BTn_STATE_DHOST 0) = false
    ∧ (let d (k : BtKind) (n : Nat) : Dev := out k btPing n;
      ((d .ping 1).bt 0).out = some (w .ping btPing 1) ∧ ((d .ping 1).bt 0).tx = [] ∧ (w .ping btPing 1).resends < 2
        ∧ ((d .ping 2).bt 0).out = some (w .ping btPing 2) ∧ 2 ≤ (w .ping btPing 2).resends
        ∧ ([BtKind.offerDown, .offerUp, .dissolve, .ready].all fun k => ((d k 2).bt 0).out == some (w k btPing 2)) = true
        ∧ (let e := (d .ping 1).modBt 0 fun l => { l with tx := [⟨(w .ping btPing 1).packet, .ping, true⟩] };
          ((e.bt 0).tx.any fun o => o.packet == (w .ping btPing 1).packet) = true)) := by decide +kernel

/-- BattenLinksAct: the tray's line, the commands, the line test at the ends of its range, Weevil. -/
theorem test_meets_BattenLinksAct_3 :
    (let d (k : Nat) : Dev := tray k []; Serving (d skUp) ∧ (d skUp).isRole .tray = true ∧ (d skContract).lk 0 = skContract
      ∧ (d skDown).lk 0 = skDown ∧ (d skUp).lk 0 = skUp ∧ skUp ≠ skContract ∧ skUp ≠ skDown ∧ skDown ≠ skContract)
    ∧ (let d (en : Nat) : Dev := branch .run brReady lkContract [(R.BTn_PEER_SWAP_EN 7, en)];
      let ok (d : Dev) (cmd : Nat) : Dev := (d.disarm.btRes 7 cmd .accepted false).modBt 7 fun l => l.own none;
      let busy (k : BtKind) (d : Dev) : Dev := d.modBt 7 fun l => { l with tx := [⟨packet btSwap true false [], k, false⟩] };
      7 < 8 ∧ Reaches (d 1) (A.BTn_CMD 7) ∧ (d 1).disarm.btActive 7 = true ∧ (ok (d 1) 1).btSource = true
      ∧ (d 1).disarm.on (R.BTn_PEER_SWAP_EN 7) = true ∧ (d 0).disarm.on (R.BTn_PEER_SWAP_EN 7) = false
      ∧ ((ok (d 1) 2).bt 7).has .swap = false ∧ ((ok (busy .swap (d 1)) 2).bt 7).has .swap = true
      ∧ (d 1).disarm.isRole .tray = false)
    ∧ (let d := tray skUp [];
      let ok (d : Dev) (cmd : Nat) : Dev := (d.disarm.btRes 0 cmd .accepted false).modBt 0 fun l => l.own none;
      Reaches d (A.BTn_CMD 0) ∧ d.disarm.btActive 0 = true ∧ d.disarm.isRole .tray = true ∧ (ok d 1).btSource = false
      ∧ ((ok d 1).bt 0).has .dissolve = false
      ∧ ((ok (d.modBt 0 fun l => { l with tx := [⟨packet btDissolve false false [], .dissolve, false⟩] }) 1).bt 0).has .dissolve
        = true)
    ∧ (let d (k : Nat) : Dev := (branch .run brEmpty lkDetect []).modBt 7 fun l => { l with stable := k };
      Reaches (d 5) (A.BTn_CMD 7) ∧ (d 5).disarm.btActive 7 = false ∧ (d 5).disarm.btSource = true
        ∧ (d 5).disarm.lk 7 = lkDetect ∧ ((d 5).disarm.bt 7).stable = 5 ∧ ((d 4).disarm.bt 7).stable ≠ 5)
    ∧ (let d := branch .run brEmpty lkTest []; let f := (packet btLoop true false (List.replicate 7 0x55555555)).frame;
      Serving d ∧ d.btSource = true ∧ d.lk 7 = lkTest ∧ (f.crc == btCrc f.header f.objs) = true ∧ btFormed f = true
        ∧ fieldOf f.header 0 4 = btLoop ∧ f.objs = List.replicate 7 0x55555555 ∧ 2400 ≤ 2400 ∧ 3400 ≤ 3400)
    ∧ (up .run 2 [(R.BT_WEEVIL_RUN, 1)]).on R.BT_WEEVIL_RUN = true ∧ (up .run 2 []).on R.BT_WEEVIL_RUN = false := by
  decide +kernel

/-- ModesChangeByTheirRows, the commands. -/
theorem test_meets_ModesChangeByTheirRows_1 :
    (let d (src : Nat) : Dev := up .standby 0 [(R.RIDGE_STATUS_SRC, src)];
     let e (src : Nat) : Dev := (((d src).disarm.seqRes 4 .accepted).set1 R.SYS_MODE_QUIET |>.modSup fun s =>
       { s with stopped := true, quietStop := true }).showWeevil;
     Reaches (d srcFree) A.SEQ_CMD ∧ (d srcFree).mode ≠ .safe ∧ (d srcFree).mode = .standby
       ∧ (d srcFree).disarm.isPrimary = false ∧ (d srcFree).disarm.isStandby = false
       ∧ (e srcFree).src ≠ srcDisc ∧ (e srcDisc).src = srcDisc)
    ∧ (up .safe 0 []).disarm.causeGone = true ∧ (up .safe 0 [(R.SEQ_STATUS_SAFE_CAUSE, 3)]).disarm.causeGone = false
    ∧ (up .run 0 []).mode ≠ .standby ∧ (up .standby 0 [(R.MGR_STATUS_MROLE, 2)]).disarm.isStandby = true := by decide +kernel

/-- ModesChangeByTheirRows, the rest: no start condition fails, and the last one does; a thermal hold; what a cycle leaves to
the next. -/
theorem test_meets_ModesChangeByTheirRows_2 :
    (let d := up .standby 2 [(R.SEQ_STATUS_ON_LATCH, 1), (R.RIDGE_STATUS_SRC, srcDisc)];
      let e := d.set1 ((R.TSc_T_COND 16).bit coHotStop);
      d.mode = .standby ∧ d.on R.SEQ_STATUS_ON_LATCH = true ∧ d.thHoldNow = false ∧ d.seq.offDue = false
        ∧ ((List.range 8).all fun i => !d.blocked i) = true
        ∧ e.mode = .standby ∧ e.on R.SEQ_STATUS_ON_LATCH = true ∧ e.thHoldNow = true)
    ∧ (let d := up .standby 2 [(R.SYS_MODE_QUIET, 1), (R.SEQ_STATUS_ON_LATCH, 1)];
      d.mode = .standby ∧ d.on R.SEQ_STATUS_ON_LATCH = true ∧ d.blocked 7 = true ∧ d.quiet = true)
    ∧ (let d := (up .ramp 2 []).modSeq fun s => { s with csSeen := true }; d.mode = .ramp ∧ d.slotsPassed = true)
    ∧ (let d := (up .ride 2 [(R.SEQ_CTRL_RIDE_TMO, 1)]).modSeq fun s => { s with inputBack := true };
      d.mode = .ride ∧ d.mainsInput = false ∧ d.seq.inputBack = true ∧ d.get R.SEQ_CTRL_RIDE_TMO ≠ 0)
    ∧ (let d := (up .standby 2 []).modSup fun s => { s with stopped := true };
      Serving d ∧ d.sup.lgHeld = false ∧ d.sup.stopped = true ∧ d.quiet = false)
    ∧ (let d (m : Mode) (hold : Bool) (f : Seq → Seq) : Dev :=
        (up m 2 []).putB ((R.TSc_T_COND 16).bit coHotStop) hold |>.modSeq f;
      let due (d : Dev) : Bool × Bool × Bool := (d.seq.rideBack, d.seq.onFresh, d.seq.offDue);
      let e (d : Dev) : Dev := d.modSeq fun s => { s with offDue := false, onFresh := false, rideBack := false, noUpDue := 0 };
      let back := d .ride false fun s => { s with rideBack := true }; let late := d .drain false fun s => { s with rideBack := true };
      let held := d .standby true fun s => { s with onFresh := true }; let free := d .standby false fun s => { s with onFresh := true };
      let off := d .run true fun s => { s with offDue := true };
      back.seq.noUpDue = 0 ∧ due back = (true, false, false) ∧ (e back).mode = .ride
      ∧ due late = (true, false, false) ∧ (e late).mode ≠ .ride
      ∧ due held = (false, true, false) ∧ (e held).thHoldNow = true ∧ due free = (false, true, false) ∧ (e free).thHoldNow = false
      ∧ due off = (false, false, true) ∧ (e off).mode.afterBoot = true) := by decide +kernel

/-- RailsFollowTheirSlots, clause by clause: the last rail and the last reset output. -/
theorem test_meets_RailsFollowTheirSlots :
    (let d := (up .ramp 2 [(R.RAILr_CFG_USE 15, 1), (R.RAILr_CFG_PG_EN 15, 1)]).modSeq fun s => { s with csSeen := true };
      let e := ({ d.modSeq (fun s => { s with onReached := sbit s.onReached 15 true }) with
        cyc := { d.cyc with onSlots := sbit d.cyc.onSlots 15 true } }).slotEnable 15;
      Serving d ∧ 15 < 16 ∧ d.mode = .ramp ∧ d.slotDue (R.RAILr_ON_TURN 15) (R.RAILr_ON_REED 15) = true ∧ d.usedSlot 15 = true ∧ tbit d.seq.onReached 15 = false
        ∧ e.railUse 15 = true ∧ e.on (R.RAILr_CFG_PG_EN 15) = true)
    ∧ (let d := (up .ramp 2 [(R.RAILr_CFG_USE 15, 1)]).modSeq fun s => { s with csSeen := true };
      let e := ({ d.modSeq (fun s => { s with onReached := sbit s.onReached 15 true }) with
        cyc := { d.cyc with onSlots := sbit d.cyc.onSlots 15 true } }).slotEnable 15;
      d.usedSlot 15 = true ∧ e.on (R.RAILr_CFG_PG_EN 15) = false)
    ∧ (let d := (up .drain 2 [(R.RAILr_CFG_USE 15, 1)]).modSeq fun s => { s with onReached := 2 ^ 15, csSeen := true };
      d.mode = .drain ∧ d.slotDue (R.RAILr_OFF_TURN 15) (R.RAILr_OFF_REED 15) = true ∧ d.usedSlot 15 = true ∧ tbit d.seq.onReached 15 = true ∧ tbit d.seq.offPassed 15 = false)
    ∧ (let d := (up .run 2 [(R.RAILr_CFG_USE 15, 1), (R.RAILr_CFG_PG_EN 15, 1)]).modSeq fun s =>
        { s with pgWait := 2 ^ 15, slotOn := 2 ^ 15 };
      let p := ((d.set1 (R.SEQ_RAIL_LEVEL_PG.bit 15)).unholdEv 117 15).modSeq fun s =>
        { s with pgWait := sbit s.pgWait 15 false };
      let n := d.clr (R.SEQ_RAIL_LEVEL_PG.bit 15);
      tbit d.seq.pgWait 15 = true ∧ d.railEn 15 = true ∧ d.railUse 15 = true
      ∧ p.slotOn 15 = true ∧ p.on (R.RAILr_CFG_PG_EN 15) = true ∧ tbit p.seq.noUp 15 = false
      ∧ tbit (p.modSeq fun s => { s with noUp := 2 ^ 15 }).seq.noUp 15 = true
      ∧ n.railEn 15 = true ∧ n.on (R.RAILr_CFG_PG_EN 15) = true ∧ n.mode = .run)
    ∧ (let d := up .run 2 [(R.RAILr_CFG_USE 15, 1)];
      d.railUse 15 = true ∧ tbit d.seq.pgWait 15 = false ∧ (((d.set1 (R.SEQ_RAIL_LEVEL_PG.bit 15)).unholdEv 117 15).modSeq fun s =>
        { s with pgWait := sbit s.pgWait 15 false }).slotOn 15 = false
      ∧ (d.clr (R.SEQ_RAIL_LEVEL_PG.bit 15)).railEn 15 = false)
    ∧ 3 < 4 ∧ tbit ((up .run 2 []).modSeq fun s => { s with rstoStretch := 2 ^ 3 }).seq.rstoStretch 3 = true := by
  decide +kernel

/-- A STOR node whose string 5 is in use. -/
def string (m : Mode) (l : List (Fld × Nat)) : Dev := up m 1 ([(R.STk_CFG_EN 5, 1)] ++ l)

/-- StringsAreEstimated, clause by clause: the last string; the age at its limit; LEARN at the ends of its range. -/
theorem test_meets_StringsAreEstimated :
    (let d := string .run [(R.STk_STATE_DRILL 5, 1), (R.ST_CFG_AGE_LIM, 9), (R.STk_STATE_AGE 5, 9), (R.STk_STATE_STALE 5, 0), (R.STk_CAP_VALUE 5, 1)];
      Serving d ∧ d.isRole .stor = true ∧ (idxs 6 d.strOn) = [5] ∧ d.on (R.STk_STATE_DRILL 5) = true
      ∧ d.get R.ST_CFG_AGE_LIM ≤ d.get (R.STk_STATE_AGE 5) ∧ (d.str 5).aged = false
      ∧ ((d.modStr 5 fun s => { s with aged := true }).str 5).aged = true
      ∧ d.get R.COORD_ALLOT_SLICE = 0 ∧ d.on R.COORD_ALLOT_HELD = false ∧ d.get (R.STk_CAP_VALUE 5) ≠ 0 ∧ d.quiet = false
      ∧ (string .standby [(R.SYS_MODE_QUIET, 1)]).quiet = true
      ∧ (atAngle d 0).scanDue ((atAngle d 0).get R.ST_CFG_EST_LOG2) = true ∧ d.estInputs ≠ []
      ∧ (d.modSense fun x => { x with scan := some (0, true) }).scanDone d.estInputs = true)
    ∧ (let d := string .standby [(R.ST_LEARN_CAP_VALUE, 1), (R.ST_LEARN_RES_R, 1), (R.ST_LEARN_Q_VALUE, 1)];
      Reaches d A.ST_CMD ∧ 5 < 6 ∧ d.disarm.isRole .stor = true ∧ d.disarm.strOn 5 = true
      ∧ 0 < d.disarm.get R.ST_LEARN_CAP_VALUE ∧ 0 < d.disarm.get R.ST_LEARN_RES_R ∧ 0 ≤ d.disarm.getS R.ST_LEARN_Q_VALUE
      ∧ d.disarm.getS R.ST_LEARN_Q_VALUE ≤ d.disarm.get R.ST_LEARN_CAP_VALUE ∧ d.disarm.strOn 4 = false)
    ∧ (let d := string .run [(R.STk_CFG_STAGE 5, 5), (R.STk_STATE_CHG_INH 5, 0), (R.STAGEs_STATE_STATE 5, ssSleep)];
      let inh (i : Nat) : Dev := d.set1 ((R.STk_STATE_CHG_INH 5).bit i);
      d.disarm.strOn 5 = true ∧ d.mode = .run ∧ d.disarm.strStageRuns 5 = true
      ∧ ((List.range 6).all fun j => !d.on (R.STk_STATE_DRILL j)) = true
      ∧ tbit (d.disarm.inhFound 5) ciTemp = false ∧ tbit (d.disarm.inhFound 5) ciTbad = false
      ∧ tbit (d.disarm.inhFound 5) ciFull = false ∧ tbit (d.disarm.inhFound 5) ciRange = false
      ∧ tbit ((inh ciTbad).disarm.inhFound 5) ciTbad = true ∧ tbit ((inh ciRange).disarm.inhFound 5) ciRange = true
      ∧ tbit ((inh ciRange).disarm.inhFound 5) ciTbad = false
      ∧ (d.ichg 5).lt (d.idrill 5) = false
      ∧ (let e := d.put (R.STk_IDRILL_VALUE 5) 0x010000; (e.ichg 5).lt (e.idrill 5) = true)
      ∧ ((string .run [(R.STk_STATE_DRILL 5, 1)]).disarm.stRes 3 5 .accepted).on (R.STk_STATE_DRILL 5) = true)
    ∧ (string .standby []).mode ≠ .run := by decide +kernel

/-- TemperaturesAreMeasured: every channel; readings beyond both ends; the edges of the die condition. -/
theorem test_meets_TemperaturesAreMeasured :
    let d := atAngle (up .run 0 []) (8192 * 2 ^ 32);
    Serving d ∧ d.cyc.reedNew = true ∧ d.reed % 8192 = 0 ∧ d.cyc.served.contains thermServed = false
    ∧ [((16 : Nat), some (1350 : Int))] ≠ [] ∧ 15 < 16 ∧ 16368 < 16369 ∧ d.refReady = false
    ∧ d.therm.length = 17 ∧ (1350 : Int) ≤ 1350 ∧ (1249 : Int) < 1250 ∧ (d.therm_ dieCh).dieCrit = false := by decide +kernel

/-! ## The same: Gutter, Thatch, host, module buses -/

/-- GutterCommandsAct, clause by clause: the last event, source, point and unit. -/
theorem test_meets_GutterCommandsAct :
    (let d := up .boot 0 []; Awake d ∧ 127 < 128 ∧ 65535 < 65536 ∧ 255 < 256 ∧ ¬ Serving d ∧ Serving (up .run 0 [])
      ∧ gutterCopied 0x4A34 = true ∧ (1 : Word) ≠ 0 ∧ d.gut.upset = [] ∧ d.gut.armed = []
      ∧ d.on R.GUT_STATUS_SELF = false ∧ (up .boot 0 [(R.GUT_STATUS_SELF, 1)]).on R.GUT_STATUS_SELF = true)
    ∧ (let d (inj run : Nat) : Dev := up .run 0 [(R.GUT_CTRL_INJ_MODE, inj), (R.GUT_CTRL_INJ_RUN, run)];
      3 < 4 ∧ Reaches (d 3 1) (A.GUT_LATCHi 3) ∧ Reaches (d 3 1) (A.GUT_FORCEi 3) ∧ Reaches (d 3 1) A.GUT_INJ_CHECK
      ∧ tbit ((d 3 1).get R.GUT_CTRL_INJ_MODE) 0 = true ∧ tbit ((d 3 1).get R.GUT_CTRL_INJ_MODE) 1 = true
      ∧ (d 3 1).on R.GUT_CTRL_INJ_RUN = true ∧ (d 3 0).mode.regulating = true ∧ (d 3 0).on R.GUT_CTRL_INJ_RUN = false
      ∧ tbit ((d 1 1).get R.GUT_CTRL_INJ_MODE) 1 = false ∧ 8 < 9 ∧ 63 < 64 ∧ ¬63 < 48 ∧ 47 < 48 ∧ 9 ≤ 9 ∧ 15 < 16)
    ∧ Reaches (up .safe 4 []) A.GUT_CMD := by decide +kernel

/-- A record of zeros. -/
def blank : Record := ⟨0, 0, 0, 0, 0, 0, 0, 0⟩

/-- Eight records in the ring that are held and wait for LO. -/
def eight : Sparse RingSlot := (List.range 8).map fun i => (i, ⟨{ blank with w0 := 0x2000000 }, .held, i, 0, false, false, false⟩)

/-- ThatchCommandsAct, clause by clause. -/
theorem test_meets_ThatchCommandsAct :
    (let d := (up .boot 0 []).modThatch fun t => { t with intake := [⟨blank, false, false⟩] };
      Awake d ∧ d.on R.TH_STATUS_GAP_PEND = false ∧ d.thatch.intake = [⟨blank, false, false⟩])
    ∧ (let d := up .run 0 [(R.TH_CTRL_NVM_EN, 1), (R.TH_NVM_PART1_LO_SECT, 1), (R.TH_NVM_PART0_HI_SECT, 1)];
      let e := d.modThatch fun t => { t with ring := eight };
      Serving e ∧ 1 < 2 ∧ e.on R.TH_CTRL_NVM_EN = true ∧ e.sectors .lo ≠ 0 ∧ e.sectors .hi ≠ 0
        ∧ e.flushDue .lo = true ∧ e.wrInh = false ∧ e.qspiFree = true
        ∧ (e.set1 R.THERM_STATUS_WR_INH).wrInh = true)
    ∧ ((up .run 0 []).modThatch fun t => { t with op := some (.program .lo (eight.take 1)) }).thatch.op = some (.program .lo (eight.take 1))
    ∧ ((up .run 0 []).modThatch fun t => { t with op := some (.erase .hi 0) }).thatch.op = some (.erase .hi 0)
    ∧ (let d := (up .run 0 [(R.TH_CTRL_NVM_EN, 1), (R.TH_NVM_PART1_LO_SECT, 1)]).modThatch fun t => { t with reading := some (.lo, 127) };
      d.thatch.reading = some (.lo, 127) ∧ d.on R.TH_CTRL_NVM_EN = true ∧ 127 < d.partRecs .lo)
    ∧ 3 < 4 ∧ Reaches (up .safe 4 []) A.TH_FW_CMT ∧ Reaches (up .safe 4 []) A.TH_SNAP_CMD := by decide +kernel

/-- ReleaseFreesRecords: a record at the value released, one above it, and a foreign one above it. -/
theorem test_meets_ReleaseFreesRecords :
    let slot (seq : Nat) (foreign : Bool) : RingSlot := ⟨{ blank with w0 := BitVec.ofNat 32 seq }, .held, 0, 0, foreign, false, false⟩;
    Reaches (up .safe 4 []) A.TH_RELEASE
    ∧ (slot 9 false).state = .held ∧ (slot 9 false).record.seq ≤ (9 : Word).toNat
    ∧ (slot 10 false).foreign = false ∧ (9 : Word).toNat < (slot 10 false).record.seq
    ∧ (slot 10 true).state = .held ∧ (slot 10 true).foreign = true := by decide +kernel

/-- AttnFollowsTheFlags: the last group, in a part whose SYS_STATUS is served. -/
theorem test_meets_AttnFollowsTheFlags : 15 < 16 ∧ (up .safe 4 []).mode.afterBoot = true
    ∧ (up .safe 4 []).blockUsed A.SYS_STATUS = true := by decide +kernel

/-- HostTargetServes, clause by clause: the last register; the last refusals and losses. -/
theorem test_meets_HostTargetServes :
    (let d := up .run 0 [(R.HOST_STATUS_ADDR_NOW, 0x58)];
      Serving d ∧ 65535 < 65536 ∧ (d.present 65535 0).1.mode.afterBoot = true
      ∧ d.sup.lgRunning = false ∧ d.spi = false ∧ d.on R.HOST_CFG_LOWTO_DIS = false
      ∧ d.hostServes = true ∧ d.quiet = false ∧ d.on R.HOST_CFG_PEC_EN = false
      ∧ d.host.toGo = none ∧ (0 * 256 + 0) / 4 * 4 ≠ A.IMAGE_DATA
      ∧ ([false, true].all fun held => ((d.modHost fun h => { h with toGo := some ⟨held, false, [(0, 0)]⟩ }).presentWord 0
        0).mode.afterBoot) = true
      ∧ ((d.modHost fun h => { h with toGo := some ⟨false, false, [(0, 0), (4, 0)]⟩ }).presentWord 0 0).mode.afterBoot = true
      ∧ (0xB0 : Byte).toNat = 2 * d.get R.HOST_STATUS_ADDR_NOW ∧ (0x20 : Byte).toNat ≠ 2 * d.get R.HOST_STATUS_ADDR_NOW
      ∧ d.notifyMay = true)
    ∧ (let d := up .run 0 [(R.HOST_STATUS_SPI, 1)]; d.hostServes = true ∧ d.quiet = false ∧ d.spi = true
      ∧ d.on R.HOST_CFG_PEC_EN = false ∧ d.shiftStatus.mode.afterBoot = true
      ∧ d.host.toGo = none ∧ ((d.shiftStatus.modHost fun h => { h with toGo := some ⟨false, false, [(0, 0)]⟩ }).presentWord 0
        0).mode.afterBoot = true)
    ∧ (let d := up .run 0 [(R.HOST_CFG_PEC_EN, 1)]; d.hostServes = true ∧ d.on R.HOST_CFG_PEC_EN = true)
    ∧ (crc8 [0xB0, 0, 0, 1, 2, 3, 4] < 256)
    ∧ (let d := up .standby 0 [(R.SYS_MODE_QUIET, 1)];
      d.hostServes = true ∧ d.mode = .standby ∧ d.quiet = true ∧ d.spi = false ∧ (0xB3 : Byte).toNat / 2 = d.sleepAddr)
    ∧ (let d := (up .run 0 []).modHost fun h => { h with notify := some (1, 2), naks := 1 };
      d.notifyMay = true ∧ d.host.notify = some (1, 2) ∧ d.host.waits = false ∧ d.host.naks < 2)
    ∧ (let d := (up .run 0 []).modHost fun h => { h with notify := some (1, 2), naks := 2, losses := 14, waits := true };
      d.notifyMay = true ∧ d.host.notify = some (1, 2) ∧ d.host.waits = true ∧ d.host.naks = 2 ∧ d.host.losses < 15) := by decide +kernel

/-- ModuleBusesServe, clause by clause: the last bus and address; each protocol; the limits of a command; the last retry; a
block as long as RLEN, and one longer; a target write of 32 bytes, and one of 33. -/
theorem test_meets_ModuleBusesServe :
    (let d (wlen rlen en own : Nat) : Dev := up .run 4 [(R.MBb_CFG_EN 1, en), (R.MBb_LEN_WLEN 1, wlen), (R.MBb_LEN_RLEN 1, rlen),
        (R.MBb_CFG_OWN 1, own)];
      1 < 2 ∧ 127 < 128 ∧ Reaches (d 32 32 1 0x40) (A.MBb_CMD 1) ∧ Serving (d 32 32 1 0x40)
      ∧ (d 32 32 1 0x40).disarm.get (R.MBb_LEN_WLEN 1) = 32 ∧ (d 32 32 1 0x40).disarm.get (R.MBb_LEN_RLEN 1) = 32
      ∧ (d 32 32 1 0x40).disarm.on (R.MBb_CFG_EN 1) = true ∧ ((d 32 32 1 0x40).disarm.mb 1).isSome = false
      ∧ 32 < (d 33 32 1 0).disarm.get (R.MBb_LEN_WLEN 1) ∧ 32 < (d 32 33 1 0).disarm.get (R.MBb_LEN_RLEN 1)
      ∧ (d 0 32 1 0).disarm.get (R.MBb_LEN_WLEN 1) = 0 ∧ (d 32 32 0 0).disarm.on (R.MBb_CFG_EN 1) = false
      ∧ (d 32 32 1 0x40).get (R.MBb_CFG_OWN 1) ≠ 0 ∧ (d 32 32 1 0).get (R.MBb_CFG_OWN 1) = 0
      ∧ (List.replicate 32 (0 : Byte)).length ≤ 32 ∧ 32 < (List.replicate 33 (0 : Byte)).length)
    ∧ (let t (proto : Nat) (waits : Bool) : MbTrans := ⟨proto, 127, false, [254, 0], 1, 1, waits⟩;
      let d (proto : Nat) (waits : Bool) : Dev := (up .run 4 [(R.MBb_CFG_RETRY_MAX 1, 2), (R.MBb_CFG_ARB_MAX 1, 2),
        (R.MBb_LEN_RLEN 1, 3), (R.MBb_CFG_EN 1, 1)]).setMb 1 (some (t proto waits));
      let e := d 7 false;
      Serving e ∧ e.mb 1 = some (t 7 false) ∧ (t 7 false).waits = false ∧ (d 7 true).mb 1 = some (t 7 true)
      ∧ (t 7 true).waits = true ∧ e.get (R.MBb_LEN_RLEN 1) < ([1, 2, 3, 4] : List Byte).length
      ∧ ¬e.get (R.MBb_LEN_RLEN 1) < ([1, 2, 3] : List Byte).length
      ∧ (t 7 false).naks < e.get (R.MBb_CFG_RETRY_MAX 1) ∧ (e.put (R.MBb_CFG_RETRY_MAX 1) 1).get (R.MBb_CFG_RETRY_MAX 1) ≤ (t 7 false).naks
      ∧ (t 7 false).arbs < (e.set1 (R.MBb_FLAGS_ARB_LOST 1)).get (R.MBb_CFG_ARB_MAX 1)
      ∧ ((e.put (R.MBb_CFG_ARB_MAX 1) 1).set1 (R.MBb_FLAGS_ARB_LOST 1)).get (R.MBb_CFG_ARB_MAX 1) ≤ (t 7 false).arbs
      ∧ e.on (R.MBb_CFG_LOWTO_DIS 1) = false ∧ (e.set1 (R.MBb_CFG_LOWTO_DIS 1)).on (R.MBb_CFG_LOWTO_DIS 1) = true
      ∧ e.on (R.MBb_CFG_EN 1) = true ∧ (up .run 4 []).mb 1 = none ∧ (up .run 4 []).on (R.MBb_CFG_EN 1) = false
      ∧ e.spi = false ∧ (up .run 4 [(R.HOST_STATUS_SPI, 1)]).spi = true ∧ 2 < 3) := by decide +kernel

end Sys2Proof.Tests
end

/-!
The stage commands START, STOP and CLEAR (R303) and the end of STOPPING (R314): which fields each operation of the stage
supervisor leaves alone, one equation for each row of R303, and from these the statement O35.
-/
section
namespace Sys2Proof.Machine

/-! ## What the operations of a stage leave alone -/

/-- A field of the two registers in which a stage command shows its answer and its effect on the stage. -/
def Fld.ofStageAnswer (f : Fld) (s : Nat) : Prop := f.addr = A.STAGEs_CMD_RES s ∨ f.addr = A.STAGEs_STATE s

/-- What a START is checked against (the mode, the kind of the stage, FEED) stands in other registers than its answer. -/
theorem start_conditions_put (d : Dev) (s : Nat) (f : Fld) (v : Nat) (hf : f.ofStageAnswer s) :
    (d.put f v).mode = d.mode ∧ (d.put f v).kind s = d.kind s ∧ (d.put f v).feedDc = d.feedDc := by
  have other (g : Fld) (hr : g.addr ≠ A.STAGEs_CMD_RES s) (hs : g.addr ≠ A.STAGEs_STATE s) :
      (d.put f v).get g = d.get g :=
    get_put_addr d f g v (by rcases hf with h | h <;> rw [h] <;> assumption)
  refine ⟨congrArg Mode.ofCode (other R.SYS_MODE_MODE ?_ ?_), other (R.STAGEs_CFG_KIND s) ?_ ?_,
    congrArg (· != 0) (other R.RIDGE_CTRL_FEED ?_ ?_)⟩ <;>
  simp only [R.SYS_MODE_MODE, R.STAGEs_CFG_KIND, R.RIDGE_CTRL_FEED, A.SYS_MODE, A.STAGEs_CFG, A.RIDGE_CTRL,
    A.STAGEs_CMD_RES, A.STAGEs_STATE] <;> omega

theorem startable_put (d : Dev) (s : Nat) (f : Fld) (v : Nat) (hf : f.ofStageAnswer s) :
    (d.put f v).startable s = d.startable s := by
  obtain ⟨hm, hk, hd⟩ := start_conditions_put d s f v hf
  simp only [Dev.startable, hm, hk, hd]

/-- STATE is the lowest field of STAGEs_STATE. -/
theorem ss_put_above (d : Dev) (s lo w v : Nat) (h : lo + w ≤ 32) (hb : 4 ≤ lo) :
    (d.put ⟨A.STAGEs_STATE s, lo, w⟩ v).ss s = d.ss s := get_put_below d _ (R.STAGEs_STATE_STATE s) v h hb

theorem ss_setSs (d : Dev) (s st : Nat) (h : st < 16) : (d.setSs s st).ss s = st :=
  (get_put_same d (R.STAGEs_STATE_STATE s) st (show 0 + 4 ≤ 32 by decide)).trans (Nat.mod_eq_of_lt h)

/-- A flag reads what was put into it. -/
theorem on_putB (d : Dev) (a lo : Nat) (b : Bool) (h : lo + 1 ≤ 32) : (d.putB ⟨a, lo, 1⟩ b).on ⟨a, lo, 1⟩ = b := by
  unfold Dev.on Dev.putB
  rw [get_put_same d ⟨a, lo, 1⟩ _ h]
  cases b <;> rfl

@[simp] theorem ss_showNact (d : Dev) (s : Nat) : (d.showNact s).ss s = d.ss s :=
  ss_put_above d s 8 4 _ (by decide) (by decide)

@[simp] theorem ss_clr_tries (d : Dev) (s : Nat) : (d.clr (R.STAGEs_STATE_TRIES s)).ss s = d.ss s :=
  ss_put_above d s 12 4 _ (by decide) (by decide)

@[simp] theorem ss_clr_startLatched (d : Dev) (s : Nat) : (d.clr (R.STAGEs_STATE_START_LATCHED s)).ss s = d.ss s :=
  ss_put_above d s 5 1 _ (by decide) (by decide)

@[simp] theorem startable_clr_tries (d : Dev) (s : Nat) : (d.clr (R.STAGEs_STATE_TRIES s)).startable s = d.startable s :=
  startable_put d s (R.STAGEs_STATE_TRIES s) 0 (.inr rfl)

/-- The answer in STAGEs_CMD_RES leaves the state of the stage. -/
@[simp] theorem ss_stageRes (d : Dev) (s cmd : Nat) (c : Code) : (d.stageRes s cmd c).ss s = d.ss s := by
  have hne : A.STAGEs_STATE s ≠ A.STAGEs_CMD_RES s := by
    unfold A.STAGEs_STATE A.STAGEs_CMD_RES
    omega
  exact (get_put_addr _ (R.STAGEs_CMD_RES_CMD s) (R.STAGEs_STATE_STATE s) cmd hne).trans
    (get_put_addr d (R.STAGEs_CMD_RES_CODE s) (R.STAGEs_STATE_STATE s) c.val hne)

@[simp] theorem startable_stageRes (d : Dev) (s cmd : Nat) (c : Code) :
    (d.stageRes s cmd c).startable s = d.startable s :=
  (startable_put _ s (R.STAGEs_CMD_RES_CMD s) cmd (.inl rfl)).trans
    (startable_put d s (R.STAGEs_CMD_RES_CODE s) c.val (.inl rfl))

theorem each_get {α : Type} (f : Dev → α → Dev) (g : Fld) (h : ∀ d x, (f d x).get g = d.get g) (l : List α) (d : Dev) :
    (d.each l f).get g = d.get g := by
  induction l generalizing d with
  | nil => rfl
  | cons x l ih => exact (ih (f d x)).trans (h d x)

/-- Gating a set writes no register. -/
@[simp] theorem gateSet_get (d : Dev) (s : Nat) (on : Bool) (g : Fld) : (d.gateSet s on).get g = d.get g :=
  each_get (fun d n => d.gate n on) g (fun _ _ => rfl) (d.phaseSet s) d

/-- Sending a set to its safe levels writes no register. -/
@[simp] theorem safeAt_get (d : Dev) (s k : Nat) (g : Fld) : (d.safeAt s k).get g = d.get g :=
  each_get _ g (fun d n => Dev.modChan_get d n _ g) (d.phaseSet s) d

/-! ## The states entered -/

@[simp] theorem ss_stageOff (d : Dev) (s : Nat) : (d.stageOff s).ss s = ssOff :=
  (ss_showNact _ s).trans (ss_setSs _ s ssOff (by decide))

@[simp] theorem ss_stageWait (d : Dev) (s : Nat) : (d.stageWait s).ss s = ssWait :=
  (ss_showNact _ s).trans (ss_setSs _ s ssWait (by decide))

/-- STOPPING ends in OFF (R314). -/
theorem ss_stoppingEnd (d : Dev) (s : Nat) : (d.stoppingEnd s).ss s = ssOff := by
  have hoff : (((d.stageOff s).gateSet s false).safeAt s 2).ss s = ssOff := by
    simpa [Dev.ss] using ss_stageOff d s
  exact (ss_put_above _ s 5 1 _ (by decide) (by decide)).trans hoff

/-- The end of STOPPING keeps a latched START (R303). -/
theorem startLatched_stoppingEnd (d : Dev) (s : Nat) :
    (d.stoppingEnd s).on (R.STAGEs_STATE_START_LATCHED s) = d.on (R.STAGEs_STATE_START_LATCHED s) :=
  on_putB _ (A.STAGEs_STATE s) 5 _ (by decide)

/-- A START that was latched leads to WAIT at the safe levels that follow STOPPING (R314). -/
theorem ss_stoppingSafe_of_latched (d : Dev) (s : Nat) (he : (d.stage s).ending = true) (hg : d.goingSafe s = false)
    (hl : d.on (R.STAGEs_STATE_START_LATCHED s) = true) (hs : d.startable s = true) :
    (d.stoppingSafe s).ss s = ssWait := by
  have hs' : (d.modStage s fun g => { g with ending := false }).startable s = true := hs
  simp [Dev.stoppingSafe, he, hg, hl, hs']

/-! ## START (R303) -/

/-- The modes in which a START may act. -/
theorem startMode_iff (m : Mode) : (m == .ramp || m == .run || m == .ride) = true ↔ m = .ramp ∨ m = .run ∨ m = .ride := by
  simp [or_assoc]

theorem startable_iff (d : Dev) (s : Nat) : d.startable s = true ↔
    d.kind s ≠ kNone ∧ (d.kind s ≠ kVienna ∨ d.feedDc = false) ∧ (d.mode = .ramp ∨ d.mode = .run ∨ d.mode = .ride) := by
  simp [Dev.startable, or_assoc, and_assoc]

theorem startCode_of_mode (d : Dev) (s : Nat) (hm : ¬(d.mode = .ramp ∨ d.mode = .run ∨ d.mode = .ride)) :
    d.startCode s = .mode := by
  rw [← startMode_iff] at hm
  simp [Dev.startCode, hm]

theorem startCode_of_viennaDc (d : Dev) (s : Nat) (hk : d.kind s = kVienna) (hd : d.feedDc = true) :
    d.startCode s = .mode := by
  simp [Dev.startCode, hk, hd]

theorem startCode_of_none (d : Dev) (s : Nat) (hm : d.mode = .ramp ∨ d.mode = .run ∨ d.mode = .ride)
    (hk : d.kind s = kNone) : d.startCode s = .badProfile := by
  rw [← startMode_iff] at hm
  simp [Dev.startCode, hm, hk, kNone, kVienna]

theorem startCode_of_startable (d : Dev) (s : Nat) (h : d.startable s = true) :
    d.startCode s = if d.ss s = ssLockout then .mode else .accepted := by
  obtain ⟨hk, hv, hm⟩ := (startable_iff d s).mp h
  rw [← startMode_iff] at hm
  have hv' : ¬(d.kind s = kVienna ∧ d.feedDc = true) := by
    rintro ⟨hk, hd⟩
    simp [hk, hd] at hv
  simp [Dev.startCode, hm, hk, hv']

/-- A START that is refused changes nothing but the answer. -/
theorem cmdStart_of_refused (d : Dev) (s : Nat) (c : Code) (hc : d.startCode s = c) (hn : c ≠ .accepted) :
    d.cmdStart s = d.stageRes s 1 c := by
  simp [Dev.cmdStart, hc, hn]

theorem cmdStart_of_accepted (d : Dev) (s : Nat) (h : d.startable s = true) (hl : d.ss s ≠ ssLockout) :
    d.cmdStart s = if d.ss s = ssOff then ((d.stageRes s 1 .accepted).clr (R.STAGEs_STATE_TRIES s)).stageStart s
      else (d.stageRes s 1 .accepted).stageStart s := by
  simp [Dev.cmdStart, startCode_of_startable d s h, hl]

theorem stageStart_of_off (d : Dev) (s : Nat) (h : d.startable s = true) (hs : d.ss s = ssOff) :
    d.stageStart s = d.offToWait s := by
  simp [Dev.stageStart, h, hs]

theorem stageStart_of_stopping (d : Dev) (s : Nat) (h : d.startable s = true) (hs : d.ss s = ssStopping) :
    d.stageStart s = d.set1 (R.STAGEs_STATE_START_LATCHED s) := by
  simp [Dev.stageStart, h, hs, ssStopping, ssOff]

theorem stageStart_otherwise (d : Dev) (s : Nat) (h : d.startable s = true) (ho : d.ss s ≠ ssOff)
    (hs : d.ss s ≠ ssStopping) : d.stageStart s = d.clr (R.STAGEs_STATE_STOP_PEND s) := by
  simp [Dev.stageStart, h, ho, hs]

theorem cmdStart_of_lockout (d : Dev) (s : Nat) (h : d.startable s = true) (hs : d.ss s = ssLockout) :
    d.cmdStart s = d.stageRes s 1 .mode :=
  cmdStart_of_refused d s .mode (by simp [startCode_of_startable d s h, hs]) (by decide)

theorem cmdStart_of_stopping (d : Dev) (s : Nat) (h : d.startable s = true) (hs : d.ss s = ssStopping) :
    d.cmdStart s = (d.stageRes s 1 .accepted).set1 (R.STAGEs_STATE_START_LATCHED s) := by
  rw [cmdStart_of_accepted d s h (by rw [hs]; decide), if_neg (by rw [hs]; decide)]
  exact stageStart_of_stopping _ s (by simpa using h) (by simpa using hs)

theorem cmdStart_of_off (d : Dev) (s : Nat) (h : d.startable s = true) (hs : d.ss s = ssOff) :
    d.cmdStart s = ((d.stageRes s 1 .accepted).clr (R.STAGEs_STATE_TRIES s)).offToWait s := by
  rw [cmdStart_of_accepted d s h (by rw [hs]; decide), if_pos hs]
  exact stageStart_of_off _ s (by simpa using h) (by simpa using hs)

theorem cmdStart_otherwise (d : Dev) (s : Nat) (h : d.startable s = true) (hl : d.ss s ≠ ssLockout)
    (hs : d.ss s ≠ ssStopping) (ho : d.ss s ≠ ssOff) :
    d.cmdStart s = (d.stageRes s 1 .accepted).clr (R.STAGEs_STATE_STOP_PEND s) := by
  rw [cmdStart_of_accepted d s h hl, if_neg ho]
  exact stageStart_otherwise _ s (by simpa using h) (by simpa using ho) (by simpa using hs)

/-! ## STOP and CLEAR (R303) -/

theorem ssIn_eq_true (d : Dev) (s : Nat) (l : List Nat) : d.ssIn s l = true ↔ d.ss s ∈ l := by
  simp [Dev.ssIn]

/-- The answer to a STOP: accepted, and no START stays latched. -/
def Dev.stopAnswer (d : Dev) (s : Nat) : Dev := (d.stageRes s 2 .accepted).clr (R.STAGEs_STATE_START_LATCHED s)

@[simp] theorem ss_stopAnswer (d : Dev) (s : Nat) : (d.stopAnswer s).ss s = d.ss s := by
  simp [Dev.stopAnswer]

theorem cmdStop_eq (d : Dev) (s : Nat) :
    d.cmdStop s = if d.ss s = ssFault then (d.stopAnswer s).stageOff s else (d.stopAnswer s).stageStop s := by
  simp only [← ss_stopAnswer d s, ← beq_iff_eq (b := ssFault)]
  rfl

theorem stageStop_of_running (d : Dev) (s : Nat) (hs : d.ss s = ssSoft ∨ d.ss s = ssRun) :
    d.stageStop s = (d.burstEnd s).set1 (R.STAGEs_STATE_STOP_PEND s) :=
  if_pos ((ssIn_eq_true d s _).mpr (by simpa using hs))

theorem stageStop_of_idle (d : Dev) (s : Nat)
    (hs : d.ss s = ssWait ∨ d.ss s = ssCheck ∨ d.ss s = ssSleep ∨ d.ss s = ssPause) :
    d.stageStop s = (d.stageOff s).safeAt s 1 := by
  have hrun : ¬d.ssIn s [ssSoft, ssRun] = true := by
    rw [ssIn_eq_true]
    rcases hs with h | h | h | h <;> rw [h] <;> decide
  have hidle : d.ssIn s [ssWait, ssCheck, ssSleep, ssPause] = true := (ssIn_eq_true d s _).mpr (by simpa using hs)
  exact (if_neg hrun).trans (if_pos hidle)

theorem stageStop_of_stopped (d : Dev) (s : Nat) (hs : d.ss s = ssOff ∨ d.ss s = ssStopping ∨ d.ss s = ssLockout) :
    d.stageStop s = d := by
  have hout : ∀ x, x = ssOff ∨ x = ssStopping ∨ x = ssLockout →
      x ∉ [ssSoft, ssRun] ∧ x ∉ [ssWait, ssCheck, ssSleep, ssPause] := by
    rintro x (rfl | rfl | rfl) <;> decide
  obtain ⟨hrun, hidle⟩ := hout _ hs
  exact (if_neg (mt (ssIn_eq_true d s _).mp hrun)).trans (if_neg (mt (ssIn_eq_true d s _).mp hidle))

theorem cmdStop_of_fault (d : Dev) (s : Nat) (hs : d.ss s = ssFault) : d.cmdStop s = (d.stopAnswer s).stageOff s := by
  rw [cmdStop_eq, if_pos hs]

theorem cmdStop_of_not_fault (d : Dev) (s : Nat) (hs : d.ss s ≠ ssFault) :
    d.cmdStop s = (d.stopAnswer s).stageStop s := by
  rw [cmdStop_eq, if_neg hs]

theorem cmdClear_eq (d : Dev) (s : Nat) :
    d.cmdClear s = if d.ss s = ssFault ∨ d.ss s = ssLockout
      then ((d.stageRes s 3 .accepted).clr (R.STAGEs_STATE_TRIES s)).stageOff s else d.stageRes s 3 .accepted := by
  simp [Dev.cmdClear, ssIn_eq_true]

/-! ## The commands at the part -/

section
variable {d : Dev} {s : Nat} (q : List Instr) (hs : s < 12) (hr : Reaches d (A.STAGEs_CMD s)) {e : Dev}
include hs hr

theorem stageStart_answers (he : d.disarm.cmdStart s = e) : Answers (.stageStart s) d q e := by
  show execStageStart s ⟨d, q⟩ = _
  simp [execStageStart, hs, Dev.byRegister_of hr, he]

theorem stageStop_answers (he : d.disarm.cmdStop s = e) : Answers (.stageStop s) d q e := by
  show execStageStop s ⟨d, q⟩ = _
  simp [execStageStop, hs, Dev.byRegister_of hr, he]

theorem stageClear_answers (he : d.disarm.cmdClear s = e) : Answers (.stageClear s) d q e := by
  show execStageClear s ⟨d, q⟩ = _
  simp [execStageClear, hs, Dev.byRegister_of hr, he]

end

/-- Settles O35: each row of R303 is the equation of its command in that state or condition. -/
theorem stageCommandsAreAnswered : Obligations.StageCommandsAreAnswered := by
  unfold Obligations.StageCommandsAreAnswered
  intro d q s hs hr o res
  have start {e : Dev} : o.cmdStart s = e → Answers (.stageStart s) d q e := stageStart_answers q hs hr
  have stop {e : Dev} : o.cmdStop s = e → Answers (.stageStop s) d q e := stageStop_answers q hs hr
  have clear {e : Dev} : o.cmdClear s = e → Answers (.stageClear s) d q e := stageClear_answers q hs hr
  refine ⟨fun h3 h4 h5 => ?otherMode, fun hm => ⟨fun hk hd => ?viennaDc, fun hk => ?none, fun hk hv => ?startable⟩,
    ⟨fun h => ?stopRunning, fun h => ?stopIdle, fun h => ?stopFault, fun h => ?stopStopped⟩,
    fun h => ⟨?clear, ss_stageOff _ s⟩, fun hf hl => ?clearOther,
    ss_stoppingEnd o s, startLatched_stoppingEnd o s, ss_stoppingSafe_of_latched o s⟩
  case otherMode =>
    exact start (cmdStart_of_refused o s .mode (startCode_of_mode o s (not_or.mpr ⟨h3, not_or.mpr ⟨h4, h5⟩⟩)) (by decide))
  case viennaDc => exact start (cmdStart_of_refused o s .mode (startCode_of_viennaDc o s hk hd) (by decide))
  case none => exact start (cmdStart_of_refused o s .badProfile (startCode_of_none o s hm hk) (by decide))
  case startable =>
    have h := (startable_iff o s).mpr ⟨hk, hv, hm⟩
    exact ⟨fun hl => start (cmdStart_of_lockout o s h hl), fun hp => start (cmdStart_of_stopping o s h hp),
      fun ho => ⟨start (cmdStart_of_off o s h ho), ss_stageWait _ s⟩,
      fun hl hp ho => start (cmdStart_otherwise o s h hl hp ho)⟩
  case stopRunning =>
    have hn : o.ss s ≠ ssFault := by rcases h with h | h <;> rw [h] <;> decide
    exact stop ((cmdStop_of_not_fault o s hn).trans (stageStop_of_running _ s (by simpa using h)))
  case stopIdle =>
    have hn : o.ss s ≠ ssFault := by rcases h with h | h | h | h <;> rw [h] <;> decide
    exact stop ((cmdStop_of_not_fault o s hn).trans (stageStop_of_idle _ s (by simpa using h)))
  case stopFault => exact stop (cmdStop_of_fault o s h)
  case stopStopped =>
    have hn : o.ss s ≠ ssFault := by rcases h with h | h | h <;> rw [h] <;> decide
    exact stop ((cmdStop_of_not_fault o s hn).trans (stageStop_of_stopped _ s (by simpa using h)))
  case clear => exact clear ((cmdClear_eq o s).trans (if_pos h))
  case clearOther => exact clear ((cmdClear_eq o s).trans (if_neg (not_or.mpr ⟨hf, hl⟩)))

end Sys2Proof.Machine
end

/-!
TH_RELEASE (R606): what a release makes of one slot, of the ring and of the registers, and from these the statement O57.
-/
section
namespace Sys2Proof.Machine

/-! ## One slot -/

/-- A release of `s` frees the record of this slot: it is held, and it is at or before `s` or of another node's series, which is
what the model takes for forwarded (log entry 213). -/
def RingSlot.freedBy (r : RingSlot) (s : Nat) : Prop := r.state = .held ∧ (r.foreign = true ∨ r.record.seq ≤ s)

/-- What a release of `s` makes of a slot of the ring. -/
def releaseSlot (s : Nat) (e : Nat × RingSlot) : Nat × RingSlot :=
  if e.2.state == .held && (e.2.foreign || decide (e.2.record.seq ≤ s)) then (e.1, { e.2 with state := .released }) else e

theorem releaseSlot_of_freed {s : Nat} {e : Nat × RingSlot} (h : e.2.freedBy s) :
    releaseSlot s e = (e.1, { e.2 with state := .released }) :=
  if_pos (by simpa [RingSlot.freedBy] using h)

theorem releaseSlot_of_not_freed {s : Nat} {e : Nat × RingSlot} (h : ¬e.2.freedBy s) : releaseSlot s e = e :=
  if_neg (by simpa [RingSlot.freedBy] using h)

/-- A release keeps every slot at its place. -/
@[simp] theorem releaseSlot_fst (s : Nat) (e : Nat × RingSlot) : (releaseSlot s e).1 = e.1 := by
  by_cases h : e.2.freedBy s
  · rw [releaseSlot_of_freed h]
  · rw [releaseSlot_of_not_freed h]

/-! ## The ring and the registers -/

theorem release_ring (d : Dev) (s : Nat) : (d.release s).thatch.ring = d.thatch.ring.map (releaseSlot s) := rfl

theorem release_ring_getElem? {d : Dev} (s : Nat) {i : Nat} {r : Nat × RingSlot} (h : d.thatch.ring[i]? = some r) :
    (d.release s).thatch.ring[i]? = some (releaseSlot s r) := by
  rw [release_ring, List.getElem?_map, h, Option.map_some]

theorem release_places (d : Dev) (s : Nat) : (d.release s).thatch.ring.map (·.1) = d.thatch.ring.map (·.1) := by
  simp [release_ring]

/-- TH_STATUS.HELD shows the held slots. -/
theorem showHeld_held (d : Dev) : d.showHeld.get R.TH_STATUS_HELD
    = (d.thatch.ring.filter fun r => r.2.state == .held).length % 2 ^ R.TH_STATUS_HELD.w :=
  get_put_same d R.TH_STATUS_HELD _ (by decide)

theorem release_held (d : Dev) (s : Nat) : (d.release s).get R.TH_STATUS_HELD
    = ((d.release s).thatch.ring.filter fun r => r.2.state == .held).length % 2 ^ R.TH_STATUS_HELD.w :=
  showHeld_held _

/-- A release writes no register but TH_STATUS. -/
theorem release_word_other (d : Dev) (s : Nat) {a : Nat} (h : a ≠ A.TH_STATUS) : (d.release s).word a = d.word a :=
  word_put_other _ R.TH_STATUS_HELD _ a h

/-- Beside the ring and the registers a release changes nothing. -/
theorem release_frame (d : Dev) (s : Nat) :
    { d.release s with thatch := { (d.release s).thatch with ring := d.thatch.ring }, regs := d.regs } = d := rfl

/-! ## The command -/

theorem thRelease_answers {d : Dev} (q : List Instr) (s : Word) (hr : Reaches d A.TH_RELEASE) :
    Answers (.thRelease s) d q (d.disarm.release s.toNat) := by
  show execThRelease s ⟨d, q⟩ = _
  simp [execThRelease, Dev.byRegister_of hr]

/-- Settles O57: a slot is judged by `RingSlot.freedBy`, and the release maps that judgement over the ring. -/
theorem releaseFreesRecords : Obligations.ReleaseFreesRecords := by
  unfold Obligations.ReleaseFreesRecords
  intro d q s hr
  refine ⟨d.disarm.release s.toNat, thRelease_answers q s hr, release_places d.disarm _, fun i r hi => ⟨?freed, ?kept⟩,
    release_held d.disarm _, fun a ha => release_word_other d.disarm _ ha, release_frame d.disarm _⟩
  case freed =>
    intro hheld hours
    rw [release_ring_getElem? (d := d.disarm) _ hi, releaseSlot_of_freed ⟨hheld, hours⟩]
  case kept =>
    intro h
    have hkeep : ¬r.2.freedBy s.toNat := by
      rintro ⟨hheld, hforeign | hseq⟩
      · simp [hheld, hforeign] at h
      · rcases h with hnot | ⟨_, habove⟩
        · exact hnot hheld
        · omega
    rw [release_ring_getElem? (d := d.disarm) _ hi, releaseSlot_of_not_freed hkeep]

end Sys2Proof.Machine
end

/-!
PROG, LOCK and DEBUG_LOCK of the fuses (R626): the rows of the table that all three pass, the rows of PROG and of LOCK, the
clearing of the arming by every other write, and from these the statement O18.
-/
section
namespace Sys2Proof.Machine

/-! ## The rows that all three commands pass -/

section
variable {d : Dev} {armed : Bool}

/-- The modes in which fuses are programmed. -/
theorem fuseMode_iff (m : Mode) : (m != .standby && m != .safe) = false ↔ m = .standby ∨ m = .safe := by
  cases m <;> decide

theorem otpGate_of_mode (hs : d.mode ≠ .standby) (hf : d.mode ≠ .safe) : d.otpGate armed = some .busyRun := by
  simp [Dev.otpGate, hs, hf]

theorem otpGate_of_unfinished (hm : d.mode = .standby ∨ d.mode = .safe)
    (hp : d.boot.otpOp.isSome = true ∨ d.boot.svTarget.isSome = true) : d.otpGate armed = some .mode := by
  rw [← Bool.or_eq_true] at hp
  simp [Dev.otpGate, (fuseMode_iff d.mode).mpr hm, hp]

/-- No OTP command runs, nor a rise of the thermometer: the part is judged by the die's temperature, then by the arming. -/
theorem otpGate_of_idle (hm : d.mode = .standby ∨ d.mode = .safe) (ho : d.boot.otpOp = none)
    (hv : d.boot.svTarget = none) :
    d.otpGate armed = if d.otpInhibited then some .temp else if !armed then some .lock else none := by
  simp [Dev.otpGate, (fuseMode_iff d.mode).mpr hm, ho, hv]

end

/-! ## The rows of PROG and of LOCK -/

theorem higherLocked_iff (d : Dev) (r : Nat) :
    d.higherLocked r = true ↔ 2 ≤ r ∧ r ≤ 5 ∧ ∃ g, r < g ∧ 2 ≤ g ∧ g ≤ 5 ∧ d.lockBit g = true := by
  simp only [Dev.higherLocked, Bool.and_eq_true, decide_eq_true_eq, List.any_eq_true, List.mem_range, and_assoc]
  refine and_congr_right fun _ => and_congr_right fun _ => exists_congr fun g => ?_
  constructor
  · rintro ⟨hg, hr, h2, hl⟩
    exact ⟨hr, h2, by omega, hl⟩
  · rintro ⟨hr, h2, hg, hl⟩
    exact ⟨by omega, hr, h2, hl⟩

theorem higherLocked_eq_false {d : Dev} {r : Nat} (h : 2 ≤ r → r ≤ 5 → ∀ g, r < g → g ≤ 5 → d.lockBit g = false) :
    d.higherLocked r = false := by
  rw [Bool.eq_false_iff, ne_eq, higherLocked_iff]
  rintro ⟨h2, h5, g, hr, -, hg, hl⟩
  rw [h h2 h5 g hr hg] at hl
  cases hl

section
variable {d : Dev} {armed : Bool}

/-- PROG of a word that it does not reach, of a locked region, of a word not blank, or below a locked generation. -/
theorem progCode_of_barred (hg : d.otpGate armed = none)
    (h : 0x148 < d.otpAddr ∨ d.lockBit (regionAt d.otpAddr) = true ∨ (d.fuse d.otpAddr).normal ≠ 0
      ∨ d.higherLocked (regionAt d.otpAddr) = true) : d.progCode armed = .lock := by
  rw [Dev.progCode, hg, Option.getD_none]
  exact if_pos (by simpa [or_assoc] using h)

theorem progCode_of_free (hg : d.otpGate armed = none) (ha : d.otpAddr ≤ 0x148)
    (hl : d.lockBit (regionAt d.otpAddr) = false) (hb : (d.fuse d.otpAddr).normal = 0)
    (hh : d.higherLocked (regionAt d.otpAddr) = false) : d.progCode armed = .accepted := by
  rw [Dev.progCode, hg, Option.getD_none]
  exact if_neg (by simp [Nat.not_lt.mpr ha, hl, hb, hh])

/-- LOCK of a locked region or below a locked generation. -/
theorem lockCode_of_barred (hg : d.otpGate armed = none)
    (h : d.lockBit (d.get R.OTP_ADDR_REGION) = true ∨ d.higherLocked (d.get R.OTP_ADDR_REGION) = true) :
    d.lockCode armed = .lock := by
  rw [Dev.lockCode, hg, Option.getD_none]
  exact if_pos (by simpa using h)

/-- LOCK of a region that may be locked is judged by its CRC, where it is not forced. -/
theorem lockCode_of_free (hg : d.otpGate armed = none) (hl : d.lockBit (d.get R.OTP_ADDR_REGION) = false)
    (hh : d.higherLocked (d.get R.OTP_ADDR_REGION) = false) :
    d.lockCode armed
      = if d.on R.OTP_ADDR_FORCE = true ∨ d.regionCrc (d.get R.OTP_ADDR_REGION) = true then .accepted else .badProfile := by
  rw [Dev.lockCode, hg, Option.getD_none, if_neg (by simp [hl, hh])]
  cases d.on R.OTP_ADDR_FORCE <;> cases d.regionCrc (d.get R.OTP_ADDR_REGION) <;> rfl

end

/-! ## The commands at the part -/

theorem otpStart_of_refused (d : Dev) (cmd : Nat) {c : Code} (op : OtpOp) (h : c ≠ .accepted) :
    d.otpStart cmd c op = d.otpRes cmd c true := by
  have hb : (c == .accepted) = false := beq_eq_false_iff_ne.mpr h
  simp [Dev.otpStart, Dev.when, bne, hb]

theorem otpStart_accepted (d : Dev) (cmd : Nat) (op : OtpOp) :
    d.otpStart cmd .accepted op
      = (d.otpRes cmd .accepted false).modBoot fun b => { b with otpOp := some op, otpCut := false } := rfl

section
variable {d : Dev} (q : List Instr) (hr : Reaches d A.OTP_CMD) {c : Code}
include hr

theorem otpProg_answers (hc : d.disarm.progCode d.boot.armed = c) :
    Answers .otpProg d q (d.disarm.otpStart 3 c
      (.word d.disarm.otpAddr (fuseWord (d.disarm.word A.OTP_WDATA) (eccOf (d.disarm.word A.OTP_WDATA))))) := by
  show execOtpProg ⟨d, q⟩ = _
  simp [execOtpProg, Dev.byRegister_of hr, Dev.otpProg, hr.1, hc]

theorem otpLock_answers (hc : d.disarm.lockCode d.boot.armed = c) :
    Answers .otpLock d q (d.disarm.otpStart 4 c (.lock (d.disarm.get R.OTP_ADDR_REGION))) := by
  show execOtpLock ⟨d, q⟩ = _
  simp [execOtpLock, Dev.byRegister_of hr, Dev.otpLock, hr.1, hc]

theorem otpDebugLock_answers (hc : (d.disarm.otpGate d.boot.armed).getD .accepted = c) :
    Answers .otpDebugLock d q (d.disarm.otpStart 5 c (.lock 7)) := by
  show execOtpDebugLock ⟨d, q⟩ = _
  simp [execOtpDebugLock, Dev.byRegister_of hr, Dev.otpDebugLock, hr.1, hc]

theorem otpProg_refused (hc : d.disarm.progCode d.boot.armed = c) (hn : c ≠ .accepted) :
    Answers .otpProg d q (d.disarm.otpRes 3 c true) :=
  otpStart_of_refused d.disarm 3 _ hn ▸ otpProg_answers q hr hc

theorem otpLock_refused (hc : d.disarm.lockCode d.boot.armed = c) (hn : c ≠ .accepted) :
    Answers .otpLock d q (d.disarm.otpRes 4 c true) :=
  otpStart_of_refused d.disarm 4 _ hn ▸ otpLock_answers q hr hc

theorem otpProg_accepted (hc : d.disarm.progCode d.boot.armed = .accepted) :
    Answers .otpProg d q ((d.disarm.otpRes 3 .accepted false).modBoot fun b => { b with
      otpOp := some (.word d.disarm.otpAddr (fuseWord (d.disarm.word A.OTP_WDATA) (eccOf (d.disarm.word A.OTP_WDATA))))
      otpCut := false }) :=
  otpStart_accepted d.disarm 3 _ ▸ otpProg_answers q hr hc

theorem otpLock_accepted (hc : d.disarm.lockCode d.boot.armed = .accepted) :
    Answers .otpLock d q ((d.disarm.otpRes 4 .accepted false).modBoot fun b => { b with
      otpOp := some (.lock (d.disarm.get R.OTP_ADDR_REGION)), otpCut := false }) :=
  otpStart_accepted d.disarm 4 _ ▸ otpLock_answers q hr hc

theorem otpDebugLock_accepted (hg : d.disarm.otpGate d.boot.armed = none) :
    Answers .otpDebugLock d q ((d.disarm.otpRes 5 .accepted false).modBoot fun b => { b with
      otpOp := some (.lock 7), otpCut := false }) :=
  otpStart_accepted d.disarm 5 _ ▸ otpDebugLock_answers q hr (by rw [hg, Option.getD_none])

/-- A row that all three commands pass answers each of them with its code. -/
theorem otpCommands_refused (hg : d.disarm.otpGate d.boot.armed = some c) (hn : c ≠ .accepted) :
    Answers .otpProg d q (d.disarm.otpRes 3 c true) ∧ Answers .otpLock d q (d.disarm.otpRes 4 c true)
      ∧ Answers .otpDebugLock d q (d.disarm.otpRes 5 c true) :=
  ⟨otpProg_refused q hr (by rw [Dev.progCode, hg, Option.getD_some]) hn,
    otpLock_refused q hr (by rw [Dev.lockCode, hg, Option.getD_some]) hn,
    otpStart_of_refused d.disarm 5 _ hn ▸ otpDebugLock_answers q hr (by rw [hg, Option.getD_some])⟩

end

/-! ## The arming -/

/-- Of the command registers only OTP_CMD asks whether the part is armed. -/
theorem cmdWrite_armed_of_ne (d : Dev) (armed armed' : Bool) {a : Nat} (w : Word) (h : a ≠ A.OTP_CMD) :
    d.cmdWrite armed a w = d.cmdWrite armed' a w := by
  simp only [Dev.cmdWrite, h, if_false]

/-- A write to any other register is answered as on a part that is not armed. -/
theorem present_disarm_of_ne (d : Dev) {a : Nat} (w : Word) (h : a / 4 * 4 ≠ A.OTP_CMD) :
    d.present a w = d.disarm.present a w := by
  have hd : d.disarm.disarm = d.disarm := rfl
  simp only [Dev.present, hd, cmdWrite_armed_of_ne d.disarm d.boot.armed d.disarm.boot.armed w h]

/-- A write where no register stands clears the arming and has no other effect. -/
theorem present_of_no_register (d : Dev) {a : Nat} (w : Word) (h : masksAt (a / 4 * 4) = none) :
    d.present a w = (d.disarm, 0) := by
  simp only [Dev.present, h]

/-- Settles O18: each row of R626 is the equation of the gate or of the command's code under its condition. -/
theorem otpProgrammingIsAnswered : Obligations.OtpProgrammingIsAnswered := by
  unfold Obligations.OtpProgrammingIsAnswered
  intro d q hr o reg all
  have refused {c : Code} : o.otpGate d.boot.armed = some c → c ≠ .accepted → all c := otpCommands_refused q hr
  refine ⟨fun hs hf => refused (otpGate_of_mode hs hf) (by decide),
    fun hm => ⟨fun hp => refused (otpGate_of_unfinished hm hp) (by decide), fun hop hsv => ?idle⟩,
    rfl, fun a w h => present_disarm_of_ne d w h, fun a w h => present_of_no_register d w h⟩
  have gate : o.otpGate d.boot.armed = if o.otpInhibited then some .temp else if !d.boot.armed then some .lock else none :=
    otpGate_of_idle hm hop hsv
  refine ⟨fun ht => refused (by rw [gate, if_pos ht]) (by decide), fun ht => ⟨fun ha => ?unarmed, fun ha => ?armed⟩⟩
  case unarmed => exact refused (by rw [gate, ht, ha]; rfl) (by decide)
  case armed =>
    have pass : o.otpGate d.boot.armed = none := by rw [gate, ht, ha]; rfl
    refine ⟨fun h => ?progBarred, fun hw hl hb hh => ?progFree, ?lock, ?debugLock⟩
    case progBarred => exact otpProg_refused q hr (progCode_of_barred pass (by rwa [higherLocked_iff])) (by decide)
    case progFree => exact otpProg_accepted q hr (progCode_of_free pass hw hl hb (higherLocked_eq_false hh))
    case lock =>
      rintro _ rfl
      refine ⟨fun h => ?barred, fun hl hh => ?free⟩
      case barred => exact otpLock_refused q hr (lockCode_of_barred pass (by rwa [higherLocked_iff])) (by decide)
      case free =>
        have code := lockCode_of_free pass hl (higherLocked_eq_false hh)
        exact ⟨fun hf hc => otpLock_refused q hr (code.trans (if_neg (by simp [hf, hc]))) (by decide),
          fun h => otpLock_accepted q hr (code.trans (if_pos h))⟩
    case debugLock => exact otpDebugLock_accepted q hr pass

end Sys2Proof.Machine
end

/-!
SYS_STATUS (R696): a read of its ATTN field, the writes that no register takes, and from these the statement O58.
-/
section
namespace Sys2Proof.Machine

/-! ## What SYS_STATUS reads -/

/-- Bit `b` of ATTN is the disjunction of the flags of group `b`. -/
theorem attn_testBit (d : Dev) {b : Nat} (hb : b < 16) : d.attn.testBit b = (attnGroup b).any d.flagged := by
  rw [Dev.attn, testBit_mask, decide_eq_true hb, Bool.true_and]

/-- A read of SYS_STATUS puts ATTN, formed at the read, over what the register holds. -/
theorem view_sysStatus (d : Dev) : d.view A.SYS_STATUS = R.SYS_STATUS_ATTN.into (d.word A.SYS_STATUS) d.attn := rfl

theorem view_sysStatus_attn (d : Dev) : fieldOf (d.view A.SYS_STATUS) 16 16 = d.attn % 2 ^ 16 := by
  rw [view_sysStatus]
  exact fieldOf_withField_same _ 16 16 _ (by decide)

theorem view_sysStatus_testBit (d : Dev) {b : Nat} (hb : b < 16) :
    (fieldOf (d.view A.SYS_STATUS) 16 16).testBit b = (attnGroup b).any d.flagged := by
  rw [view_sysStatus_attn, Nat.testBit_mod_two_pow, decide_eq_true hb, Bool.true_and, attn_testBit d hb]

/-- Flags are bits of the registers' words. -/
theorem flagged_congr {d e : Dev} (h : ∀ a, e.word a = d.word a) (a : Nat) : e.flagged a = d.flagged a := by
  simp only [Dev.flagged, h]

/-- What SYS_STATUS reads depends on the registers' words alone. -/
theorem view_sysStatus_congr {d e : Dev} (h : ∀ a, e.word a = d.word a) : e.view A.SYS_STATUS = d.view A.SYS_STATUS := by
  have hf : e.flagged = d.flagged := funext (flagged_congr h)
  simp only [view_sysStatus, Dev.attn, h, hf]

/-! ## A write that no bit takes -/

theorem mix_zero (x w : Word) : mix 0 x w = x := by
  show (x &&& BitVec.allOnes 32) ||| (w &&& 0#32) = x
  rw [BitVec.and_allOnes, BitVec.and_zero, BitVec.or_zero]

/-- Noting the value of a register for the cycle writes none. -/
@[simp] theorem noteWas_word (d : Dev) (a b : Nat) : (d.noteWas a).word b = d.word b := by
  unfold Dev.noteWas
  split <;> rfl

/-- Writing back the word that stands changes no register. -/
theorem setWord_self_word (d : Dev) {a : Nat} {x : Word} (hx : x = d.word a) (b : Nat) :
    (d.setWord a x).word b = d.word b := by
  rw [word_setWord]
  split
  case isTrue h => rw [hx, h]
  case isFalse => rfl

/-- A register of which a host can neither write nor clear a bit takes a plain write with no effect where it is refused, and
by the word that stands where it is accepted. MGR_BUDGET and TH_RD_SEL, whose writes act besides, are set apart. -/
theorem plainWrite_of_readOnly (d : Dev) {a : Nat} {m : Masks} (w : Word) (hw : m.rw ||| m.rwl = 0) (hc : m.rw1c = 0)
    (hb : a ≠ A.MGR_BUDGET) (hr : a ≠ A.TH_RD_SEL) :
    (d.plainWrite a m w).1 = d ∨ (d.plainWrite a m w).1 = (d.noteWas a).setWord a (d.word a) := by
  have hmask : d.hostMask a m = 0 := by simp [Dev.hostMask, hw]
  have hsel : ¬(a == A.TH_RD_SEL) = true := mt beq_iff_eq.mp hr
  simp only [Dev.plainWrite, hw, hmask, mix_zero, ite_self, if_neg hb, Dev.clearFlags, if_pos hc, Dev.when, if_neg hsel,
    if_true]
  split_ifs
  -- the five refusals, then the write
  iterate 5 exact .inl rfl
  exact .inr rfl

theorem plainWrite_word_of_readOnly (d : Dev) {a : Nat} {m : Masks} (w : Word) (hw : m.rw ||| m.rwl = 0) (hc : m.rw1c = 0)
    (hb : a ≠ A.MGR_BUDGET) (hr : a ≠ A.TH_RD_SEL) (b : Nat) : (d.plainWrite a m w).1.word b = d.word b := by
  rcases plainWrite_of_readOnly d w hw hc hb hr with h | h <;> rw [h]
  exact (setWord_self_word _ (noteWas_word d a a).symm b).trans (noteWas_word d a b)

/-! ## SYS_STATUS among the registers -/

/-- No bit of SYS_STATUS takes a write (R25). -/
theorem masksAt_sysStatus : masksAt A.SYS_STATUS = some ⟨0, 0, 0, 0, 0, 0⟩ := by decide +kernel

theorem cmdWrite_sysStatus (d : Dev) (armed : Bool) (w : Word) : d.cmdWrite armed A.SYS_STATUS w = none := rfl

/-- A word presented to SYS_STATUS, which every role uses and no command stands in, is a plain write. -/
theorem present_sysStatus (d : Dev) (w : Word) :
    (d.present A.SYS_STATUS w).1 = (d.disarm.plainWrite A.SYS_STATUS ⟨0, 0, 0, 0, 0, 0⟩ w).1 := by
  have haddr : A.SYS_STATUS / 4 * 4 = A.SYS_STATUS := rfl
  have hused : d.disarm.blockUsed A.SYS_STATUS = true := rfl
  have hres : cmdReserved A.SYS_STATUS w = false := rfl
  have hbar : d.disarm.mgrBarred A.SYS_STATUS = false := rfl
  have hcoef : coefStage A.SYS_STATUS = none := rfl
  have hprof : nthAt (A.PROF_WINw 0) 4 1024 A.SYS_STATUS = none := rfl
  simp [Dev.present, haddr, masksAt_sysStatus, hused, hres, hbar, cmdWrite_sysStatus, hcoef, hprof]

theorem present_sysStatus_word (d : Dev) (w : Word) (b : Nat) :
    (d.present A.SYS_STATUS w).1.word b = d.word b := by
  rw [present_sysStatus d w]
  exact plainWrite_word_of_readOnly d.disarm w rfl rfl (by decide) (by decide) b

/-- Settles O58: ATTN is formed at the read from the registers' words, and a write of SYS_STATUS leaves each of them. -/
theorem attnFollowsTheFlags : Obligations.AttnFollowsTheFlags := by
  unfold Obligations.AttnFollowsTheFlags
  exact fun d b hb => ⟨view_sysStatus_testBit d hb, fun w _ _ => view_sysStatus_congr (present_sysStatus_word d w)⟩

end Sys2Proof.Machine
end

/-!
The machine as a whole: what a step answers, what the end of every command shows of the part, and from these the statements
O5, O3, O4, O1 and O6.
-/
section
namespace Sys2Proof.Machine

/-! ## What Gutter shows -/

theorem onBit_congr {d e : Dev} (f : Nat → Fld) (ev : Nat) (h : e.word (f (ev / 32)).addr = d.word (f (ev / 32)).addr) :
    e.on (srcBit f ev) = d.on (srcBit f ev) := on_of_word e d (srcBit f ev) h

theorem eventDue_congr {d e : Dev} (hg : e.gut.defaults = d.gut.defaults) (hl : ∀ i, i < 4 → e.word (A.GUT_LATCHi i) = d.word (A.GUT_LATCHi i))
    (hs : ∀ n, n < 128 → e.word (A.GUT_SRCn_CFG n) = d.word (A.GUT_SRCn_CFG n)) : e.eventDue = d.eventDue := by
  have one (ev : Nat) (h : ev < 128) :
      (e.latched ev && e.srcReact ev != .none) = (d.latched ev && d.srcReact ev != .none) := by
    have hlatch : e.latched ev = d.latched ev := onBit_congr R.GUT_LATCHi_SRC ev (hl (ev / 32) (by omega))
    have hreact : e.srcReact ev = d.srcReact ev := by
      simp only [Dev.srcReact, hg, Dev.get, show (R.GUT_SRCn_CFG_REACT ev).addr = A.GUT_SRCn_CFG ev from rfl, hs ev h]
    rw [hlatch, hreact]
  rw [Bool.eq_iff_iff]
  simp only [Dev.eventDue, List.any_eq_true, List.mem_range]
  exact exists_congr fun ev => and_congr_right fun h => by rw [one ev h]

/-- The address of a latch or of a source's configuration is none that Gutter shows its state in. -/
theorem gutterInput_ne (a : Nat) (h : (∃ i, i < 4 ∧ a = A.GUT_LATCHi i) ∨ ∃ n, n < 128 ∧ a = A.GUT_SRCn_CFG n) :
    a ≠ A.GUT_STATUS ∧ ∀ i, i < 4 → a ≠ A.GUT_ACTIVEi i := by
  simp only [A.GUT_LATCHi, A.GUT_SRCn_CFG, A.GUT_STATUS, A.GUT_ACTIVEi] at h ⊢
  rcases h with ⟨i, hi, rfl⟩ | ⟨n, hn, rfl⟩
  · exact ⟨by omega, fun j hj => by omega⟩
  · exact ⟨by omega, fun j hj => by omega⟩

theorem showGutter_gut (d : Dev) : d.showGutter.gut = d.gut := by
  have h := congrArg Dev.gut (showGutter_rest d)
  exact h

theorem showGutter_cyc (d : Dev) : d.showGutter.cyc = d.cyc := by
  have h := congrArg Dev.cyc (showGutter_rest d)
  exact h

theorem showGutter_eventDue (d : Dev) : d.showGutter.eventDue = d.eventDue :=
  eventDue_congr (congrArg Gutter.defaults (showGutter_gut d))
    (fun i hi => let h := gutterInput_ne _ (.inl ⟨i, hi, rfl⟩); showGutter_word d _ h.1 h.2)
    (fun n hn => let h := gutterInput_ne _ (.inr ⟨n, hn, rfl⟩); showGutter_word d _ h.1 h.2)

/-- Of registers written one after the other each reads its own value. -/
theorem bit_each_put (d : Dev) (f : Nat → Fld) (v : Nat → Nat) (hf : ∀ i j, (f i).addr = (f j).addr → i = j)
    (hw : ∀ i, (f i).lo + (f i).w ≤ 32) {j b : Nat} (hb : b < (f j).w) :
    ∀ n, j < n → (d.each (List.range n) fun e i => e.put (f i) (v i)).on ((f j).bit b) = (v j).testBit b
  | n + 1, hj => by
    simp only [Dev.each, List.range_succ, List.foldl_append, List.foldl_cons, List.foldl_nil]
    by_cases hn : j = n
    · subst hn
      exact bit_put _ (f j) (v j) b (hw j) hb
    · exact (on_of_word _ _ ((f j).bit b) (word_put_other _ (f n) _ _ fun h => hn (hf j n h))).trans
        (bit_each_put d f v hf hw hb n (by omega))

theorem showGutter_active (d : Dev) (ev : Nat) : d.showGutter.active ev = d.active ev := by
  simp only [Dev.active, Dev.heldActive, showGutter_gut, showGutter_cyc]

/-- ACTIVE shows the conditions that hold (R585). -/
theorem showGutter_activeShown (d : Dev) (ev : Nat) (h : ev < 128) : d.showGutter.activeShown ev = d.active ev := by
  have mask (v : Nat → Nat) := bit_each_put d R.GUT_ACTIVEi_SRC v (fun i j h => by simpa [R.GUT_ACTIVEi_SRC, A.GUT_ACTIVEi] using h)
    (fun _ => Nat.le_refl 32) (j := ev / 32) (b := ev % 32) (Nat.mod_lt ev (by decide)) 4 (by omega)
  have hne : A.GUT_ACTIVEi (ev / 32) ≠ A.GUT_STATUS := by simp only [A.GUT_ACTIVEi, A.GUT_STATUS]; omega
  rw [Dev.activeShown, srcBit, Dev.showGutter, on_of_word _ _ ((R.GUT_ACTIVEi_SRC (ev / 32)).bit (ev % 32))
    (word_when_put _ _ R.GUT_STATUS_EVENT 1 _ hne), mask, testBit_mask, decide_eq_true (Nat.mod_lt ev (by decide)), Bool.true_and,
    Nat.div_add_mod]

/-- EVENT_N is low while a latch of a source with a reaction stands (R588). -/
theorem showGutter_event (d : Dev) (h : d.eventDue = true) : d.showGutter.on R.GUT_STATUS_EVENT = true := by
  have hdue := (showGutter_eventDue d).trans h
  unfold Dev.showGutter at hdue ⊢
  simp only [Dev.when] at hdue ⊢
  split at hdue
  case isTrue hc =>
    rw [if_pos hc]
    exact on_putB _ A.GUT_STATUS 0 true (by decide)
  case isFalse hc => exact absurd hdue hc

/-! ## What the end of a command shows -/

/-- What the boot manager starts leaves Gutter's state and every register outside the boot manager's and Thatch's. -/
theorem imgStart_keeps (d : Dev) : d.imgStart.gut = d.gut ∧ d.imgStart.cyc = d.cyc
    ∧ ∀ a, a ≠ A.IMAGE_STATUS → a ≠ A.TH_STATUS → d.imgStart.word a = d.word a := by
  obtain ⟨b, t, v, he, hv⟩ := imgStart_frame d
  rw [he]
  exact ⟨rfl, rfl, hv⟩

theorem showAddr_keeps (d : Dev) : d.showAddr.gut = d.gut ∧ d.showAddr.cyc = d.cyc := by
  have hg := congrArg Dev.gut (showAddr_rest d)
  have hc := congrArg Dev.cyc (showAddr_rest d)
  exact ⟨hg, hc⟩

/-- The address in force is that of HOST_CFG, or 0x58 (R661). -/
theorem showAddr_address (d : Dev) (h : d.showAddr.mode.afterBoot = true) :
    d.showAddr.get R.HOST_STATUS_ADDR_NOW = if d.showAddr.get R.HOST_CFG_ADDR = 0 then 0x58 else d.showAddr.get R.HOST_CFG_ADDR := by
  have other (f : Fld) (hf : f.addr ≠ A.HOST_STATUS) : d.showAddr.get f = d.get f := by
    simp only [Dev.get, showAddr_word d f.addr hf]
  have hm : d.mode.afterBoot = true := by
    rwa [Dev.mode, other R.SYS_MODE_MODE (by decide)] at h
  have hlt : d.get R.HOST_CFG_ADDR < 2 ^ 7 := Nat.mod_lt _ (by decide)
  rw [other R.HOST_CFG_ADDR (by decide), Dev.showAddr, if_pos hm]
  refine (get_put_same d R.HOST_STATUS_ADDR_NOW _ (by decide)).trans (Nat.mod_eq_of_lt ?_)
  split
  · decide
  · exact hlt

/-- Whatever a command has done, its end leaves a part that shows itself rightly. -/
theorem shown_ends (d : Dev) : Shown d.ends := by
  generalize hc : ((((((d.profFirst.stepRecord.settle 8).levels).settle 8).levels).settle 8).showBlock) = c
  have he : d.ends = c.showGutter.capture.imgStart.showAddr := by rw [← hc]; rfl
  obtain ⟨gi, ci, wi⟩ := imgStart_keeps c.showGutter.capture
  obtain ⟨ga, ca⟩ := showAddr_keeps c.showGutter.capture.imgStart
  have word (a : Nat) (h1 : a ≠ A.IMAGE_STATUS) (h2 : a ≠ A.TH_STATUS) (h3 : a ≠ A.HOST_STATUS) :
      d.ends.word a = c.showGutter.word a := by
    rw [he, showAddr_word _ a h3, wi a h1 h2, capture_word]
  have gut (a : Nat) (h1 : 0x4800 ≤ a) (h2 : a ≤ 0x4A34) : d.ends.word a = c.showGutter.word a :=
    word a (by simp only [A.IMAGE_STATUS]; omega) (by simp only [A.TH_STATUS]; omega) (by simp only [A.HOST_STATUS]; omega)
  have hgut : d.ends.gut = c.showGutter.capture.gut := by rw [he, ga, gi]
  have hcyc : d.ends.cyc = c.showGutter.cyc := by rw [he, ca, ci]; rfl
  refine ⟨fun ev hev => ?active, fun hdue => ?event, fun hm => ?address⟩
  case active =>
    have hshown : d.ends.activeShown ev = c.showGutter.activeShown ev :=
      onBit_congr R.GUT_ACTIVEi_SRC ev (gut _ (by simp only [R.GUT_ACTIVEi_SRC, A.GUT_ACTIVEi]; omega)
        (by simp only [R.GUT_ACTIVEi_SRC, A.GUT_ACTIVEi]; omega))
    have hactive : d.ends.active ev = c.showGutter.active ev := by
      simp only [Dev.active, Dev.heldActive, hgut, hcyc]; rfl
    rw [hshown, hactive, showGutter_activeShown c ev hev, showGutter_active]
  case event =>
    have hsame : d.ends.eventDue = c.showGutter.eventDue := eventDue_congr (by rw [hgut]; rfl)
      (fun i hi => gut _ (by simp only [A.GUT_LATCHi]; omega) (by simp only [A.GUT_LATCHi]; omega))
      (fun n hn => gut _ (by simp only [A.GUT_SRCn_CFG]; omega) (by simp only [A.GUT_SRCn_CFG]; omega))
    rw [on_of_word _ c.showGutter R.GUT_STATUS_EVENT (gut _ (by decide) (by decide))]
    exact showGutter_event c (((showGutter_eventDue c).symm.trans hsame.symm).trans hdue)
  case address =>
    rw [he] at hm ⊢
    exact showAddr_address _ hm

/-- A part on which no cycle passes, too, ends with what every command ends with. -/
theorem tick_ends (d : Dev) : ∃ e : Dev, d.tick = e.ends := by
  unfold Dev.tick
  split
  · exact ⟨_, rfl⟩
  · exact ⟨_, rfl⟩

/-- Every step, of a command or of a cycle, leaves a part with the end of every command. -/
theorem step_next {s t : State} (h : step s = .next t) : ∃ e : Dev, t.dev = e.ends := by
  obtain ⟨d, q⟩ := s
  cases q with
  | nil =>
    obtain ⟨e, he⟩ := tick_ends d
    injection h with h
    exact ⟨e, h ▸ he⟩
  | cons c q => exact (exec_next c d q t h).2

/-- Settles O5: the end of every command shows the part, whatever was shown before. -/
theorem everyStepKeepsShown : Obligations.EveryStepKeepsShown := by
  unfold Obligations.EveryStepKeepsShown
  intro s t _ h
  obtain ⟨e, he⟩ := step_next h
  rw [he]
  exact shown_ends e

/-! ## The queue -/

/-- Settles O1. -/
theorem stepRunsTheFrontCommand : Obligations.StepRunsTheFrontCommand := by
  unfold Obligations.StepRunsTheFrontCommand
  exact fun _ _ _ => rfl

/-- Settles O3: every meaning answers through the gate of its well-formedness. -/
theorem wellFormedCommandsComplete : Obligations.WellFormedCommandsComplete := by
  unfold Obligations.WellFormedCommandsComplete
  intro c d q
  obtain ⟨e, he⟩ := exec_answer c ⟨d, q⟩
  exact ⟨fun hw => ⟨e.ends, by rw [he, hw, State.answer_true]⟩, fun hw => by rw [he, hw, State.answer_false]⟩

/-- A well-formed command at the front is answered and leaves the queue. -/
theorem step_cons {c : Instr} (d : Dev) (q : List Instr) (hw : c.wf = true) : ∃ e, step ⟨d, c :: q⟩ = .next ⟨e, q⟩ :=
  (wellFormedCommandsComplete c d q).1 hw

/-- A run goes on from the state that its first step answers. -/
theorem run_succ (M : Host.Core) {n : Nat} {s t : M.State} {r : Host.Outcome M.State M.Fault M.Refusal}
    (h : M.step s = .next t) (hr : M.run n t = r) : M.run (n + 1) s = r := by
  rw [Host.Core.run, h]
  exact hr

/-- Settles O4, by induction on the number of steps. -/
theorem queueIsServedInOrder : Obligations.QueueIsServedInOrder := by
  unfold Obligations.QueueIsServedInOrder
  intro s hs n hn
  induction n generalizing s with
  | zero => exact ⟨s, rfl, rfl⟩
  | succ n ih =>
    obtain ⟨d, _ | ⟨c, q⟩⟩ := s
    · cases hn
    · obtain ⟨e, he⟩ := step_cons d q (hs c List.mem_cons_self)
      obtain ⟨t, ht, hq⟩ := ih ⟨e, q⟩ (fun x hx => hs x (List.mem_cons_of_mem c hx)) (Nat.le_of_succ_le_succ hn)
      exact ⟨t, run_succ core he ht, hq⟩

/-! ## The state after reset -/

theorem shown_reset : Shown State.reset.dev := by
  have hactive : ∀ ev, ev < 128 → State.reset.dev.activeShown ev = State.reset.dev.active ev := by decide +kernel
  have hevent : State.reset.dev.eventDue = false := by decide +kernel
  exact ⟨hactive, fun h => absurd (hevent.symm.trans h) (by decide), fun h => absurd h (by decide +kernel)⟩

/-- Settles O6. -/
theorem resetIsDarkAndCanonical : Obligations.ResetIsDarkAndCanonical := by
  unfold Obligations.ResetIsDarkAndCanonical
  have hregs : swf 0 State.reset.dev.regs = true := by decide +kernel
  exact ⟨shown_reset, ⟨hregs, rfl, shippedFuses_swf, rfl⟩, rfl, by decide +kernel, fun _ h => absurd h List.not_mem_nil, rfl⟩

/-! ## Registers and sparse contents -/

/-- Settles O7: the laws of a field's write, put together. -/
theorem fieldWriteFrame : Obligations.FieldWriteFrame := by
  unfold Obligations.FieldWriteFrame
  intro d f v h
  refine ⟨get_put_same d f v h, fun g hg => ?_, fun a ha => word_put_other d f v a ha, rfl⟩
  rcases hg with ha | hb | ⟨ha, _⟩
  · exact get_put_addr d f g v ha
  · exact get_put_below d f g v h hb
  · exact get_put_above d f g v h ha

/-- Settles O8: each kind of contents is read and written by the laws of sparse contents. -/
theorem sparseContentsStayCanonical : Obligations.SparseContentsStayCanonical := by
  unfold Obligations.SparseContentsStayCanonical
  exact ⟨fun d a v h => ⟨setWord_swf d a v h, fun b => word_setWord d a b v⟩,
    fun m a l h => ⟨nvmProgram_swf m a l h, nvmProgram_read m a l⟩,
    fun m a n h => ⟨nvmErase_swf m a n h, nvmErase_read m a n⟩,
    fun d a c h => ⟨swf_swrite blankCell a c d.otp h, fun b => sread_swrite blankCell d.otp a b c⟩⟩

/-! ## The quiet end of a command -/

/-- Where the boot manager and a waiting flush have nothing to do, they start nothing. -/
theorem imgStart_idle {d : Dev} (hq : d.boot.recQ = []) (hw : d.boot.writing = none) (hf : d.on R.TH_STATUS_FLUSH_WAIT = false) :
    d.imgStart = d := by
  have hflush : d.flushWaiting = d := by simp [Dev.flushWaiting, hf]
  have hwhen : d.when (d.mode.afterBoot && !d.sup.lgRunning) Dev.flushWaiting = d := by
    simp only [Dev.when, hflush, ite_self]
  simp only [Dev.imgStart, hwhen, hq, hw, ite_self]

theorem showBlock_word (d : Dev) (a : Nat) (h : a ≠ A.SEQ_STATUS) : d.showBlock.word a = d.word a := by
  unfold Dev.showBlock
  split
  · rfl
  · exact word_put_other d R.SEQ_STATUS_BLOCK _ a h

theorem showBlock_rest (d : Dev) : { d.showBlock with regs := d.regs } = d := by
  unfold Dev.showBlock
  split <;> rfl

/-- With nothing raised and no condition at its level nothing settles, and no live profile goes first (R53). -/
theorem finish_quiet {d : Dev} (hr : d.raised = []) (hs : d.ridge.stepFrom = none) (hl : d.levels = d) :
    d.profFirst.finish = d.showBlock.showGutter.capture := by
  have hprof : d.profFirst = d := by simp [Dev.profFirst, hl, hr, Dev.when]
  have hrec : d.stepRecord = d := by simp only [Dev.stepRecord, hs]
  simp only [hprof, Dev.finish, hrec, settle_nil 8 d hr, hl]

/-- An operation that leaves everything but the registers. -/
theorem eq_with_regs {d e : Dev} (h : { e with regs := d.regs } = d) : ∃ v, e = { d with regs := v } := by
  generalize d.regs = r at h
  subst h
  exact ⟨e.regs, rfl⟩

/-- Settles O9: each part of the end is the identity on a quiet part, but for what shows. -/
theorem quietEndChangesNothingElse : Obligations.QuietEndChangesNothingElse := by
  unfold Obligations.QuietEndChangesNothingElse
  intro d hr hs hl hq hw hf
  obtain ⟨v, hv⟩ := eq_with_regs (showBlock_rest d)
  obtain ⟨w, hsg⟩ := eq_with_regs (showGutter_rest d.showBlock)
  generalize hc : d.showBlock.showGutter.capture = c
  have rest : c = Dev.capture { d with regs := w } := by rw [← hc, hsg, hv]
  have word (a : Nat) (h1 : ∀ i, i < 4 → a ≠ A.GUT_ACTIVEi i) (h2 : a ≠ A.GUT_STATUS) (h3 : a ≠ A.SEQ_STATUS) :
      c.word a = d.word a := by
    rw [← hc, capture_word, showGutter_word _ a h2 h1, showBlock_word d a h3]
  have hidle : c.imgStart = c := imgStart_idle (by rw [rest]; exact hq) (by rw [rest]; exact hw)
    (by rw [on_of_word c d R.TH_STATUS_FLUSH_WAIT (word _ (by decide) (by decide) (by decide)), hf])
  have hends : d.ends = c.showAddr := by rw [Dev.ends, finish_quiet hr hs hl, hc, hidle]
  refine ⟨hends, fun a h1 h2 h3 h4 => ?words, ?others⟩
  case words => rw [hends, showAddr_word c a h4, word a h1 h2 h3]
  case others =>
    obtain ⟨x, hx⟩ := eq_with_regs (showAddr_rest c)
    rw [hends, hx, rest]
    rfl

end Sys2Proof.Machine
end

/-!
One CLK200 cycle (R117, R119, R138) and the gates through which commands act (R67), and from these the statement O2.
-/
section
namespace Sys2Proof.Machine

/-! ## Through which gate a command acts -/

section
variable {c : Instr} {d e : Dev} {q : List Instr} {ok : Bool} {f : Dev → Dev}

/-- A command that acts in every mode answers with its effect. -/
theorem answers_of (hx : exec c ⟨d, q⟩ = State.answer ⟨d, q⟩ ok e) (hok : ok = true) : Answers c d q e := by
  rw [Answers, hx, hok, State.answer_true]

/-- A command on the units that serve after BOOT answers with its effect on them. -/
theorem answers_inService (hx : exec c ⟨d, q⟩ = State.answer ⟨d, q⟩ ok (d.inService f)) (hok : ok = true) (hs : Serving d)
    (he : f d = e) : Answers c d q e :=
  answers_of (by rw [hx, Dev.inService_of hs, he]) hok

/-- A command of a register that is served answers with its effect on the part that it has disarmed. -/
theorem answers_byRegister {a : Nat} (hx : exec c ⟨d, q⟩ = State.answer ⟨d, q⟩ ok (d.byRegister a f)) (hok : ok = true)
    (hr : Reaches d a) (he : f d.disarm = e) : Answers c d q e :=
  answers_of (by rw [hx, Dev.byRegister_of hr, he]) hok

/-- A command that acts in every mode but DARK answers with its effect. -/
theorem answers_awake (hx : exec c ⟨d, q⟩ = State.answer ⟨d, q⟩ ok (d.awake f)) (hok : ok = true) (ha : Awake d)
    (he : f d = e) : Answers c d q e :=
  answers_of (by rw [hx, Dev.awake_of ha, he]) hok

end

theorem when_true (d : Dev) (f : Dev → Dev) : d.when true f = f d := rfl

theorem when_false (d : Dev) (f : Dev → Dev) : d.when false f = d := rfl

/-! ## The accumulators -/

theorem rate_lt (d : Dev) : d.rate < 2 ^ 32 := Nat.mod_lt _ (by decide)

theorem rackInc_eq (d : Dev) : d.rackInc = if d.src = srcNone then 0 else d.rate := by
  simp only [Dev.rackInc, beq_iff_eq]

theorem rackInc_lt (d : Dev) : d.rackInc < 2 ^ 32 := by
  rw [rackInc_eq]
  split
  · decide
  · exact rate_lt d

/-- The accumulator adds modulo 2^64. -/
theorem tickAngles_acc (d : Dev) : d.tickAngles.ridge.acc.toNat = (d.ridge.acc.toNat + d.rackInc) % 2 ^ 64 := by
  have h := rackInc_lt d
  show (d.ridge.acc + BitVec.ofNat 64 d.rackInc).toNat = _
  rw [BitVec.toNat_add, BitVec.toNat_ofNat]
  omega

/-- The era counts the wraps of the accumulator (R119). -/
theorem tickAngles_era (d : Dev) : d.tickAngles.ridge.era = d.ridge.era + (if d.wrapsNext = true then 1 else 0) := by
  have h := rackInc_lt d
  have hinc : (BitVec.ofNat 64 d.rackInc).toNat = d.rackInc := by
    rw [BitVec.toNat_ofNat]
    exact Nat.mod_eq_of_lt (by omega)
  show d.ridge.era + (if 2 ^ 64 ≤ d.ridge.acc.toNat + (BitVec.ofNat 64 d.rackInc).toNat then 1 else 0) = _
  rw [hinc, Dev.wrapsNext]
  simp only [decide_eq_true_eq]

/-- The rack time runs on by the increment, modulo its 96 bits. -/
theorem tickAngles_total (d : Dev) : d.tickAngles.total = (d.total + d.rackInc) % 2 ^ 96 := by
  have hr := rackInc_lt d
  have ha := d.ridge.acc.isLt
  have he := d.ridge.era.isLt
  have hera : d.tickAngles.ridge.era.toNat
      = (d.ridge.era.toNat + if 2 ^ 64 ≤ d.ridge.acc.toNat + d.rackInc then 1 else 0) % 2 ^ 32 := by
    rw [tickAngles_era, BitVec.toNat_add, Dev.wrapsNext]
    simp only [decide_eq_true_eq]
    split <;> rfl
  rw [Dev.total, Dev.total, tickAngles_acc, hera]
  split <;> omega

/-- Copies that agree stay so (R120). -/
theorem tickAngles_copies (d : Dev) (h : d.copiesDiffer = false) : d.tickAngles.copiesDiffer = false := by
  simp only [Dev.copiesDiffer, Bool.or_eq_false_iff, decide_eq_false_iff_not, not_not] at h ⊢
  obtain ⟨hacc, hera⟩ := h
  simp only [Dev.tickAngles, ← hacc, ← hera, and_self]

/-- Settles O2. -/
theorem emptyQueueIsOneCycle : Obligations.EmptyQueueIsOneCycle := by
  unfold Obligations.EmptyQueueIsOneCycle
  refine ⟨fun _ => rfl, fun d h => if_pos h, fun d hm hc => if_neg (by simp [hm, hc]), fun d => ⟨?_, tickAngles_copies d, rfl, rfl⟩⟩
  rw [tickAngles_total, rackInc_eq]

end Sys2Proof.Machine
end

/-!
The time base: the rate word (R127, R128), mains loss and the wrap (R119, R136, R137), and from these the statements O23 and
O22.
-/
section
namespace Sys2Proof.Machine

/-! ## The rate word -/

theorem clampRate_range (x : Int) : 56294995 ≤ clampRate x ∧ clampRate x ≤ 98516242 := by
  unfold clampRate clampI
  split_ifs <;> omega

/-- A step moves by at most the step of R128, and not past the target. -/
theorem slewRate_step (now target : Nat) :
    (slewRate now target : Int) - now ≤ 17592 ∧ (now : Int) - slewRate now target ≤ 17592
      ∧ min now target ≤ slewRate now target ∧ slewRate now target ≤ max now target := by
  unfold slewRate
  split <;> omega

section
variable {d : Dev} {t : Nat} (ht : d.ridge.target = some t) (hd : d.slewDue = true)
include ht hd

/-- The step that comes to the target ends the slew. -/
theorem rateStep_eq : d.rateStep =
    (if slewRate d.rate (clampRate t) = clampRate t
      then Dev.setTarget { d.setRate (slewRate d.rate (clampRate t)) with cyc := { d.cyc with slewed := true } } none
      else { d.setRate (slewRate d.rate (clampRate t)) with cyc := { d.cyc with slewed := true } }) := by
  unfold Dev.rateStep
  rw [ht]
  exact if_neg (by rw [hd]; exact Bool.false_ne_true)

end

/-- Settles O23. -/
theorem rateMovesInBoundedSteps : Obligations.RateMovesInBoundedSteps := by
  unfold Obligations.RateMovesInBoundedSteps
  refine ⟨clampRate_range, slewRate_step, fun d q hs t r hd ht hr => ?_⟩
  subst hr
  exact ⟨fun h => answers_inService rfl rfl hs ((rateStep_eq ht hd).trans (if_neg h)),
    fun h => answers_inService rfl rfl hs ((rateStep_eq ht hd).trans (if_pos h))⟩

/-! ## The wrap -/

theorem angle_toNat (d : Dev) : d.angle.toNat = d.ridge.acc.toNat / 2 ^ 32 := by
  have h := d.ridge.acc.isLt
  rw [Dev.angle, BitVec.extractLsb'_toNat, Nat.shiftRight_eq_div_pow]
  exact Nat.mod_eq_of_lt (by omega)

theorem wrapsNext_iff (d : Dev) : d.wrapsNext = true ↔ 2 ^ 64 ≤ d.ridge.acc.toNat + d.rackInc := decide_eq_true_iff

/-- With the wrap the angle falls, and without it it does not. -/
theorem tickAngles_angle (d : Dev) :
    (d.wrapsNext = true → d.tickAngles.angle.toNat < d.angle.toNat)
      ∧ (d.wrapsNext = false → d.angle.toNat ≤ d.tickAngles.angle.toNat) := by
  have ha := d.ridge.acc.isLt
  have hr := rackInc_lt d
  rw [Bool.eq_false_iff, Ne, wrapsNext_iff, angle_toNat, angle_toNat, tickAngles_acc]
  omega

/-! ## A change of source -/

/-- What each call of a repeated operation keeps, the repetition keeps. -/
theorem each_keeps {α β : Type} (p : Dev → β) (f : Dev → α → Dev) (h : ∀ d x, p (f d x) = p d) (l : List α) (d : Dev) :
    p (d.each l f) = p d := by
  induction l generalizing d with
  | nil => rfl
  | cons x l ih => exact (ih (f d x)).trans (h d x)

/-- Bringing the run bits in line loads carriers and writes their status registers alone. -/
theorem runCarriers_keeps {β : Type} (p : Dev → β) (hl : ∀ d s, p (d.loadCarrier s) = p d)
    (h1 : ∀ d s, p (d.set1 (R.CARs_STATUS_RUN s)) = p d) (hb : ∀ d s b, p (d.putB (R.CARs_STATUS_RUN s) b) = p d) (d : Dev) :
    p d.runCarriers = p d := by
  refine each_keeps p _ (fun d s => ?_) _ d
  dsimp only
  split
  · rw [h1, hl]
  · exact hb d s _

theorem runCarriers_ridge (d : Dev) : d.runCarriers.ridge = d.ridge :=
  runCarriers_keeps Dev.ridge (fun _ _ => rfl) (fun _ _ => rfl) (fun _ _ _ => rfl) d

theorem runCarriers_raised (d : Dev) : d.runCarriers.raised = d.raised :=
  runCarriers_keeps Dev.raised (fun _ _ => rfl) (fun _ _ => rfl) (fun _ _ _ => rfl) d

/-- The status registers of the carriers stand above those of the time base. -/
theorem runCarriers_get (d : Dev) (g : Fld) (h : g.addr < 0x2000) : d.runCarriers.get g = d.get g :=
  have hne (s : Nat) : g.addr ≠ (R.CARs_STATUS_RUN s).addr := by simp only [R.CARs_STATUS_RUN, A.CARs_STATUS]; omega
  runCarriers_keeps (fun d => d.get g) (fun _ _ => rfl) (fun d s => get_put_addr (d.noteSet (R.CARs_STATUS_RUN s)) _ g 1 (hne s))
    (fun d s b => get_put_addr d _ g _ (hne s)) d

theorem setSrc_src (d : Dev) {s : Nat} (h : s < 8) : (d.setSrc s).src = s :=
  (runCarriers_get _ R.RIDGE_STATUS_SRC (by decide)).trans
    ((get_put_same _ R.RIDGE_STATUS_SRC s (by decide)).trans (Nat.mod_eq_of_lt h))

/-- A change of source leaves the lock, the grid angle and its rate, and what is raised. -/
theorem setSrc_keeps (d : Dev) (s : Nat) : (d.setSrc s).on R.RIDGE_STATUS_GRID_LOCK = d.on R.RIDGE_STATUS_GRID_LOCK
    ∧ (d.setSrc s).ridge.gridRate = d.ridge.gridRate ∧ (d.setSrc s).ridge.grid = d.ridge.grid
    ∧ (d.setSrc s).ridge.lossSince = d.ridge.lossSince ∧ (d.setSrc s).raised = d.raised := by
  have lock (e : Dev) : (e.put R.RIDGE_STATUS_SRC s).runCarriers.on R.RIDGE_STATUS_GRID_LOCK = e.on R.RIDGE_STATUS_GRID_LOCK :=
    congrArg (· != 0) ((runCarriers_get _ R.RIDGE_STATUS_GRID_LOCK (by decide)).trans
      (get_put_above e R.RIDGE_STATUS_SRC R.RIDGE_STATUS_GRID_LOCK s (by decide) (by decide)))
  have aligned : (d.clr R.RIDGE_STATUS_ALIGNED).on R.RIDGE_STATUS_GRID_LOCK = d.on R.RIDGE_STATUS_GRID_LOCK :=
    congrArg (· != 0) (get_put_below d R.RIDGE_STATUS_ALIGNED R.RIDGE_STATUS_GRID_LOCK 0 (by decide) (by decide))
  simp only [Dev.setSrc, lock, runCarriers_ridge, runCarriers_raised, Dev.put_ridge, Dev.put_raised]
  cases d.src == srcDisc && s != srcDisc
  · exact ⟨rfl, rfl, rfl, rfl, rfl⟩
  · exact ⟨aligned, rfl, rfl, rfl, rfl⟩

theorem src_put_other (d : Dev) (f : Fld) (v : Nat) (h : f.addr ≠ A.RIDGE_STATUS) : (d.put f v).src = d.src :=
  get_put_addr d f R.RIDGE_STATUS_SRC v h.symm

theorem lock_put_other (d : Dev) (f : Fld) (v : Nat) (h : f.addr ≠ A.RIDGE_STATUS) :
    (d.put f v).on R.RIDGE_STATUS_GRID_LOCK = d.on R.RIDGE_STATUS_GRID_LOCK :=
  congrArg (· != 0) (get_put_addr d f R.RIDGE_STATUS_GRID_LOCK v h.symm)

/-! ## Mains loss -/

/-- What a mains loss leaves standing whichever source the rack angle takes: no lock, and the local grid angle as it was, at the
frozen rate (R137, R139). -/
structure Frozen (d : Dev) (f : Nat) (e : Dev) : Prop where
  lock : e.on R.RIDGE_STATUS_GRID_LOCK = false
  rate : e.ridge.gridRate = BitVec.ofNat 32 f
  grid : e.ridge.grid = d.ridge.grid
  since : e.ridge.lossSince = true
  raised : e.raised = d.raised

theorem Frozen.setSrc {d e : Dev} {f : Nat} (h : Frozen d f e) (s : Nat) : Frozen d f (e.setSrc s) := by
  obtain ⟨hl, hr, hg, hs, ha⟩ := setSrc_keeps e s
  exact ⟨hl.trans h.lock, hr.trans h.rate, hg.trans h.grid, hs.trans h.since, ha.trans h.raised⟩

theorem Frozen.setRate {d e : Dev} {f : Nat} (h : Frozen d f e) (r : Int) : Frozen d f (e.setRate r) :=
  ⟨(lock_put_other e R.RIDGE_RATE_RATE _ (by decide)).trans h.lock, h.rate, h.grid, h.since, h.raised⟩

/-- The part in which a loss has frozen the local grid angle at rate `f`, shown as frequency `m`, before the rack angle
takes its source. -/
def Dev.gridFrozen (d : Dev) (f m : Nat) : Dev :=
  let d := { d with ridge := { d.ridge with gridRate := BitVec.ofNat 32 f, lossSince := true } }
  let d := d.modPll fun p => { p with lossFound := false }
  (d.clr R.RIDGE_STATUS_GRID_LOCK).put R.RIDGE_FREQ_FREQ m

/-- The source that the rack angle takes with a loss (R124). -/
def Dev.lossSource (d : Dev) (r : Int) : Dev :=
  if d.cyc.pulled || (d.src == srcPull && d.gridClose) then d.enterGrid
  else if d.src == srcGrid || d.src == srcPull then (d.setSrc srcFly).setRate r else d

theorem gridLoss_eq {d : Dev} {f m : Nat} (hf : clampRate d.frozenRate = f) (hm : milliOfRate f = m) :
    d.gridLoss = (((d.gridFrozen f m).lossSource f).set1 R.RIDGE_FLAGS_LOSS).report 17 := by
  unfold Dev.gridLoss
  rw [hf]
  dsimp only
  rw [hm]
  rfl

theorem gridFrozen_frozen (d : Dev) (f m : Nat) : Frozen d f (d.gridFrozen f m) := by
  refine ⟨(lock_put_other _ R.RIDGE_FREQ_FREQ _ (by decide)).trans ?_, rfl, rfl, rfl, rfl⟩
  exact on_putB _ A.RIDGE_STATUS 3 false (by decide)

theorem gridFrozen_src (d : Dev) (f m : Nat) : (d.gridFrozen f m).src = d.src :=
  (src_put_other _ R.RIDGE_FREQ_FREQ _ (by decide)).trans
    (get_put_below _ R.RIDGE_STATUS_GRID_LOCK R.RIDGE_STATUS_SRC 0 (by decide) (by decide))

theorem gridFrozen_gridClose (d : Dev) (f m : Nat) : (d.gridFrozen f m).gridClose = d.gridClose := by
  have hofs : (d.gridFrozen f m).get R.RIDGE_GRID_OFS_GRID_OFS = d.get R.RIDGE_GRID_OFS_GRID_OFS :=
    (get_put_addr _ R.RIDGE_FREQ_FREQ _ _ (by decide)).trans (get_put_addr _ R.RIDGE_STATUS_GRID_LOCK _ _ (by decide))
  simp only [Dev.gridClose, Dev.gridDiff, hofs]
  rfl

theorem Frozen.lossSource {d e : Dev} {f : Nat} (h : Frozen d f e) (r : Int) : Frozen d f (e.lossSource r) := by
  unfold Dev.lossSource
  split
  · exact (h.setSrc srcGrid).setRate _
  · split
    · exact (h.setSrc srcFly).setRate _
    · exact h

theorem setRate_src (d : Dev) (r : Int) : (d.setRate r).src = d.src := src_put_other d R.RIDGE_RATE_RATE _ (by decide)

theorem enterGrid_src (d : Dev) : d.enterGrid.src = srcGrid :=
  (setRate_src _ _).trans (setSrc_src d (by decide))

theorem gridLoss_src {d : Dev} {f m : Nat} (hf : clampRate d.frozenRate = f) (hm : milliOfRate f = m) :
    d.gridLoss.src = ((d.gridFrozen f m).lossSource f).src :=
  (congrArg Dev.src (gridLoss_eq hf hm)).trans (src_put_other _ R.RIDGE_FLAGS_LOSS 1 (by decide))

theorem lossSource_src_pulled (d : Dev) (r : Int) (h : d.cyc.pulled = true ∨ d.src = srcPull ∧ d.gridClose = true) :
    (d.lossSource r).src = srcGrid := by
  rw [Dev.lossSource, if_pos (by simpa using h)]
  exact enterGrid_src d

theorem lossSource_src_fly (d : Dev) (r : Int) (hp : d.cyc.pulled = false)
    (h : d.src = srcGrid ∨ d.src = srcPull ∧ d.gridClose = false) : (d.lossSource r).src = srcFly := by
  have hgrid : (srcGrid == srcPull) = false := rfl
  have h1 : ¬(d.cyc.pulled || d.src == srcPull && d.gridClose) = true := by rcases h with h | ⟨h, hc⟩ <;> simp [*]
  have h2 : (d.src == srcGrid || d.src == srcPull) = true := by rcases h with h | ⟨h, _⟩ <;> simp [h]
  rw [Dev.lossSource, if_neg h1, if_pos h2]
  exact (setRate_src _ _).trans (setSrc_src d (by decide))

theorem lossSource_src_other (d : Dev) (r : Int) (hp : d.cyc.pulled = false) (hg : d.src ≠ srcGrid) (hn : d.src ≠ srcPull) :
    (d.lossSource r).src = d.src := by
  simp [Dev.lossSource, hp, hg, hn]

/-- Settles O22. -/
theorem mainsLossFreezesAndWrapsCount : Obligations.MainsLossFreezesAndWrapsCount := by
  unfold Obligations.MainsLossFreezesAndWrapsCount
  refine ⟨fun d => ?wrap, fun d => ?loss⟩
  case wrap =>
    refine ⟨fun h => ?_, fun h => ?_, tickAngles_angle d⟩
    · rw [tickAngles_era, if_pos h]
    · rw [tickAngles_era, h]
      exact BitVec.add_zero _
  case loss =>
    generalize hf : clampRate d.frozenRate = f
    generalize hm : milliOfRate f = m
    obtain ⟨hlock, hrate, hgrid, hsince, hraised⟩ := (gridFrozen_frozen d f m).lossSource f
    have hsrc := gridFrozen_src d f m
    have hclose := gridFrozen_gridClose d f m
    have hgl := gridLoss_eq hf hm
    generalize he : (d.gridFrozen f m).lossSource f = e at hlock hrate hgrid hsince hraised hgl
    have hgsrc : d.gridLoss.src = e.src := (gridLoss_src hf hm).trans (by rw [he])
    refine ⟨?lock, ?rate, ?grid, ?since, ?flag, ?raised, fun hp h => ?fly, fun h => ?pulled, fun hp hg hn => ?other⟩
    case lock => exact hgl ▸ (lock_put_other _ R.RIDGE_FLAGS_LOSS 1 (by decide)).trans hlock
    case rate => exact hgl ▸ hrate
    case grid => exact hgl ▸ hgrid
    case since => exact hgl ▸ hsince
    case flag => exact hgl ▸ on_putB (e.noteSet R.RIDGE_FLAGS_LOSS) A.RIDGE_FLAGS 1 true (by decide)
    case raised => rw [hgl, ← hraised]; rfl
    case fly => rw [hgsrc, ← he]; exact lossSource_src_fly _ _ hp (by rwa [hsrc, hclose])
    case pulled =>
      have hgrid : d.gridLoss.src = srcGrid := by
        rw [hgsrc, ← he]; exact lossSource_src_pulled _ _ (by rw [hsrc, hclose]; exact h)
      refine ⟨hgrid, ?_⟩
      have hgives : (d.gridLoss.src == srcGrid && d.gridLoss.ridge.lossSince) = true := by
        rw [hgrid, hgl]
        exact hsince
      rw [Dev.gridGivesWay, hgives, when_true]
      exact setSrc_src _ (by decide)
    case other => rw [hgsrc, ← he]; exact (lossSource_src_other (d.gridFrozen f m) f hp (by rwa [hsrc]) (by rwa [hsrc])).trans hsrc

end Sys2Proof.Machine
end

/-!
Into DARK and out of it, the end of BOOT, the supply and the last gasp (R86, R94 to R107, R537, R617, R649 to R651), and from
these the statements O10, O11, O12 and O13.
-/
section
namespace Sys2Proof.Machine

/-- A command that no gate holds back answers with its effect. -/
theorem answers_always {c : Instr} {d x e : Dev} {q : List Instr} {ok : Bool} (hx : exec c ⟨d, q⟩ = State.answer ⟨d, q⟩ ok x)
    (hok : ok = true) (he : x = e) : Answers c d q e := answers_of (he ▸ hx) hok

/-! ## Into DARK -/

/-- What no operation on the Quad-SPI bus touches: the supply, the fuses and an operation on them. -/
def Dev.offQspi (d : Dev) : Supply × Sparse FuseCell × Option OtpOp := (d.sup, d.otp, d.boot.otpOp)

theorem offQspi_torn (d : Dev) (t : List Nat) : ({ d with torn := t } : Dev).offQspi = d.offQspi := rfl

theorem nvmEraseBad_offQspi (d : Dev) (a : Nat) : (d.nvmEraseBad a).offQspi = d.offQspi := by
  obtain ⟨n, k, h⟩ : ∃ n k, d.nvmEraseBad a = { d with nvm := n, draws := k } := ⟨_, _, rfl⟩
  rw [h]
  rfl

theorem nvmProgramBad_offQspi (d : Dev) (a : Nat) (l : List Byte) : (d.nvmProgramBad a l).offQspi = d.offQspi := by
  obtain ⟨n, k, h⟩ : ∃ n k, d.nvmProgramBad a l = { d with nvm := n, draws := k } := ⟨_, _, rfl⟩
  rw [h]
  rfl

theorem opBad_offQspi (d : Dev) (op : ThatchOp) : (d.opBad op).offQspi = d.offQspi := by
  cases op with
  | program p slots => exact nvmProgramBad_offQspi d _ _
  | erase p s => exact nvmEraseBad_offQspi d _

theorem recSpoilt_offQspi (d : Dev) (why : RecFor) : (d.recSpoilt why).offQspi = d.offQspi := by
  unfold Dev.recSpoilt
  dsimp only
  split
  · exact (offQspi_torn _ _).trans (nvmEraseBad_offQspi d _)
  · exact nvmProgramBad_offQspi d _ _

/-- The cut of an operation of the boot manager leaves the supply and the fuses as they are. -/
theorem abortBoot_offQspi (d : Dev) : d.abortBoot.offQspi = d.offQspi := by
  unfold Dev.abortBoot
  extract_lets drop slot done b dropped cut rec b'
  have hslot : slot.offQspi = d.offQspi := by
    simp only [slot]
    split <;> rfl
  have hdone : done.offQspi = d.offQspi := by
    simp only [done]
    split <;> exact hslot
  have hdropped : dropped.offQspi = d.offQspi := by
    simp only [dropped]
    split
    · rfl
    · exact hdone
  have hcut : cut.offQspi = d.offQspi := by
    simp only [cut]
    split
    · rw [nvmEraseBad_offQspi, hdropped]
    · rw [nvmProgramBad_offQspi, hdropped]
    · exact hdropped
  show rec.offQspi = d.offQspi
  simp only [rec]
  split
  · exact (recSpoilt_offQspi cut _).trans hcut
  · exact hcut

theorem abortQspi_offQspi (d : Dev) : d.abortQspi.offQspi = d.offQspi := by
  unfold Dev.abortQspi
  extract_lets pages e f
  have he : e.offQspi = d.offQspi := by
    simp only [e]
    split
    · exact opBad_offQspi d _
    · rfl
  exact (abortBoot_offQspi _).trans he

/-- Without an operation on the Quad-SPI bus there is nothing to abort. -/
theorem abortQspi_idle {d : Dev} (ht : d.thatch.op = none) (hi : d.boot.imgOp = none) (hr : d.boot.rec_ = none) :
    d.abortQspi.nvm = d.nvm ∧ d.abortQspi.torn = d.torn := by
  simp only [Dev.abortQspi, ht, Dev.abortBoot, Dev.modThatch, hi, hr, Bool.not_false, if_true, List.append_nil, and_self]

theorem otpCutShort_keeps (d : Dev) : d.otpCutShort.nvm = d.nvm ∧ d.otpCutShort.torn = d.torn ∧ d.otpCutShort.sup = d.sup := by
  unfold Dev.otpCutShort
  split
  · exact ⟨rfl, rfl, rfl⟩
  · dsimp only
    exact ⟨each_keeps Dev.nvm _ (by intros; rfl) _ d, each_keeps Dev.torn _ (by intros; rfl) _ d,
      each_keeps Dev.sup _ (by intros; rfl) _ d⟩

/-- Without an attempt on the fuses none is cut short. -/
theorem otpCutShort_idle {d : Dev} (h : d.boot.otpOp = none) : d.otpCutShort = d := by
  simp only [Dev.otpCutShort, h]

section
variable (d : Dev) (keep : Bool) (cause : Nat)

theorem darken_mode : (d.darken keep cause).mode = .dark := by
  show Mode.ofCode (fieldOf (sread 0 resetRegs A.SYS_MODE) 0 3) = .dark
  decide +kernel

theorem darken_powered : (d.darken keep cause).sup.powered = keep := by
  cases keep <;> rfl

theorem darken_sup_keep : (d.darken true cause).sup.railOk = d.sup.railOk ∧ (d.darken true cause).sup.lgArmed = d.sup.lgArmed := by
  have h : d.abortQspi.otpCutShort.sup = d.sup := by
    rw [(otpCutShort_keeps _).2.2]
    exact congrArg Prod.fst (abortQspi_offQspi d)
  have hr := congrArg Supply.railOk h
  have ha := congrArg Supply.lgArmed h
  exact ⟨hr, ha⟩

/-- Fuses and NVM keep what they hold where no operation on them is cut. -/
theorem darken_nvm (ht : d.thatch.op = none) (hi : d.boot.imgOp = none) (hr : d.boot.rec_ = none) :
    (d.darken keep cause).nvm = d.nvm ∧ (d.darken keep cause).torn = d.torn := by
  obtain ⟨hn, ho⟩ := abortQspi_idle ht hi hr
  obtain ⟨hn', ho', _⟩ := otpCutShort_keeps d.abortQspi
  exact ⟨hn'.trans hn, ho'.trans ho⟩

theorem darken_otp (h : d.boot.otpOp = none) : (d.darken keep cause).otp = d.otp := by
  have hk := congrArg Prod.snd (abortQspi_offQspi d)
  have hop : d.abortQspi.boot.otpOp = none := (congrArg Prod.snd hk).trans h
  show d.abortQspi.otpCutShort.otp = d.otp
  rw [otpCutShort_idle hop]
  exact congrArg Prod.fst hk

/-- In DARK every ball is in its reset state, and without supply it is dead (R104, R109). -/
theorem darken_ball (b : Ball) : (d.darken false cause).ball b = .dead ∧ (d.darken true cause).ball b = b.resetPad :=
  ⟨if_pos rfl, (if_neg Bool.false_ne_true).trans (if_pos (darken_mode d true cause))⟩

end

/-- Settles O10: what goes into DARK is at rest but for what `darken` names, and each way into it darkens the part. -/
theorem darkKeepsFusesAndNvmOnly : Obligations.DarkKeepsFusesAndNvmOnly := by
  unfold Obligations.DarkKeepsFusesAndNvmOnly
  refine ⟨fun d keep cause => ⟨darken_mode d keep cause, rfl, rfl, darken_powered d keep cause, ?_, darken_ball d cause,
    darken_nvm d keep cause, darken_otp d keep cause, rfl⟩, fun d q => ⟨fun hp hb => ?stop, fun hp => ?reset, fun _ hb => ?rails,
      fun hf hm hr => ?fallback, fun hr hm => ?reboot⟩⟩
  · rintro rfl
    exact darken_sup_keep d cause
  case stop => exact answers_always rfl rfl (if_pos (by simp [hp, hb]))
  case reset => exact answers_always rfl rfl (if_pos hp)
  case rails => exact answers_always rfl rfl (if_pos (by simp [hb]))
  case fallback =>
    have hs : d.mode.afterBoot = true := by rcases hm with h | h <;> rw [h] <;> rfl
    exact answers_inService rfl rfl hs (if_pos (by simpa [Dev.fallbackDue, hf, hr] using hm))
  case reboot => exact answers_byRegister rfl rfl hr (by simp [Dev.imgReboot, hr.1, hm, Dev.internalReset])

/-! ## Out of DARK -/

theorem get_setWord_other (d : Dev) (a : Nat) (w : Word) (g : Fld) (h : g.addr ≠ a) : (d.setWord a w).get g = d.get g := by
  rw [Dev.get, word_setWord, if_neg h]
  rfl

/-- What the internal reset release makes of the part, before the record of the BOOT (R86, R105, R650). -/
def Dev.strapped (d : Dev) (role : Nat) (hostSel bypass : Bool) : Dev :=
  let d := d.modSup fun s => { s with
    powered := true, railOk := [true, true, true], regLocked := !bypass, resetHeld := false
    lgArmed := bypass || s.lgArmed, lgGoodSince := if bypass || s.lgArmed then some 0 else none }
  let d := ((d.setMode .boot).put R.SYS_MODE_ROLE role).putB R.SYS_MODE_BYPASS bypass
  let d := (d.putB R.HOST_STATUS_SPI hostSel).clr R.SYS_STATUS_BOOT_PROF
  let d := d.putB R.SYS_STATUS_ROLE_ERR (decide (4 < role))
  let d := (d.setWord A.IMAGE_STATUS 0).put R.IMAGE_STATUS_RST_CAUSE d.boot.cause
  ((d.setWord A.IMAGE_SLOT0 0).setWord A.IMAGE_SLOT1 0).setWord A.RAFTER_TWIN_STATUS 0

section
variable (d : Dev) (role : Nat) (hostSel bypass : Bool)

theorem strapped_mode : (d.strapped role hostSel bypass).mode = .boot := by
  unfold Dev.strapped Dev.mode Dev.setMode Dev.putB Dev.clr
  simp (disch := decide) only [get_setWord_other, get_put_addr, get_put_below, get_put_same]
  rfl

theorem strapped_role (h : role < 8) : (d.strapped role hostSel bypass).get R.SYS_MODE_ROLE = role := by
  unfold Dev.strapped Dev.putB Dev.clr
  simp (disch := decide) only [get_setWord_other, get_put_addr, get_put_below, get_put_same]
  exact Nat.mod_eq_of_lt h

theorem strapped_bypass : (d.strapped role hostSel bypass).bypass = bypass := by
  unfold Dev.strapped Dev.bypass Dev.on Dev.putB Dev.clr
  simp (disch := decide) only [get_setWord_other, get_put_addr, get_put_same]
  cases bypass <;> rfl

theorem strapped_spi : (d.strapped role hostSel bypass).on R.HOST_STATUS_SPI = hostSel := by
  unfold Dev.strapped Dev.on Dev.putB Dev.clr
  simp (disch := decide) only [get_setWord_other, get_put_addr, get_put_same]
  cases hostSel <;> rfl

theorem strapped_roleErr : (d.strapped role hostSel bypass).on R.SYS_STATUS_ROLE_ERR = decide (4 < role) := by
  unfold Dev.strapped Dev.on Dev.putB
  simp (disch := decide) only [get_setWord_other, get_put_addr, get_put_same]
  cases decide (4 < role) <;> rfl

theorem strapped_cause : (d.strapped role hostSel bypass).get R.IMAGE_STATUS_RST_CAUSE = d.boot.cause % 8 := by
  unfold Dev.strapped
  simp (disch := decide) only [get_setWord_other, get_put_same]
  rfl

variable {d bypass}

/-- The release takes place in DARK with the core rails good, or without the part's own regulators under BYPASS (R94, R96, R105). -/
theorem resetRelease_eq (hm : d.mode = .dark)
    (h : d.sup.powered = false ∧ bypass = true ∨ d.sup.powered = true ∧ d.sup.railOk.all id = true) :
    d.resetRelease role hostSel bypass = (d.strapped role hostSel bypass).bootRecord := by
  have hgood : (d.mode != .dark || !(if d.sup.powered then d.sup.railOk.all id else bypass)) = false := by
    rcases h with ⟨hp, hb⟩ | ⟨hp, hr⟩
    · simp [hm, hp, hb]
    · simp [hm, hp, hr]
  exact if_neg (by rw [hgood]; exact Bool.false_ne_true)

end

/-- Settles O11. -/
theorem resetReleaseSamplesStraps : Obligations.ResetReleaseSamplesStraps := by
  unfold Obligations.ResetReleaseSamplesStraps
  refine fun d q => ⟨fun hp => ?start, fun role hostSel bypass hr hm h => ⟨d.strapped role hostSel bypass, ?release,
    strapped_mode d role hostSel bypass, strapped_role d role hostSel bypass hr, strapped_bypass d role hostSel bypass,
    strapped_spi d role hostSel bypass, strapped_roleErr d role hostSel bypass, strapped_cause d role hostSel bypass,
    rfl, rfl, rfl, rfl, rfl⟩⟩
  case start => exact answers_always rfl rfl (if_neg (by simp [hp]))
  case release => exact answers_always rfl (decide_eq_true hr) (resetRelease_eq role hostSel hm h)

/-! ## The end of BOOT -/

section
variable {d : Dev} {passA passB : Bool} {err : Nat}

theorem bootComplete_trim (hm : d.mode = .boot) (hr : d.otpRead.region 1 ≠ 2) :
    d.bootComplete passA passB err = d.otpRead.otpMarginal.safe .trim none := by
  unfold Dev.bootComplete
  rw [if_neg (by simp [hm])]
  exact if_pos (by simpa using hr)

/-- The node after the boot manager's work: a slot has been started, or none is left. -/
theorem bootComplete_image (hm : d.mode = .boot) (hr : d.otpRead.region 1 = 2) {b e : Dev}
    (hb : b = (d.otpRead.bootImage err).1.bootEngines passA passB)
    (he : e = (((d.otpRead.bootImage err).2.map b.bootStart).getD b.noSlot).otpMarginal) :
    d.bootComplete passA passB err =
      if e.twinUsed && !passA && !passB then (e.safe .engines none).evLost
      else
        let f := e.standby.showSvPend
        let f := f.when (f.on R.RINNAK_NODE_MGR) fun d => d.modNet fun n => { n with listening := true }
        let f := (f.modNseg false fun s => { s with base := f.now }).modNseg true fun s => { s with base := f.now }
        (f.modBoot fun b => { b with standbyAt := f.now }).showBusy := by
  unfold Dev.bootComplete
  rw [if_neg (by simp [hm])]
  dsimp only
  rw [if_neg (by simp [hr]), he, hb]
  cases (d.otpRead.bootImage err).2 <;> rfl

end

/-- Settles O12. -/
theorem bootEndsInStandbyOrSafe : Obligations.BootEndsInStandbyOrSafe := by
  unfold Obligations.BootEndsInStandbyOrSafe
  refine fun d q passA passB err herr hm => ⟨fun hr => ?trim, fun hr b e hb he =>
    ⟨fun ht ha hpb => ?engines, fun hrun f hf => ⟨fun hmgr => ?worker, fun hmgr => ?manager⟩⟩⟩
  case trim => exact answers_always rfl (decide_eq_true herr) (bootComplete_trim hm hr)
  all_goals
    refine answers_always rfl (decide_eq_true herr) ((bootComplete_image hm hr hb he).trans ?_)
  case engines => exact if_pos (by simp [ht, ha, hpb])
  all_goals
    subst hf
    rw [if_neg (by rcases hrun with h | h | h <;> simp [h])]
    dsimp only
    rw [hmgr]
    rfl

/-! ## Clock, supply, SHTDN and the last gasp -/

section
variable {d : Dev}

theorem clockLoss_eq (ha : Awake d) (hc : d.sup.clockLost = false) :
    d.clockLoss = ((d.modSup fun u => { u with clockLost := true }).report 0).safe .clock none :=
  if_neg (by simpa [hc] using ha)

theorem railFault_awake (ha : Awake d) (hp : d.sup.powered = true) {rail : Nat} (hr : rail < 3) :
    d.railFault rail = ((d.modSup fun u => { u with railOk := updAt u.railOk rail fun _ => false }).report 1).holdEv 1 0 := by
  unfold Dev.railFault
  rw [if_neg (by simp [hp, hr])]
  exact if_neg (by simpa using ha)

theorem railFault_dark (hm : d.mode = .dark) (hp : d.sup.powered = true) {rail : Nat} (hr : rail < 3) :
    d.railFault rail = d.modSup fun u => { u with railOk := updAt u.railOk rail fun _ => false } := by
  unfold Dev.railFault
  rw [if_neg (by simp [hp, hr])]
  exact if_pos (by simpa using hm)

end

section
variable {d : Dev}

/-- A trigger that is armed, with no record being written, forces SAFE and begins the record (R101, R537). -/
theorem lgTrigger_eq (ha : Awake d) (harm : d.sup.lgArmed = true) (hrun : d.sup.lgRunning = false) {nvm : Bool} {e : Dev}
    (hn : nvm = (d.on R.TH_CTRL_NVM_EN && d.on R.TH_STATUS_LG_READY))
    (he : e = if nvm then (d.safe .lastGasp none).abortQspi else d.safe .lastGasp none) :
    d.lgTrigger = ((((({ e with boot := { e.boot with otpCut := e.boot.otpOp.isSome } }.modSup fun u => { u with
      lgArmed := false, lgRunning := true, lgToNvm := nvm, lgGoodSince := none, stopped := true, lgHeld := true }).clr
        R.SEQ_STATUS_LG_DONE).set1 R.SEQ_FLAGS_LAST_GASP).showWeevil.lgStart).report 118) := by
  unfold Dev.lgTrigger
  rw [if_neg (by simp [ha, harm]), if_neg (by simp [hrun]), he, ← hn]
  rfl

/-- A trigger while the record is being written only leaves VAUX below its threshold (R101). -/
theorem lgTrigger_running (ha : Awake d) (hrun : d.sup.lgRunning = true) :
    d.lgTrigger = if d.sup.lgArmed then d.modSup fun u => { u with lgArmed := false, lgGoodSince := none } else d := by
  unfold Dev.lgTrigger
  cases harm : d.sup.lgArmed with
  | false => exact if_pos (by simp)
  | true =>
    rw [if_neg (by simp [ha])]
    exact if_pos hrun

theorem lgDone_eq (hrun : d.sup.lgRunning = true) :
    d.lgDone = ((d.lgCommit d.sup.lgToNvm).modSup fun u => { u with lgRunning := false }).set1 R.SEQ_STATUS_LG_DONE :=
  if_neg (by simp [hrun])

theorem lgRearm_eq (hp : d.sup.powered = true) (hb : d.bypass = false) :
    d.lgRearm = d.modSup fun u => { u with lgArmed := true, lgGoodSince := some d.now } := if_neg (by simp [hp, hb])

theorem shtdnHigh_eq (ha : Awake d) : d.shtdnHigh = (d.modSup fun u => { u with
    shtdn := true, shtdnOff := true, lgGoodSince := if d.bypass then none else u.lgGoodSince }).offRequest :=
  if_neg (by simpa using ha)

/-- The fall of SHTDN after an off request is an on request, in which BYPASS = 1 makes the trigger ready again. -/
theorem shtdnFall_eq (ha : Awake d) (hoff : d.sup.shtdnOff = true) {e : Dev}
    (he : e = d.modSup fun u => { u with shtdn := false, shtdnOff := false }) :
    d.shtdnFall = (e.when d.bypass fun d => d.modSup fun u => { u with lgArmed := true, lgGoodSince := some d.now }).onRequest := by
  unfold Dev.shtdnFall
  rw [if_neg (by simpa using ha), hoff, he]
  rfl

end

/-- Settles O13. -/
theorem supplyAndLastGaspEvents : Obligations.SupplyAndLastGaspEvents := by
  unfold Obligations.SupplyAndLastGaspEvents
  refine ⟨fun d q ha => ⟨fun hc => ?clock, fun harm hrun nvm e hn he => ?trigger, fun hrun => ⟨fun harm => ?below, fun harm => ?idle⟩,
    fun hrun => ?done, fun hp rail hr => ?fault, ?sram, fun hs => ?watchdog, ?high, fun hoff e he => ⟨fun hb => ?fall, fun hb => ?arms⟩⟩,
    fun d q hp => ⟨fun hb => ?rearm, ?back, fun hm rail hr => ?dark⟩⟩
  case clock => exact answers_awake rfl rfl ha (clockLoss_eq ha hc)
  case trigger => exact answers_awake rfl rfl ha (lgTrigger_eq ha harm hrun hn he)
  case below => exact answers_awake rfl rfl ha ((lgTrigger_running ha hrun).trans (if_pos harm))
  case idle => exact answers_awake rfl rfl ha ((lgTrigger_running ha hrun).trans (if_neg (by simp [harm])))
  case done => exact answers_awake rfl rfl ha (lgDone_eq hrun)
  case fault => exact answers_always rfl (decide_eq_true hr) (railFault_awake ha hp hr)
  case sram => exact answers_awake rfl rfl ha rfl
  case watchdog => exact answers_inService rfl rfl hs rfl
  case high => exact answers_awake rfl rfl ha (shtdnHigh_eq ha)
  case fall => exact answers_awake rfl rfl ha ((shtdnFall_eq ha hoff he).trans (by rw [hb, when_false]))
  case arms =>
    subst he
    exact answers_awake rfl rfl ha ((shtdnFall_eq ha hoff rfl).trans (by rw [hb]; rfl))
  case rearm => exact answers_always rfl rfl (lgRearm_eq hp hb)
  case back => exact answers_always rfl rfl (if_pos hp)
  case dark => exact answers_always rfl (decide_eq_true hr) (railFault_dark hm hp hr)

end Sys2Proof.Machine
end

/-!
Images: the commands, the page buffer, the boot manager after BOOT (R612, R643 to R652, R658), and from these the
statements O14, O15 and O16.
-/
section
namespace Sys2Proof.Machine

/-! ## The image commands -/

section
variable {d : Dev}

theorem imgBegin_eq (hs : Serving d) (hw : d.wrInh = false) (ht : d.on R.IMAGE_STATUS_TRIAL = false)
    (hn : d.boot.writing = none) {t : Nat} (h : d.targetSlot = some t) :
    d.imgBegin =
      (((((((d.imgRes 1 .accepted false).queueRec (.begin_ t)).put (slotState t) 1).put (slotReason t) 0).clr
        R.IMAGE_WCOUNT_BYTES).put R.IMAGE_WCOUNT_FREE 64).clr R.IMAGE_WCOUNT_OVF |>.modBoot fun b => { b with
          writing := some t, page := [], pageAt := 0, pageErased := false, finishing := false
          checked := sbit b.checked t true, overfilled := sbit b.overfilled t false }).showBusy := by
  unfold Dev.imgBegin
  rw [if_neg (by simp [hs]), if_neg (by simp [hw]), if_neg (by simp [ht, hn]), h]

theorem imgFinish_eq (hs : Serving d) (hw : d.boot.writing.isSome = true) (hf : d.boot.finishing = false)
    (ho : d.on R.IMAGE_WCOUNT_OVF = false) :
    d.imgFinish = (d.imgRes 2 .accepted false).modBoot fun b => { b with finishing := true } := by
  have hsome : d.boot.writing.isNone = false := by rw [← Option.not_isSome, hw]; rfl
  unfold Dev.imgFinish
  rw [if_neg (by simp [hs]), if_neg (by simp [hsome, hf]), if_neg (by simp [ho])]

theorem imgArm_eq (hs : Serving d) {t : Nat} (h : d.targetSlot = some t) (hv : d.slotIs t 2 = true) :
    d.imgArm = ((d.imgRes 3 .accepted false).queueRec (.arm t)).showBusy := by
  unfold Dev.imgArm
  rw [if_neg (by simp [hs]), h]
  exact if_pos hv

theorem imgAbort_eq (hs : Serving d) {t : Nat} (h : d.boot.writing = some t) :
    d.imgAbort = ((((d.imgRes 4 .accepted true).put (slotState t) 0).put R.IMAGE_WCOUNT_FREE 64).modBoot
      fun b => { b with writing := none, finishing := false, page := [], imgOp := none }).showBusy := by
  have h' : (d.imgRes 4 .accepted true).boot.writing = some t := h
  unfold Dev.imgAbort
  rw [if_neg (by simp [hs])]
  dsimp only
  rw [h']

theorem imgConfirm_eq (hs : Serving d) (ht : d.on R.IMAGE_STATUS_TRIAL = true) :
    d.imgConfirm = ((d.imgRes 5 .accepted false).queueRec (.confirm (d.get R.IMAGE_STATUS_RUN_SLOT))).showBusy := by
  unfold Dev.imgConfirm
  rw [if_neg (by simp [hs]), if_neg (by simp [ht])]

end

/-- Settles O14. -/
theorem imageCommandsStart : Obligations.ImageCommandsStart := by
  unfold Obligations.ImageCommandsStart
  refine fun d q hr => ⟨fun t hw ht hn h => ?begin_, fun hw hf ho => ?finish, fun t h hv => ?arm, fun t h => ?abort,
    fun ht => ?confirm⟩
  case begin_ => exact answers_byRegister rfl rfl hr (imgBegin_eq (d := d.disarm) hr.1 hw ht hn h)
  case finish => exact answers_byRegister rfl rfl hr (imgFinish_eq (d := d.disarm) hr.1 hw hf ho)
  case arm => exact answers_byRegister rfl rfl hr (imgArm_eq (d := d.disarm) hr.1 h hv)
  case abort => exact answers_byRegister rfl rfl hr (imgAbort_eq (d := d.disarm) hr.1 h)
  case confirm => exact answers_byRegister rfl rfl hr (imgConfirm_eq (d := d.disarm) hr.1 ht)

/-! ## The page buffer -/

section
variable {d : Dev} {t : Nat} {w : Word}

theorem imgData_full (h : d.boot.writing = some t) (hf : d.boot.finishing = false)
    (hfull : d.get R.IMAGE_WCOUNT_FREE = 0 ∨ 1048576 < d.get R.IMAGE_WCOUNT_BYTES + 4) :
    d.imgData w = (d.set1 R.IMAGE_WCOUNT_OVF).modBoot fun b => { b with overfilled := sbit b.overfilled t true } := by
  unfold Dev.imgData
  rw [h]
  dsimp only
  rw [if_neg (by simp [hf])]
  exact if_pos hfull

theorem imgData_room (h : d.boot.writing = some t) (hf : d.boot.finishing = false)
    (hfree : d.get R.IMAGE_WCOUNT_FREE ≠ 0) (hlen : d.get R.IMAGE_WCOUNT_BYTES + 4 ≤ 1048576) :
    d.imgData w = ((d.modBoot fun b => { b with page := b.page ++ leBytes 4 w.toNat }).put R.IMAGE_WCOUNT_BYTES
      (d.get R.IMAGE_WCOUNT_BYTES + 4)).put R.IMAGE_WCOUNT_FREE (64 - (d.boot.page ++ leBytes 4 w.toNat).length / 4) := by
  unfold Dev.imgData
  rw [h]
  dsimp only
  rw [if_neg (by simp [hf])]
  exact if_neg (not_or.mpr ⟨hfree, Nat.not_lt.mpr hlen⟩)

end

/-- Settles O15. -/
theorem imagePagesAreWritten : Obligations.ImagePagesAreWritten := by
  unfold Obligations.ImagePagesAreWritten
  refine fun d q => ⟨fun t w hr h hf => ⟨fun hfree hlen => ?room, fun hfull => ?full⟩,
    fun slot at_ hs h => ⟨?erased, ?eraseFails⟩, fun slot at_ l hs h => ⟨?programmed, ?programFails⟩,
    fun slot err hs h => ?checked⟩
  case room => exact answers_byRegister rfl rfl hr (imgData_room (d := d.disarm) h hf hfree hlen)
  case full => exact answers_byRegister rfl rfl hr (imgData_full (d := d.disarm) h hf hfull)
  case checked => exact answers_inService rfl rfl hs (by rw [Dev.imgFinished, h])
  all_goals exact answers_inService rfl rfl hs (by rw [Dev.imgPageDone, h]; rfl)

/-! ## The boot manager after BOOT -/

section
variable {d : Dev}

theorem lgFind_slot (hn : d.on R.TH_CTRL_NVM_EN = true) {i : Nat} (h : d.lgFirst = some i) :
    d.lgFind = ((d.put R.TH_NVM_NEXT_LG_INDEX i).set1 R.TH_STATUS_LG_READY).eraseAhead := by
  unfold Dev.lgFind
  rw [if_neg (by simp [hn]), h]

/-- Without an erased slot EV126 is raised where one had been ready, and an erase begins where the bus is free (R612). -/
theorem lgFind_none (hn : d.on R.TH_CTRL_NVM_EN = true) (h : d.lgFirst = none) {e : Dev}
    (he : e = (if d.on R.TH_STATUS_LG_READY then d.report 126 else d).clr R.TH_STATUS_LG_READY) :
    d.lgFind = if e.qspiFree && !e.wrInh && decide (0 < e.sectors .lg) then
      e.modThatch fun t => { t with op := some (.erase .lg (e.sectorNow .lg)) } else e := by
  unfold Dev.lgFind
  rw [if_neg (by simp [hn]), h, he]
  rfl

theorem slotCheckStandby_eq (hs : Serving d) {err : Nat} :
    d.slotCheckStandby err = ((d.each ([0, 1].filter fun s =>
      !tbit d.boot.checked s && !d.recBase.has (srEmpty s) && d.boot.writing != some s)
      fun e s => e.checkSlot s (tbit err s) (d.recBase.has (srFailed s)))).showSvPend := if_neg (by simp [hs])

theorem svRaise_eq (hs : Serving d) {v : Nat} (hv : d.confirmedSv = some v) (hi : d.otpInhibited = false)
    (ho : d.boot.otpOp = none) (ht : d.boot.svTarget = none) (hlt : d.get R.OTP_STATUS_SV < v) :
    d.svRaise = (d.modBoot fun b => { b with svTarget := some v }).svNext := by
  unfold Dev.svRaise
  rw [hv]
  exact if_neg (by simp [hs, hi, ho, ht, hlt])

theorem trialExpires_eq (hl : d.trialLeft = 0) (ht : d.on R.IMAGE_STATUS_TRIAL = true) :
    d.trialExpires = d.modBoot fun b => { b with expired := true } := if_pos (by simp [hl, ht])

theorem trialOver_eq (hx : d.boot.expired = true) {e : Dev} (he : e = d.modBoot fun b => { b with expired := false }) :
    d.trialOver = if e.recPending RecFor.isConfirm then e else e.trialFails := by
  have hp : d.recPending RecFor.isConfirm = e.recPending RecFor.isConfirm := by rw [he]; rfl
  unfold Dev.trialOver
  rw [if_neg (by simp [hx]), ← he, hp]
  cases e.recPending RecFor.isConfirm <;> rfl

theorem trialFails_eq (ht : d.on R.IMAGE_STATUS_TRIAL = true) (hf : d.on R.IMAGE_STATUS_FB_PEND = false) {f : Dev}
    (h : f = ((d.set1 R.IMAGE_STATUS_FB_PEND).queueRec (.fallback (d.get R.IMAGE_STATUS_RUN_SLOT))).showBusy) :
    d.trialFails = if f.mode == .ramp || f.mode == .run || f.mode == .ride then f.offRequest else f := by
  unfold Dev.trialFails
  rw [if_neg (by simp [ht, hf]), h]

theorem recDone_ok {r : RecWrite} (hr : d.boot.rec_ = some r) :
    d.recDone true = ((d.modBoot fun b => { b with rec_ := none }).recTakes r.why).showBusy := by
  rw [Dev.recDone, hr]
  rfl

/-- A write of a state record that fails is tried again twice (R639). -/
theorem recDone_fails {r : RecWrite} (hr : d.boot.rec_ = some r) {e : Dev}
    (he : e = (d.modBoot fun b => { b with rec_ := none }).recSpoilt r.why) :
    d.recDone false =
      if r.tries < 2 then (e.modBoot fun b => { b with recQ := { r with tries := r.tries + 1 } :: b.recQ }).showBusy
      else ((e.imgDone r.why.cmd).report 13).showBusy := by
  rw [Dev.recDone, hr, he]
  rfl

end

/-- Settles O16. -/
theorem bootManagerServesAfterBoot : Obligations.BootManagerServesAfterBoot := by
  unfold Obligations.BootManagerServesAfterBoot
  refine fun d q hs => ⟨fun err herr => ?check, fun i hn h => ?slot, fun v hv hi ho ht hlt => ?raise,
    fun h hn e he => ⟨fun hfree hw h0 => ?erase, fun hnot => ?held⟩, fun hl ht => ?window, fun hx e he =>
    ⟨fun hc => ?confirmed, fun hc ht hf f hf' => ⟨fun hm => ?rests, fun hm => ?drains⟩⟩,
    fun r e hr he => ⟨?stands, fun h2 => ?again, fun h2 => ?lost⟩⟩
  case check => exact answers_inService rfl (decide_eq_true herr) hs (slotCheckStandby_eq hs)
  case slot => exact answers_inService rfl rfl hs (lgFind_slot hn h)
  case raise => exact answers_inService rfl rfl hs (svRaise_eq hs hv hi ho ht hlt)
  case erase => exact answers_inService rfl rfl hs ((lgFind_none hn h he).trans (if_pos (by simp [hfree, hw, h0])))
  case held =>
    refine answers_inService rfl rfl hs ((lgFind_none hn h he).trans (if_neg ?_))
    rcases hnot with hfree | hw | h0
    · simp [hfree]
    · simp [hw]
    · simp [h0]
  case window => exact answers_inService rfl rfl hs (trialExpires_eq hl ht)
  case confirmed => exact (trialOver_eq hx he).trans (if_pos hc)
  case rests =>
    rw [trialOver_eq hx he, if_neg (by simp [hc]), trialFails_eq ht hf hf']
    exact if_neg (by rcases hm with h | h | h <;> simp [h])
  case drains =>
    rw [trialOver_eq hx he, if_neg (by simp [hc]), trialFails_eq ht hf hf']
    exact if_pos (by rcases hm with h | h | h <;> simp [h])
  all_goals subst he
  case stands => exact answers_inService rfl rfl hs (recDone_ok hr)
  case again => exact answers_inService rfl rfl hs ((recDone_fails hr rfl).trans (if_pos h2))
  case lost => exact answers_inService rfl rfl hs ((recDone_fails hr rfl).trans (if_neg (Nat.not_lt.mpr h2)))

end Sys2Proof.Machine
end

/-!
Fuses, JTAG and live profiles (R54, R624 to R627, R634, R656 to R658), and from these the statements O17, O19 and O20.
-/
section
namespace Sys2Proof.Machine

/-! ## A programmed fuse stays programmed -/

/-- What reads programmed in one cell, at each margin, reads programmed in the other. -/
def Within (c c' : FuseCell) : Prop :=
  c.normal &&& c'.normal = c.normal ∧ c.blank &&& c'.blank = c.blank ∧ c.prog &&& c'.prog = c.prog

theorem and_eq_trans {x y z : FuseWord} (hxy : x &&& y = x) (hyz : y &&& z = y) : x &&& z = x := by
  rw [← hxy, BitVec.and_assoc, hyz]

theorem within_refl (c : FuseCell) : Within c c := ⟨BitVec.and_self, BitVec.and_self, BitVec.and_self⟩

theorem within_trans {a b c : FuseCell} (hab : Within a b) (hbc : Within b c) : Within a c :=
  ⟨and_eq_trans hab.1 hbc.1, and_eq_trans hab.2.1 hbc.2.1, and_eq_trans hab.2.2 hbc.2.2⟩

theorem and_or_self (x y : FuseWord) : x &&& (x ||| y) = x := by
  ext i hi
  simp only [BitVec.getElem_and, BitVec.getElem_or]
  cases x[i] <;> rfl

theorem within_cellAfter (old new : FuseCell) : Within old (cellAfter old new) :=
  ⟨and_or_self _ _, and_or_self _ _, and_or_self _ _⟩

theorem fuse_setFuse (d : Dev) (a b : Nat) (c : FuseCell) : (d.setFuse a c).fuse b = if b = a then c else d.fuse b :=
  sread_swrite blankCell d.otp a b c

/-- One word of an operation as it reads at the end. -/
theorem within_setFuse (d : Dev) (a b : Nat) (new : FuseCell) :
    Within (d.fuse b) ((d.setFuse a (cellAfter (d.fuse a) new)).fuse b) := by
  rw [fuse_setFuse]
  split
  case isTrue h => rw [h]; exact within_cellAfter _ _
  case isFalse => exact within_refl _

/-- A list of steps that each keep what is programmed keeps it. -/
theorem within_each {α : Type} {f : Dev → α → Dev} {a : Nat} (h : ∀ d x, Within (d.fuse a) ((f d x).fuse a)) (l : List α)
    (d : Dev) : Within (d.fuse a) ((d.each l f).fuse a) := by
  induction l generalizing d with
  | nil => exact within_refl _
  | cons x l ih => exact within_trans (h d x) (ih (f d x))

theorem fuse_setShadow (d : Dev) (a b : Nat) (w : ShadowWord) : (d.setShadow a w).fuse b = d.fuse b := rfl

theorem within_fuseWords (d : Dev) (l : List (Nat × FuseWord)) (reads : List FuseCell) (a : Nat) :
    Within (d.fuse a) ((d.fuseWords l reads).fuse a) := by
  unfold Dev.fuseWords
  refine within_each (fun d p => ?_) _ d
  rw [fuse_setShadow]
  exact within_setFuse d p.2.1 a _

/-- The end of the programming of a word (R627). -/
theorem otpDone_word {d : Dev} {a : Nat} {bits : FuseWord} (h : d.boot.otpOp = some (.word a bits)) (tries : Nat)
    (reads : List FuseCell) {e : Dev} (he : e = d.fuseWords [(a, bits)] reads) :
    d.otpDone tries reads =
      (((e.modBoot fun b => { b with otpOp := none, otpCut := false }).set1 R.OTP_RES_DONE).putB R.OTP_RES_FAIL
        (!(Dev.verified d e [(a, bits)] && !d.boot.otpCut))).put R.OTP_RES_TRIES tries := by
  have hc : e.boot.otpCut = d.boot.otpCut := by
    rw [he]
    exact each_keeps (fun d => d.boot.otpCut) _ (by intros; rfl) _ d
  have hlock : (OtpOp.word a bits == .lock 7) = false := beq_eq_false_iff_ne.mpr (by simp)
  unfold Dev.otpDone
  rw [h]
  dsimp only [OtpOp.targets]
  rw [← he, hc, hlock, Bool.and_false]
  rfl

/-- Settles O19. -/
theorem fusesAreNeverUnprogrammed : Obligations.FusesAreNeverUnprogrammed := by
  unfold Obligations.FusesAreNeverUnprogrammed
  refine ⟨within_fuseWords, fun d q tries reads a bits hs h1 h5 h => ?_⟩
  exact answers_inService rfl (decide_eq_true ⟨h1, h5⟩) hs (otpDone_word h tries reads rfl)

/-! ## Reads of the array, and JTAG -/

section
variable {d : Dev}

theorem otpReadWord_eq (hs : Serving d) (ha : d.otpAddr < otpWords) :
    d.otpReadWord = (((((d.otpRes 1 .accepted true).setWord A.OTP_RDATA (d.shadow d.otpAddr).data).putB R.OTP_RES_MARGINAL
      (d.shadow d.otpAddr).marginal).putB R.OTP_RES_CORR (d.shadow d.otpAddr).corr).putB R.OTP_RES_UNCORR
        (d.shadow d.otpAddr).uncorr) := by
  unfold Dev.otpReadWord
  rw [if_neg (by simp [hs]), if_pos ha]

/-- READ_ARRAY answers the word at the margin of OTP_ADDR: 0 normal, 1 blank, 2 programmed (R625). -/
theorem otpReadArray_eq (hs : Serving d) (ha : d.otpAddr < otpWords) (hm : d.get R.OTP_ADDR_MARGIN < 3) {f : FuseWord}
    (hf : f = (if d.get R.OTP_ADDR_MARGIN = 0 then (d.fuse d.otpAddr).normal
      else if d.get R.OTP_ADDR_MARGIN = 1 then (d.fuse d.otpAddr).blank else (d.fuse d.otpAddr).prog)) :
    d.otpReadArray = ((d.otpRes 2 .accepted true).setWord A.OTP_RDATA (fuseData f)).put R.OTP_RES_ECC (fuseEcc f).toNat := by
  unfold Dev.otpReadArray
  rw [if_neg (by simp [hs]), if_pos ha, hf]
  generalize d.get R.OTP_ADDR_MARGIN = m at hm
  match m, hm with
  | 0, _ => rfl
  | 1, _ => rfl
  | 2, _ => rfl

theorem jtagLoad_boundary (ha : Awake d) {code : Nat} (hc : code < 4) :
    d.jtagLoad code = d.modBoot fun b => { b with jtag := code } :=
  (if_neg (by simpa using ha)).trans (if_pos hc)

theorem jtagLoad_locked (ha : Awake d) {code : Nat} (hc : 4 ≤ code) (hl : d.debugLocked = true) :
    d.jtagLoad code = d.modBoot fun b => { b with jtag := 0 } :=
  (if_neg (by simpa using ha)).trans ((if_neg (Nat.not_lt.mpr hc)).trans (if_pos hl))

theorem jtagLoad_debug (ha : Awake d) {code : Nat} (hc : 4 ≤ code) (hl : d.debugLocked = false) :
    d.jtagLoad code = (d.modBoot fun b => { b with jtag := code, debugSeen := true }).when (!d.boot.debugSeen)
      fun d => d.report 14 :=
  (if_neg (by simpa using ha)).trans ((if_neg (Nat.not_lt.mpr hc)).trans (if_neg (by simp [hl])))

theorem debugLocked_of_clear (h : d.on R.OTP_STATUS_DEBUG_LOCK = false) : d.debugLocked = false := by
  rw [Dev.debugLocked, h, Bool.false_and]

/-- Nothing is noted of a cycle that has just begun, so a lock bit that reads 1 acts. -/
theorem debugLocked_of_rest (h : d.on R.OTP_STATUS_DEBUG_LOCK = true) (hc : d.cyc = .rest) : d.debugLocked = true := by
  rw [Dev.debugLocked, h, Dev.setsNow, hc]
  rfl

end

/-- Settles O17. -/
theorem otpReadsAndJtagAct : Obligations.OtpReadsAndJtagAct := by
  unfold Obligations.OtpReadsAndJtagAct
  refine ⟨fun d q => ⟨fun w hr => ?arm, fun hr ha => ?read, fun f hr ha hm hf => ?array⟩, fun d q code ha =>
    ⟨fun hc => ?boundary, fun hc hl => ?locked, fun hc hl hseen => ?again, fun hc hl hseen => ?first,
    debugLocked_of_clear, debugLocked_of_rest⟩⟩
  case arm => exact answers_byRegister rfl rfl hr rfl
  case read => exact answers_byRegister rfl rfl hr (otpReadWord_eq (d := d.disarm) hr.1 ha)
  case array => exact answers_byRegister rfl rfl hr (otpReadArray_eq (d := d.disarm) hr.1 ha hm hf)
  case boundary => exact answers_awake rfl rfl ha (jtagLoad_boundary ha hc)
  case locked => exact answers_awake rfl rfl ha (jtagLoad_locked ha hc hl)
  case again => exact answers_awake rfl rfl ha ((jtagLoad_debug ha hc hl).trans (by rw [hseen]; rfl))
  case first => exact answers_awake rfl rfl ha ((jtagLoad_debug ha hc hl).trans (by rw [hseen]; rfl))

/-! ## Live profiles -/

section
variable {d : Dev} {l : List Byte} {t : List (Option (Nat × Nat) × List Byte)}

theorem profCommit_eq (hs : Serving d) (hb : d.bufferBusy false = false) :
    d.profCommit = (d.modBoot fun b => { b with
      checking := b.checking ++ [(none, d.staged (d.get R.PROF_LEN_LEN))] }).showPend := by
  unfold Dev.profCommit
  rw [if_neg (by simp [hs])]
  exact if_neg (by simp [hb])

theorem profDiscard_eq (hs : Serving d) : d.profDiscard = d.modBoot fun b => { b with hostStage := [] } :=
  if_neg (by simp [hs])

/-- The check of the host's profile that waits longest, by its judgement (R657). -/
theorem profChecked_host (h : d.boot.checking = (none, l) :: t) {c : Code} {sec : Nat} {rwl : Bool}
    (hj : d.profJudge l = (c, sec, rwl)) {shown popped : Dev}
    (hshown : shown = if d.on R.SYS_STATUS_BOOT_PROF && c != .mode then
      d.setWord A.RAFTER_ADMIT ((d.afterWaiting.showAdmit_ (profParse d.roleCode 1 l)).word A.RAFTER_ADMIT) else d)
    (hpop : popped = shown.modBoot fun b => { b with checking := t }) :
    d.profChecked = ((popped.profRes c sec).when (c == .accepted) fun d => d.modBoot fun b =>
      { b with waiting := b.waiting ++ [⟨d.cycles, false, l, rwl⟩] }).showPend := by
  unfold Dev.profChecked
  rw [h]
  dsimp only
  rw [hj, hpop, hshown]
  rfl

theorem profJudge_unbooted (h : d.on R.SYS_STATUS_BOOT_PROF = false) : d.profJudge l = (.badProfile, profHead, false) :=
  if_pos (by simp [h])

theorem profJudge_parsed (h : d.on R.SYS_STATUS_BOOT_PROF = true) {p : ProfData} (hp : profParse d.roleCode 1 l = .inr p)
    (hm : d.afterWaiting.profMode p = none) :
    d.profJudge l = match d.afterWaiting.profValues p with
      | some e => (.badProfile, e, false)
      | none => (.accepted, 0,
        (d.afterWaiting.profRwl (d.profHeld p)).isSome || (d.afterWaiting.profNode (d.profHeld p)).isSome) := by
  unfold Dev.profJudge
  rw [if_neg (by simp [h]), hp]
  dsimp only
  rw [hm] <;> rfl

/-- The state after a profile that waits has been taken at its boundary (R656). -/
def Dev.takeWaiting (d : Dev) (w : ProfWait) : Dev := (d.profTake w).modBoot fun b => { b with waiting := b.waiting.erase w }

theorem profBoundary_eq (h : d.turnBegins = true) {due : List ProfWait}
    (hd : (sortBy appliedFirst d.boot.waiting).filter (fun w => decide (w.at_ < d.cycles)) = due) :
    d.profBoundary = (d.each due Dev.takeWaiting).showPend := by
  unfold Dev.profBoundary
  rw [if_neg (by simp [h]), hd]
  rfl

theorem appliedFirst_iff (v w : ProfWait) :
    appliedFirst v w = true ↔ v.at_ < w.at_ ∨ v.at_ = w.at_ ∧ (v.net = false ∨ w.net = true) := by
  simp [appliedFirst]

theorem sortBy_pair {α : Type} (le : α → α → Bool) (v w : α) : sortBy le [v, w] = if le v w then [v, w] else [w, v] := rfl

end

/-- Settles O20. -/
theorem liveProfilesAreCheckedAndTaken : Obligations.LiveProfilesAreCheckedAndTaken := by
  unfold Obligations.LiveProfilesAreCheckedAndTaken
  refine fun d q => ⟨fun hr hb => ?commit, fun hr => ?discard, fun l t hs h hp => ?unbooted, fun l t p hs h hb hp hm => ?judged,
    fun w hs ht hw hlt => ?one, fun v w hs ht hw hv hlt => ⟨fun hle => ?inOrder, fun hgt => ?swapped⟩⟩
  case commit => exact answers_byRegister rfl rfl hr (profCommit_eq (d := d.disarm) hr.1 hb)
  case discard => exact answers_byRegister rfl rfl hr (profDiscard_eq (d := d.disarm) hr.1)
  case unbooted =>
    have hshown := (if_neg (by simp [hp]) : (if d.on R.SYS_STATUS_BOOT_PROF && Code.badProfile != .mode then
      d.setWord A.RAFTER_ADMIT ((d.afterWaiting.showAdmit_ (profParse d.roleCode 1 l)).word A.RAFTER_ADMIT) else d) = d)
    refine answers_inService rfl rfl hs ((profChecked_host h (profJudge_unbooted hp) hshown.symm rfl).trans ?_)
    exact congrArg Dev.showPend (when_false _ _)
  case judged =>
    have hj := profJudge_parsed hb hp hm
    have hshown : ∀ c : Code, (c != .mode) = true → d.setWord A.RAFTER_ADMIT
        ((d.afterWaiting.showAdmit_ (.inr p)).word A.RAFTER_ADMIT) = if d.on R.SYS_STATUS_BOOT_PROF && c != .mode then
      d.setWord A.RAFTER_ADMIT ((d.afterWaiting.showAdmit_ (profParse d.roleCode 1 l)).word A.RAFTER_ADMIT) else d :=
      fun c hc => by rw [hp]; exact (if_pos (by rw [hb, hc]; rfl)).symm
    dsimp only
    cases hv : d.afterWaiting.profValues p with
    | some sec =>
      rw [hv] at hj
      exact answers_inService rfl rfl hs
        ((profChecked_host h hj (hshown .badProfile rfl) rfl).trans (congrArg Dev.showPend (when_false _ _)))
    | none =>
      rw [hv] at hj
      exact answers_inService rfl rfl hs
        ((profChecked_host h hj (hshown .accepted rfl) rfl).trans (congrArg Dev.showPend (when_true _ _)))
  case one =>
    refine answers_inService rfl rfl hs (profBoundary_eq ht (due := [w]) ?_)
    rw [hw]
    exact List.filter_eq_self.mpr (by simp [hlt, sortBy, insertBy])
  case inOrder =>
    refine answers_inService rfl rfl hs (profBoundary_eq ht (due := [v, w]) ?_)
    rw [hw, sortBy_pair, if_pos ((appliedFirst_iff v w).mpr hle)]
    exact List.filter_eq_self.mpr (by simp [hv, hlt])
  case swapped =>
    refine answers_inService rfl rfl hs (profBoundary_eq ht (due := [w, v]) ?_)
    rw [hw, sortBy_pair, if_neg (fun hle => ?_)]
    · exact List.filter_eq_self.mpr (by simp [hv, hlt])
    · rcases hgt with h | ⟨h, hv, hw⟩
      · rcases (appliedFirst_iff v w).mp hle with h' | ⟨h', -⟩ <;> omega
      · rcases (appliedFirst_iff v w).mp hle with h' | ⟨-, h' | h'⟩
        · omega
        · simp [hv] at h'
        · simp [hw] at h'

end Sys2Proof.Machine
end

/-!
The sources of the rack angle, the messages of the time base and the marks (R119 to R159), and from these the statements
O21 and O24.
-/
section
namespace Sys2Proof.Machine

/-! ## Lock, loss and change of source -/

section
variable {d : Dev}

theorem mainsLocked_eq (h : d.lockDue = true) (hsrc : d.src ≠ srcNone) :
    d.mainsLocked = if d.lockSteps && !d.cyc.fired.isEmpty then { d with ridge := { d.ridge with lockHeld := true } }
      else d.gridLock.srcAfterLock.when d.ridge.lossSince fun d => d.viennaResume.mainsBack :=
  if_neg (by simp [h, hsrc])

theorem mainsGone_eq (hen : d.on R.RIDGE_CTRL_MAINS_EN = true) (hl : d.on R.RIDGE_STATUS_GRID_LOCK = true)
    (hf : d.ridge.pll.lossFound = true) : d.mainsGone = d.gridLoss.viennaPause.mainsLost :=
  if_pos (by simp [Dev.lossDue, Dev.mainsEn, hen, hl, hf])

theorem blackStart_eq (hs : d.src = srcFree) (ht : d.get R.RIDGE_CTRL_START_TMO * 65536 ≤ d.now)
    (hl : d.on R.RIDGE_STATUS_GRID_LOCK = false) (hf : d.feedDc = false) (hb : d.on R.RIDGE_CTRL_BLACKSTART = true)
    (hlead : d.leadsAngle = true) (hlock : d.lockDue = false) :
    d.blackStart = (d.setSrc srcVirtual).setTarget (some d.vRate) := if_pos (by simp [hs, ht, hl, hf, hb, hlead, hlock])

theorem pullDone_eq (hs : d.src = srcPull) (hclose : d.gridDiff.natAbs ≤ 16 * 2 ^ 32) :
    d.pullDone = { d.enterGrid with cyc := { d.enterGrid.cyc with pulled := true } } :=
  if_pos (by rw [hs, Dev.gridClose, decide_eq_true hclose]; rfl)

theorem eraCycle_eq (hs : d.src ≠ srcNone) (hc : d.sup.clockLost = false) (hw : 2 ^ 64 ≤ d.ridge.acc.toNat + d.rate) :
    d.eraCycle = d.oneCycle := by
  have hwraps : d.wrapsNext = true := decide_eq_true (by rwa [rackInc_eq, if_neg hs])
  exact if_neg (by simp [hc, hwraps])

theorem rotationBad_eq (hen : d.on R.RIDGE_CTRL_MAINS_EN = true) (hr : d.ridge.pll.wrongRaised = false) {t : Nat}
    (ht : d.ridge.pll.wrongSince = some t) (hlast : 65536 ≤ d.since t) :
    d.rotationBad = ((d.modPll fun p => { p with wrongRaised := true }).set1 R.RIDGE_FLAGS_ROT_ERR).report 23 :=
  if_pos (by simp [Dev.rotationDue, Dev.mainsEn, hen, hr, ht, hlast])

theorem xor_ne_self {w : Nat} {x y : BitVec w} (h : y ≠ 0) : x ≠ x ^^^ y := by
  intro hx
  exact h (BitVec.xor_right_inj x |>.mp (hx.symm.trans BitVec.xor_zero.symm))

theorem copiesDiffer_iff : d.copiesDiffer = true ↔ d.ridge.acc ≠ d.ridge.acc2 ∨ d.ridge.era ≠ d.ridge.era2 := by
  simp [Dev.copiesDiffer]

/-- An upset of copies that agree makes them differ (R120). -/
theorem copiesUpset_eq (hd : d.copiesDiffer = false) (hold : d.ridge.differ = false) {acc : BitVec 64} {era : Word}
    (h : acc ≠ 0 ∨ era ≠ 0) : d.copiesUpset acc era = ({ d with ridge := { d.ridge with
      acc2 := d.ridge.acc2 ^^^ acc, era2 := d.ridge.era2 ^^^ era, differ := true } }.set1 R.RIDGE_FLAGS_CHECK).report 24 := by
  have hagree : d.ridge.acc = d.ridge.acc2 ∧ d.ridge.era = d.ridge.era2 := by simpa [Dev.copiesDiffer] using hd
  have hnow : Dev.copiesDiffer { d with ridge := { d.ridge with
      acc2 := d.ridge.acc2 ^^^ acc, era2 := d.ridge.era2 ^^^ era } } = true := by
    rw [copiesDiffer_iff]
    dsimp only
    rw [hagree.1, hagree.2]
    exact h.imp xor_ne_self xor_ne_self
  unfold Dev.copiesUpset Dev.copiesCheck
  rw [hnow, hold]
  rfl

end

/-- Settles O21. -/
theorem ridgeSourcesFollowTheMains : Obligations.RidgeSourcesFollowTheMains := by
  unfold Obligations.RidgeSourcesFollowTheMains
  refine fun d q hs => ⟨fun h hsrc hfree => ?lock, fun h hsrc hst hf => ?held, fun hen hl hf => ?loss,
    fun h1 h2 h3 h4 h5 h6 h7 => ?black, fun h hc => ?pull, fun h hc hw => ?wrap, fun t hen hr ht hlast => ?rotation,
    fun acc era hd hold h => ?copies⟩
  case lock =>
    have hnow : (d.lockSteps && !d.cyc.fired.isEmpty) = false := by rcases hfree with h | h <;> simp [h]
    have heq := (mainsLocked_eq h hsrc).trans (if_neg (by simp [hnow]))
    refine ⟨fun hloss => ?_, fun hloss => ?_⟩
    · exact answers_inService rfl rfl hs (heq.trans (by rw [hloss, when_false]))
    · exact answers_inService rfl rfl hs (heq.trans (by rw [hloss, when_true]))
  case held => exact answers_inService rfl rfl hs ((mainsLocked_eq h hsrc).trans (if_pos (by simp [hst, hf])))
  case loss => exact answers_inService rfl rfl hs (mainsGone_eq hen hl hf)
  case black => exact answers_inService rfl rfl hs (blackStart_eq h1 h2 h3 h4 h5 h6 h7)
  case pull => exact answers_inService rfl rfl hs (pullDone_eq h hc)
  case wrap => exact answers_inService rfl rfl hs (eraCycle_eq h hc hw)
  case rotation => exact answers_inService rfl rfl hs (rotationBad_eq hen hr ht hlast)
  case copies => exact answers_inService rfl rfl hs (copiesUpset_eq hd hold h)

/-! ## Messages that are taken from the inbox -/

/-- What a message does is done by the part that has taken it and heard its sender. -/
theorem onMsg_of_takes {d e : Dev} {ty : Nat} {m : RxMsg} (h : Takes d ty m e) (act : Dev → RxMsg → Dev) :
    d.onMsg ty act = act e m := by
  obtain ⟨x, hx, rfl⟩ := h
  rw [Dev.onMsg, hx]
  cases hm : m.angleOnly <;> simp [hm, Dev.when]

/-! ## Beacons and follow-ups -/

section
variable {d : Dev}

theorem beaconInstant_eq (hn : d.netOn = true) (hreed : d.cyc.reedNew = true) (h0 : d.reed % 8192 = 0)
    (hserved : d.cyc.served.contains instantServed = false) :
    d.beaconInstant =
      if d.isPrimary then
        if d.coord.swapDue then (d.serve instantServed).yieldRole
        else ((d.serve instantServed).queueBeacon (d.serve instantServed).now).sendState
      else if d.isStandby && d.coord.swapDue then (d.serve instantServed).takeOver true else d := by
  have hnow : d.instantNow = true := by
    rw [Dev.instantNow, hreed, decide_eq_true h0, hserved]
    rfl
  exact if_neg (by rw [hn, hnow]; decide)

theorem isWorker_of_primary (h : d.isPrimary = true) : d.isWorker = false := by
  simp [Dev.isWorker, Dev.leadsAngle, h]

/-- A follow-up gives the transmit time of the beacon that was received on its segment (R150). -/
theorem msgFollowUp_eq {m : RxMsg} {e : Dev} {x : BeaconRx} (h : Takes d tFollowUp m e) (hx : (e.seg m.segB).rx = some x)
    (hw : e.isWorker = true) (hq : x.seq = beAt m.msg.payload 0 2) (ht : x.t1 = none) {f : Dev}
    (hf : f = ((e.modSeg m.segB fun s => { s with
      rx := some { x with t1 := some (beAt m.msg.payload 2 12) }
      last := some (beAt m.msg.payload 2 12, x.t2) }).modCoord fun c =>
        { c with lastInstant := beAt m.msg.payload 2 12 / 2 ^ 32 / 8192 * 8192 })) :
    d.msgFollowUp = if m.segB || f.ridge.used || x.seq != f.get R.RIDGE_BEACON_SEQ then f
      else f.runServo false (beAt m.msg.payload 2 12) x.t2 := by
  refine (onMsg_of_takes h _).trans ?_
  dsimp only
  rw [hx]
  dsimp only
  rw [if_neg (by simp [hw, hq, ht]), ← hq, hf]

theorem beaconMissed_without (hw : d.isWorker = true) (h : d.ridge.used = true ∨ d.pairOn true = none) :
    d.beaconMissed =
      let e := (d.modSeg false fun s => { s with rx := none }).modSeg true fun s => { s with rx := none }
      ({ e with ridge := { e.ridge with used := false } }).beaconMiss := by
  unfold Dev.beaconMissed
  rw [if_neg (by simp [hw])]
  exact if_neg (by rcases h with h | h <;> simp [h])

theorem beaconMissed_pair (hw : d.isWorker = true) (hu : d.ridge.used = false) (hp : (d.pairOn true).isSome = true) :
    d.beaconMissed = d.instantDue := by
  unfold Dev.beaconMissed
  rw [if_neg (by simp [hw])]
  exact if_pos (by simp [hu, hp])

theorem msgDelayReq_eq {m : RxMsg} {e : Dev} (h : Takes d tDelayReq m e) (hp : e.isPrimary = true)
    (hw : (e.seg m.segB).waiting = []) :
    d.msgDelayReq = e.modSeg m.segB fun s => { s with
      waiting := [⟨byteAt m.msg.payload 0, beAt m.msg.payload 2 2, m.rxAt⟩] } := by
  refine (onMsg_of_takes h _).trans ((if_neg (by simp [hp])).trans ?_)
  cases hb : m.segB
  · have hw' : e.ridge.segA.waiting = [] := by simpa [Dev.seg, hb] using hw
    simp [Dev.modSeg, hw']
  · have hw' : e.ridge.segB.waiting = [] := by simpa [Dev.seg, hb] using hw
    simp [Dev.modSeg, hw']

theorem delayRelease_eq {b : Bool} {w : DelayWait} {rest : List DelayWait} (hw : (d.seg b).waiting = w :: rest)
    (hp : d.isPrimary = true) (hr : (d.seg b).released = []) :
    d.delayRelease b = ((d.modSeg b fun s => { s with waiting := rest, released := [d.now] }).sendOn b
      tDelayResp w.node ([BitVec.ofNat 8 w.node, 0] ++ beBytes 2 w.seq ++ beBytes 12 w.t4)).1 := by
  unfold Dev.delayRelease
  rw [hr, hw]
  exact if_neg (by simp [hp])

theorem msgDelayResp_eq {m : RxMsg} {e : Dev} {o : DelayOut} (h : Takes d tDelayResp m e)
    (ho : (e.seg m.segB).out = some o) (hw : e.isWorker = true) (hq : o.seq = beAt m.msg.payload 2 2)
    (hid : byteAt m.msg.payload 0 = e.busId) :
    d.msgDelayResp = (e.modSeg m.segB fun s => { s with
      out := none
      delays := ((tsDiff o.t2 o.t1 + tsDiff (beAt m.msg.payload 4 12) o.t3) :: s.delays).take 4 }).pathNs m.segB := by
  refine (onMsg_of_takes h _).trans ?_
  dsimp only
  rw [ho]
  exact if_neg (by simp [hw, hq, hid])

end

/-! ## Marks and the angles of the phases -/

section
variable {d : Dev} {m : Nat}

theorem markFired_eq (hm : m < 64) (hw : d.boot.waiting = []) (hdue : d.markDue m = true) :
    d.markFired m = ((d.markFire m).markTriggers m).seqMark m := by
  have hprof : d.profDue = false := by simp [Dev.profDue, hw]
  unfold Dev.markFired
  rw [hprof, when_false]
  exact if_neg (by simp [hm, hdue])

theorem gridBoundary_eq {s : List (Int × Int)} (h : d.ridge.pll.ended = some s) :
    d.gridBoundary = (((d.put R.RIDGE_PH_AB_PH_A (phaseAngle 0 (s.getD 0 (0, 0)))).put R.RIDGE_PH_AB_PH_B
      (phaseAngle 1 (s.getD 1 (0, 0)))).put R.RIDGE_PH_C_PH_C (phaseAngle 2 (s.getD 2 (0, 0)))).modPll fun p =>
        { p with ended := none } := by
  rw [Dev.gridBoundary, h]

end

/-! ## What a mark that fires shows -/

theorem on_put_addr (d : Dev) (f g : Fld) (v : Nat) (h : g.addr ≠ f.addr) : (d.put f v).on g = d.on g := by
  rw [Dev.on, get_put_addr d f g v h, Dev.on]

theorem on_set1_addr (d : Dev) (f g : Fld) (h : g.addr ≠ f.addr) : (d.set1 f).on g = d.on g := on_put_addr _ f g 1 h

theorem on_clr_addr (d : Dev) (f g : Fld) (h : g.addr ≠ f.addr) : (d.clr f).on g = d.on g := on_put_addr _ f g 0 h

theorem on_set1_same (d : Dev) (f : Fld) (hw : f.w = 1) (h : f.lo + f.w ≤ 32) : (d.set1 f).on f = true := by
  rw [Dev.on, Dev.set1, get_put_same _ f 1 h, hw]
  rfl

theorem on_clr_same (d : Dev) (f : Fld) (h : f.lo + f.w ≤ 32) : (d.clr f).on f = false := by
  rw [Dev.on, Dev.clr, get_put_same _ f 0 h, Nat.zero_mod]
  rfl

section
variable {d : Dev} {m : Nat}

theorem firedBit_fits (hm : m < 64) : (firedBit m).w = 1 ∧ (firedBit m).lo + 1 ≤ 32 := by
  unfold firedBit markBit
  split
  · exact ⟨rfl, by simp only [Fld.bit, R.RIDGE_MARK_FIRED0_MARK]; omega⟩
  · exact ⟨rfl, by simp only [Fld.bit, R.RIDGE_MARK_FIRED1_MARK]; omega⟩

theorem firedBit_addr (m : Nat) : (firedBit m).addr < (R.MARKm_CFG_EN m).addr := by
  have h0 : (firedBit m).addr ≤ 0x454 := by
    unfold firedBit markBit
    split
    · exact (by decide : 0x450 ≤ 0x454)
    · exact Nat.le_refl 0x454
  have h1 : (R.MARKm_CFG_EN m).addr = 0x500 + m * 8 := rfl
  omega

/-- The registers of a mark that fires: its bit is set, and a one-shot mark, which the host has not written in this cycle, loses
its EN. -/
theorem on_markFire (d : Dev) (m : Nat) (f : Fld) : (d.markFire m).on f =
    ((d.set1 (firedBit m)).when (d.getWas (R.MARKm_CFG_ONESHOT m) != 0 && !(d.cyc.was.lookup (A.MARKm_CFG m)).isSome)
      fun d => d.clr (R.MARKm_CFG_EN m)).on f := by
  unfold Dev.markFire
  dsimp only
  split <;> rfl

theorem markFire_fired (hm : m < 64) : (d.markFire m).on (firedBit m) = true := by
  obtain ⟨hw, hlo⟩ := firedBit_fits hm
  have hset := on_set1_same d (firedBit m) hw (by rw [hw]; exact hlo)
  rw [on_markFire, Dev.when]
  split
  · exact (on_clr_addr _ _ _ (Nat.ne_of_lt (firedBit_addr m))).trans hset
  · exact hset

theorem markFire_en (hwas : d.cyc.was = []) :
    (d.markFire m).on (R.MARKm_CFG_EN m) = (d.on (R.MARKm_CFG_EN m) && !d.on (R.MARKm_CFG_ONESHOT m)) := by
  have honce : (d.getWas (R.MARKm_CFG_ONESHOT m) != 0 && !(d.cyc.was.lookup (A.MARKm_CFG m)).isSome)
      = d.on (R.MARKm_CFG_ONESHOT m) := by simp [Dev.getWas, Dev.wordWas, hwas, Dev.on, Dev.get]
  rw [on_markFire, honce]
  cases d.on (R.MARKm_CFG_ONESHOT m) with
  | true => rw [when_true, on_clr_same _ _ (by decide : 0 + 1 ≤ 32)]; simp
  | false => rw [when_false, on_set1_addr _ _ _ (Nat.ne_of_gt (firedBit_addr m))]; simp

end

/-- Settles O24. -/
theorem timeMessagesAct : Obligations.TimeMessagesAct := by
  unfold Obligations.TimeMessagesAct
  refine fun d q hs => ⟨fun hn hreed h0 hserved e he => ⟨fun hp hsw => ?instant, fun hp hsw => ?yields,
      fun hp hst hsw => ?takesOver⟩,
    fun m e h => ⟨fun hp hw => ?heard, fun hp hm => ?rival⟩,
    fun m e x f h hx hw hseq ht hf => ⟨fun hlater => ?follow, fun hb hu hq => ?servo⟩,
    fun hw h => ?missed, fun hw hu hp => ?pair, fun m e h hp hw => ?request, fun b w rest hw hp hr => ?release,
    fun m e o h ho hw hq hid => ?response, fun m hm hw hdue => ?fires, fun m hm => ⟨markFire_fired hm, markFire_en⟩,
    fun s h => ?phases⟩
  case instant =>
    subst he
    exact answers_inService rfl rfl hs
      ((beaconInstant_eq hn hreed h0 hserved).trans ((if_pos hp).trans (if_neg (by simp [hsw]))))
  case yields =>
    subst he
    exact answers_inService rfl rfl hs ((beaconInstant_eq hn hreed h0 hserved).trans ((if_pos hp).trans (if_pos hsw)))
  case takesOver =>
    subst he
    exact answers_inService rfl rfl hs ((beaconInstant_eq hn hreed h0 hserved).trans
      ((if_neg (by simp [hp])).trans (if_pos (by simp [hst, hsw]))))
  case heard =>
    exact answers_inService rfl rfl hs ((onMsg_of_takes h _).trans ((if_neg (by simp [hp])).trans (if_pos hw)))
  case rival =>
    exact answers_inService rfl rfl hs ((onMsg_of_takes h _).trans ((if_pos hp).trans (by rw [hm]; rfl)))
  case follow =>
    exact answers_inService rfl rfl hs ((msgFollowUp_eq h hx hw hseq ht hf).trans
      (if_pos (by rcases hlater with h | h <;> simp [h])))
  case servo =>
    exact answers_inService rfl rfl hs ((msgFollowUp_eq h hx hw hseq ht hf).trans (if_neg (by simp [hb, hu, hq])))
  case missed => exact answers_inService rfl rfl hs (beaconMissed_without hw h)
  case pair => exact answers_inService rfl rfl hs (beaconMissed_pair hw hu hp)
  case request => exact answers_inService rfl rfl hs (msgDelayReq_eq h hp hw)
  case release => exact answers_inService rfl rfl hs (delayRelease_eq hw hp hr)
  case response => exact answers_inService rfl rfl hs (msgDelayResp_eq h ho hw hq hid)
  case fires => exact answers_inService rfl (decide_eq_true hm) hs (markFired_eq hm hw hdue)
  case phases => exact answers_inService rfl rfl hs (gridBoundary_eq h)

end Sys2Proof.Machine
end

/-!
The PWM array and the sense path (R80, R172 to R247), and from these the statements O25 to O29.
-/
section
namespace Sys2Proof.Machine

/-! ## The array -/

section
variable {d : Dev} {n s : Nat}

theorem carrierZero_eq (hn : n < 32) (hs : d.setOf n = some s) (hr : d.on (R.CARs_STATUS_RUN s) = true) :
    d.carrierZero n = (d.carrierZeroChan n).stageZero s n := by
  rw [Dev.carrierZero, hs]
  exact if_neg (by simp [hn, hr])

/-- With no injection armed, no check bit reads inverted (R595). -/
theorem takeInj_unarmed (h : d.gut.armed = []) (point index : Nat) : d.takeInj point index = (false, d) :=
  if_neg (by simp [h])

theorem carrierCheck_one (h : idxs 12 (fun s => d.on (R.CARs_STATUS_RUN s)) = [s]) (ha : d.gut.armed = []) (upset : Nat) :
    d.carrierCheck upset = if tbit upset s || decide ((d.pwm.cars.getD s ⟨0⟩).acc ≠ d.carExpected s) then
      (d.set1 R.PWM_FLAGS_CHECK).report 30 s else d := by
  have hinj := takeInj_unarmed ha 3 s
  unfold Dev.carrierCheck
  rw [h]
  simp only [Dev.each, List.foldl_cons, List.foldl_nil, hinj, Bool.bne_false]

theorem holdTimeout_eq (hh : d.on R.PWM_HOLD_HELD = true) (ht : d.pwm.holdTimedOut = false) :
    d.holdTimeout =
      (({ d with pwm := { d.pwm with holdTimedOut := true } }.set1 R.PWM_FLAGS_HOLD_TIMEOUT).report 31).holdEv 31 0 :=
  if_pos (by simp [hh, ht])

theorem transfer_held (hh : d.on R.PWM_HOLD_HELD = true) : d.transfer n = d := if_pos hh

theorem transfer_duty (hh : d.on R.PWM_HOLD_HELD = false) {duty : Nat} (hd : (d.chan n).waitDuty = some duty)
    (hs : (d.chan n).waitShift = none) :
    d.transfer n = (d.modChan n fun c => { c with waitDuty := none, waitShift := none }).dutyNow n duty := by
  unfold Dev.transfer
  dsimp only
  rw [hd, hs]
  exact if_neg (by simp [hh])

end

/-! ## The balls of the channels -/

section
variable {d : Dev} {n : Nat} {r : Role}

theorem ball_booted (hs : Serving d) (hp : d.sup.powered = true) (hx : d.extestDrives = false)
    (hb : d.on R.SYS_STATUS_BOOT_PROF = true) (hr : d.role = some r) (b : Ball) :
    d.ball b = if d.ballUsed r b then d.servedPad r b else .unused := by
  have hm : d.mode ≠ .dark := by
    intro h
    rw [Serving, h] at hs
    exact absurd hs (by decide)
  unfold Dev.ball
  rw [if_neg (by simp [hp]), if_neg hm, if_neg (by simp [hx]), if_neg (by simp [hb]), hr]

/-- In the roles with the PWM array each channel has its pair of balls (R80). -/
theorem servedPad_pwm (hc : r.conv = true) :
    d.servedPad r (.pwmP n) = d.pwmPad n false ∧ d.servedPad r (.pwmN n) = d.pwmPad n true := by
  cases r with
  | rect | stor | tray => exact ⟨rfl, rfl⟩
  | dist | hub => exact absurd hc (by decide)

theorem pwmPad_driven (hb : d.pwm.balls = .safeOrDriven) {x : Bool} (hl : d.chanLevel n = some x) :
    (d.pwmPad n false).drive = (if x then .high else .low)
    ∧ (d.on (R.BANKb_CFG_MODE (n / 8)) = false → (d.pwmPad n true).drive = .low)
    ∧ (d.on (R.BANKb_CFG_MODE (n / 8)) = true → (d.pwmPad n true).drive = (if x then .low else .high)) := by
  unfold Dev.pwmPad
  rw [hb, hl]
  cases d.on (R.BANKb_CFG_MODE (n / 8)) <;> cases x <;> simp

theorem pwmPad_off (hb : d.pwm.balls = .safeOrDriven) (hl : d.chanLevel n = none) :
    (d.pwmPad n false).drive = .off ∧ (d.on (R.BANKb_CFG_MODE (n / 8)) = true → (d.pwmPad n true).drive = .off) := by
  unfold Dev.pwmPad
  rw [hb, hl]
  cases d.on (R.BANKb_CFG_MODE (n / 8)) <;> simp

end

/-- Settles O25. -/
theorem pwmArrayEvents : Obligations.PwmArrayEvents := by
  unfold Obligations.PwmArrayEvents
  refine fun d q hs => ⟨fun n s hn h hr => ?zero, fun upset s hu h ha => ⟨fun hacc hbit => ?same, fun hbad => ?differs⟩,
    fun ht => ?unlock, fun hh ht => ?timeout, fun n hh => transfer_held hh, fun n duty hh hd hsh => transfer_duty hh hd hsh,
    fun n r hn hp hx hb hr => ⟨?hub, fun hc hballs => ?conv⟩⟩
  case zero => exact answers_inService rfl (decide_eq_true hn) hs (carrierZero_eq hn h hr)
  case same =>
    exact answers_inService rfl (decide_eq_true hu) hs ((carrierCheck_one h ha upset).trans (if_neg (by rw [hbit, hacc]; simp)))
  case differs =>
    refine answers_inService rfl (decide_eq_true hu) hs ((carrierCheck_one h ha upset).trans (if_pos ?_))
    rw [Bool.or_eq_true, decide_eq_true_iff]
    exact hbad.symm
  case unlock => exact answers_inService rfl rfl hs (if_pos ht)
  case timeout => exact answers_inService rfl rfl hs (holdTimeout_eq hh ht)
  case hub =>
    rintro rfl
    exact ⟨ball_booted hs hp hx hb hr _, ball_booted hs hp hx hb hr _⟩
  case conv =>
    obtain ⟨hpad, hneg⟩ := servedPad_pwm (d := d) (n := n) hc
    have hP : d.ball (.pwmP n) = d.pwmPad n false := by
      rw [ball_booted hs hp hx hb hr, if_pos (by simp [Dev.ballUsed, hc]), hpad]
    have hN : d.ball (.pwmN n) = d.pwmPad n true := by
      rw [ball_booted hs hp hx hb hr, if_pos (by simp [Dev.ballUsed, hc]), hneg]
    rw [hP, hN]
    exact ⟨fun x hl => pwmPad_driven hballs hl, fun hl => pwmPad_off hballs hl⟩

/-! ## Conversions -/

section
variable {d : Dev} {n : Nat}

/-- A trigger whose source has come to its instant, of an input of a pair that is not doubled (R208, R214, R222). -/
theorem adcTrigger_eq (hn : n < 48) (hdue : d.sourceDue n (d.get (R.AINn_CFG_TSRC n)) (d.get (R.AINn_CFG_TIDX n)) = true)
    {e : Dev} (he : e = d.serve n) (hs : e.sensing = true) (hd : e.doubled (pairOf n) = false) :
    d.adcTrigger n = if !e.refReady then e.bump R.ADC_SKIP_SKIP
      else if e.waits n then (e.set1 R.ADC_FLAGS_OVERRUN).report 69 n
      else (e.modSense fun x => { x with queue := insertBy servedFirst (e.cycles, n) x.queue }).modCore
        (2 * pairOf n + e.nextCore n) fun c => { c with check := none } := by
  subst he
  exact (if_pos hdue).trans (if_neg (by simp [hs, hd, hn]))

theorem converted_eq (hs : d.sensing = true) {k : Conv} {rest : List Conv} (hk : (d.ain n).convs = k :: rest)
    (hlast : k.from_ + 41 ≤ d.cycles) {e : Dev} {code : Nat}
    (he : (d.modAin n fun a => { a with convs := a.convs.drop 1 }).convResult n k = (e, code)) :
    d.converted n = (e.chained (k.from_ + 40) n).ainDelivered n code := by
  have hdone : d.convDone n = some k := by
    rw [Dev.convDone, hk]
    exact if_pos (by simp [hs, hlast])
  rw [Dev.converted, Dev.conversion, hdone, Option.map_some, he]

/-- The result of a check conversion, with no injection armed (R215). -/
theorem checkConversion_eq {c code t : Nat} (hs : d.sensing = true) (ha : d.gut.armed = []) (hc : (d.core c).check = some t)
    (hlast : t + 40 ≤ d.cycles) {e : Dev}
    (he : e = d.modCore c fun k => { k with check := none, checked := some d.turnCount }) :
    d.checkConversion c code =
      if !(decide (code < 8192 - 64) || decide (8192 + 64 < code)) then
        (e.modCore c fun k => { k with checkBad := 0 }).unholdEv 76 c
      else if (e.core c).checkBad = 0 then e.modCore c fun k => { k with checkBad := 1 }
      else ((e.set1 (R.ADC_FLAGS_CORE_CHECK.bit c)).holdEv 76 c).report 76 c := by
  have hinj : e.takeInj 1 c = (false, e) := takeInj_unarmed (by rw [he]; exact ha) 1 c
  unfold Dev.checkConversion
  rw [hc]
  dsimp only
  rw [if_neg (by simp [hs, hlast]), ← he, hinj]
  simp only [Bool.bne_false]

end

/-! ## Calibration -/

section
variable {d : Dev} {c : Nat}

theorem trigRate_disarm (d : Dev) (fuel n : Nat) : d.disarm.trigRate fuel n = d.trigRate fuel n := by
  induction fuel generalizing n with
  | zero => rfl
  | succ fuel ih =>
    unfold Dev.trigRate
    simp only [Dev.disarm_get, ih]
    rfl

theorem pairRate_disarm (d : Dev) (p : Nat) : d.disarm.pairRate p = d.pairRate p := by
  unfold Dev.pairRate
  simp only [trigRate_disarm]
  rfl

/-- CAL is refused while the partner calibrates, and in a regulating mode for a pair that cannot do with one core (R228). -/
theorem calCode_eq (d : Dev) (c : Nat) {partner pair : Nat} (hp : partner = if c % 2 = 0 then c + 1 else c - 1)
    (hpair : pair = c / 2) :
    (d.calBusy partner = true ∨ d.mode.regulating = true ∧
        (d.doubled pair = true ∨ 4000000 * (d.pairRate pair).2 < (d.pairRate pair).1) → d.calCode c = .busyRun)
    ∧ (¬(d.calBusy partner = true ∨ d.mode.regulating = true ∧
        (d.doubled pair = true ∨ 4000000 * (d.pairRate pair).2 < (d.pairRate pair).1)) → d.calCode c = .accepted) := by
  unfold Dev.calCode
  dsimp only
  rw [← hp, ← hpair]
  simp only [rateAtMost, Bool.and_eq_true, Bool.or_eq_true, Bool.not_eq_true', decide_eq_false_iff_not, Nat.not_le]
  constructor
  · rintro (h | h)
    · rw [if_pos h]
    · rw [if_pos h, ite_self]
  · intro h
    obtain ⟨hbusy, hrest⟩ := not_or.mp h
    rw [if_neg hbusy, if_neg hrest]

theorem cal_refused (h : d.calCode c = .busyRun) :
    d.cal c = (d.putCode R.ADC_CAL_RESULT_CODE .busyRun).put R.ADC_CAL_RESULT_CORE c := by
  unfold Dev.cal
  rw [h]
  exact if_neg (by decide)

theorem cal_accepted (h : d.calCode c = .accepted) :
    d.cal c = (((((((d.putCode R.ADC_CAL_RESULT_CODE .accepted).put R.ADC_CAL_RESULT_CORE c).set1
      (R.ADC_STATUS_CAL_BUSY.bit c)).set1 (R.ADC_STATUS_PLAUS_OFF.bit (c / 2))).modCore c fun k =>
        { k with check := none }).modSense fun x => { x with calLast := some c }).clr R.ADC_CAL_RESULT_DONE).clr
          R.ADC_CAL_RESULT_FAIL := by
  unfold Dev.cal
  rw [h]
  exact if_pos rfl

/-- The end of a calibration: DONE and FAIL tell of the last accepted one (R229). -/
theorem calDone_eq (hb : d.calBusy c = true) (hr : d.coreRests c = true) (ok : Bool) (gain : Nat) (offset : Int) {e f : Dev}
    (he : e = d.clr (R.ADC_STATUS_CAL_BUSY.bit c))
    (hf : f = if e.sense.calLast = some c then (e.set1 R.ADC_CAL_RESULT_DONE).putB R.ADC_CAL_RESULT_FAIL (!ok) else e) :
    d.calDone c ok gain offset = if ok then (f.skipPair (c / 2)).modCore c fun k => { k with gain := gain, offset := offset }
      else ((f.skipPair (c / 2)).set1 R.ADC_FLAGS_CAL_FAIL).report 70 c := by
  have hw : f = e.when (e.sense.calLast == some c) fun d =>
      (d.set1 R.ADC_CAL_RESULT_DONE).putB R.ADC_CAL_RESULT_FAIL (!ok) := by
    rw [hf, Dev.when]
    simp only [beq_iff_eq]
  unfold Dev.calDone
  rw [if_neg (by simp [hb, hr]), ← he, hw]

end

/-- Settles O26. -/
theorem conversionsAreDelivered : Obligations.ConversionsAreDelivered := by
  unfold Obligations.ConversionsAreDelivered
  refine fun d q hs => ⟨fun n hn hdue => ⟨fun hse hd hr => ?skipped, fun hse hd hr => ⟨fun hw => ?queued, fun hw => ?overrun⟩⟩,
    fun n k rest e code hn hse hk hlast he => ?complete,
    fun c code t hc hcode hse ha hck hlast e he => ⟨fun hlo hhi => ?good, fun hfar h0 => ?first, fun hfar h0 => ?second⟩,
    fun c partner pair hc hr hp hpair => ⟨fun h => ?refused, fun h => ?accepted⟩,
    fun c gain offset hc hg hb hr e f he hf => ?passes, fun c gain offset hc hg hb hr e f he hf => ?fails⟩
  case skipped =>
    exact answers_inService rfl (decide_eq_true hn) hs ((adcTrigger_eq hn hdue rfl hse hd).trans (if_pos (by simp [hr])))
  case queued =>
    exact answers_inService rfl (decide_eq_true hn) hs ((adcTrigger_eq hn hdue rfl hse hd).trans
      ((if_neg (by simp [hr])).trans (if_neg (by simp [hw]))))
  case overrun =>
    exact answers_inService rfl (decide_eq_true hn) hs ((adcTrigger_eq hn hdue rfl hse hd).trans
      ((if_neg (by simp [hr])).trans (if_pos hw)))
  case complete => exact answers_inService rfl (decide_eq_true hn) hs (converted_eq hse hk hlast he)
  case good =>
    exact answers_inService rfl (decide_eq_true ⟨hc, hcode⟩) hs ((checkConversion_eq hse ha hck hlast he).trans
      (if_pos (by simp; omega)))
  case first =>
    exact answers_inService rfl (decide_eq_true ⟨hc, hcode⟩) hs ((checkConversion_eq hse ha hck hlast he).trans
      ((if_neg (by simp; omega)).trans (if_pos h0)))
  case second =>
    exact answers_inService rfl (decide_eq_true ⟨hc, hcode⟩) hs ((checkConversion_eq hse ha hck hlast he).trans
      ((if_neg (by simp; omega)).trans (if_neg h0)))
  case refused =>
    exact answers_byRegister rfl (decide_eq_true hc) hr (cal_refused ((calCode_eq d.disarm c hp hpair).1
      (by rw [pairRate_disarm]; exact h)))
  case accepted =>
    exact answers_byRegister rfl (decide_eq_true hc) hr (cal_accepted ((calCode_eq d.disarm c hp hpair).2
      (by rw [pairRate_disarm]; exact h)))
  case passes => exact answers_inService rfl (decide_eq_true ⟨hc, hg⟩) hs (calDone_eq hb hr true gain offset he hf)
  case fails => exact answers_inService rfl (decide_eq_true ⟨hc, hg⟩) hs (calDone_eq hb hr false gain offset he hf)

/-! ## The reference -/

/-- The counts of a comparison of the reference, and the time since which it is not ready (R223). -/
def Dev.refCounts (d : Dev) (bad good : Nat) (since : Option Nat) : Dev :=
  (d.serve refServed).modSense fun x => { x with refBad := bad, refGood := good, refSince := since }

section
variable {d : Dev}

theorem refDue_of (hs : d.sensing = true) (hn : d.cyc.reedNew = true) (h : d.reed % 64 = 0)
    (hserved : d.cyc.served.contains refServed = false) : d.refDue = true := by
  rw [Dev.refDue, hs, hn, decide_eq_true h, hserved]
  rfl

/-- A comparison that deviates: the sixteenth in a row, or one of a reference that is late, declares it faulty. -/
theorem refCheck_far (hd : d.refDue = true) : d.refCheck true =
    let e := d.refCounts (min 16 (d.sense.refBad + 1)) 0 (if d.refLate then none else d.sense.refSince)
    if (min 16 (d.sense.refBad + 1) = 16 ∧ d.sense.refBad ≠ 16) ∨ d.refLate = true then e.refFault else e := by
  unfold Dev.refCheck
  rw [if_neg (by simp [hd])]
  rfl

/-- A comparison that agrees: sixteen in a row end the fault of a reference that is ready. -/
theorem refCheck_near (hd : d.refDue = true) : d.refCheck false =
    let e := (d.refCounts 0 (min 16 (d.sense.refGood + 1)) (if d.refLate then none else d.sense.refSince)).when
      (min 16 (d.sense.refGood + 1) == 16 && d.refReady) fun d => d.unholdEv 68 0
    if d.refLate = true then e.refFault else e := by
  have hbad : ((0 = 16 ∧ d.sense.refBad ≠ 16) ∨ d.refLate = true) ↔ d.refLate = true := by simp
  unfold Dev.refCheck
  rw [if_neg (by simp [hd])]
  exact if_congr hbad rfl rfl

theorem refLate_of_due {t : Nat} (hr : d.refReady = false) (hsince : d.sense.refSince = some t)
    (ht : t + 200000 ≤ d.cycles) : d.refLate = true := by
  simp [Dev.refLate, hr, hsince, ht]

theorem refLate_of_not (h : d.refReady = true ∨ ∀ t, d.sense.refSince = some t → d.cycles < t + 200000) :
    d.refLate = false := by
  rcases h with hr | h
  · simp [Dev.refLate, hr]
  · cases hsince : d.sense.refSince with
    | none => simp [Dev.refLate, hsince]
    | some t => simp [Dev.refLate, hsince, h t hsince]

end

/-- Settles O27. -/
theorem referenceIsSupervised : Obligations.ReferenceIsSupervised := by
  unfold Obligations.ReferenceIsSupervised
  refine fun d q hs hse => ⟨?settled, fun hn h64 hserved => ⟨fun hin => ?inTime, fun t hr hsince ht => ?late⟩⟩
  case settled => exact answers_inService rfl rfl hs (if_pos hse)
  case inTime =>
    have hd := refDue_of hse hn h64 hserved
    have hlate := refLate_of_not hin
    have hfar := refCheck_far hd
    have hnear := refCheck_near hd
    rw [hlate] at hfar hnear
    refine ⟨fun hb => ?grows, fun hb => ?sixteenth, fun hb => ?stays, fun hg => ?few, fun hg hr => ?ends⟩
    case grows =>
      rw [show min 16 (d.sense.refBad + 1) = d.sense.refBad + 1 by omega] at hfar
      exact answers_inService rfl rfl hs (hfar.trans (if_neg (by simp; omega)))
    case sixteenth =>
      rw [hb] at hfar
      exact answers_inService rfl rfl hs (hfar.trans (if_pos (by decide)))
    case stays =>
      rw [hb] at hfar
      exact answers_inService rfl rfl hs (hfar.trans (if_neg (by decide)))
    case few =>
      have hno : (min 16 (d.sense.refGood + 1) == 16 && d.refReady) = false := by
        rcases hg with hg | hr
        · simp; omega
        · rw [hr, Bool.and_false]
      rw [hno] at hnear
      exact answers_inService rfl rfl hs hnear
    case ends =>
      rw [show min 16 (d.sense.refGood + 1) = 16 by omega, hr] at hnear
      exact answers_inService rfl rfl hs hnear
  case late =>
    have hd := refDue_of hse hn h64 hserved
    have hlate := refLate_of_due hr hsince ht
    have hfar := refCheck_far hd
    have hnear := refCheck_near hd
    rw [hlate] at hfar hnear
    rw [hr, Bool.and_false] at hnear
    exact ⟨answers_inService rfl rfl hs (hfar.trans (if_pos (.inr rfl))), answers_inService rfl rfl hs hnear⟩

/-! ## Comparators -/

section
variable {d : Dev} {c : Nat}

theorem tripped_eq (hc : c < 24) (hs : d.sensing = true) (hen : d.on (R.CMPc_CFG_EN c) = true) (hraw : (d.cmp c).raw = true)
    (hpast : (d.cmp c).past = false) (hheld : d.get (R.CMPc_CFG_FILT c) < (d.cmp c).held) :
    d.tripped c = (d.cmpTrip c).cmpRoute c :=
  if_pos (by simp [Dev.cmpDue, hc, hs, hen, hraw, hpast, hheld])

theorem released_eq (hc : c < 24) (hs : d.sensing = true) (hraw : (d.cmp c).raw = false) (hpast : (d.cmp c).past = true)
    (hheld : d.get (R.CMPc_CFG_FILT c) < (d.cmp c).held) :
    d.released c = (d.modCmp c fun k => { k with past := false, held := 0 }).putB (R.CMPc_STATUS_OUT c)
      (d.on (R.CMPc_CFG_EN c) && !d.refReady) :=
  if_pos (by simp [Dev.cmpDue, hc, hs, hraw, hpast, hheld])

theorem dacUpset_eq (hc : c < 24) (hs : d.sensing = true) {bits : Nat} (hb : bits < 1024) {e : Dev}
    (he : e = d.modCmp c fun k => { k with dup := k.dup ^^^ bits }) {f : Dev} {differs inj : Bool}
    (h : e.dacDiffers c = (f, differs, inj)) :
    d.dacUpset c bits = if differs then (f.dacError c inj).when (!(e.cmp c).forced) fun d => d.cmpRoute c else f := by
  unfold Dev.dacUpset
  rw [if_pos (by simp [hc, hs]), Nat.mod_eq_of_lt hb, ← he, Dev.dacCheck, h]

theorem cmpTest_eq (hc : c < 24) (hm : d.mode.regulating = false) (ht : d.sense.testing = none) :
    d.cmpTest c = { (((d.putCode R.CMP_TEST_RES_CODE .accepted).clr R.CMP_TEST_RES_DONE).clr R.CMP_TEST_RES_FAIL) with
      sense := { d.sense with testing := some c, sweep := 0, sweepBase := none, sweepFlip := none } } := by
  have hcode : (if d.mode.regulating then Code.busyRun else if 24 ≤ c then .badProfile
      else if d.sense.testing.isSome then .busyRun else .accepted) = .accepted := by
    rw [if_neg (by simp [hm]), if_neg (Nat.not_le.mpr hc), if_neg (by simp [ht])]
  unfold Dev.cmpTest
  rw [hcode]
  exact if_pos rfl

theorem cmpTestDone_eq (ht : d.sense.testing = some c) (hsw : 1023 ≤ d.sense.sweep) {flip adc : Nat}
    (hf : d.sense.sweepFlip = some (flip, adc)) :
    d.cmpTestDone = (((d.set1 R.CMP_TEST_RES_DONE).putB R.CMP_TEST_RES_FAIL
      (decide (8 < ((flip : Int) - adc).natAbs))).put R.CMP_TEST_RES_FLIP flip).modSense fun x =>
        { x with testing := none } := by
  have hflip : d.flipOf c = (flip, adc) := by rw [Dev.flipOf, hf, Option.getD_some]
  unfold Dev.cmpTestDone
  rw [ht]
  dsimp only
  rw [if_neg (Nat.not_lt.mpr hsw), hflip]

/-- A trip inside the block, without its event. -/
theorem get_cmpTrip (d : Dev) (c : Nat) (f : Fld) :
    (d.cmpTrip c).get f = (((d.set1 (R.CMPc_STATUS_OUT c)).set1 (R.CMPc_STATUS_TRIP c)).bump (R.CMPc_STATUS_COUNT c)).get f := by
  unfold Dev.cmpTrip Dev.when
  dsimp only
  split <;> rfl

theorem cmpTrip_shows (d : Dev) (c : Nat) : (d.cmpTrip c).on (R.CMPc_STATUS_OUT c) = true
    ∧ (d.cmpTrip c).on (R.CMPc_STATUS_TRIP c) = true
    ∧ (d.cmpTrip c).get (R.CMPc_STATUS_COUNT c) = min (d.get (R.CMPc_STATUS_COUNT c) + 1) (2 ^ (R.CMPc_STATUS_COUNT c).w - 1) := by
  have hOut : (R.CMPc_STATUS_OUT c).lo + (R.CMPc_STATUS_OUT c).w ≤ 32 := (by decide : 0 + 1 ≤ 32)
  have hTrip : (R.CMPc_STATUS_TRIP c).lo + (R.CMPc_STATUS_TRIP c).w ≤ 32 := (by decide : 1 + 1 ≤ 32)
  have hCount : (R.CMPc_STATUS_COUNT c).lo + (R.CMPc_STATUS_COUNT c).w ≤ 32 := (by decide : 16 + 16 ≤ 32)
  have below (e : Dev) (f : Fld) (hf : f.lo + f.w ≤ 16) : (e.bump (R.CMPc_STATUS_COUNT c)).get f = e.get f :=
    get_put_below _ (R.CMPc_STATUS_COUNT c) f _ hCount hf
  refine ⟨?out, ?trip, ?count⟩
  case out =>
    rw [Dev.on, get_cmpTrip, below _ _ (by decide : 0 + 1 ≤ 16), Dev.set1, get_put_below _ _ _ _ hTrip (by decide : 0 + 1 ≤ 1)]
    exact on_set1_same d (R.CMPc_STATUS_OUT c) rfl hOut
  case trip =>
    rw [Dev.on, get_cmpTrip, below _ _ (by decide : 1 + 1 ≤ 16)]
    exact on_set1_same _ (R.CMPc_STATUS_TRIP c) rfl hTrip
  case count =>
    have hkept : ((d.set1 (R.CMPc_STATUS_OUT c)).set1 (R.CMPc_STATUS_TRIP c)).get (R.CMPc_STATUS_COUNT c)
        = d.get (R.CMPc_STATUS_COUNT c) :=
      (get_put_above _ (R.CMPc_STATUS_TRIP c) (R.CMPc_STATUS_COUNT c) 1 hTrip (by decide : 1 + 1 ≤ 16)).trans
        (get_put_above _ (R.CMPc_STATUS_OUT c) (R.CMPc_STATUS_COUNT c) 1 hOut (by decide : 0 + 1 ≤ 16))
    rw [get_cmpTrip, Dev.bump, get_put_same _ _ _ hCount, hkept]
    exact Nat.mod_eq_of_lt (Nat.lt_of_le_of_lt (Nat.min_le_right _ _) (by decide : 2 ^ 16 - 1 < 2 ^ 16))

end

/-- Settles O28. -/
theorem comparatorsTripAndRelease : Obligations.ComparatorsTripAndRelease := by
  unfold Obligations.ComparatorsTripAndRelease
  refine fun d q hs => ⟨fun c hc hse hen hraw hpast hheld => ?trip, fun c _ => ?shows, fun c hc hse hraw hpast hheld => ?release,
    fun c bits hc hb hse e he => ⟨fun f inj h => ⟨fun hf => ?error, fun hf => ?forced⟩, fun f inj h => ?agrees⟩,
    fun c hc hr hm ht => ?test, fun c flip adc ht hsw hf => ?done⟩
  case trip => exact answers_inService rfl (decide_eq_true hc) hs (tripped_eq hc hse hen hraw hpast hheld)
  case shows =>
    obtain ⟨hout, htrip, hcount⟩ := cmpTrip_shows d c
    exact ⟨hout, htrip, hcount, fun h => if_pos (by rw [h]; rfl)⟩
  case release => exact answers_inService rfl (decide_eq_true hc) hs (released_eq hc hse hraw hpast hheld)
  case error =>
    exact answers_inService rfl (decide_eq_true ⟨hc, hb⟩) hs ((dacUpset_eq hc hse hb he h).trans (by rw [hf]; rfl))
  case forced =>
    exact answers_inService rfl (decide_eq_true ⟨hc, hb⟩) hs ((dacUpset_eq hc hse hb he h).trans (by rw [hf]; rfl))
  case agrees => exact answers_inService rfl (decide_eq_true ⟨hc, hb⟩) hs (dacUpset_eq hc hse hb he h)
  case test =>
    exact answers_byRegister rfl (decide_eq_true (Nat.lt_trans hc (by decide))) hr (cmpTest_eq (d := d.disarm) hc hm ht)
  case done => exact answers_inService rfl rfl hs (cmpTestDone_eq ht hsw hf)

/-! ## Demodulators -/

theorem toSigned_ofSigned (w : Nat) (hw : 0 < w) {v : Int} (hlo : -(2 ^ (w - 1) : Nat) ≤ v) (hhi : v < (2 ^ (w - 1) : Nat)) :
    toSigned w (ofSigned w v % 2 ^ w) = v := by
  have hpow : 2 ^ w = 2 ^ (w - 1) + 2 ^ (w - 1) := by
    rw [← Nat.two_mul, ← Nat.pow_succ']
    congr 1
    omega
  unfold toSigned ofSigned
  generalize 2 ^ (w - 1) = h at hpow hlo hhi
  rw [hpow, Nat.mod_mod]
  dsimp only
  have hpos : 0 ≤ v % ((h + h : Nat) : Int) := Int.emod_nonneg _ (by omega)
  have hlt : v % ((h + h : Nat) : Int) < ((h + h : Nat) : Int) := Int.emod_lt_of_pos _ (by omega)
  have hval : v % ((h + h : Nat) : Int) = if 0 ≤ v then v else v + (h + h : Nat) := by
    split
    · exact Int.emod_eq_of_lt ‹_› (by omega)
    · rw [← Int.add_emod_right]
      exact Int.emod_eq_of_lt (by omega) (by omega)
  rw [Nat.mod_eq_of_lt (by omega), hval]
  split <;> split <;> omega

theorem sdmResult_range (y : Int) (osr : Nat) : -131071 ≤ sdmResult y osr ∧ sdmResult y osr ≤ 131071 := by
  unfold sdmResult
  split
  · decide
  · unfold clampI
    split
    · decide
    · split
      · decide
      · omega

section
variable {d : Dev} {n : Nat}

theorem sdmDelivered_eq (hn : n < 8) (hs : d.sensing = true) (hen : d.on (R.SDn_CFG_EN n) = true)
    (hdue : d.sourceDue (64 + n) (d.get (R.SDn_TRIG_TSRC n)) (d.get (R.SDn_TRIG_TIDX n)) = true) :
    d.sdmDelivered n = (d.serve (64 + n)).sdmReport n := if_pos (by simp [hn, hs, hen, hdue])

/-- A result at which no window exits goes to the stages (R207, R237). -/
theorem sdmReport_eq {e : Dev} {x : Int} (he : e = (d.sdmInstant n).1.delivered (64 + n)) (hx : x = (d.sdmInstant n).2)
    (hw : e.windowResult (64 + n) x = (e, [])) :
    d.sdmReport n = e.each (List.range 12) fun d s => d.stageResult s (64 + n) (e.inputCode (64 + n)) := by
  unfold Dev.sdmReport
  cases hp : d.sdmInstant n with
  | mk e' x' =>
    rw [hp] at he hx
    dsimp only at he hx ⊢
    rw [← he, ← hx, hw]
    rfl

theorem sdmInstant_result (hl : (d.sdm n).lost = false) :
    (d.sdmInstant n).1.getS (R.SDn_RES_RESULT n) = sdmResult (d.sinc n) (d.get (R.SDn_CFG_OSR n)) := by
  obtain ⟨hlo, hhi⟩ := sdmResult_range (d.sinc n) (d.get (R.SDn_CFG_OSR n))
  have haddr : R.SDM_FLAGS_OVR.addr < (R.SDn_RES_RESULT n).addr := by
    show 0x2C04 < 0x2C4C + n * 0x10
    omega
  have hkept : (d.sdmInstant n).1.getS (R.SDn_RES_RESULT n) =
      (d.putS (R.SDn_RES_RESULT n) (sdmResult (d.sinc n) (d.get (R.SDn_CFG_OSR n)))).getS (R.SDn_RES_RESULT n) := by
    unfold Dev.sdmInstant Dev.when
    simp only [hl, Bool.false_eq_true, if_false]
    split
    · exact congrArg (toSigned 18) (get_put_addr _ (R.SDM_FLAGS_OVR.bit n) (R.SDn_RES_RESULT n) 1 (Nat.ne_of_gt haddr))
    · rfl
  rw [hkept, Dev.getS, Dev.putS, get_put_same _ _ _ (by decide : 0 + 18 ≤ 32)]
  exact toSigned_ofSigned 18 (by decide) (by omega) (by omega)

end

section
variable {d : Dev} {n : Nat}

theorem sdmLoss_eq (hs : d.sensing = true) (hen : d.on (R.SDn_CFG_EN n) = true)
    (hnew : (d.sdm n).lost = false ∨ (d.sdm n).clocks.isSome = true) (hsame : 128 ≤ (d.sdm n).same) :
    d.sdmLoss n = ((((d.set1 (R.SDM_FLAGS_LOSS.bit n)).clr (R.SDn_RES_VALID n)).modSdm n fun s =>
      { s with lost := true, clocks := none }).holdEv 72 n).report 72 n := by
  have hlost : ((d.sdm n).lost && (d.sdm n).clocks.isNone) = false := by
    rcases hnew with h | h
    · rw [h, Bool.false_and]
    · rw [← Option.not_isSome, h, Bool.not_true, Bool.and_false]
  exact if_neg (by rw [hlost, hs, hen, decide_eq_false (Nat.not_lt.mpr hsame)]; decide)

theorem sdmValid_eq (hs : d.sensing = true) (hen : d.on (R.SDn_CFG_EN n) = true) {k : Nat} (hk : (d.sdm n).clocks = some k)
    (hlast : 3 * d.get (R.SDn_CFG_OSR n) ≤ k) :
    d.sdmValid n = ((d.set1 (R.SDn_RES_VALID n)).modSdm n fun s => { s with lost := false }).unholdEv 72 n := by
  unfold Dev.sdmValid
  rw [if_neg (by simp [hs, hen]), hk]
  exact if_neg (Nat.not_lt.mpr hlast)

end

/-- Settles O29. -/
theorem demodulatorsDeliver : Obligations.DemodulatorsDeliver := by
  unfold Obligations.DemodulatorsDeliver
  refine fun d q n hs hn hse hen => ⟨fun hdue e x he hx hw => ?result, sdmInstant_result, fun hnew hsame => ?loss,
    fun k hk hlast => ?valid⟩
  case result =>
    exact answers_inService rfl (decide_eq_true hn) hs ((sdmDelivered_eq hn hse hen hdue).trans (sdmReport_eq he hx hw))
  case loss => exact answers_inService rfl (decide_eq_true hn) hs (sdmLoss_eq hse hen hnew hsame)
  case valid => exact answers_inService rfl (decide_eq_true hn) hs (sdmValid_eq hse hen hk hlast)

end Sys2Proof.Machine
end

/-!
Updates, the loop's writes and the twin logic (R252 to R364), and from these the statements O30, O32, O33 and O34.
-/
section
namespace Sys2Proof.Machine

/-! ## Updates -/

section
variable {d : Dev} {s : Nat}

/-- An update that becomes ready latches its instant and takes its place among those that wait (R261, R264). -/
theorem updateReady_eq (hu : d.updates s = true) (hw : d.waitMet s = true) (hst : d.struct s ≠ stOff) {e f : Dev}
    (he : e = d.modLoop s fun l => { l with
      seen := 0, gridReed := d.gridAngle.toNat % 65536, readyAt := d.total, readyCycle := d.cycles })
    (hf : f = { e with rafter := { e.rafter with
      ready := insertBy e.startsFirst s (d.rafter.ready.filter fun x => x != s) } }) :
    d.updateReady s = if d.rafter.ready.contains s && f.engineReports then
      ((f.set1 (R.STAGEs_LOOP_FLAGS_OVERRUN s)).set1 R.RAFTER_FLAGS_OVR_EV).report 26 s else f := by
  unfold Dev.updateReady
  rw [if_neg (by simp [hu, hw, hst]), hf, he]
  rfl

/-- An update of this cycle starts after all that have been ready in earlier ones. -/
theorem insertBy_startsFirst (hs : (d.loop s).readyCycle = d.cycles) (l : List Nat)
    (h : ∀ t ∈ l, (d.loop t).readyCycle < d.cycles) : insertBy d.startsFirst s l = l ++ [s] := by
  induction l with
  | nil => rfl
  | cons t l ih =>
    have hlt : (d.loop t).readyCycle < d.cycles := h t (by simp)
    have hlater : d.startsFirst s t = false := by
      simp only [Dev.startsFirst, hs, Bool.or_eq_false_iff, Bool.and_eq_false_iff, decide_eq_false_iff_not, beq_eq_false_iff_ne]
      omega
    rw [insertBy, hlater, if_neg Bool.false_ne_true, ih fun t ht => h t (by simp [ht]), List.cons_append]

/-- The engine takes the update that has been ready longest; none of its results overflows the accumulator (R264, R266). -/
theorem rafterUpdate_eq {rest : List Nat} (hr : d.rafter.ready = s :: rest) {e : Dev}
    (he : e = { d with rafter := { d.rafter with ready := rest } })
    (hrun : e.activeEngine.isSome = true ∨ (e.engineIn enTakeover).isSome = true) (hu : e.updates s = true) {g : Dev}
    {us : List Bf} (hg : e.engineInjections.runUpdate s = (g, us, false)) :
    d.rafterUpdate = ((g.sendOutputs s us).showCref s).stageAfterUpdate s := by
  have hsome : (e.activeEngine.isNone && (e.engineIn enTakeover).isNone) = false := by
    rcases hrun with h | h <;> rw [← Option.not_isSome, ← Option.not_isSome, h] <;> simp
  unfold Dev.rafterUpdate
  rw [hr]
  dsimp only
  rw [← he, if_neg (by simp [hsome, hu]), hg]
  dsimp only
  cases g.activeEngine.or (g.engineIn enTakeover) <;> rfl

theorem rafterRan_eq {rest : List Nat} (hr : d.rafter.ready = s :: rest) {h : Dev} (hh : d.rafterUpdate = h) :
    d.rafterRan = if h.isRole .rect && h.kind s == kDab && h.ssIn s [ssSoft, ssRun, ssSleep] then
      h.powerSample s ((h.scaled s 0 Sat.none).1.val.mul (h.scaled s 1 Sat.none).1.val) else h := by
  unfold Dev.rafterRan
  rw [hr]
  dsimp only
  rw [hh]

end

/-- Settles O30. -/
theorem updatesRunInOrderOfReadiness : Obligations.UpdatesRunInOrderOfReadiness := by
  unfold Obligations.UpdatesRunInOrderOfReadiness
  refine fun d q hs => ⟨fun s h12 hu hw hst => ⟨fun h => ?ready, fun hin hrep => ?overrun⟩,
    fun s l _ hs h => insertBy_startsFirst hs l h,
    fun s rest hr hrun hu g us hg => ⟨fun hrole => ?plain, fun hrole hk hin => ?sampled⟩⟩
  case ready =>
    refine answers_inService rfl (decide_eq_true h12) hs ((updateReady_eq hu hw hst rfl rfl).trans (if_neg ?_))
    rcases h with h | h
    · simp [h]
    · rw [h, Bool.and_false]; decide
  case overrun =>
    refine answers_inService rfl (decide_eq_true h12) hs ((updateReady_eq hu hw hst rfl rfl).trans (if_pos ?_))
    rw [hrep, Bool.and_true, List.contains_iff_mem]
    exact hin
  case plain =>
    have heq := rafterRan_eq hr (rafterUpdate_eq hr rfl hrun hu hg)
    rw [if_neg (by rw [hrole]; simp)] at heq
    exact answers_inService rfl rfl hs heq
  case sampled =>
    have heq := rafterRan_eq hr (rafterUpdate_eq hr rfl hrun hu hg)
    rw [if_pos (by rw [hrole, hk, hin]; rfl)] at heq
    exact answers_inService rfl rfl hs heq

/-! ## Failed checks -/

theorem each_keeps_mem {α β : Type} (p : Dev → β) (f : Dev → α → Dev) (l : List α) (h : ∀ x ∈ l, ∀ d, p (f d x) = p d)
    (d : Dev) : p (d.each l f) = p d := by
  induction l generalizing d with
  | nil => rfl
  | cons x l ih => exact (ih (fun y hy => h y (List.mem_cons_of_mem x hy)) (f d x)).trans (h x List.mem_cons_self d)

theorem when_keeps {β : Type} (p : Dev → β) {f : Dev → Dev} {d : Dev} (h : p (f d) = p d) (b : Bool) : p (d.when b f) = p d := by
  cases b
  · rfl
  · exact h

/-- The flags of saturation write the flag registers of their stage and of Rafter alone. -/
theorem satFlags_keeps {β : Type} (p : Dev → β) (s : Nat)
    (hset : ∀ d f, f.addr = A.RAFTER_FLAGS ∨ f.addr = A.STAGEs_LOOP_FLAGS s → p (d.set1 f) = p d)
    (hrep : ∀ d : Dev, p (d.report 25 s) = p d) (d : Dev) (f : Sat) (o r st : Bool) : p (d.satFlags s f o r st) = p d := by
  unfold Dev.satFlags
  split
  · rfl
  · dsimp only
    refine (when_keeps p ((hrep _).trans (hset _ _ (.inl rfl))) _).trans (each_keeps_mem p _ _ (fun x hx d => ?_) d)
    refine when_keeps p (hset d x.2 (.inr ?_)) x.1
    simp only [List.mem_cons, List.not_mem_nil, or_false] at hx
    rcases hx with rfl | rfl | rfl | rfl | rfl | rfl <;> rfl

theorem get_set1_addr (d : Dev) (f g : Fld) (h : g.addr ≠ f.addr) : (d.set1 f).get g = d.get g := get_put_addr _ f g 1 h

theorem satFlags_en (d : Dev) (s : Nat) (f : Sat) (o r st b : Bool) : (d.satFlags s f o r st).en b = d.en b := by
  have hne : ∀ f : Fld, f.addr = A.RAFTER_FLAGS ∨ f.addr = A.STAGEs_LOOP_FLAGS s → A.RAFTER_TWIN_STATUS ≠ f.addr := by
    have hflags : A.STAGEs_LOOP_FLAGS s = 0x10BC + s * 0x100 := rfl
    rintro f (h | h)
    · rw [h]; decide
    · have hstatus : A.RAFTER_TWIN_STATUS = 0x840 := rfl
      omega
  refine satFlags_keeps (fun d => d.en b) s (fun d f hf => ?_) (fun _ => rfl) d f o r st
  cases b
  · exact get_set1_addr d f R.RAFTER_TWIN_STATUS_ST_A (hne f hf)
  · exact get_set1_addr d f R.RAFTER_TWIN_STATUS_ST_B (hne f hf)

theorem satFlags_checked (d : Dev) (s : Nat) (f : Sat) (o r st b : Bool) :
    (d.satFlags s f o r st).checked b = d.checked b := by
  have hsup : (d.satFlags s f o r st).sup = d.sup := satFlags_keeps (fun d => d.sup) s (fun _ _ _ => rfl) (fun _ => rfl) d f o r st
  rw [Dev.checked, Dev.checked, Dev.engineRuns, Dev.engineRuns, satFlags_en, hsup]

theorem setEn_twin (d : Dev) (b : Bool) (st : Nat) : (d.setEn b st).twin = d.twin := by
  cases b <;> rfl

section
variable {d : Dev} {b : Bool} {c : Nat}

/-- An ACTIVE engine hands over to a standby that is SYNCED or in TAKEOVER, or the array is lost (R354, R357). -/
theorem engineFails_active (hc : d.checked b = true) (ha : d.en b = enActive) {e f : Dev}
    (he : e = ((d.cause b c).setEn b enFailed).dropWaiting)
    (hf : f = if e.twin.holdFor = .swap then e.set1 R.RAFTER_TWIN_CMD_RES_DONE else e) :
    d.engineFails b c = if f.en (!b) == enSynced || f.en (!b) == enTakeover then
      ((f.setEn (!b) enTakeover).beginHold .switchover true).evSwitch (!b) else f.twinLost := by
  have hcause : ¬(d.en b = enTakeover ∧ d.twin.holdFor = .swap) := fun h => absurd (ha.symm.trans h.1) (by decide)
  have hh : e.twin = (d.cause b c).twin := by
    rw [he]
    exact (each_keeps (fun d => d.twin) _ (by intros; rfl) _ _).trans (setEn_twin _ b enFailed)
  have hw : f = e.when ((d.cause b c).twin.holdFor == .swap) fun d => d.set1 R.RAFTER_TWIN_CMD_RES_DONE := by
    rw [hf, hh, Dev.when]
    simp only [beq_iff_eq]
  unfold Dev.engineFails
  rw [if_neg (by simp [hc])]
  dsimp only
  rw [if_neg hcause, if_pos ha, hw, he]

theorem engineFails_takeover (hc : d.checked b = true) (ht : d.en b = enTakeover) :
    (d.twin.holdFor = .swap → d.engineFails b c = (d.cause b caKat).swapFails b)
    ∧ (d.twin.holdFor ≠ .swap → ∀ e, e = ((d.cause b c).setEn b enFailed).evStandby b →
      (d.twin.holdFor = .arbitration → d.engineFails b c = { e with twin := { e.twin with standbyBad := true } })
      ∧ (d.twin.holdFor ≠ .arbitration → d.engineFails b c = e.twinLost)) := by
  have hna : ¬d.en b = enActive := by rw [ht]; decide
  unfold Dev.engineFails
  rw [if_neg (by simp [hc])]
  dsimp only
  rw [if_neg hna, if_pos ht]
  refine ⟨fun hswap => ?_, fun hswap e he => ?_⟩
  · have hh (x : Nat) : (d.cause b x).twin.holdFor = .swap := hswap
    rw [if_pos ⟨ht, hswap⟩, hh]
  · have hh (x : Nat) : (d.cause b x).twin.holdFor = d.twin.holdFor := rfl
    rw [if_neg fun h => hswap h.2, hh, he]
    refine ⟨fun harb => by rw [harb], fun harb => ?_⟩
    cases h : d.twin.holdFor with
    | swap => exact absurd h hswap
    | arbitration => exact absurd h harb
    | none | switchover | lost => rfl

theorem engineFails_standby (hc : d.checked b = true) (hs : d.en b = enSynced ∨ d.en b = enResync) :
    d.engineFails b c = ((d.cause b c).setEn b enFailed).evStandby b := by
  have hna : ¬d.en b = enActive := by rcases hs with h | h <;> rw [h] <;> decide
  have hnt : ¬d.en b = enTakeover := by rcases hs with h | h <;> rw [h] <;> decide
  unfold Dev.engineFails
  rw [if_neg (by simp [hc])]
  dsimp only
  rw [if_neg hna, if_neg hnt, if_neg fun h => hnt h.1]

/-- Where the check is not ACC, or its engine is not the active one, no stage's flag sets. -/
theorem checkFails_of_not_acc (h : ¬(c = caAcc ∧ d.en b = enActive)) : d.checkFails b c = d.engineFails b c := by
  have hacc : (c == caAcc && d.en b == enActive && d.checked b) = false := by
    rw [Bool.and_eq_false_iff, Bool.and_eq_false_iff, beq_eq_false_iff_ne, beq_eq_false_iff_ne]
    exact .inl (not_and_or.mp h)
  unfold Dev.checkFails
  rw [hacc]
  rfl

/-- The part on which an ACTIVE engine fails: where the check is ACC, the flag of a stage has set before (R280, R364). -/
theorem checkFails_active (hc : d.checked b = true) (ha : d.en b = enActive) : ∃ base : Dev,
    ((c ≠ caAcc ∨ d.loopStages = []) ∧ base = d
      ∨ c = caAcc ∧ ∃ s ∈ d.loopStages, base = d.satFlags s ⟨false, true, false⟩ false false false)
    ∧ base.checked b = true ∧ base.en b = enActive ∧ d.checkFails b c = base.engineFails b c := by
  by_cases hacc : c = caAcc
  case neg => exact ⟨d, .inl ⟨.inl hacc, rfl⟩, hc, ha, checkFails_of_not_acc fun h => hacc h.1⟩
  case pos =>
    have hcond : (c == caAcc && d.en b == enActive && d.checked b) = true := by rw [hacc, ha, hc]; rfl
    have heq : d.checkFails b c = (d.loopStages[Config.free .accStage [d.cycles] % d.loopStages.length]?.elim d fun s =>
        d.satFlags s ⟨false, true, false⟩ false false false).engineFails b c := by
      unfold Dev.checkFails
      rw [hcond]
      rfl
    cases hl : d.loopStages[Config.free .accStage [d.cycles] % d.loopStages.length]? with
    | none =>
      have hempty : d.loopStages = [] := by
        by_contra hne
        have hpos := List.length_pos_of_ne_nil hne
        exact absurd (Nat.mod_lt _ hpos) (Nat.not_lt.mpr (List.getElem?_eq_none_iff.mp hl))
      rw [hl] at heq
      exact ⟨d, .inl ⟨.inr hempty, rfl⟩, hc, ha, heq⟩
    | some s =>
      rw [hl] at heq
      exact ⟨_, .inr ⟨hacc, s, List.mem_of_getElem? hl, rfl⟩, (satFlags_checked d s _ _ _ _ b).trans hc,
        (satFlags_en d s _ _ _ _ b).trans ha, heq⟩

end

/-- Settles O32. -/
theorem engineFailuresSwitchOrLose : Obligations.EngineFailuresSwitchOrLose := by
  unfold Obligations.EngineFailuresSwitchOrLose
  intro d q b c hs h8 hc
  have alone {e : Dev} (hn : d.en b ≠ enActive) (he : d.engineFails b c = e) : Answers (.engineCheckFail b c) d q e :=
    answers_inService rfl (decide_eq_true h8) hs ((checkFails_of_not_acc fun h => hn h.2).trans he)
  refine ⟨fun ha => ?active, fun ht => ⟨fun hswap => ?swap, fun hswap e he =>
    ⟨fun harb => ?arbitration, fun harb => ?switchover⟩⟩, fun hst => ?standby⟩
  case active =>
    obtain ⟨base, hbase, hbc, hba, heq⟩ := checkFails_active (c := c) hc ha
    refine ⟨base, hbase, fun e f he hf => ⟨fun hsp => ?_, fun hns hnt => ?_⟩⟩
    · refine answers_inService rfl (decide_eq_true h8) hs (heq.trans ((engineFails_active hbc hba he hf).trans (if_pos ?_)))
      rcases hsp with h | h <;> simp [h]
    · refine answers_inService rfl (decide_eq_true h8) hs (heq.trans ((engineFails_active hbc hba he hf).trans (if_neg ?_)))
      simp [hns, hnt]
  case swap => exact alone (by rw [ht]; decide) ((engineFails_takeover hc ht).1 hswap)
  case arbitration => exact alone (by rw [ht]; decide) (((engineFails_takeover hc ht).2 hswap e he).1 harb)
  case switchover => exact alone (by rw [ht]; decide) (((engineFails_takeover hc ht).2 hswap e he).2 harb)
  case standby => exact alone (by rcases hst with h | h <;> rw [h] <;> decide) (engineFails_standby hc hst)

/-! ## The known-answer update and the compare -/

section
variable {d : Dev}

theorem knownAnswer_right {b : Bool} (hc : d.checked b = true) (n : Nat) {e : Dev}
    (he : e = d.bump (if b then R.RAFTER_TWIN_CE_CE_B else R.RAFTER_TWIN_CE_CE_A) n) :
    d.knownAnswer b true n =
      if e.get R.RAFTER_TWIN_CTRL_CE_LIM ≠ 0 ∧ e.get R.RAFTER_TWIN_CTRL_CE_LIM < n then e.engineFails b caCe else e := by
  subst he
  exact if_neg (by simp [hc])

theorem knownAnswer_wrong {b : Bool} (hc : d.checked b = true) (n : Nat) :
    d.knownAnswer b false n =
      (d.bump (if b then R.RAFTER_TWIN_CE_CE_B else R.RAFTER_TWIN_CE_CE_A) n).engineFails b caKat :=
  if_neg (by simp [hc])

theorem beginHold_switching (d : Dev) (why : HoldFor) (array : Bool) : (d.beginHold why array).switching = true :=
  on_set1_same _ R.RAFTER_TWIN_STATUS_SWITCHING rfl (by decide)

theorem switching_put (d : Dev) (f : Fld) (v : Nat)
    (h : f.addr ≠ A.RAFTER_TWIN_STATUS ∨ f.lo + f.w ≤ 9 ∨ 10 ≤ f.lo ∧ f.lo + f.w ≤ 32) : (d.put f v).switching = d.switching := by
  unfold Dev.switching Dev.on
  rcases h with h | h | ⟨h, hw⟩
  · rw [get_put_addr d f R.RAFTER_TWIN_STATUS_SWITCHING v h.symm]
  · rw [get_put_above d f R.RAFTER_TWIN_STATUS_SWITCHING v (by omega) h]
  · rw [get_put_below d f R.RAFTER_TWIN_STATUS_SWITCHING v hw h]

theorem setEn_switching (d : Dev) (b : Bool) (st : Nat) : (d.setEn b st).switching = d.switching := by
  unfold Dev.setEn Dev.showSpare Dev.putB
  dsimp only
  rw [switching_put _ R.RAFTER_TWIN_STATUS_SPARE _ (.inr (.inr (by decide))),
    switching_put _ R.RAFTER_TWIN_STATUS_ACT_B _ (.inr (.inl (by decide)))]
  cases b
  · exact switching_put d R.RAFTER_TWIN_STATUS_ST_A st (.inr (.inl (by decide)))
  · exact switching_put d R.RAFTER_TWIN_STATUS_ST_B st (.inr (.inl (by decide)))

theorem cause_switching (d : Dev) (b : Bool) (c : Nat) : (d.cause b c).switching = d.switching := by
  cases b
  · exact switching_put (d.noteSet _) (R.RAFTER_TWIN_CAUSE_CAUSE_A.bit c) 1 (.inl (by decide : (0x850 : Nat) ≠ 0x840))
  · exact switching_put (d.noteSet _) (R.RAFTER_TWIN_CAUSE_CAUSE_B.bit c) 1 (.inl (by decide : (0x850 : Nat) ≠ 0x840))

theorem evStandby_switching (d : Dev) (b : Bool) : (d.evStandby b).switching = d.switching :=
  switching_put (d.noteSet _) R.RAFTER_TWIN_FLAGS_STBY_FAULT 1 (.inl (by decide))

theorem compareFail_eq (hsw : d.switching = false) (hA : d.engineRuns false = true) (hB : d.engineRuns true = true) {a : Bool}
    (ha : d.activeEngine = some a) :
    (d.en (!a) = enSynced → d.compareFail = (d.setEn (!a) enTakeover).beginHold .arbitration true)
    ∧ (d.en (!a) = enResync → d.twin.copying = false →
      d.compareFail = ((d.setEn (!a) enFailed).cause (!a) caXcmp).evStandby (!a)) := by
  unfold Dev.compareFail
  rw [if_neg (by simp [hsw, hA, hB]), ha]
  dsimp only
  refine ⟨fun h => if_pos (by rw [h]; rfl), fun h hcopy => ?_⟩
  rw [h, hcopy]
  rfl

/-- A failed compare that begins no arbitration withholds no update's words. -/
theorem updateWithheld_alone {e : Dev} (he : d.compareFail = e) (hsw : e.switching = false) : d.updateWithheld = e := by
  unfold Dev.updateWithheld
  rw [he]
  exact if_pos (by simp [hsw])

theorem updateWithheld_idle (hb : d.switching = false) {e : Dev} (he : d.compareFail = e) (hsw : e.switching = true)
    (hr : e.rafter.ready = []) : d.updateWithheld = e := by
  unfold Dev.updateWithheld
  rw [he]
  dsimp only
  rw [if_neg (by simp [hb, hsw]), hr]

/-- The update whose words an arbitration withholds has run; ACC in it is a failed check (R349, R364). -/
theorem updateWithheld_ready (hb : d.switching = false) {e : Dev} (he : d.compareFail = e) (hsw : e.switching = true) {s : Nat}
    {rest : List Nat} (hr : e.rafter.ready = s :: rest) {f : Dev}
    (hf : f = { e with rafter := { e.rafter with ready := rest } }) (hu : f.updates s = true) {g : Dev} {us : List Bf}
    {acc : Bool} (hg : f.runUpdate s = (g, us, acc)) :
    (acc = false → d.updateWithheld = g.stageAfterUpdate s)
    ∧ ∀ x, acc = true → g.activeEngine = some x → d.updateWithheld = (g.engineFails x caAcc).stageAfterUpdate s := by
  unfold Dev.updateWithheld
  rw [he]
  dsimp only
  rw [if_neg (by simp [hb, hsw]), hr]
  dsimp only
  rw [← hf, if_neg (by simp [hu]), hg]
  dsimp only
  refine ⟨fun h => ?_, fun x h hx => ?_⟩
  · subst h
    cases g.activeEngine <;> rfl
  · rw [hx, h]
    rfl

end

/-- Settles O33. -/
theorem twinChecksAct : Obligations.TwinChecksAct := by
  unfold Obligations.TwinChecksAct
  refine fun d q hs => ⟨fun b n hc => ⟨fun hlim => ?within, fun h0 hlt => ?above, ?wrong⟩,
    fun a hsw hA hB ha => ⟨fun hen e he => ?arbitration, fun hen hcopy => ?lockstep⟩⟩
  case within =>
    refine answers_inService rfl rfl hs ((knownAnswer_right hc n rfl).trans (if_neg fun h => ?_))
    rcases hlim with h' | h'
    · exact h.1 h'
    · exact Nat.not_lt.mpr h' h.2
  case above => exact answers_inService rfl rfl hs ((knownAnswer_right hc n rfl).trans (if_pos ⟨h0, hlt⟩))
  case wrong => exact answers_inService rfl rfl hs (knownAnswer_wrong hc n)
  case arbitration =>
    have hsw' : e.switching = true := by rw [he]; exact beginHold_switching _ _ _
    have heq : d.compareFail = e := ((compareFail_eq hsw hA hB ha).1 hen).trans he.symm
    refine ⟨hsw', fun hr => answers_inService rfl rfl hs (updateWithheld_idle hsw heq hsw' hr), fun s rest hr hu g us acc hg => ?_⟩
    obtain ⟨hok, hacc⟩ := updateWithheld_ready hsw heq hsw' hr rfl hu hg
    exact ⟨fun h => answers_inService rfl rfl hs (hok h), fun x h hx => answers_inService rfl rfl hs (hacc x h hx)⟩
  case lockstep =>
    refine answers_inService rfl rfl hs (updateWithheld_alone ((compareFail_eq hsw hA hB ha).2 hen hcopy) ?_)
    rw [evStandby_switching, cause_switching, setEn_switching, hsw]

/-! ## The ends of what a twin command or a failure began -/

/-- Whatever writes other registers leaves the engine states. -/
theorem engineIn_put_addr (d : Dev) (f : Fld) (v st : Nat) (h : f.addr ≠ A.RAFTER_TWIN_STATUS) :
    (d.put f v).engineIn st = d.engineIn st := by
  have hA := get_put_addr d f R.RAFTER_TWIN_STATUS_ST_A v h.symm
  have hB := get_put_addr d f R.RAFTER_TWIN_STATUS_ST_B v h.symm
  simp [Dev.engineIn, Dev.en, hA, hB]

theorem setEn_get_addr (d : Dev) (b : Bool) (st : Nat) (g : Fld) (h : g.addr ≠ A.RAFTER_TWIN_STATUS) :
    (d.setEn b st).get g = d.get g := by
  unfold Dev.setEn Dev.showSpare Dev.putB
  dsimp only
  rw [get_put_addr _ _ g _ h, get_put_addr _ _ g _ h]
  cases b
  · exact get_put_addr d R.RAFTER_TWIN_STATUS_ST_A g st h
  · exact get_put_addr d R.RAFTER_TWIN_STATUS_ST_B g st h

/-- An engine that has failed an arbitration. -/
def Dev.arbFailed (d : Dev) (b : Bool) : Dev := ((d.setEn b enFailed).cause b caXcmp).cause b caKat

section
variable {d : Dev} {b : Bool}

theorem takeoverDone_switchover (hb : d.engineIn enTakeover = some b) (hh : d.twin.holdFor = .switchover) :
    d.takeoverDone true = d.takeControl b ∧ d.takeoverDone false = ((d.setEn b enFailed).cause b caKat).twinLost := by
  unfold Dev.takeoverDone
  rw [hb]
  dsimp only
  rw [hh]
  exact ⟨rfl, rfl⟩

theorem takeoverDone_swap (hb : d.engineIn enTakeover = some b) (hh : d.twin.holdFor = .swap) :
    d.takeoverDone true = ((((d.setEn (!b) enSynced).takeControl b).evSwitch b).set1 R.RAFTER_TWIN_CMD_RES_DONE)
    ∧ d.takeoverDone false = d.swapFails b := by
  unfold Dev.takeoverDone
  rw [hb]
  dsimp only
  rw [hh]
  exact ⟨rfl, rfl⟩

/-- An arbitration decides between the active engine `b` and the standby by its four rows (R358). -/
theorem arbitrate_rows (hh : d.twin.holdFor = .arbitration) (hb : d.activeEngine = some b) (active standby : Bool) :
    (active = false → standby = true → d.twin.standbyBad = false →
      d.arbitrate active standby = (((d.arbFailed b).dropWaiting).evSwitch (!b)).takeControl (!b))
    ∧ (active = true → standby = false ∨ d.twin.standbyBad = true →
      d.arbitrate active standby = ((d.arbFailed (!b)).when (!d.twin.standbyBad) fun e => e.evStandby (!b)).endHold)
    ∧ (active = true → standby = true → d.twin.standbyBad = false →
      let e := (((d.set1 R.RAFTER_TWIN_FLAGS_MISMATCH).bump R.RAFTER_TWIN_COUNT_MISMATCHES).evStandby (!b)).setEn (!b) enResync
      d.arbitrate active standby = ({ e with twin := { e.twin with copying := true } }).endHold)
    ∧ (active = false → standby = false ∨ d.twin.standbyBad = true →
      d.arbitrate active standby = ((((((d.setEn b enFailed).setEn (!b) enFailed).cause b caXcmp).cause b caKat).cause (!b)
        caXcmp).cause (!b) caKat).twinLost) := by
  have hbad (h : standby = false ∨ d.twin.standbyBad = true) : (standby && !d.twin.standbyBad) = false := by
    rcases h with h | h <;> simp [h]
  unfold Dev.arbitrate
  rw [if_neg (by simp [hh]), hb]
  dsimp only
  refine ⟨fun ha hst hsb => ?_, fun ha hst => ?_, fun ha hst hsb => ?_, fun ha hst => ?_⟩
  · rw [ha, hst, hsb]
    rfl
  · rw [ha, hbad hst]
    rfl
  · rw [ha, hst, hsb]
    rfl
  · rw [ha, hbad hst]

theorem selfTestDone_eq (hb : d.engineIn enTest = some b) (hr : d.engineRuns b = true) (pass : Bool) {e : Dev}
    (he : e = (d.set1 R.RAFTER_TWIN_CMD_RES_DONE).putB R.RAFTER_TWIN_CMD_RES_FAIL (!pass)) :
    d.selfTestDone pass = if pass then
        if d.activeEngine.isNone then e.setEn b enFailed
        else { e.setEn b enResync with twin := { d.twin with copying := true } }
      else (((e.setEn b enFailed).selfTestFailed b).lockCheck).evStandby b := by
  have hact : e.activeEngine = d.activeEngine := by
    rw [he]
    exact (engineIn_put_addr _ R.RAFTER_TWIN_CMD_RES_FAIL _ enActive (by decide)).trans
      (engineIn_put_addr _ R.RAFTER_TWIN_CMD_RES_DONE 1 enActive (by decide))
  have htwin : e.twin = d.twin := by
    rw [he]
    rfl
  unfold Dev.selfTestDone
  rw [hb, Option.filter_some, if_pos hr]
  dsimp only
  rw [← he, hact, htwin]

theorem resyncCopied_eq (hb : d.engineIn enResync = some b) (hr : d.engineRuns b = true) (inTime : Bool) :
    d.resyncCopied inTime = if !d.twin.copying || (inTime && d.activeEngine.isNone) then d
      else if inTime then { d with twin := { d.twin with copying := false } }
      else ((d.setEn b enFailed).cause b caXcmp).evStandby b := by
  unfold Dev.resyncCopied
  rw [hb, Option.filter_some, if_pos hr]

theorem resyncDone_eq (hb : d.engineIn enResync = some b) (hr : d.engineRuns b = true) :
    d.resyncDone = if d.twin.copying || d.activeEngine.isNone then d else d.setEn b enSynced := by
  unfold Dev.resyncDone
  rw [hb, Option.filter_some, if_pos hr]

/-! ## TEST and SWAP -/

theorem activeEngine_twinRes (d : Dev) (cmd : Nat) (c : Code) : (d.twinRes cmd c).activeEngine = d.activeEngine :=
  (engineIn_put_addr _ R.RAFTER_TWIN_CMD_RES_CMD cmd enActive (by decide)).trans
    (engineIn_put_addr d R.RAFTER_TWIN_CMD_RES_CODE c.val enActive (by decide))

theorem twinTest_refused {c : Code} (hc : d.testCode = c) (hn : c ≠ .accepted) : d.twinTest = d.twinRes 1 c := by
  unfold Dev.twinTest
  rw [hc]
  dsimp only
  split
  · exact absurd rfl hn
  · rfl

theorem twinTest_accepted (hc : d.testCode = .accepted) (hb : d.activeEngine = some b) :
    d.twinTest = (((d.twinRes 1 .accepted).setEn (!b) enTest).clr R.RAFTER_TWIN_CMD_RES_DONE).clr R.RAFTER_TWIN_CMD_RES_FAIL := by
  unfold Dev.twinTest
  rw [hc]
  dsimp only
  rw [activeEngine_twinRes, hb]

theorem twinSwap_refused (hc : d.swapCode = .mode) : d.twinSwap = d.twinRes 2 .mode := by
  unfold Dev.twinSwap
  rw [hc]

theorem twinSwap_accepted (hc : d.swapCode = .accepted) (hb : d.activeEngine = some b) :
    d.twinSwap = ((((d.twinRes 2 .accepted).clr R.RAFTER_TWIN_CMD_RES_DONE).setEn (!b) enTakeover).beginHold .swap
      d.mode.regulating) := by
  have hmode : (((d.twinRes 2 .accepted).clr R.RAFTER_TWIN_CMD_RES_DONE).setEn (!b) enTakeover).mode = d.mode := by
    have hres (f : Fld) (v : Nat) (e : Dev) (h : A.SYS_MODE ≠ f.addr) : (e.put f v).get R.SYS_MODE_MODE = e.get R.SYS_MODE_MODE :=
      get_put_addr e f R.SYS_MODE_MODE v h
    unfold Dev.mode
    rw [setEn_get_addr _ _ _ _ (by decide), Dev.clr, Dev.twinRes, Dev.putCode, hres _ _ _ (by decide), hres _ _ _ (by decide),
      hres _ _ _ (by decide)]
  unfold Dev.twinSwap
  rw [hc]
  dsimp only
  rw [activeEngine_twinRes, hb]
  dsimp only
  rw [hmode]

theorem testCode_of_unused (h : d.twinUsed = false ∨ d.switching = true) : d.testCode = .mode :=
  if_pos (by rcases h with h | h <;> simp [h])

theorem swapCode_of_unused (h : d.twinUsed = false ∨ d.switching = true) : d.swapCode = .mode :=
  if_neg (by rcases h with h | h <;> simp [h])

/-- The answer to TEST where the twin logic is in use and no hold lasts (R359). -/
theorem testCode_eq (hu : d.twinUsed = true) (hsw : d.switching = false) :
    (d.activeEngine = none → d.testCode = .mode)
    ∧ ∀ a, d.activeEngine = some a →
      (d.en (!a) = enTest ∨ d.en (!a) = enResync ∨ d.en (!a) = enTakeover ∨ d.en (!a) = enOff → d.testCode = .mode)
      ∧ (d.en (!a) ≠ enTest → d.en (!a) ≠ enResync → d.en (!a) ≠ enTakeover → d.en (!a) ≠ enOff →
        d.testCode = if d.locked (!a) then .lock else .accepted) := by
  unfold Dev.testCode
  rw [if_neg (by simp [hu, hsw])]
  refine ⟨fun h => by rw [h], fun a ha => ?_⟩
  rw [ha]
  refine ⟨fun h => if_pos ?_, fun h1 h2 h3 h4 => if_neg ?_⟩
  · rcases h with h | h | h | h <;> simp [h]
  · simp [h1, h2, h3, h4]

end

/-- Settles O34. -/
theorem twinProcessesAndCommandsAct : Obligations.TwinProcessesAndCommandsAct := by
  unfold Obligations.TwinProcessesAndCommandsAct
  refine ⟨fun d q b hs => ⟨fun hb => ⟨fun hh => ?switchover, fun hh => ?swap⟩, fun hh hb => ?arbitration, fun hb hr => ?selfTest,
    fun hb hr => ?resync⟩, fun d q hr => ⟨fun hno => ⟨?testUnused, ?swapUnused⟩, fun hu hsw => ⟨fun ha => ?testNone, fun a ha =>
    ⟨fun hen => ?testBusy, fun h1 h2 h3 h4 => ⟨fun hl => ?testLocked, fun hl => ?testRuns⟩⟩, fun hsp => ?swapNone,
    fun a hsp ha => ?swapRuns⟩⟩⟩
  case switchover =>
    obtain ⟨hpass, hfail⟩ := takeoverDone_switchover hb hh
    exact ⟨answers_inService rfl rfl hs hpass, answers_inService rfl rfl hs hfail⟩
  case swap =>
    obtain ⟨hpass, hfail⟩ := takeoverDone_swap hb hh
    exact ⟨answers_inService rfl rfl hs hpass, answers_inService rfl rfl hs hfail⟩
  case arbitration =>
    have row (active standby : Bool) := arbitrate_rows hh hb active standby
    refine ⟨fun hsb => ⟨?_, ?_, ?_⟩, fun standby h => ?_, fun standby hsb => ?_⟩
    · exact answers_inService rfl rfl hs ((row false true).1 rfl rfl hsb)
    · exact answers_inService rfl rfl hs (((row true false).2.1 rfl (.inl rfl)).trans (by rw [hsb]; rfl))
    · exact answers_inService rfl rfl hs ((row true true).2.2.1 rfl rfl hsb)
    · exact answers_inService rfl rfl hs ((row false standby).2.2.2 rfl h)
    · exact answers_inService rfl rfl hs (((row true standby).2.1 rfl (.inr hsb)).trans (by rw [hsb]; rfl))
  case selfTest =>
    have hdone (pass : Bool) := selfTestDone_eq hb hr pass rfl
    refine ⟨fun ha => ?_, fun ha => ?_, answers_inService rfl rfl hs (hdone false)⟩
    · exact answers_inService rfl rfl hs ((hdone true).trans ((if_pos rfl).trans
        (if_neg (by rw [← Option.not_isSome, ha]; decide))))
    · exact answers_inService rfl rfl hs ((hdone true).trans ((if_pos rfl).trans (if_pos (by rw [ha]; rfl))))
  case resync =>
    have hcopied (inTime : Bool) := resyncCopied_eq hb hr inTime
    refine ⟨fun hc => ⟨fun ha => ?_, fun ha => ?_, ?_⟩, fun hc ha => ?_, fun h => ?_⟩
    · exact answers_inService rfl rfl hs ((hcopied true).trans (if_neg (by rw [hc, ← Option.not_isSome, ha]; decide)))
    · exact answers_inService rfl rfl hs ((hcopied true).trans (if_pos (by rw [ha]; simp)))
    · exact answers_inService rfl rfl hs ((hcopied false).trans (if_neg (by rw [hc]; simp)))
    · exact answers_inService rfl rfl hs ((resyncDone_eq hb hr).trans (if_neg (by rw [hc, ← Option.not_isSome, ha]; decide)))
    · exact answers_inService rfl rfl hs ((resyncDone_eq hb hr).trans (if_pos (by rcases h with h | h <;> simp [h])))
  case testUnused => exact answers_byRegister rfl rfl hr (twinTest_refused (d := d.disarm) (testCode_of_unused hno) (by decide))
  case swapUnused => exact answers_byRegister rfl rfl hr (twinSwap_refused (d := d.disarm) (swapCode_of_unused hno))
  case testNone =>
    exact answers_byRegister rfl rfl hr (twinTest_refused (d := d.disarm) ((testCode_eq hu hsw).1 ha) (by decide))
  case testBusy =>
    exact answers_byRegister rfl rfl hr
      (twinTest_refused (d := d.disarm) (((testCode_eq hu hsw).2 a ha).1 hen) (by decide))
  case testLocked =>
    exact answers_byRegister rfl rfl hr (twinTest_refused (d := d.disarm)
      ((((testCode_eq hu hsw).2 a ha).2 h1 h2 h3 h4).trans (if_pos hl)) (by decide))
  case testRuns =>
    exact answers_byRegister rfl rfl hr (twinTest_accepted (d := d.disarm)
      ((((testCode_eq hu hsw).2 a ha).2 h1 h2 h3 h4).trans (if_neg (by simp [hl]))) ha)
  case swapNone =>
    exact answers_byRegister rfl rfl hr (twinSwap_refused (d := d.disarm) (if_neg (by simp [hsp])))
  case swapRuns =>
    exact answers_byRegister rfl rfl hr (twinSwap_accepted (d := d.disarm)
      (if_pos (show (d.twinUsed && d.on R.RAFTER_TWIN_STATUS_SPARE && !d.switching) = true by rw [hu, hsp, hsw]; rfl)) ha)

end Sys2Proof.Machine
end

/-!
Coefficients, set points and the timers of a stage (R252, R283, R295 to R321, R339), and from these the statements O31 and O36.
-/
section
namespace Sys2Proof.Machine

/-! ## Coefficients (R252, R253, R295) -/

theorem loop_modLoop_same (d : Dev) {s : Nat} (f : Loop → Loop) (hs : s < d.rafter.loops.length) :
    (d.modLoop s f).loop s = f (d.loop s) := by
  simp [Dev.loop, Dev.modLoop, updAt, List.getD_eq_getElem?_getD, hs]

theorem coefWord_setCoef (d : Dev) {s i : Nat} (w : Word) (hs : s < d.rafter.loops.length)
    (hi : i < (d.loop s).coefs.length) :
    (d.setCoef s i w).coefWord s i = coefNorm w ∧ ∀ j, j ≠ i → (d.setCoef s i w).coefWord s j = d.coefWord s j := by
  have hl := loop_modLoop_same d (fun l => { l with coefs := updAt l.coefs i fun _ => coefNorm w }) hs
  unfold Dev.coefWord Dev.setCoef
  rw [hl]
  refine ⟨?_, fun j hj => ?_⟩
  · simp [updAt, List.getD_eq_getElem?_getD, hi]
  · simp [updAt, List.getD_eq_getElem?_getD, hj.symm]

/-- A coefficient would break a check over several registers, or is a reserved one that is not 0. -/
def Dev.coefBreaks (d : Dev) (s i : Nat) (w : Word) : Prop :=
  ((d.crossChecks.zip (d.setCoef s i w).crossChecks).any fun p => p.1.2 && !p.2.2) = true ∨ 54 < i ∧ coefNorm w ≠ coefNorm 0

section
variable {d : Dev} {s i : Nat} {w : Word}

theorem coefWrite_mode (hi : d.get (R.STAGEs_COEF_IDX_IDX s) = i) (hm : d.mode.regulating = true)
    (hw : d.coefWord s i ≠ coefNorm w) : d.coefWrite s w = (d.coefAdvance s, .mode) := by
  unfold Dev.coefWrite
  rw [hi]
  exact if_pos (by simp [hm, hw])

theorem coefWrite_breaks (hi : d.get (R.STAGEs_COEF_IDX_IDX s) = i)
    (hm : d.mode.regulating = false ∨ d.coefWord s i = coefNorm w) (hb : d.coefBreaks s i w) :
    d.coefWrite s w = (d.coefAdvance s, .badProfile) := by
  unfold Dev.coefWrite
  rw [hi]
  refine (if_neg (by rcases hm with h | h <;> simp [h])).trans (if_pos ?_)
  rcases hb with h | ⟨h, hn⟩
  · rw [h, Bool.true_or]
  · rw [decide_eq_true h, Bool.true_and, bne_iff_ne.mpr hn, Bool.or_true]

theorem coefWrite_accepted (hi : d.get (R.STAGEs_COEF_IDX_IDX s) = i)
    (hm : d.mode.regulating = false ∨ d.coefWord s i = coefNorm w) (hb : ¬d.coefBreaks s i w) :
    d.coefWrite s w =
      ((if d.on R.SYS_STATUS_BOOT_PROF && decide (i ≤ 54) then (d.setCoef s i w).recopy else d).coefAdvance s, .accepted) := by
  obtain ⟨hcross, hres⟩ := not_or.mp hb
  unfold Dev.coefWrite
  rw [hi]
  refine (if_neg (by rcases hm with h | h <;> simp [h])).trans (if_neg ?_)
  rw [Bool.not_eq_true] at hcross
  simp only [hcross, Bool.false_or, Bool.and_eq_true, decide_eq_true_iff, bne_iff_ne]
  exact hres

end

/-! ## The registers of the set points (R283) -/

/-- Bits 0 to 23 of a set-point register are RW, and the boot profile gives them. -/
def setpointMasks : Masks := ⟨0xFFFFFF, 0, 0, 0, 0, 0xFFFFFF⟩

/-- A set-point register is no other register that a write is judged by, and lies in the STAGE blocks. -/
structure SetpointRegister (s which : Nat) : Prop where
  masks : masksAt (setpointAddr s which) = some setpointMasks
  at_ : setpointAt (setpointAddr s which) = some (s, which)
  coef : coefStage (setpointAddr s which) = none
  cmd : nthAt (A.STAGEs_CMD 0) 0x100 12 (setpointAddr s which) = none
  fixed : fixedBits (setpointAddr s which) = 0
  trim : ((List.range 12).find? fun t => setpointAddr s which == A.STAGEs_TRIM t) = if which = 4 then some s else none
  group : ((List.range 2).find? fun g => setpointAddr s which == A.STG_SHAREg_TRIM g) = none
  word : setpointAddr s which / 4 * 4 = setpointAddr s which
  low : 0x1000 ≤ setpointAddr s which
  high : setpointAddr s which < 0x1C00

theorem setpointRegister {s which : Nat} (hs : s < 12) (hw : which < 6) : SetpointRegister s which := by
  have h : ∀ s < 12, ∀ which < 6, masksAt (setpointAddr s which) = some setpointMasks
      ∧ setpointAt (setpointAddr s which) = some (s, which) ∧ coefStage (setpointAddr s which) = none
      ∧ nthAt (A.STAGEs_CMD 0) 0x100 12 (setpointAddr s which) = none ∧ fixedBits (setpointAddr s which) = 0
      ∧ ((List.range 12).find? fun t => setpointAddr s which == A.STAGEs_TRIM t) = (if which = 4 then some s else none)
      ∧ ((List.range 2).find? fun g => setpointAddr s which == A.STG_SHAREg_TRIM g) = none
      ∧ setpointAddr s which / 4 * 4 = setpointAddr s which
      ∧ 0x1000 ≤ setpointAddr s which ∧ setpointAddr s which < 0x1C00 := by decide +kernel
  obtain ⟨h1, h2, h3, h4, h5, h6, h7, h8, h9, h10⟩ := h s hs which hw
  exact ⟨h1, h2, h3, h4, h5, h6, h7, h8, h9, h10⟩

theorem nthAt_of_outside {base s n a : Nat} (h : a < base ∨ base + s * n ≤ a) (hs : 0 < s) : nthAt base s n a = none := by
  unfold nthAt
  split
  · rfl
  · rw [if_neg (by omega), if_neg]
    rintro ⟨-, hlt⟩
    have := Nat.div_lt_iff_lt_mul hs |>.mp hlt
    rw [Nat.mul_comm] at this
    omega

section
variable {a : Nat} (hlo : 0x1000 ≤ a) (hhi : a < 0x1C00) (w : Word)
include hlo hhi

/-- In the STAGE blocks only STAGEs_CMD is a command register. -/
theorem cmdWrite_stageBlock (d : Dev) (armed : Bool) (hc : nthAt (A.STAGEs_CMD 0) 0x100 12 a = none) :
    d.cmdWrite armed a w = none := by
  have hne (x : Nat) (hx : x < 0x1000 ∨ 0x1C00 ≤ x) : a ≠ x := by omega
  have hno (base s n : Nat) (hs : 0 < s) (h : base + s * n ≤ 0x1000 ∨ 0x1C00 ≤ base) : nthAt base s n a = none :=
    nthAt_of_outside (by omega) hs
  unfold Dev.cmdWrite
  dsimp only
  rw [hno (A.RINNAK_KEYk 0) 4 8 (by decide) (by decide), hc, hno (A.BRn_CMD 0) 0x40 8 (by decide) (by decide),
    hno (A.BTn_CMD 0) 0x40 8 (by decide) (by decide), hno (A.GUT_FORCEi 0) 4 4 (by decide) (by decide),
    hno (A.MBb_CMD 0) 0x100 2 (by decide) (by decide)]
  iterate 17 rw [if_neg (hne _ (by decide))]

theorem cmdReserved_stageBlock : cmdReserved a w = false := by
  have hne (x : Nat) (hx : x < 0x1000 ∨ 0x1C00 ≤ x) : a ≠ x := by omega
  have hno (base s n : Nat) (hs : 0 < s) (h : base + s * n ≤ 0x1000 ∨ 0x1C00 ≤ base) : nthAt base s n a = none :=
    nthAt_of_outside (by omega) hs
  unfold cmdReserved
  dsimp only
  rw [hno (A.BRn_CMD 0) 0x40 8 (by decide) (by decide), hno (A.BTn_CMD 0) 0x40 8 (by decide) (by decide)]
  iterate 8 rw [if_neg (hne _ (by decide))]
  rfl

end

/-! ## A word for a set point (R283, R339) -/

/-- The word of a set-point register that a write is judged by: its low 24 bits are the new ones. -/
def Dev.setpointJudged (d : Dev) (a : Nat) (w : Word) : Word := (d.word a &&& 0xFF000000) ||| (w &&& 0x00FFFFFF)

/-- The word that a set-point register takes: what a message of the same cycle has set stands (R54), and before a boot profile
what it held (R694). -/
def Dev.setpointTakes (d : Dev) (a : Nat) (w : Word) : Word :=
  if d.cyc.net.contains a = true ∨ d.on R.SYS_STATUS_BOOT_PROF = false then d.word a else d.setpointJudged a w

section
variable {d : Dev} {s which : Nat} {w : Word}

theorem present_setpoint (hs : s < 12) (hw : which < 6) (hu : d.blockUsed (setpointAddr s which) = true) :
    (d.present (setpointAddr s which) w).1 = (d.disarm.plainWrite (setpointAddr s which) setpointMasks w).1 := by
  have hr := setpointRegister hs hw
  have hused : d.disarm.blockUsed (setpointAddr s which) = true := hu
  have hbar : d.disarm.mgrBarred (setpointAddr s which) = false := by
    rw [Dev.mgrBarred, decide_eq_false fun h => absurd (Nat.lt_of_lt_of_le hr.high (by decide)) (Nat.not_lt.mpr h.1),
      Bool.false_and]
  have hprof : nthAt (A.PROF_WINw 0) 4 1024 (setpointAddr s which) = none :=
    nthAt_of_outside (.inl (Nat.lt_of_lt_of_le hr.high (by decide))) (by decide)
  unfold Dev.present
  dsimp only
  rw [hr.word, hr.masks]
  simp only [hused, hbar, hr.coef, hprof, cmdReserved_stageBlock hr.low hr.high w,
    cmdWrite_stageBlock hr.low hr.high w d.disarm d.boot.armed hr.cmd, Bool.not_true, Bool.false_and, Bool.false_eq_true,
    if_false]

theorem mix_setpoint (old w : Word) : mix (0xFFFFFF ||| 0) old w = (old &&& 0xFF000000) ||| (w &&& 0x00FFFFFF) := rfl

theorem new_setpoint (hs : s < 12) (hw : which < 6) :
    (if d.cyc.net.contains (setpointAddr s which) then d.word (setpointAddr s which)
      else mix (d.hostMask (setpointAddr s which) setpointMasks) (d.word (setpointAddr s which)) w)
    = d.setpointTakes (setpointAddr s which) w := by
  have hfix := (setpointRegister hs hw).fixed
  unfold Dev.setpointTakes Dev.hostMask
  rw [hfix]
  cases d.on R.SYS_STATUS_BOOT_PROF with
  | true => cases d.cyc.net.contains (setpointAddr s which) <;> rfl
  | false =>
    have hmix : mix 0 (d.word (setpointAddr s which)) w = d.word (setpointAddr s which) := mix_zero _ w
    cases d.cyc.net.contains (setpointAddr s which)
    · exact hmix.trans (if_pos (Or.inr rfl)).symm
    · rfl

theorem trimBusy_setpoint (hs : s < 12) (hw : which < 6) : d.trimBusy (setpointAddr s which) = true ↔
    which = 4 ∧ ∃ g, g < 2 ∧ d.on (R.STG_SHAREg_CFG_EN g) = true ∧ s ∈ d.shareMembers g := by
  unfold Dev.trimBusy
  rw [(setpointRegister hs hw).trim]
  by_cases h : which = 4
  · simp [h]
  · simp [h]

theorem groupTrimBad_setpoint (hs : s < 12) (hw : which < 6) : d.groupTrimBad (setpointAddr s which) w = false := by
  rw [Dev.groupTrimBad, (setpointRegister hs hw).group]

/-- A word presented to a set-point register, by its judgement (R283, R339, R689). -/
theorem plainWrite_setpoint (hs : s < 12) (hw : which < 6) :
    (d.plainWrite (setpointAddr s which) setpointMasks w).1 =
      let a := setpointAddr s which
      let e := (d.noteWas a).setWord a (d.setpointTakes a w)
      if !d.rowOk a (d.setpointJudged a w) || d.crossFails a (d.setpointTakes a w) || !d.setpointOk s which w then d
      else if d.trimBusy a then d
      else if d.setpointTakes a w = d.word a then e else Dev.written (d.noteWas a) e := by
  have hr := setpointRegister hs hw
  have hne (x : Nat) (hx : 0x1C00 ≤ x) : setpointAddr s which ≠ x := Nat.ne_of_lt (Nat.lt_of_lt_of_le hr.high hx)
  have hbar : d.mgrBarred (setpointAddr s which) = false := by
    rw [Dev.mgrBarred, decide_eq_false fun h => absurd (Nat.lt_of_lt_of_le hr.high (by decide)) (Nat.not_lt.mpr h.1),
      Bool.false_and]
  have hrwl : ∀ x : Word, (x &&& BitVec.ofNat 32 0 != 0) = false := fun x => by simp
  have hsel : ¬(setpointAddr s which == A.TH_RD_SEL) = true := mt beq_iff_eq.mp (hne _ (by decide))
  have hopen : (16777215 ||| 0 != 0) = true := by decide
  have hjudged : mix (setpointMasks.rw ||| setpointMasks.rwl) (d.word (setpointAddr s which)) w
      = d.setpointJudged (setpointAddr s which) w := rfl
  unfold Dev.plainWrite
  dsimp only
  rw [hjudged, new_setpoint hs hw, hr.at_, groupTrimBad_setpoint hs hw, hbar]
  simp only [setpointMasks, hrwl, Dev.clearFlags, Dev.when, if_neg hsel, if_neg (hne A.MGR_BUDGET (by decide)),
    hopen, Bool.true_and, Bool.and_false, Bool.or_false, Bool.false_eq_true, if_false, if_true]
  cases (!d.rowOk (setpointAddr s which) (d.setpointJudged (setpointAddr s which) w)
    || d.crossFails (setpointAddr s which) (d.setpointTakes (setpointAddr s which) w))
  case true => rfl
  case false =>
    cases d.setpointOk s which w
    case false => rfl
    case true => cases d.trimBusy (setpointAddr s which) <;> rfl

end

/-- A word's value lies outside the limits of R283. -/
def Dev.setpointOutside (d : Dev) (s which : Nat) (w : Word) : Prop :=
  let x := Bf.ofWord (w.toNat % 2 ^ 24)
  match which with
  | 0 => (d.coef s cSpMin).val.le x.val = false ∨ x.val.le (d.coef s cSpMax).val = false
  | 1 | 2 | 3 => x.m ≤ 0
  | 4 => x.val.abs.le (d.coef s cTrimMax).val = false
  | _ => (d.coef s cRmin).val.le x.val = false

theorem setpointOk_eq_false (d : Dev) (s : Nat) (w : Word) {which : Nat} (hw : which < 6) :
    d.setpointOk s which w = false ↔ d.setpointOutside s which w := by
  match which, hw with
  | 0, _ => exact Bool.and_eq_false_iff
  | 1, _ | 2, _ | 3, _ => exact decide_eq_false_iff_not.trans not_lt
  | 4, _ => exact Iff.rfl
  | 5, _ => exact Iff.rfl

/-- A word that breaks none of the three checks is not refused. -/
theorem setpoint_good {d : Dev} {s which : Nat} {w : Word} (hw : which < 6)
    (h : ¬(d.setpointOutside s which w
      ∨ d.rowOk (setpointAddr s which) (d.setpointJudged (setpointAddr s which) w) = false
      ∨ d.crossFails (setpointAddr s which) (d.setpointTakes (setpointAddr s which) w) = true)) :
    ¬(!d.rowOk (setpointAddr s which) (d.setpointJudged (setpointAddr s which) w)
      || d.crossFails (setpointAddr s which) (d.setpointTakes (setpointAddr s which) w)
      || !d.setpointOk s which w) = true := by
  obtain ⟨hin, hrest⟩ := not_or.mp h
  obtain ⟨hrow, hcross⟩ := not_or.mp hrest
  rw [Bool.not_eq_false _ |>.mp hrow, Bool.not_eq_true _ |>.mp hcross,
    Bool.not_eq_false _ |>.mp (mt (setpointOk_eq_false d s w hw).mp hin)]
  decide

/-- Settles O31. -/
theorem loopWritesAct : Obligations.LoopWritesAct := by
  unfold Obligations.LoopWritesAct
  refine ⟨fun d q s w hs hr => ⟨fun hm hne => ?mode, fun hm => ⟨fun hb => ?breaks, fun hb => ?accepted⟩, fun hsl hi => ?read⟩,
    fun d q s which w hs hw hr => ?setpoint⟩
  case mode =>
    have heq := coefWrite_mode (d := d.disarm) rfl hm hne
    exact ⟨answers_byRegister rfl (decide_eq_true hs) hr (congrArg Prod.fst heq), congrArg Prod.snd heq⟩
  case breaks =>
    have heq := coefWrite_breaks (d := d.disarm) rfl hm hb
    exact ⟨answers_byRegister rfl (decide_eq_true hs) hr (congrArg Prod.fst heq), congrArg Prod.snd heq⟩
  case accepted =>
    have heq := coefWrite_accepted (d := d.disarm) rfl hm hb
    refine ⟨congrArg Prod.snd heq, fun hboot hi => ?_, fun h => ?_⟩
    · refine answers_byRegister rfl (decide_eq_true hs) hr ((congrArg Prod.fst heq).trans ?_)
      exact congrArg (fun e : Dev => e.coefAdvance s) (if_pos (by simp [hboot, hi]))
    · refine answers_byRegister rfl (decide_eq_true hs) hr ((congrArg Prod.fst heq).trans ?_)
      refine congrArg (fun e : Dev => e.coefAdvance s) (if_neg ?_)
      rcases h with h | h
      · simp [h]
      · have hi : ¬ d.disarm.get (R.STAGEs_COEF_IDX_IDX s) ≤ 54 := Nat.not_le.mpr h
        rw [decide_eq_false hi, Bool.and_false]
        decide
  case read => exact coefWord_setCoef d.disarm w hsl hi
  case setpoint =>
    have heq := (present_setpoint hs hw hr.2).trans (plainWrite_setpoint (d := d.disarm) (w := w) hs hw)
    have hok := setpointOk_eq_false d.disarm s w hw
    have hbusy := trimBusy_setpoint (d := d.disarm) hs hw
    have answers {e : Dev} (he : (d.present (setpointAddr s which) w).1 = e) : Answers (.setpointWrite s which w) d q e :=
      answers_inService rfl (decide_eq_true ⟨hs, hw⟩) hr.1 he
    refine ⟨fun hbad => answers (heq.trans (if_pos ?_)), fun hgood hb => ?_, fun hgood hb => ⟨fun hsame => ?_, fun hdiff => ?_⟩⟩
    · rcases hbad with h | h | h
      · rw [hok.mpr h, Bool.not_false, Bool.or_true]
      · rw [show d.disarm.rowOk (setpointAddr s which) (d.disarm.setpointJudged (setpointAddr s which) w) = false from h,
          Bool.not_false, Bool.true_or, Bool.true_or]
      · rw [show d.disarm.crossFails (setpointAddr s which) (d.disarm.setpointTakes (setpointAddr s which) w) = true from h,
          Bool.or_true, Bool.true_or]
    · exact answers (heq.trans ((if_neg (setpoint_good (d := d.disarm) hw hgood)).trans (if_pos (hbusy.mpr hb))))
    · exact answers (heq.trans ((if_neg (setpoint_good (d := d.disarm) hw hgood)).trans ((if_neg (mt hbusy.mp hb)).trans (if_pos hsame))))
    · exact answers (heq.trans ((if_neg (setpoint_good (d := d.disarm) hw hgood)).trans ((if_neg (mt hbusy.mp hb)).trans (if_neg hdiff))))

/-! ## The delays and limits of a stage (R301, R302, R311, R314, R320, R321) -/

section
variable {d : Dev} {s : Nat}

theorem stopDlyEnd_of_pending (h : d.on (R.STAGEs_STATE_STOP_PEND s) = true) {e : Dev}
    (he : e = d.clr (R.STAGEs_STATE_STOP_PEND s)) :
    d.stopDlyEnd s =
      if e.ssIn s [ssSoft, ssRun] then e.stageStopping s
      else if e.ssIn s [ssWait, ssCheck, ssSleep, ssPause] then (e.stageOff s).safeAt s 1
      else if e.ss s == ssFault then e.stageOff s
      else e := by
  rw [he]
  exact if_neg (by rw [h]; decide)

theorem stopDlyEnd_running (h : d.on (R.STAGEs_STATE_STOP_PEND s) = true) {e : Dev}
    (he : e = d.clr (R.STAGEs_STATE_STOP_PEND s)) (hs : e.ss s = ssSoft ∨ e.ss s = ssRun) :
    d.stopDlyEnd s = e.stageStopping s :=
  (stopDlyEnd_of_pending h he).trans (if_pos ((ssIn_eq_true e s _).mpr (by simpa using hs)))

theorem stopDlyEnd_idle (h : d.on (R.STAGEs_STATE_STOP_PEND s) = true) {e : Dev}
    (he : e = d.clr (R.STAGEs_STATE_STOP_PEND s))
    (hs : e.ss s = ssWait ∨ e.ss s = ssCheck ∨ e.ss s = ssSleep ∨ e.ss s = ssPause) :
    d.stopDlyEnd s = (e.stageOff s).safeAt s 1 := by
  have hrun : ¬e.ssIn s [ssSoft, ssRun] = true := by
    rw [ssIn_eq_true]
    rcases hs with h | h | h | h <;> rw [h] <;> decide
  have hidle : e.ssIn s [ssWait, ssCheck, ssSleep, ssPause] = true := (ssIn_eq_true e s _).mpr (by simpa using hs)
  exact (stopDlyEnd_of_pending h he).trans ((if_neg hrun).trans (if_pos hidle))

theorem stopDlyEnd_fault (h : d.on (R.STAGEs_STATE_STOP_PEND s) = true) {e : Dev}
    (he : e = d.clr (R.STAGEs_STATE_STOP_PEND s)) (hs : e.ss s = ssFault) : d.stopDlyEnd s = e.stageOff s := by
  rw [stopDlyEnd_of_pending h he, Dev.ssIn, Dev.ssIn, hs]
  rfl

theorem startDlyEnd_of_wait (h : d.ss s = ssWait) :
    d.startDlyEnd s = (d.modStage s fun g => { g with dlyDone := true }).waitDone s :=
  if_pos (beq_iff_eq.mpr h)

theorem softTmo_of_soft (h : d.ss s = ssSoft) :
    d.softTmo s = if d.moving s then d.stageFault s 49 else d.softDone s := if_neg (by rw [h]; decide)

theorem softDone_of_soft (h : d.ss s = ssSoft) (hm : d.moving s = false) :
    d.softDone s = ((d.setSs s ssRun).showNact s).waitsDone := if_pos (by rw [h, hm]; rfl)

theorem stopTmo_of_stopping (h : d.ss s = ssStopping) :
    d.stopTmo s = (d.when (d.moving s) fun d => d.stageEv s 57).stoppingEnd s := if_neg (by rw [h]; decide)

theorem retry_of_fault (h : d.ss s = ssFault) (hm : d.mode = .ramp ∨ d.mode = .run ∨ d.mode = .ride) :
    d.retry s =
      if d.get (R.STAGEs_STATE_TRIES s) < d.get (R.STAGEs_RETRY_MAX s) then
        ((d.put (R.STAGEs_STATE_TRIES s) (d.get (R.STAGEs_STATE_TRIES s) + 1)).clr (R.STAGEs_STATE_STOP_PEND s)).stageWait s
      else ((d.quietStage s).setSs s ssLockout).stageEv s 51 :=
  (if_neg (by rw [h]; decide)).trans (if_neg (by rw [(startMode_iff d.mode).mpr hm]; decide))

theorem retry_otherwise (h : d.ss s = ssFault) (hm : ¬(d.mode = .ramp ∨ d.mode = .run ∨ d.mode = .ride)) :
    d.retry s = d.stageOff s :=
  (if_neg (by rw [h]; decide)).trans (if_pos (by rw [Bool.eq_false_iff.mpr (mt (startMode_iff d.mode).mp hm)]; rfl))

theorem runStable_of_run (h : d.ss s = ssRun ∨ d.ss s = ssSleep) : d.runStable s = d.clr (R.STAGEs_STATE_TRIES s) :=
  if_pos ((ssIn_eq_true d s _).mpr (by simpa using h))

end

/-- Settles O36. -/
theorem stageTimersTakeTheirRows : Obligations.StageTimersTakeTheirRows := by
  unfold Obligations.StageTimersTakeTheirRows
  intro d q s hs h12
  have hok : decide (s < 12) = true := decide_eq_true h12
  refine ⟨fun h => ?start, fun h => ⟨fun he => ?running, fun he => ?idle, fun he => ?faulty⟩,
    fun h => ⟨fun hm => ?slow, fun hm => ?soft⟩, fun h => ⟨fun hm => ?late, fun hm => ?stopped⟩,
    fun h hm => ⟨fun ht => ?again, fun ht => ?lockout⟩, fun h h1 h2 h3 => ?off, fun h => ?stable⟩
  case start => exact answers_inService rfl hok hs (startDlyEnd_of_wait h)
  case running => exact answers_inService rfl hok hs (stopDlyEnd_running h rfl he)
  case idle => exact answers_inService rfl hok hs (stopDlyEnd_idle h rfl he)
  case faulty => exact answers_inService rfl hok hs (stopDlyEnd_fault h rfl he)
  case slow => exact answers_inService rfl hok hs ((softTmo_of_soft h).trans (if_pos hm))
  case soft =>
    exact answers_inService rfl hok hs
      ((softTmo_of_soft h).trans ((if_neg (by rw [hm]; decide)).trans (softDone_of_soft h hm)))
  case late => exact answers_inService rfl hok hs ((stopTmo_of_stopping h).trans (by rw [hm, when_true]))
  case stopped => exact answers_inService rfl hok hs ((stopTmo_of_stopping h).trans (by rw [hm, when_false]))
  case again => exact answers_inService rfl hok hs ((retry_of_fault h hm).trans (if_pos ht))
  case lockout => exact answers_inService rfl hok hs ((retry_of_fault h hm).trans (if_neg (Nat.not_lt.mpr ht)))
  case off => exact answers_inService rfl hok hs (retry_otherwise h (by rintro (h | h | h) <;> contradiction))
  case stable => exact answers_inService rfl hok hs (runStable_of_run h)

end Sys2Proof.Machine
end

/-!
Reports, settings and the manager pair (R64, R366 to R402, R722), and from these the statements O38, O39 and O42.
-/
section
namespace Sys2Proof.Machine

/-! ## Reports of the shelves (R367, R368, R370, R384, R387) -/

section
variable {d : Dev}

theorem shelfTick_due (hn : d.netOn = true) (h : d.isPrimary = true ∨ d.coord.tick.isSome = true) :
    d.shelfTick = d.shelfReport :=
  (if_neg (by rw [hn]; decide)).trans (if_pos (by simpa using h))

theorem powerForm_dist (hr : d.role = some .dist) (hc : d.coord.pShelf.2 ≠ 0) :
    d.powerForm = d.put R.COORD_POWER_POWER (powerField false d.coord.pShelf.1 (d.coord.pShelf.2 * 100 * 2 ^ 33)) := by
  rw [Dev.powerForm, hr]
  exact congrArg (d.put R.COORD_POWER_POWER) (if_neg hc)

/-- The report of a member that counts is taken in by a manager (R370). -/
theorem onReport_of_takes {e : Dev} {ty : Nat} {m : RxMsg} (h : Takes d ty m e) (hm : e.isManager = true)
    (hc : e.reportCounts m.msg.src = true) (act : Dev → Nat → List Byte → Dev) :
    d.onReport ty act = act e (e.homeOf m.msg.src) m.msg.payload :=
  (onMsg_of_takes h _).trans (if_pos (by rw [hm, hc]; rfl))

theorem memberStale_fresh {j : Nat} (hj : j < 32) (hm : d.isManager = true) (hf : d.fresh j = true) {e : Dev}
    (he : e = d.memberChange fun d => d.clr (R.MGR_MEMBj_FRESH j)) :
    d.memberStale j =
      e.when (decide (j < 2) && j != e.homeId) fun d => (d.clr R.MGR_STATUS_PEER).clr R.MGR_STATUS_COPY_OK := by
  rw [he]
  exact if_pos (by rw [hm, hf, decide_eq_true hj]; rfl)

/-- The demand that waits for the rate limit, with no report of it before (R387). -/
theorem demandSend_first {h w : Nat} {e : Dev} (hp : d.coord.demandPend = true) (ha : d.coord.demandAt = none)
    (hn : d.netOn = true) (hseen : d.coord.demandSeen = (h, w)) (he : e = d.memberDemand d.homeId h w) :
    (e.isPrimary = true →
      d.demandSend = e.modCoord fun c => { c with demandPend := false, demandAt := some e.now })
    ∧ ∀ f, e.isPrimary = false →
      e.send tDemandReport clNormal dstManagers (beBytes 2 h ++ beBytes 2 w) = (f, .accepted) →
      d.demandSend = f.modCoord fun c => { c with demandPend := false, demandAt := some f.now } := by
  unfold Dev.demandSend
  rw [hp, ha, hn, hseen]
  dsimp only
  rw [if_neg (by decide), ← he]
  refine ⟨fun h => if_pos h, fun f h hf => ?_⟩
  rw [if_neg (by rw [h]; decide), hf]

end

/-- Settles O38. -/
theorem reportsAreSentAndKept : Obligations.ReportsAreSentAndKept := by
  unfold Obligations.ReportsAreSentAndKept
  refine fun d q hs => ⟨fun hn h => ?tick, fun hr hc => ?power, fun m e ht hm hc => ?shelf, fun m e ht hm hc => ?ride,
    fun m e ht hm hc => ?demand, fun j hj hm hf _ => ?stale, fun j hj hm hf => ?peer, fun h w hp ha hn hseen => ?send⟩
  case tick => exact answers_inService rfl rfl hs (shelfTick_due hn h)
  case power => exact answers_inService rfl rfl hs (powerForm_dist hr hc)
  case shelf => exact answers_inService rfl rfl hs (onReport_of_takes ht hm hc _)
  case ride => exact answers_inService rfl rfl hs (onReport_of_takes ht hm hc _)
  case demand => exact answers_inService rfl rfl hs (onReport_of_takes ht hm hc _)
  case stale =>
    intro e hown
    refine answers_inService rfl (decide_eq_true hj) hs ((memberStale_fresh hj hm hf rfl).trans (if_neg ?_))
    rcases hown with h | h
    · rw [decide_eq_false (Nat.not_lt.mpr h), Bool.false_and]
      decide
    · rw [show (j != e.homeId) = false from bne_eq_false_iff_eq.mpr h, Bool.and_false]
      decide
  case peer =>
    intro e hown
    have h32 : j < 32 := Nat.lt_trans hj (by decide)
    refine answers_inService rfl (decide_eq_true h32) hs ((memberStale_fresh h32 hm hf rfl).trans (if_pos ?_))
    rw [decide_eq_true hj, Bool.true_and]
    exact bne_iff_ne.mpr hown
  case send =>
    obtain ⟨hprimary, hworker⟩ := demandSend_first hp ha hn hseen rfl
    exact ⟨fun h => answers_inService rfl rfl hs (hprimary h), fun f h hf => answers_inService rfl rfl hs (hworker f h hf)⟩

/-! ## Settings at a worker (R369, R374, R378, R390) -/

/-- A worker acts on its entry of a list message. -/
theorem onSetting_of_takes {d e : Dev} {ty size : Nat} {m : RxMsg} {x : List Byte} (h : Takes d ty m e)
    (hp : e.isPrimary = false) (hx : e.ownEntry size m.msg.payload = some x) (act : Dev → List Byte → Dev) :
    d.onSetting ty size act = act e x := by
  rw [Dev.onSetting, onMsg_of_takes h, if_neg (by rw [hp]; decide), hx]

theorem takeOffset_grouped {d : Dev} (w : Nat) (h : d.get R.COORD_CFG_ILV_GROUP ≠ 15) : d.takeOffset w =
    ((d.noteNet A.PWM_SHELF_OFS).setWord A.PWM_SHELF_OFS (BitVec.ofNat 32 w)).offsetsChanged :=
  if_neg (mt beq_iff_eq.mp h)

theorem sliceInForce_of_ne {d : Dev} {v : Nat} (h : v ≠ 0) :
    d.sliceInForce v = ((d.put R.COORD_ALLOT_SLICE v).set1 R.COORD_ALLOT_HELD).btSlice :=
  congrArg Dev.btSlice (if_neg h)

/-- Settles O39. -/
theorem settingsComeIntoForce : Obligations.SettingsComeIntoForce := by
  unfold Obligations.SettingsComeIntoForce
  refine fun d q m e x hs hp => ⟨fun ht hx hg => ?offset, fun ht hx => ?trim, fun ht hx hr h0 => ?slice, fun ht hx hr => ?charge⟩
  case offset =>
    have heq := onSetting_of_takes ht hp hx fun d x => d.takeOffset (beAt x 1 4)
    exact answers_inService rfl rfl hs (heq.trans (takeOffset_grouped (beAt x 1 4) hg))
  case trim => exact answers_inService rfl rfl hs (onSetting_of_takes ht hp hx _)
  case slice =>
    exact answers_inService rfl rfl hs ((onSetting_of_takes ht hp hx _).trans ((if_pos hr).trans (sliceInForce_of_ne h0)))
  case charge => exact answers_inService rfl rfl hs ((onSetting_of_takes ht hp hx _).trans (if_pos hr))

/-! ## The manager pair (R64, R394, R396, R399, R401, R438) -/

section
variable {d : Dev}

/-- The listening ends 4,096 reeds after STANDBY: as standby where another has been heard, or by the second home ID (R394). -/
theorem listenEnd_due (hl : d.net.listening = true) (ht : 4096 ≤ d.since d.boot.standbyAt) {e : Dev}
    (he : e = d.modNet fun n => { n with listening := false, heard := false }) :
    d.listenEnd = if d.net.heard || d.homeId != 0 then e.takeStandby else e.takePrimary := by
  rw [he]
  exact if_neg (by rw [hl, decide_eq_false (Nat.not_lt.mpr ht)]; decide)

theorem primaryFailed_quiet (hb : d.isStandby = true) (hn : d.netOn = true)
    (hp : d.net.segA.plcaAt.isSome = true ∨ d.net.segB.plcaAt.isSome = true)
    (hq : 120000 * d.rate ≤ d.plcaQuiet * 2 ^ 32) : d.primaryFailed = d.takeOver false :=
  if_pos (by rw [hb, hn, decide_eq_true hq, Bool.or_eq_true_iff.mpr hp]; rfl)

theorem noPrimary_timeout (hb : d.isStandby = true) (hn : d.netOn = true) (hA : d.net.segA.plcaAt = none)
    (hB : d.net.segB.plcaAt = none) (ht : 16 * 65536 ≤ d.since d.boot.standbyAt) :
    d.noPrimary = (d.takeOver false).set1 R.COORD_FLAGS_NO_PRIMARY :=
  if_pos (by rw [hb, hn, hA, hB, decide_eq_true ht]; rfl)

theorem noStandby_found (hp : d.isPrimary = true) (h8 : d.coord.beacons = 8) (hpeer : d.on R.MGR_STATUS_PEER = false) :
    d.noStandby = (d.set1 R.COORD_FLAGS_NO_STANDBY).report 121 :=
  if_pos (by rw [hp, h8, hpeer]; rfl)

theorem mgrSwap_may (h : (d.isPrimary && d.on R.MGR_STATUS_PEER && d.on R.MGR_STATUS_COPY_OK) = true) :
    d.mgrSwap = ((d.putCode R.MGR_CMD_RES_CODE .accepted).put R.MGR_CMD_RES_CMD 1).modCoord fun c =>
      { c with swapDue := true } := by
  rw [Dev.mgrSwap, h]
  rfl

theorem mgrSwap_mayNot (h : (d.isPrimary && d.on R.MGR_STATUS_PEER && d.on R.MGR_STATUS_COPY_OK) = false) :
    d.mgrSwap = (d.putCode R.MGR_CMD_RES_CODE .mode).put R.MGR_CMD_RES_CMD 1 := by
  rw [Dev.mgrSwap, h]
  rfl

/-- A node that may be a manager is barred from none of a manager's registers. -/
theorem mgrBarred_of_mgr (h : d.on R.RINNAK_NODE_MGR = true) (a : Nat) : d.mgrBarred a = false := by
  rw [Dev.mgrBarred, h, Bool.not_true, Bool.and_false]

theorem mgrSwap_unbarred (h : d.on R.RINNAK_NODE_MGR = true) {e : Dev} (he : d.mgrSwap = e) :
    (if d.mgrBarred A.MGR_CMD then d else d.mgrSwap) = e :=
  (if_neg (by rw [mgrBarred_of_mgr h]; decide)).trans he

end

theorem exec_mgrSwap_host (d : Dev) (q : List Instr) : exec (.mgrSwap false) ⟨d, q⟩ =
    State.answer ⟨d, q⟩ true (d.byRegister A.MGR_CMD fun d => if d.mgrBarred A.MGR_CMD then d else d.mgrSwap) :=
  congrArg (State.answer ⟨d, q⟩ true) (if_neg Bool.false_ne_true)

theorem exec_mgrSwap_peer (d : Dev) (q : List Instr) : exec (.mgrSwap true) ⟨d, q⟩ =
    State.answer ⟨d, q⟩ true (d.inService Dev.swapHeard) :=
  congrArg (State.answer ⟨d, q⟩ true) (if_pos rfl)

/-- Settles O42. -/
theorem managerPairActs : Obligations.ManagerPairActs := by
  unfold Obligations.ManagerPairActs
  refine fun d q hs => ⟨fun m e ht => ?state, fun hl ht h => ?standby, fun hl ht hh h0 => ?primary,
    fun hb hn => ⟨fun hp hq => ?failed, fun hA hB ht => ?none⟩, fun hp h8 hpeer => ?alone,
    fun hr hm => ⟨fun hmay => ?swap, fun hmay => ?refused⟩, fun hb => ?heard, fun m e ht => ?takeover, fun m e ht => ?presence⟩
  case state => exact answers_inService rfl rfl hs (onMsg_of_takes ht _)
  case standby => exact answers_inService rfl rfl hs ((listenEnd_due hl ht rfl).trans (if_pos (by simpa using h)))
  case primary =>
    exact answers_inService rfl rfl hs ((listenEnd_due hl ht rfl).trans (if_neg (by rw [hh, h0]; decide)))
  case failed => exact answers_inService rfl rfl hs (primaryFailed_quiet hb hn hp hq)
  case none => exact answers_inService rfl rfl hs (noPrimary_timeout hb hn hA hB ht)
  case alone => exact answers_inService rfl rfl hs (noStandby_found hp h8 hpeer)
  case swap =>
    have heq := mgrSwap_unbarred (d := d.disarm) hm (mgrSwap_may (d := d.disarm) hmay)
    exact answers_byRegister (exec_mgrSwap_host d q) rfl hr heq
  case refused =>
    have heq := mgrSwap_unbarred (d := d.disarm) hm (mgrSwap_mayNot (d := d.disarm) hmay)
    exact answers_byRegister (exec_mgrSwap_host d q) rfl hr heq
  case heard => exact answers_inService (exec_mgrSwap_peer d q) rfl hs (if_pos hb)
  case takeover => exact answers_inService rfl rfl hs (onMsg_of_takes ht _)
  case presence => exact answers_inService rfl rfl hs (onMsg_of_takes ht _)

end Sys2Proof.Machine
end

/-!
Frames, segments and keys of Rinnak (R58, R411 to R443, R609), and from these the statements O43 to O46.
-/
section
namespace Sys2Proof.Machine

/-! ## Transmit opportunities (R412, R414, R418, R427) -/

section
variable {d : Dev} {b : Bool}

/-- A worker with a frame that waits sends it at its opportunity. -/
theorem opportunity_worker {m : OutMsg} {rest : List OutMsg} {e : Dev} (hr : d.hasRight b = true)
    (he : e = d.modNseg b fun s => { s with sent := [], queue := s.queue.filter d.fitsNow }) (hc : e.coordinator = false)
    (hq : (e.nseg b).queue = m :: rest) (hm : nextOut false (m :: rest) = some m) (hk : e.keyless = false) (collided : Nat) :
    d.opportunity b collided = e.transmit b m (tbit collided 0) := by
  have hout : e.workerOut b = some m := by rw [Dev.workerOut, hk, if_neg Bool.false_ne_true, hq, hm]
  unfold Dev.opportunity
  rw [if_neg (by rw [hr]; decide), ← he]
  dsimp only
  rw [if_neg (by rw [hc]; decide), hout, Option.isNone_some, when_false, hq, List.isEmpty_cons, when_false, hout]

/-! ## Frames received (R423, R433, R436 to R440) -/

theorem receive_collided (hn : d.netOn = true) (l : List Byte) :
    d.receive b true l = (d.bump (cntFld b ncColl)).errCount b :=
  (if_neg (by rw [hn]; decide)).trans (if_pos rfl)

/-- The frame check of a frame: long enough, and with its FCS. -/
def fcsFails (l : List Byte) : Bool := l.length < 18 || leAt l (l.length - 4) 4 != crc32 (l.take (l.length - 4))

theorem fcsFails_eq_true (l : List Byte) :
    fcsFails l = true ↔ l.length < 18 ∨ leAt l (l.length - 4) 4 ≠ crc32 (l.take (l.length - 4)) := by
  simp [fcsFails]

theorem fcsFails_eq_false {l : List Byte} (h18 : 18 ≤ l.length)
    (h : leAt l (l.length - 4) 4 = crc32 (l.take (l.length - 4))) : fcsFails l = false := by
  simp [fcsFails, h18, h]

theorem receive_badFcs (hn : d.netOn = true) {l : List Byte} (h : fcsFails l = true) :
    d.receive b false l = (d.bump (cntFld b ncFcs)).errCount b :=
  (if_neg (by rw [hn]; decide)).trans ((if_neg Bool.false_ne_true).trans (if_pos h))

theorem receive_foreign (hn : d.netOn = true) {l : List Byte} (h : fcsFails l = false)
    (hf : slice l 0 6 ≠ rinnakDa ∨ beAt l 12 2 ≠ 0x88B5) :
    d.receive b false l = (d.modNseg b fun s => { s with rxAt := some d.now }).bump (cntFld b ncForeign) :=
  (if_neg (by rw [hn]; decide)).trans ((if_neg Bool.false_ne_true).trans
    ((if_neg (Bool.eq_false_iff.mp h)).trans (if_pos (by simpa using hf))))

/-- Keys judge nothing at a node without authentication (R432). -/
theorem judging_keyless (ha : d.authOn = false) : d.judging.keyless = false := by
  have hauth : d.judging.authOn = false := by
    unfold Dev.judging
    split
    · exact ha
    · exact ha
  rw [Dev.keyless, hauth, Bool.false_and]

/-- A frame of Rinnak's own that nothing makes strange, at a node without keys, is judged by its SRC, STAMP and SEQ (R423). -/
theorem receive_own (hn : d.netOn = true) {l : List Byte} (h : fcsFails l = false) (hda : slice l 0 6 = rinnakDa)
    (hty : beAt l 12 2 = 0x88B5) {x : Dev} (hx : x = d.modNseg b fun s => { s with rxAt := some d.now })
    (hs : x.isStrange l = false) (ha : x.authOn = false) {m : NetMsg} (hm : m = parseFrame l) (hsrc : m.src ≠ x.busId)
    (hnew : (m.src, m.stamp, m.seq) ∉ x.net.delivered) (hp : x.pairNewer m = true) {e taken : Dev}
    (he : e = x.takeCyc b m.src (byteAt l 18 % 16))
    (ht : taken = (e.bump (cntFld b ncRxOk)).modNet fun n => { n with
      lastPair := (m.src, m.stamp, m.seq) :: n.lastPair.filter fun p => p.1 != m.src
      delivered := (m.src, m.stamp, m.seq) :: n.delivered }) :
    d.receive b false l =
      (taken.when (m.ty == tPresence && !taken.isPrimary && !taken.isStandby) fun d =>
        d.homeHeard m.src (byteAt m.payload 0 % 32)).deliver b m true false := by
  have hown : (m.src == x.busId) = false := beq_eq_false_iff_ne.mpr hsrc
  have hdup : x.net.delivered.contains (m.src, m.stamp, m.seq) = false := by simpa using hnew
  have hfcs : ¬fcsFails l = true := Bool.eq_false_iff.mp h
  unfold fcsFails at hfcs
  unfold Dev.receive
  rw [if_neg (by rw [hn]; decide), if_neg Bool.false_ne_true, if_neg hfcs, ← hx, ← hm]
  dsimp only
  rw [if_neg (by simp [hda, hty]), if_neg (Bool.eq_false_iff.mp hs), hown, Bool.false_and, when_false,
    if_neg (Bool.eq_false_iff.mp (judging_keyless ha)), hdup, if_neg (by rw [ha, hp, Bool.false_and]; decide),
    if_neg Bool.false_ne_true, ← he, ← ht]

/-- The instant of reception serves the supervision of the segment alone. -/
theorem modNseg_rxAt_keeps (d : Dev) (b : Bool) (t : Option Nat) {x : Dev}
    (hx : x = d.modNseg b fun s => { s with rxAt := t }) :
    (∀ l, x.isStrange l = d.isStrange l) ∧ x.authOn = d.authOn ∧ x.busId = d.busId
      ∧ x.net.delivered = d.net.delivered ∧ ∀ m, x.pairNewer m = d.pairNewer m := by
  rw [hx]
  cases b
  · exact ⟨fun _ => rfl, rfl, rfl, rfl, fun _ => rfl⟩
  · exact ⟨fun _ => rfl, rfl, rfl, rfl, fun _ => rfl⟩

end

/-- Settles O43. -/
theorem framesAreSentAndFiltered : Obligations.FramesAreSentAndFiltered := by
  unfold Obligations.FramesAreSentAndFiltered
  refine fun d q b hs => ⟨fun m rest hr _ => ?sent, fun l hn => ?collided, fun l hn h => ?fcs, fun l hn h18 hf h => ?foreign⟩
  case sent =>
    intro e hc hq hm hk collided
    exact answers_inService rfl rfl hs (opportunity_worker hr rfl hc hq hm hk collided)
  case collided => exact answers_inService rfl rfl hs (receive_collided hn l)
  case fcs => exact answers_inService rfl rfl hs (receive_badFcs hn ((fcsFails_eq_true l).mpr h))
  case foreign => exact answers_inService rfl rfl hs (receive_foreign hn (fcsFails_eq_false h18 hf) h)

/-- Settles O44. -/
theorem newFramesAreDelivered : Obligations.NewFramesAreDelivered := by
  unfold Obligations.NewFramesAreDelivered
  intro d q b l hs hn h18 hf hda hty hstrange ha _ m e taken hsrc hnew hp
  obtain ⟨hstrange', ha', hid, hdelivered, hnewer⟩ := modNseg_rxAt_keeps d b (some d.now) rfl
  have heq := receive_own hn (fcsFails_eq_false h18 hf) hda hty rfl ((hstrange' l).trans hstrange) (ha'.trans ha)
    (m := m) rfl (hid ▸ hsrc) (hdelivered ▸ hnew) ((hnewer m).trans hp) (e := e) rfl (taken := taken) rfl
  refine ⟨fun h => ?known, fun hpres hprimary hstandby => ?presence⟩
  case known =>
    have hc : (m.ty == tPresence && !taken.isPrimary && !taken.isStandby) = false := by
      rcases h with h | h | h
      · rw [beq_eq_false_iff_ne.mpr h, Bool.false_and, Bool.false_and]
      · rw [h, Bool.not_true, Bool.and_false, Bool.false_and]
      · rw [h, Bool.not_true, Bool.and_false]
    rw [hc, when_false] at heq
    exact answers_inService rfl rfl hs heq
  case presence =>
    rw [beq_iff_eq.mpr hpres, hprimary, hstandby] at heq
    exact answers_inService rfl rfl hs heq

/-! ## Segments and late messages (R411, R430, R440, R441, R443) -/

section
variable {d : Dev} {b : Bool}

theorem modNseg_self {f : NetSeg → NetSeg} (h : f (d.nseg b) = d.nseg b) : d.modNseg b f = d := by
  cases b
  · exact congrArg (fun x => ({ d with net := { d.net with segA := x } } : Dev)) h
  · exact congrArg (fun x => ({ d with net := { d.net with segB := x } } : Dev)) h

theorem modNseg_congr {f g : NetSeg → NetSeg} (h : f (d.nseg b) = g (d.nseg b)) : d.modNseg b f = d.modNseg b g := by
  cases b
  · exact congrArg (fun x => ({ d with net := { d.net with segA := x } } : Dev)) h
  · exact congrArg (fun x => ({ d with net := { d.net with segB := x } } : Dev)) h

theorem segFails_eq_true : d.segFails b = true ↔ d.errsFull b = true
    ∨ d.coordinator = true ∧ d.past 65536 (some (d.nseg b).base) = true ∧ d.past 65536 (d.nseg b).rxAt = true
    ∨ d.coordinator = false ∧ d.past 4096 (some (d.nseg b).base) = true ∧ d.past 4096 (d.nseg b).plcaAt = true := by
  unfold Dev.segFails
  cases d.coordinator <;> simp

theorem segDown_fails (hn : d.netOn = true) (hu : d.segUp b = true) (hf : d.segFails b = true) :
    d.segDown b = (((d.modNseg b fun s => { s with wasDown := true, base := d.now }).clr (upFld b)).set1
      (if b then R.RINNAK_FLAGS_DOWN_B else R.RINNAK_FLAGS_DOWN_A)).report 120 :=
  if_neg (by rw [hn, hu, hf]; decide)

theorem segUpNow_good (hn : d.netOn = true) (hu : d.segUp b = false) (hg : d.segGood b = true) {e : Dev}
    (he : e = d.set1 (upFld b)) :
    d.segUpNow b = e.modNseg b fun s => { s with
      adopted := s.adopted && !((e.nseg b).wasDown && !e.coordinator)
      cycDue := if (e.nseg b).wasDown && !e.coordinator then none else s.cycDue
      wasDown := false
      base := e.now } := by
  rw [he]
  exact if_neg (by rw [hn, hu, hg]; decide)

/-- A worker's segment that had been down waits for a plan index (R441). -/
theorem segUpNow_again (hn : d.netOn = true) (hu : d.segUp b = false) (hg : d.segGood b = true) {e : Dev}
    (he : e = d.set1 (upFld b)) (hc : e.coordinator = false) (hw : (e.nseg b).wasDown = true) :
    d.segUpNow b = e.modNseg b fun s => { s with adopted := false, cycDue := none, wasDown := false, base := e.now } :=
  (segUpNow_good hn hu hg he).trans (modNseg_congr (by simp [hc, hw]))

theorem segUpNow_first (hn : d.netOn = true) (hu : d.segUp b = false) (hg : d.segGood b = true) {e : Dev}
    (he : e = d.set1 (upFld b)) (h : e.coordinator = true ∨ (e.nseg b).wasDown = false) :
    d.segUpNow b = e.modNseg b fun s => { s with wasDown := false, base := e.now } := by
  have hagain : ((e.nseg b).wasDown && !e.coordinator) = false := by
    rcases h with h | h
    · rw [h, Bool.not_true, Bool.and_false]
    · rw [h, Bool.false_and]
  refine (segUpNow_good hn hu hg he).trans (modNseg_congr ?_)
  rw [hagain]
  simp

/-- The bound of an Urgent or Normal message that waits has passed (R430, R443). -/
def Dev.boundPassed (d : Dev) (q : OutMsg) : Bool :=
  (q.msg.cls == clUrgent || q.msg.cls == clNormal) && (match q.bound with
    | some x => decide (x + q.ext < d.since q.acceptedAt)
    | none => false)

theorem boundPassed_urgent {m : OutMsg} {x : Nat} (hcls : m.msg.cls = clUrgent) (hx : m.bound = some x)
    (ht : x + m.ext < d.since m.acceptedAt) : d.boundPassed m = true := by
  rw [Dev.boundPassed, hcls, hx, beq_self_eq_true, Bool.true_or, Bool.true_and]
  exact decide_eq_true ht

/-- The messages of a segment that `passed` names are dropped and counted. -/
def Dev.dropPassed (passed : OutMsg → Bool) (d : Dev) (b : Bool) : Dev :=
  let n := ((d.nseg b).queue.filter passed).length
  let d := d.modNseg b fun s => { s with queue := s.queue.filter fun q => !passed q }
  if n = 0 then d else (d.bump (cntFld b ncLate) n).set1 R.RINNAK_FLAGS_LATE

theorem lateDiscard_down (hA : d.segUp false = false) (hB : d.segUp true = false) :
    d.lateDiscard = ((d.dropPassed d.boundPassed false).dropPassed d.boundPassed true).showQueue :=
  if_neg (by rw [hA, hB]; decide)

theorem dropPassed_empty {p : OutMsg → Bool} (h : (d.nseg b).queue = []) : d.dropPassed p b = d := by
  have hself : d.modNseg b (fun s => { s with queue := s.queue.filter fun q => !p q }) = d :=
    modNseg_self (by rw [h, List.filter_nil, ← h])
  unfold Dev.dropPassed
  rw [h, hself]
  exact if_pos rfl

theorem dropPassed_one {p : OutMsg → Bool} {m : OutMsg} (h : (d.nseg b).queue = [m]) (hp : p m = true) :
    d.dropPassed p b = ((d.modNseg b fun s => { s with queue := [] }).bump (cntFld b ncLate) 1).set1 R.RINNAK_FLAGS_LATE := by
  have hnone : d.modNseg b (fun s => { s with queue := s.queue.filter fun q => !p q })
      = d.modNseg b fun s => { s with queue := [] } := modNseg_congr (by simp [h, hp])
  have hone : ((d.nseg b).queue.filter p).length = 1 := by simp [h, hp]
  unfold Dev.dropPassed
  dsimp only
  rw [hone, hnone]
  exact if_neg (by decide)

/-- The one Urgent message that waits is dropped when its bound has passed with both segments down (R443). -/
theorem lateDiscard_one {m : OutMsg} {x : Nat} (hA : d.segUp false = false) (hB : d.segUp true = false)
    (hqA : d.net.segA.queue = [m]) (hqB : d.net.segB.queue = []) (hcls : m.msg.cls = clUrgent) (hx : m.bound = some x)
    (ht : x + m.ext < d.since m.acceptedAt) :
    d.lateDiscard = (((d.modNseg false fun s => { s with queue := [] }).bump (cntFld false ncLate) 1).set1
      R.RINNAK_FLAGS_LATE).showQueue := by
  rw [lateDiscard_down hA hB, dropPassed_one (b := false) hqA (boundPassed_urgent hcls hx ht)]
  exact congrArg Dev.showQueue (dropPassed_empty (b := true) hqB)

theorem plcaBeacon_net (hn : d.netOn = true) (len : Nat) {e f g : Dev} {mx : Fld}
    (he : e = d.extendBounds.modNet fun n => { n with heard := n.heard || n.listening })
    (hmx : mx = if b then R.RINNAK_CYCLE_MAX_B else R.RINNAK_CYCLE_MAX_A) (hf : f = e.putMax mx (min len 65535))
    (hg : g = f.put (cycFld b) (((f.nseg b).cycDue.getD (f.get (cycFld b)) + 1) % 12)) :
    d.plcaBeacon b len = g.modNseg b fun s => { s with
      adopted := s.adopted || s.cycDue.isSome
      cycDue := none
      plcaSince := if g.past 4096 s.plcaAt then some g.now else s.plcaSince
      plcaAt := some g.now } := by
  rw [hg, hf, hmx, he]
  exact if_neg (by rw [hn]; decide)

end

/-- Settles O45. -/
theorem segmentsGoDownAndUp : Obligations.SegmentsGoDownAndUp := by
  unfold Obligations.SegmentsGoDownAndUp
  refine fun d q b hs hn => ⟨fun hu hf => ?down, fun hu hg => ⟨fun hc hw => ?again, fun h => ?first⟩,
    fun m x hA hB hqA hqB hcls hx ht => ?late, fun len e he mx hmx f hf g hg => ?beacon⟩
  case down => exact answers_inService rfl rfl hs (segDown_fails hn hu (segFails_eq_true.mpr hf))
  case again => exact answers_inService rfl rfl hs (segUpNow_again hn hu hg rfl hc hw)
  case first => exact answers_inService rfl rfl hs (segUpNow_first hn hu hg rfl h)
  case late => exact answers_inService rfl rfl hs (lateDiscard_one hA hB hqA hqB hcls hx ht)
  case beacon => exact answers_inService rfl rfl hs (plcaBeacon_net hn len he hmx hf hg)

/-! ## Keys, profile parts and records (R58, R425, R434, R609) -/

section
variable {d : Dev}

/-- The answer to a commit of the key, with the keys by which frames of its cycle are judged (R434, R443). -/
def Dev.keyAnswer (d : Dev) (c : Code) : Dev :=
  let f := d.putCode R.RINNAK_KEY_RES_CODE c
  let n := d.net
  { f with cyc := { f.cyc with keys := some (d.cyc.keys.getD ⟨n.key, n.oldKey, n.nextKey, n.actStamp, n.oldAct⟩) } }

theorem keyCommit_eq {stamp : Nat} {c : Code} (hc : d.keyCode stamp = c) :
    d.keyCommit stamp = if c != .accepted then d.keyAnswer c
      else if d.net.key.isNone then
        ((d.keyAnswer c).modNet fun n => { n with key := some (d.keyAnswer c).stagedKey, actStamp := stamp }).keyInForce
      else
        ((d.keyAnswer c).modNet fun n => { n with nextKey := some (d.keyAnswer c).stagedKey, actStamp := stamp }).set1
          R.RINNAK_STATUS_KEY_PEND := by
  unfold Dev.keyCommit
  rw [hc]
  rfl

theorem keyCode_noAuth {stamp : Nat} (h : d.authOn = false) : d.keyCode stamp = .mode := if_pos (by rw [h]; rfl)

theorem keyCode_late {stamp : Nat} (h : d.authOn = true) (hk : d.net.key.isSome = true)
    (hl : stampDiff stamp d.stampNow < 2) : d.keyCode stamp = .late :=
  (if_neg (by rw [h]; decide)).trans (if_pos (by rw [hk, decide_eq_true hl]; rfl))

theorem keyCode_inTime {stamp : Nat} (h : d.authOn = true)
    (hl : ¬(d.net.key.isSome = true ∧ stampDiff stamp d.stampNow < 2)) : d.keyCode stamp = .accepted :=
  (if_neg (by rw [h]; decide)).trans (if_neg (by simpa using hl))

theorem keyActivate_next {k : List Byte} (h : d.net.nextKey = some k) :
    d.keyActivate = if stampDiff d.stampNow d.net.actStamp < 0 then d
      else (d.modNet fun n => { n with oldKey := n.key, key := some k, nextKey := none, oldAct := n.actStamp }).clr
        R.RINNAK_STATUS_KEY_PEND := by
  rw [Dev.keyActivate, h]

theorem keyErase_due (h : 4 ≤ stampDiff d.stampNow d.net.oldAct) :
    d.keyErase = d.modNet fun n => { n with oldKey := none } := if_neg (Int.not_lt.mpr h)

theorem keyErase_early (h : stampDiff d.stampNow d.net.oldAct < 4) : d.keyErase = d := if_pos h

end

/-- Settles O46. -/
theorem keysAndTransfersAct : Obligations.KeysAndTransfersAct := by
  unfold Obligations.KeysAndTransfersAct
  refine fun d q hs => ⟨fun stamp hr => ⟨fun ha => ?noAuth, fun ha hl => ?late, fun ha hl => ⟨fun hk => ?first, fun hk => ?next⟩⟩,
    fun k hk => ⟨fun h => ?activate, fun h => ?wait⟩, fun h => ?erase, fun h => ?keep, fun m e ht => ?part,
    fun x hdst htid hlen hp => ?distribute, fun m e ht => ?ack, fun m e ht hm => ?record⟩
  case noAuth =>
    have heq := keyCommit_eq (d := d.disarm) (keyCode_noAuth (d := d.disarm) (stamp := stamp.toNat) ha)
    exact answers_byRegister rfl rfl hr heq
  case late =>
    have heq := keyCommit_eq (d := d.disarm) (keyCode_late (d := d.disarm) (stamp := stamp.toNat) ha hl.1 hl.2)
    exact answers_byRegister rfl rfl hr heq
  case first =>
    have heq := keyCommit_eq (d := d.disarm) (keyCode_inTime (d := d.disarm) (stamp := stamp.toNat) ha hl)
    rw [if_neg (by decide), if_pos (by simpa using hk)] at heq
    exact answers_byRegister rfl rfl hr heq
  case next =>
    have heq := keyCommit_eq (d := d.disarm) (keyCode_inTime (d := d.disarm) (stamp := stamp.toNat) ha hl)
    rw [if_neg (by decide), if_neg (by simpa using Option.isSome_iff_ne_none.mp hk)] at heq
    exact answers_byRegister rfl rfl hr heq
  case activate => exact answers_inService rfl rfl hs ((keyActivate_next hk).trans (if_neg (Int.not_lt.mpr h)))
  case wait => exact answers_inService rfl rfl hs ((keyActivate_next hk).trans (if_pos h))
  case erase => exact answers_inService rfl rfl hs (keyErase_due h)
  case keep => exact answers_inService rfl rfl hs (keyErase_early h)
  case part => exact answers_inService rfl rfl hs (onMsg_of_takes ht _)
  case distribute => exact answers_inService rfl (decide_eq_true ⟨hdst, htid, hlen⟩) hs (if_neg (by rw [hp]; decide))
  case ack => exact answers_inService rfl rfl hs (onMsg_of_takes ht _)
  case record => exact answers_inService rfl rfl hs ((onMsg_of_takes ht _).trans (if_pos hm))

end Sys2Proof.Machine
end

/-!
The rows of a branch, its scans and its brake line (R447 to R475), and from these the statements O47 and O48.
-/
section
namespace Sys2Proof.Machine

/-! ## Rows of R453 -/

/-- A row of R453 is noted for branch `n`, with the branch as it is before the row acts. -/
def Dev.noteRow (d : Dev) (n r : Nat) : Dev :=
  { d with cyc := { d.cyc with brRows := (n, r, d.word (A.BRn_STATE n), d.br n) :: d.cyc.brRows } }

section
variable {d : Dev} {n r : Nat} {cond : Dev → Bool} {act : Dev → Dev}

theorem brRow_first (h : d.cyc.brRows.lookup n = none) :
    d.brRow n r cond act = if cond d then act (d.noteRow n r) else d := by
  rw [Dev.brRow, h]
  rfl

/-- The first row of a cycle that holds for a branch acts. -/
theorem brRow_holds (h : d.cyc.brRows.lookup n = none) (hc : cond d = true) : d.brRow n r cond act = act (d.noteRow n r) :=
  (brRow_first h).trans (if_pos hc)

theorem brRow_holdsNot (h : d.cyc.brRows.lookup n = none) (hc : cond d = false) : d.brRow n r cond act = d :=
  (brRow_first h).trans (if_neg (Bool.eq_false_iff.mp hc))

/-- Of two rows that meet in a cycle the one nearer the top governs. -/
theorem brRow_later {x : Nat} {w : Word} {b : Branch} (h : d.cyc.brRows.lookup n = some (x, w, b)) :
    d.brRow n r cond act =
      if r < x then (if cond (d.brBack n w b) then act ((d.brBack n w b).noteRow n r) else d) else d := by
  rw [Dev.brRow, h]
  rfl

theorem lookup_noteRow (d : Dev) (n r : Nat) :
    (d.noteRow n r).cyc.brRows.lookup n = some (r, d.word (A.BRn_STATE n), d.br n) := by
  simp [Dev.noteRow]

theorem brLive_serves (h : d.brLive n = true) : Serving d ∧ n < 8 := by
  simp only [Dev.brLive, Bool.and_eq_true, decide_eq_true_eq] at h
  obtain ⟨⟨⟨-, hn⟩, -⟩, hs⟩ := h
  exact ⟨hs, hn⟩

end

/-! ## Seat, tray and timers (R447, R452 to R456, R459, R462, R464, R475) -/

section
variable {d : Dev} {n : Nat}

theorem seatRise_live (hl : d.brLive n = true) {e f : Dev} (he : e = d.modBr n fun b => { b with seat := true })
    (hseat : (e.br n).seat = true) (hf : f = e.put (R.BRn_STATE_SEATED n) 1) :
    d.seatRise n = f.brRow n 9 (fun d => d.bs n == brEmpty) fun d =>
      (d.put (R.BRn_STATE_STATE n) brSeating).clr (R.BRn_STATE_CAUSE n) := by
  have hl' : e.brLive n = true := he ▸ hl
  rw [hf, Dev.seatRise, ← he]
  exact if_neg (by rw [hl', hseat]; decide)

theorem seatLoss_live (hl : d.brLive n = true) {e : Dev} (he : e = d.modBr n fun b => { b with seat := false }) :
    d.seatLoss n = ((e.brRow n 1 (fun d => d.bs n != brEmpty) fun d =>
      ((d.brLeave n brEmpty).clr (R.BRn_STATE_TRIES n)).when (d.energised n) fun d => d.slEvent n slSeatLoss).clr
        (R.BRn_STATE_SEATED n)).btSeatLow n := by
  have hl' : e.brLive n = true := he ▸ hl
  unfold Dev.seatLoss
  rw [← he]
  exact if_neg (by rw [hl']; decide)

/-- OFF_DLY after the DRAIN common start (R456). -/
theorem brOffDly_due (hl : d.brLive n = true) (hfree : d.cyc.brRows.lookup n = none) (hm : d.mode = .drain)
    (hen : d.energised n = true) (hcs : d.seq.csSeen = true)
    (hdly : reeds (d.get (R.BRn_OFF_DLY_TURN n)) (d.get (R.BRn_OFF_DLY_REED n)) ≤ d.since d.seq.csAt) :
    d.brOffDly n = (d.noteRow n 7).brLeave n brReady := by
  unfold Dev.brOffDly
  exact brRow_holds hfree (by rw [hl, hm, hen, hcs, decide_eq_true hdly]; rfl)

end

/-- Settles O47. -/
theorem branchesFollowTheirRows : Obligations.BranchesFollowTheirRows := by
  unfold Obligations.BranchesFollowTheirRows
  refine fun d q n => ⟨fun hl hfree => ?live, fun r cond act x w b hx => ⟨fun h => ?stays, fun hr hc => ?governs⟩,
    fun h8 hr hfree => ⟨fun hb => ?cleared, fun ht hk => ?clear⟩⟩
  case stays =>
    rw [brRow_later hx]
    rcases h with h | h
    · exact if_neg (Nat.not_lt.mpr h)
    · rw [if_neg (Bool.eq_false_iff.mp h), ite_self]
  case governs => exact (brRow_later hx).trans ((if_pos hr).trans (if_pos hc))
  case cleared =>
    refine answers_byRegister rfl (decide_eq_true h8) hr (brRow_holds (d := d.disarm.putCode _ _) hfree ?_)
    rw [Bool.or_eq_true, beq_iff_eq, beq_iff_eq]
    exact hb
  case clear =>
    refine answers_byRegister rfl (decide_eq_true h8) hr (brRow_holdsNot (d := d.disarm.putCode _ _) hfree ?_)
    rw [Bool.or_eq_false_iff, beq_eq_false_iff_ne, beq_eq_false_iff_ne]
    exact ⟨ht, hk⟩
  case live =>
    obtain ⟨hs, hn⟩ := brLive_serves hl
    have hok : decide (n < 8) = true := decide_eq_true hn
    refine ⟨fun e f he hseat hf => ⟨fun hb => ?rise, fun hb => ?risen⟩,
      fun e f he hf => ⟨fun hb => ?empty, fun hb hen => ?lost, fun hb hen => ?left⟩, fun hb => ?seating, fun hb => ?insert,
      fun high e he => ⟨fun hen ht => ?trip, fun h => ?quiet⟩, fun hb => ⟨fun hd => ?stall, fun hd => ?done⟩,
      fun hb => ⟨?release, ?stable⟩, fun hb => ⟨fun ht => ?retry, fun ht => ?lockout⟩, fun hm hb hcs hdly => ?offDly⟩
    case rise =>
      have hfree' : f.cyc.brRows.lookup n = none := by rw [hf, he]; exact hfree
      exact answers_inService rfl hok hs ((seatRise_live hl he hseat hf).trans (brRow_holds hfree' (beq_iff_eq.mpr hb)))
    case risen =>
      have hfree' : f.cyc.brRows.lookup n = none := by rw [hf, he]; exact hfree
      exact answers_inService rfl hok hs
        ((seatRise_live hl he hseat hf).trans (brRow_holdsNot hfree' (beq_eq_false_iff_ne.mpr hb)))
    case empty =>
      have hfree' : e.cyc.brRows.lookup n = none := by rw [he]; exact hfree
      have hb' : (e.bs n != brEmpty) = false := by rw [he]; exact bne_eq_false_iff_eq.mpr hb
      have heq := seatLoss_live hl he
      rw [brRow_holdsNot hfree' hb'] at heq
      exact answers_inService rfl hok hs heq
    case lost =>
      have hfree' : e.cyc.brRows.lookup n = none := by rw [he]; exact hfree
      have hb' : (e.bs n != brEmpty) = true := by rw [he]; exact bne_iff_ne.mpr hb
      have hen' : (e.noteRow n 1).energised n = true := by rw [he]; exact hen
      have heq := seatLoss_live hl he
      rw [brRow_holds hfree' hb', hen', when_true] at heq
      rw [hf]
      exact answers_inService rfl hok hs heq
    case left =>
      have hfree' : e.cyc.brRows.lookup n = none := by rw [he]; exact hfree
      have hb' : (e.bs n != brEmpty) = true := by rw [he]; exact bne_iff_ne.mpr hb
      have hen' : (e.noteRow n 1).energised n = false := by rw [he]; exact hen
      have heq := seatLoss_live hl he
      rw [brRow_holds hfree' hb', hen', when_false] at heq
      rw [hf]
      exact answers_inService rfl hok hs heq
    case seating =>
      exact answers_inService rfl hok hs (brRow_holds hfree (by rw [hl, hb]; rfl))
    case insert =>
      exact answers_inService rfl hok hs (brRow_holds hfree (by rw [hl, hb]; rfl))
    case trip =>
      have hfree' : e.cyc.brRows.lookup n = none := by rw [he]; exact hfree
      have hl' : e.brLive n = true := he ▸ hl
      have heq : e.brTripLevel n = (e.noteRow n 3).brTrip n caTripIn := brRow_holds hfree' (by rw [hl', hen, ht]; rfl)
      exact answers_inService rfl hok hs (he ▸ heq)
    case quiet =>
      have hfree' : e.cyc.brRows.lookup n = none := by rw [he]; exact hfree
      have heq : e.brTripLevel n = e := brRow_holdsNot hfree' (by
        rcases h with h | h
        · rw [h, Bool.and_false, Bool.false_and]
        · rw [h, Bool.and_false])
      have hin : d.brTripInput n high = e := by rw [Dev.brTripInput, ← he, heq]
      exact answers_inService rfl hok hs hin
    case stall => exact answers_inService rfl hok hs (brRow_holds hfree (by rw [hl, hb, hd]; rfl))
    case done => exact answers_inService rfl hok hs (brRow_holdsNot hfree (by rw [hd, Bool.not_true, Bool.and_false]))
    case release => exact answers_inService rfl hok hs (if_pos (by rw [hl, hb]; rfl))
    case stable => exact answers_inService rfl hok hs (if_pos (by rw [hl, hb]; rfl))
    case retry =>
      exact answers_inService rfl hok hs ((brRow_holds hfree (by rw [hl, hb]; rfl)).trans (if_pos ht))
    case lockout =>
      exact answers_inService rfl hok hs ((brRow_holds hfree (by rw [hl, hb]; rfl)).trans (if_neg (Nat.not_lt.mpr ht)))
    case offDly =>
      have hen : d.energised n = true := by
        rw [Dev.energised, Bool.or_eq_true, beq_iff_eq, beq_iff_eq]
        exact hb
      exact answers_inService rfl hok hs (brOffDly_due hl hfree hm hen hcs hdly)

/-! ## What leaves the state of a branch alone -/

/-- No register below the links' has changed, and no row of R453 has been noted. -/
def KeepsBranches (d e : Dev) : Prop := (∀ a, a < 0x3C00 → e.word a = d.word a) ∧ e.cyc.brRows = d.cyc.brRows

namespace KeepsBranches
variable {d e f : Dev}

theorem refl (d : Dev) : KeepsBranches d d := ⟨fun _ _ => rfl, rfl⟩

theorem trans (h : KeepsBranches d e) (h' : KeepsBranches e f) : KeepsBranches d f :=
  ⟨fun a ha => (h'.1 a ha).trans (h.1 a ha), h'.2.trans h.2⟩

theorem put (h : KeepsBranches d e) {g : Fld} {v : Nat} (hg : 0x3C00 ≤ g.addr) : KeepsBranches d (e.put g v) :=
  h.trans ⟨fun a ha => (word_setWord e _ a _).trans (if_neg (Nat.ne_of_lt (Nat.lt_of_lt_of_le ha hg))), rfl⟩

theorem set1 (h : KeepsBranches d e) {g : Fld} (hg : 0x3C00 ≤ g.addr) : KeepsBranches d (e.set1 g) :=
  h.trans ⟨fun a ha => (word_setWord e _ a _).trans (if_neg (Nat.ne_of_lt (Nat.lt_of_lt_of_le ha hg))), rfl⟩

theorem bump (h : KeepsBranches d e) {g : Fld} {k : Nat} (hg : 0x3C00 ≤ g.addr) : KeepsBranches d (e.bump g k) :=
  h.trans ⟨fun a ha => (word_setWord e _ a _).trans (if_neg (Nat.ne_of_lt (Nat.lt_of_lt_of_le ha hg))), rfl⟩

/-- A change of neither a register nor the notes of the cycle. -/
theorem other (h : KeepsBranches d e) (hr : f.regs = e.regs) (hc : f.cyc = e.cyc) : KeepsBranches d f :=
  h.trans ⟨fun a _ => congrArg (fun r => sread 0 r a) hr, by rw [hc]⟩

theorem when {c : Bool} {g : Dev → Dev} (h : KeepsBranches d e) (hg : KeepsBranches e (g e)) :
    KeepsBranches d (e.when c g) := by
  cases c
  · exact h
  · exact h.trans hg

theorem ite {c : Prop} [Decidable c] (he : KeepsBranches d e) (hf : KeepsBranches d f) :
    KeepsBranches d (if c then e else f) := by
  split
  · exact he
  · exact hf

theorem each {α : Type} {g : Dev → α → Dev} {l : List α} (h : KeepsBranches d e) (hg : ∀ e x, KeepsBranches e (g e x)) :
    KeepsBranches d (e.each l g) := by
  induction l generalizing e with
  | nil => exact h
  | cons x l ih => exact ih (h.trans (hg e x))

end KeepsBranches

theorem keepsBranches_gapAdd (d : Dev) (r : Record) : KeepsBranches d (d.gapAdd r) := by
  unfold Dev.gapAdd
  dsimp only
  have counted {e : Dev} (h : KeepsBranches d e) (v : Nat) :
      KeepsBranches d ((e.put R.TH_GAP_LAST_SEQ v).bump (gapCnt r.cls)) :=
    (h.put (by decide)).bump (show 0x3C00 ≤ A.TH_GAP_CNT by decide)
  have first {c : Bool} : KeepsBranches d (d.when c fun d =>
      (d.put R.TH_GAP_FIRST_SEQ r.seq).modThatch fun t => { t with gapTime := r.time }) :=
    .when (.refl d) (.other (.put (.refl d) (by decide)) rfl rfl)
  exact .ite (counted first _) (.other (.set1 (counted first _) (by decide)) rfl rfl)

theorem keepsBranches_intake (d : Dev) (w : Waiting) : KeepsBranches d (d.intake w) := by
  unfold Dev.intake
  dsimp only
  refine .ite (.other (.refl d) rfl rfl) ?_
  split
  · exact .other (.refl d) rfl rfl
  · refine .trans ?_ (keepsBranches_gapAdd _ _)
    exact .other (.refl d) rfl rfl

theorem keepsBranches_exitRecord (d : Dev) (n : Nat) : KeepsBranches d (d.exitRecord n) := by
  unfold Dev.exitRecord
  dsimp only
  refine .trans ?_ (keepsBranches_intake _ _)
  refine .put ?_ (by decide)
  exact .other (.refl d) (by dsimp only [Dev.modThatch]) (by dsimp only [Dev.modThatch])

/-- The registers of the links stand above those of the branches. -/
theorem linkAddr (n k : Nat) (h : 0x3C00 ≤ k) : 0x3C00 ≤ k + n * 0x40 := Nat.le_trans h (Nat.le_add_right k _)

theorem keepsBranches_setContract (d : Dev) (n v cid : Nat) : KeepsBranches d (d.setContract n v cid) := by
  have hstate : 0x3C00 ≤ A.BTn_STATE n := linkAddr n 0x3C00 (by decide)
  have hcontract : 0x3C00 ≤ A.BTn_CONTRACT n := linkAddr n 0x3C04 (by decide)
  unfold Dev.setContract
  dsimp only
  exact .ite (.put (.put (.when (.refl d) (.other (.refl d) rfl rfl)) hcontract) hcontract)
    (.when (.put (.put (.put (.when (.refl d) (.other (.refl d) rfl rfl)) hcontract) hcontract) hstate)
      (.put (.refl _) hstate))

theorem keepsBranches_btShow (d : Dev) (n : Nat) : KeepsBranches d (d.btShow n) :=
  have hstate : 0x3C00 ≤ A.BTn_STATE n := linkAddr n 0x3C00 (by decide)
  .put (.put (.refl d) hstate) hstate

theorem keepsBranches_btReq (d : Dev) (n : Nat) (k : BtKind) (ty : Nat) (objs : List Word) (mine : Bool) :
    KeepsBranches d (d.btReq n k ty objs mine) :=
  .trans (.other (.refl d) rfl rfl) (keepsBranches_btShow _ n)

theorem keepsBranches_btOfferTo (d : Dev) (n v : Nat) (up : Bool) : KeepsBranches d (d.btOfferTo n v up) :=
  .trans (.other (.refl d) (by dsimp only [Dev.newCid, Dev.modBt]) (by dsimp only [Dev.newCid, Dev.modBt]))
    (keepsBranches_btReq _ n _ _ _ _)

theorem keepsBranches_btServe (d : Dev) : KeepsBranches d d.btServe := by
  unfold Dev.btServe
  refine .ite (.refl d) (.each (.refl d) fun e n => ?_)
  split
  · exact .refl e
  · refine .ite (.refl e) ?_
    split
    · exact keepsBranches_btOfferTo e n _ true
    · exact .refl e

theorem keepsBranches_btSums (d : Dev) : KeepsBranches d d.btSums := by
  unfold Dev.btSums
  exact .ite (.refl d) (.put (.put (.refl d) (by decide)) (by decide))

theorem keepsBranches_btDissolveAt (d : Dev) (n : Nat) (packet mine : Bool) :
    KeepsBranches d (d.btDissolveAt n packet mine) := by
  unfold Dev.btDissolveAt
  dsimp only
  have dissolved {e : Dev} (h : KeepsBranches d e) : KeepsBranches d (e.noContract n) :=
    h.trans (keepsBranches_setContract e n 0 _)
  have sent {e : Dev} {c : Bool} (h : KeepsBranches d e) : KeepsBranches d (e.when c fun d => d.btReq n .dissolve btDissolve [] mine) :=
    .when h (keepsBranches_btReq e n _ _ _ _)
  have served {e : Dev} (h : KeepsBranches d e) : KeepsBranches d ((e.btShow n).btServe).btSums :=
    ((h.trans (keepsBranches_btShow e n)).trans (keepsBranches_btServe _)).trans (keepsBranches_btSums _)
  exact served (sent (.other (dissolved (.when (.refl d) (keepsBranches_exitRecord d n))) rfl rfl))

/-- The exit of a branch acts on its link and its record alone (R455). -/
theorem keepsBranches_btBranchExit (d : Dev) (n : Nat) : KeepsBranches d (d.btBranchExit n) :=
  .ite (keepsBranches_btDissolveAt d n true false) (keepsBranches_exitRecord d n)

/-! ## The state after a trip (R453) -/

section
variable {d e : Dev} {n : Nat}

theorem branchState_low (hn : n < 8) : A.BRn_STATE n < 0x3C00 := by
  unfold A.BRn_STATE
  omega

theorem bs_of_keeps (h : KeepsBranches d e) (hn : n < 8) : e.bs n = d.bs n :=
  congrArg (fun w => fieldOf w 0 3) (h.1 _ (branchState_low hn))

/-- A branch leaves for the state that is named, and the rows of the cycle stay. -/
theorem brLeave_enters (d : Dev) {st : Nat} (hn : n < 8) (hst : st < 8) :
    (d.brLeave n st).bs n = st ∧ (d.brLeave n st).cyc.brRows = d.cyc.brRows := by
  have hput : ((d.brOff n).put (R.BRn_STATE_STATE n) st).bs n = st :=
    (get_put_same _ (R.BRn_STATE_STATE n) st (by decide : 0 + 3 ≤ 32)).trans (Nat.mod_eq_of_lt hst)
  unfold Dev.brLeave
  dsimp only
  split
  · have h := keepsBranches_btBranchExit ((d.brOff n).put (R.BRn_STATE_STATE n) st) n
    exact ⟨(bs_of_keeps h hn).trans hput, h.2⟩
  · exact ⟨hput, rfl⟩

@[simp] theorem put_brRows (d : Dev) (f : Fld) (v : Nat) : (d.put f v).cyc.brRows = d.cyc.brRows := rfl
@[simp] theorem set1_brRows (d : Dev) (f : Fld) : (d.set1 f).cyc.brRows = d.cyc.brRows := rfl

theorem brFault_keeps (e : Dev) (n cause : Nat) :
    (e.brFault n cause).bs n = e.bs n ∧ (e.brFault n cause).cyc.brRows = e.cyc.brRows := by
  have hne : A.BRn_STATE n ≠ A.BR_FLAGS := by
    unfold A.BRn_STATE A.BR_FLAGS
    omega
  exact ⟨get_set1_addr e (R.BR_FLAGS_FAULT.bit n) (R.BRn_STATE_STATE n) hne, rfl⟩

theorem brTrip_enters (d : Dev) (cause : Nat) (hn : n < 8) :
    (d.brTrip n cause).bs n = brTripped ∧ (d.brTrip n cause).cyc.brRows = d.cyc.brRows := by
  have hleft (e : Dev) := brLeave_enters e hn (show brTripped < 8 by decide)
  have hfault (e : Dev) := brFault_keeps e n cause
  unfold Dev.brTrip
  dsimp only
  refine ⟨(hfault _).1.trans (hleft _).1, ((hfault _).2.trans (hleft _).2).trans ?_⟩
  rw [put_brRows, set1_brRows, put_brRows, put_brRows, put_brRows]

end

/-! ## The evaluation of a branch (R451, R453, R460, R468, R469) -/

section
variable {d e f : Dev} {n : Nat}

/-- Vsp is shown in another register than the state of the branch. -/
theorem bs_put_vsp (d : Dev) (n v : Nat) : (d.put (R.BRn_MEAS_V_VSP n) v).bs n = d.bs n := by
  refine get_put_addr d (R.BRn_MEAS_V_VSP n) (R.BRn_STATE_STATE n) v (?_ : A.BRn_STATE n ≠ A.BRn_MEAS_V n)
  unfold A.BRn_STATE A.BRn_MEAS_V
  omega

/-- The captures of a scan stand in other registers than the state of the branch, and note no row. -/
theorem brCapture_keeps (d : Dev) (n : Nat) :
    (d.brCapture n).bs n = d.bs n ∧ (d.brCapture n).cyc.brRows = d.cyc.brRows := by
  have hpeak : A.BRn_STATE n ≠ A.BRn_PEAK n := by
    unfold A.BRn_STATE A.BRn_PEAK
    omega
  have hrange : A.BRn_STATE n ≠ A.BRn_VRANGE n := by
    unfold A.BRn_STATE A.BRn_VRANGE
    omega
  have put (d : Dev) (g : Fld) (v : Nat) (h : A.BRn_STATE n ≠ g.addr) : (d.put g v).bs n = d.bs n :=
    get_put_addr d g (R.BRn_STATE_STATE n) v h
  have max (d : Dev) (g : Fld) (v : Nat) (h : A.BRn_STATE n ≠ g.addr) : (d.putMax g v).bs n = d.bs n :=
    get_put_addr _ g (R.BRn_STATE_STATE n) _ h
  have maxRows (d : Dev) (g : Fld) (v : Nat) : (d.putMax g v).cyc.brRows = d.cyc.brRows := rfl
  have noted (d : Dev) (g : Fld) (v : Nat) : (d.noteAs g v).bs n = d.bs n ∧ (d.noteAs g v).cyc.brRows = d.cyc.brRows :=
    ⟨rfl, rfl⟩
  have mod (d : Dev) (f : Branch → Branch) : (d.modBr n f).bs n = d.bs n ∧ (d.modBr n f).cyc.brRows = d.cyc.brRows :=
    ⟨rfl, rfl⟩
  unfold Dev.brCapture
  dsimp only
  refine ⟨(mod _ _).1.trans ?_, (mod _ _).2.trans ?_⟩
  · rw [put _ (R.BRn_VRANGE_VOUT_MAX n) _ hrange, put _ (R.BRn_VRANGE_VOUT_MIN n) _ hrange,
      max _ (R.BRn_PEAK_IB_PK n) _ hpeak, max _ (R.BRn_PEAK_IA_PK n) _ hpeak, (noted _ _ _).1, (noted _ _ _).1]
    rfl
  · rw [put_brRows, put_brRows, maxRows, maxRows, (noted _ _ _).2, (noted _ _ _).2]
    rfl

theorem brEvaluate_live (hl : d.brLive n = true)
    (he : e = d.put (R.BRn_MEAS_V_VSP n) ((d.vsp n).getD (Config.free .noVsp [n] % 2 ^ 14)))
    (hf : f = e.when (e.bs n == brOn) fun d => d.brCapture n) {g : Dev}
    (hg : g = f.brRow n 6 (fun d => d.bs n == brOn && decide (d.get (R.BRn_FUSE_FUSE_N n) ≤ d.brOvers n)) fun d =>
      (d.modBr n fun b => { b with overs := d.brOvers n }).brTrip n caOverload) :
    d.brEvaluate n = if g.bs n == brOn then
        (g.modBr n fun b => { b with overs := g.brOvers n }).feedAfter n fun d => (d.legScan n false).legScan n true
      else (g.brRow n 12 (fun d => d.bs n == brReady && d.brStart n) fun d =>
        (d.put (R.BRn_STATE_STATE n) brPrecharge).modBr n fun b => { b with pre := true }).brRow n 13
          (fun d => d.bs n == brPrecharge && d.brDone n) fun d => d.brEnterOn n := by
  rw [hg, hf, he]
  exact if_neg (by rw [hl]; decide)

/-- A branch that is not in ON has neither captures nor an overload. -/
theorem brEvaluate_notOn (hl : d.brLive n = true) (hfree : d.cyc.brRows.lookup n = none)
    (he : e = d.put (R.BRn_MEAS_V_VSP n) ((d.vsp n).getD (Config.free .noVsp [n] % 2 ^ 14))) (hb : e.bs n ≠ brOn) :
    d.brEvaluate n = (e.brRow n 12 (fun d => d.bs n == brReady && d.brStart n) fun d =>
        (d.put (R.BRn_STATE_STATE n) brPrecharge).modBr n fun b => { b with pre := true }).brRow n 13
          (fun d => d.bs n == brPrecharge && d.brDone n) fun d => d.brEnterOn n := by
  have hfree' : e.cyc.brRows.lookup n = none := by rw [he]; exact hfree
  have hoff : (e.bs n == brOn) = false := beq_eq_false_iff_ne.mpr hb
  have heq := brEvaluate_live hl he rfl rfl
  rw [hoff, when_false, brRow_holdsNot hfree' (by rw [hoff, Bool.false_and]), hoff] at heq
  exact heq

/-- A row that has been noted keeps those that stand below it from acting. -/
theorem brRow_below {r x : Nat} {w : Word} {b : Branch} {cond : Dev → Bool} {act : Dev → Dev}
    (h : d.cyc.brRows.lookup n = some (x, w, b)) (hr : x ≤ r) : d.brRow n r cond act = d :=
  (brRow_later h).trans (if_neg (Nat.not_lt.mpr hr))

theorem brEvaluate_ready (hl : d.brLive n = true) (hfree : d.cyc.brRows.lookup n = none)
    (he : e = d.put (R.BRn_MEAS_V_VSP n) ((d.vsp n).getD (Config.free .noVsp [n] % 2 ^ 14))) (hb : d.bs n = brReady) :
    (e.brStart n = true → d.brEvaluate n =
      ((e.noteRow n 12).put (R.BRn_STATE_STATE n) brPrecharge).modBr n fun b => { b with pre := true })
    ∧ (e.brStart n = false → d.brEvaluate n = e) := by
  have hb' : e.bs n = brReady := by rw [he, bs_put_vsp, hb]
  have hfree' : e.cyc.brRows.lookup n = none := by rw [he]; exact hfree
  have heq := brEvaluate_notOn hl hfree he (by rw [hb']; decide)
  refine ⟨fun hs => ?_, fun hs => ?_⟩
  · rw [brRow_holds hfree' (by rw [hb', hs]; rfl)] at heq
    exact heq.trans (brRow_below (x := 12) (lookup_noteRow e n 12) (by decide))
  · rw [brRow_holdsNot hfree' (by rw [hs, Bool.and_false])] at heq
    exact heq.trans (brRow_holdsNot hfree' (by rw [hb']; rfl))

theorem brEvaluate_precharge (hl : d.brLive n = true) (hfree : d.cyc.brRows.lookup n = none)
    (he : e = d.put (R.BRn_MEAS_V_VSP n) ((d.vsp n).getD (Config.free .noVsp [n] % 2 ^ 14))) (hb : d.bs n = brPrecharge) :
    (e.brDone n = true → d.brEvaluate n = (e.noteRow n 13).brEnterOn n) ∧ (e.brDone n = false → d.brEvaluate n = e) := by
  have hb' : e.bs n = brPrecharge := by rw [he, bs_put_vsp, hb]
  have hfree' : e.cyc.brRows.lookup n = none := by rw [he]; exact hfree
  have heq := brEvaluate_notOn hl hfree he (by rw [hb']; decide)
  rw [brRow_holdsNot hfree' (by rw [hb']; rfl)] at heq
  refine ⟨fun hd => heq.trans (brRow_holds hfree' (by rw [hb', hd]; rfl)),
    fun hd => heq.trans (brRow_holdsNot hfree' (by rw [hd, Bool.and_false]))⟩

theorem brEvaluate_on (hl : d.brLive n = true) (hfree : d.cyc.brRows.lookup n = none)
    (he : e = d.put (R.BRn_MEAS_V_VSP n) ((d.vsp n).getD (Config.free .noVsp [n] % 2 ^ 14))) (hb : d.bs n = brOn)
    (hf : f = e.brCapture n) :
    (f.get (R.BRn_FUSE_FUSE_N n) ≤ f.brOvers n → d.brEvaluate n
      = ((f.noteRow n 6).modBr n fun b => { b with overs := (f.noteRow n 6).brOvers n }).brTrip n caOverload)
    ∧ (f.brOvers n < f.get (R.BRn_FUSE_FUSE_N n) → d.brEvaluate n
      = (f.modBr n fun b => { b with overs := f.brOvers n }).feedAfter n fun g => (g.legScan n false).legScan n true) := by
  obtain ⟨-, hn⟩ := brLive_serves hl
  obtain ⟨hbs, hrows⟩ := brCapture_keeps e n
  have hbe : e.bs n = brOn := by rw [he, bs_put_vsp, hb]
  have hbf : f.bs n = brOn := by rw [hf, hbs, hbe]
  have hfree' : f.cyc.brRows.lookup n = none := by rw [hf, hrows, he]; exact hfree
  have heq := brEvaluate_live hl he (f := f) (by rw [beq_iff_eq.mpr hbe, when_true, hf]) rfl
  refine ⟨fun ho => ?_, fun ho => ?_⟩
  · rw [brRow_holds hfree' (by rw [hbf, decide_eq_true ho]; rfl)] at heq
    obtain ⟨htrip, hnoted⟩ := brTrip_enters ((f.noteRow n 6).modBr n fun b => { b with overs := (f.noteRow n 6).brOvers n })
      caOverload hn
    have hlook := (congrArg (List.lookup n) hnoted).trans (lookup_noteRow f n 6)
    rw [htrip, if_neg (by decide), brRow_below (r := 12) hlook (by decide), brRow_below (r := 13) hlook (by decide)] at heq
    exact heq
  · rw [brRow_holdsNot hfree' (by rw [decide_eq_false (Nat.not_le.mpr ho), Bool.and_false]), hbf] at heq
    exact heq

theorem brDone_of_vsp {v : Nat} (h : d.vsp n = some v) :
    d.brDone n = true ↔ v * 19 ≤ d.get (R.BRn_MEAS_V_VOUT n) * 20 := by
  rw [Dev.brDone, h]
  exact decide_eq_true_iff

end

/-- Settles O48. -/
theorem branchesAreEvaluatedAndBraked : Obligations.BranchesAreEvaluatedAndBraked := by
  unfold Obligations.BranchesAreEvaluatedAndBraked
  refine ⟨fun d q hs hr => ⟨fun hdue e he => ?scan, fun hdone => ?evaluate, fun n hn => ?brake⟩, fun d q len hs hr => ?pause,
    fun d e n hl hfree he => ⟨fun hb => brEvaluate_ready hl hfree he hb, fun hb => brEvaluate_precharge hl hfree he hb,
      fun v hv => brDone_of_vsp hv, fun hb f hf => brEvaluate_on hl hfree he hb hf⟩⟩
  case scan =>
    have heq : d.branchScan = e.modSense fun x => { x with scan := some (e.cycles, e.converting d.scanInputs) } := by
      rw [he]
      exact (if_pos hr).trans (if_neg (by rw [hdue]; decide))
    exact answers_inService rfl rfl hs heq
  case evaluate => exact answers_inService rfl rfl hs (if_pos (by rw [hr, hdone]; rfl))
  case brake =>
    have heq : d.brakeNow n = d.modBr n fun b =>
        { b with brake := d.mode.regulating && decide (rev4 d.brakeSlot < d.brakeLevel n) } := by
      rw [Dev.brakeNow, hr, Bool.true_and]
    exact answers_inService rfl (decide_eq_true hn) hs heq
  case pause => exact answers_inService rfl rfl hs (if_pos (by rw [hr]; exact hs))

end Sys2Proof.Machine
end

/-!
The mode machine, the slots and the rails (R515 to R539), and from these the statements O51 and O52.
-/
section
namespace Sys2Proof.Machine

/-! ## Commands of the sequencer (R515 to R517, R532, R535) -/

section
variable {d : Dev}

/-- The answer to a command of the sequencer stands in another register than the mode. -/
theorem seqRes_mode (d : Dev) (cmd : Nat) (c : Code) : (d.seqRes cmd c).mode = d.mode := by
  have h : (d.seqRes cmd c).get R.SYS_MODE_MODE = d.get R.SYS_MODE_MODE :=
    (get_put_addr _ R.SEQ_CMD_RES_CMD R.SYS_MODE_MODE cmd (by decide)).trans
      (get_put_addr d R.SEQ_CMD_RES_CODE R.SYS_MODE_MODE c.val (by decide))
  exact congrArg Mode.ofCode h

theorem serving_of_mode {m : Mode} (h : d.mode = m) (hm : m.afterBoot = true) : Serving d :=
  (congrArg Mode.afterBoot h).trans hm

theorem cmdOn_notSafe (hs : Serving d) (h : d.mode ≠ .safe) :
    d.cmdOn = (((d.seqRes 1 .accepted).set1 R.SEQ_STATUS_ON_LATCH).quietEnd).modSeq fun s => { s with onFresh := true } := by
  have hdark : d.mode ≠ .dark := fun hd => by
    rw [Serving, hd] at hs
    cases hs
  refine (if_neg (by rw [show d.mode.afterBoot = true from hs]; decide)).trans ((if_neg (by simpa using h)).trans ?_)
  exact if_neg (by rw [seqRes_mode]; simp [h, hdark])

theorem cmdOn_safe (h : d.mode = .safe) : d.cmdOn = d.seqRes 1 .mode := by
  rw [Dev.cmdOn, h]
  rfl

theorem cmdOff_serves (hs : Serving d) :
    d.cmdOff = ((d.seqRes 2 .accepted).clr R.SEQ_STATUS_ON_LATCH).shelfDrain := if_pos hs

theorem cmdClearSafe_safe (h : d.mode = .safe) :
    d.cmdClearSafe = if d.causeGone then ((d.seqRes 3 .accepted).modSeq fun s => { s with safeSource := none }).standby
      else d.seqRes 3 .mode := by
  rw [Dev.cmdClearSafe, h]
  rfl

theorem cmdClearSafe_otherwise (hs : Serving d) (h : d.mode ≠ .safe) : d.cmdClearSafe = d.seqRes 3 .accepted :=
  (if_neg (by rw [show d.mode.afterBoot = true from hs]; decide)).trans (if_pos (by simpa using h))

theorem cmdQuiet_may (h : d.mode = .standby) (hp : d.isPrimary = false) (hb : d.isStandby = false) {e : Dev}
    (he : e = ((d.seqRes 4 .accepted).set1 R.SYS_MODE_QUIET |>.modSup fun s =>
      { s with stopped := true, quietStop := true }).showWeevil) :
    d.cmdQuiet = if e.src == srcDisc then e.setSrc srcFly else e := by
  rw [he, Dev.cmdQuiet, h, hp, hb]
  rfl

theorem cmdQuiet_mayNot (hs : Serving d) (h : d.mode ≠ .standby ∨ d.isPrimary = true ∨ d.isStandby = true) :
    d.cmdQuiet = d.seqRes 4 .mode := by
  refine (if_neg (by rw [show d.mode.afterBoot = true from hs]; decide)).trans (if_neg ?_)
  rcases h with h | h | h <;> simp [h]

/-! ## Timers of the mode machine (R518, R520, R522, R531, R536) -/

theorem rampStart_free (hm : d.mode = .standby) (hon : d.on R.SEQ_STATUS_ON_LATCH = true) (hth : d.thHoldNow = false)
    (hoff : d.seq.offDue = false) (hb : ∀ i, i < 8 → d.blocked i = false) :
    d.rampStart = ((d.enter .ramp).modSeq fun s => { s with csSeen := false, onReached := 0, offPassed := 0 }).trimRamp := by
  have hall : ((List.range 8).all fun i => !d.blocked i) = true := by
    simpa using hb
  exact if_pos (by rw [hm, hon, Dev.heldOff, hth, hoff, hall]; rfl)

theorem rampStart_blocked {i : Nat} (hi : i < 8) (hb : d.blocked i = true) : d.rampStart = d := by
  have hall : ((List.range 8).all fun i => !d.blocked i) = false :=
    List.all_eq_false.mpr ⟨i, List.mem_range.mpr hi, by simp [hb]⟩
  exact if_neg (by rw [hall, Bool.and_false]; decide)

theorem rampStart_held (h : d.thHoldNow = true ∨ d.seq.offDue = true) : d.rampStart = d := by
  have hheld : d.heldOff = true := (Bool.or_eq_true _ _).mpr h
  exact if_neg (by rw [hheld, Bool.not_true, Bool.and_false, Bool.false_and]; decide)

theorem rampTimeout_passed (hm : d.mode = .ramp) (hp : d.slotsPassed = true) :
    d.rampTimeout = ((d.set1 R.SEQ_FLAGS_RAMP_LATE).report 119).enter .run := if_pos (by rw [hm, hp]; rfl)

theorem rideReturn_back (hm : d.mode = .ride) (hi : d.mainsInput = false) (hb : d.seq.inputBack = true) :
    d.rideReturn = d.modSeq fun s => { s with rideBack := true } := if_pos (by rw [hm, hi, hb]; rfl)

theorem rideTimeout_limit (hm : d.mode = .ride) (ht : d.get R.SEQ_CTRL_RIDE_TMO ≠ 0) :
    d.rideTimeout = ((d.set1 R.SEQ_FLAGS_RIDE_LATE).report 119).drain :=
  if_pos (by rw [hm, bne_iff_ne.mpr ht]; rfl)

theorem serviceRestored_due (hs : Serving d) (hl : d.sup.lgHeld = false) (hst : d.sup.stopped = true) (hq : d.quiet = false) :
    d.serviceRestored = ((d.modSup fun s => { s with stopped := false, quietStop := false }).showWeevil).modNet fun n =>
      { n with segA := { n.segA with adopted := false }, segB := { n.segB with adopted := false } } :=
  if_pos (by rw [hst, hq, hl, show d.mode.afterBoot = true from hs]; rfl)

theorem quietWake_quiet (hm : d.mode = .standby) (hq : d.quiet = true) :
    d.quietWake = d.quietEnd.modHost fun h => { h with silentTo := d.cycles + 10000 } := if_pos (by rw [hm, hq]; rfl)

/-! ## What a cycle leaves to the next (R517, R522, R572, R577) -/

theorem seqSteps_eq (h0 : d.seq.noUpDue = 0) {e : Dev}
    (he : e = d.modSeq fun s => { s with offDue := false, onFresh := false, rideBack := false, noUpDue := 0 }) {f g : Dev}
    (hf : f = e.when (d.seq.rideBack && e.mode == .ride) fun d => d.enter .run)
    (hg : g = f.when (d.seq.onFresh && f.thHoldNow) fun d => (d.clr R.SEQ_STATUS_ON_LATCH).bump R.THERM_STATUS_ON_DROP) :
    d.seqSteps = g.when d.seq.offDue Dev.cmdOff := by
  have hnone : idxs 16 (tbit d.seq.noUpDue) = [] := by
    rw [h0]
    decide
  unfold Dev.seqSteps
  dsimp only
  rw [hnone, hg, hf, he]
  rfl

end

/-- Settles O51. -/
theorem modesChangeByTheirRows : Obligations.ModesChangeByTheirRows := by
  unfold Obligations.ModesChangeByTheirRows
  refine fun d q => ⟨fun hr => ⟨fun h => ?on, fun h => ?onSafe, ?off, fun h hc => ?gone, fun h hc => ?stays, fun h => ?noSafe,
      fun e he h hp hb => ⟨fun hsrc => ?quiet, fun hsrc => ?quietDisc⟩, fun h => ?quietNot⟩,
    fun hm hon => ⟨fun hth hoff hb => ?ramp, fun i hi hb => ?blocked, fun h => ?held⟩, fun hm hp => ?rampTmo,
    fun hm => ⟨fun hi hb => ?rideBack, fun ht => ?rideTmo⟩, fun hs => ?minOff, fun hm hq => ?wake,
    fun hs hl hst hq => ?restored, fun e he h0 => ⟨fun h1 h2 h3 hm => ?run, fun h1 h2 h3 hm => ?noRun,
      fun h1 h2 h3 => ⟨fun hth => ?drop, fun hth => ?keep⟩, fun h1 h2 h3 hs => ?offDue⟩⟩
  case on => exact answers_byRegister rfl rfl hr (cmdOn_notSafe (d := d.disarm) hr.1 h)
  case onSafe => exact answers_byRegister rfl rfl hr (cmdOn_safe (d := d.disarm) h)
  case off => exact answers_byRegister rfl rfl hr (cmdOff_serves (d := d.disarm) hr.1)
  case gone => exact answers_byRegister rfl rfl hr ((cmdClearSafe_safe (d := d.disarm) h).trans (if_pos hc))
  case stays =>
    exact answers_byRegister rfl rfl hr ((cmdClearSafe_safe (d := d.disarm) h).trans (if_neg (Bool.eq_false_iff.mp hc)))
  case noSafe => exact answers_byRegister rfl rfl hr (cmdClearSafe_otherwise (d := d.disarm) hr.1 h)
  case quiet =>
    have heq := (cmdQuiet_may (d := d.disarm) h hp hb he).trans (if_neg (mt beq_iff_eq.mp hsrc))
    exact answers_byRegister rfl rfl hr heq
  case quietDisc =>
    have heq := (cmdQuiet_may (d := d.disarm) h hp hb he).trans (if_pos (beq_iff_eq.mpr hsrc))
    exact answers_byRegister rfl rfl hr heq
  case quietNot => exact answers_byRegister rfl rfl hr (cmdQuiet_mayNot (d := d.disarm) hr.1 h)
  case ramp => exact answers_inService rfl rfl (serving_of_mode hm rfl) (rampStart_free hm hon hth hoff hb)
  case blocked => exact answers_inService rfl rfl (serving_of_mode hm rfl) (rampStart_blocked hi hb)
  case held => exact answers_inService rfl rfl (serving_of_mode hm rfl) (rampStart_held h)
  case rampTmo => exact answers_inService rfl rfl (serving_of_mode hm rfl) (rampTimeout_passed hm hp)
  case rideBack => exact answers_inService rfl rfl (serving_of_mode hm rfl) (rideReturn_back hm hi hb)
  case rideTmo => exact answers_inService rfl rfl (serving_of_mode hm rfl) (rideTimeout_limit hm ht)
  case minOff => exact answers_inService rfl rfl hs rfl
  case wake => exact answers_inService rfl rfl (serving_of_mode hm rfl) (quietWake_quiet hm hq)
  case restored => exact answers_inService rfl rfl hs (serviceRestored_due hs hl hst hq)
  all_goals have heq := seqSteps_eq h0 he rfl rfl
  case run =>
    rw [h1, h2, h3, hm] at heq
    exact heq
  case noRun =>
    rw [h1, h2, h3, Bool.true_and, beq_eq_false_iff_ne.mpr hm] at heq
    exact heq
  case drop =>
    rw [h1, h2, h3, Bool.false_and, when_false, when_false, hth] at heq
    exact heq
  case keep =>
    rw [h1, h2, h3, Bool.false_and, when_false, when_false, hth] at heq
    exact heq
  case offDue =>
    rw [h1, h2, h3, Bool.false_and, when_false, Bool.false_and, when_false, when_true] at heq
    exact heq.trans (cmdOff_serves hs)

/-! ## Slots, rails and reset outputs (R524 to R527, R534) -/

section
variable {d : Dev} {r : Nat}

theorem railOnSlot_due (h16 : r < 16) (hm : d.mode = .ramp) (hdue : d.slotDue (R.RAILr_ON_TURN r) (R.RAILr_ON_REED r) = true)
    (hu : d.usedSlot r = true) (hnew : tbit d.seq.onReached r = false) {e : Dev}
    (he : e = ({ d.modSeq (fun s => { s with onReached := sbit s.onReached r true }) with
      cyc := { d.cyc with onSlots := sbit d.cyc.onSlots r true } }).slotEnable r) {f : Dev}
    (hf : f = e.when (!(e.railUse r && e.on (R.RAILr_CFG_PG_EN r))) fun d => d.rstoStart r) :
    d.railOnSlot r = f.each (f.slotStages r) Dev.stageStart := by
  rw [hf, he]
  exact if_neg (by rw [hm, hdue, hu, hnew, decide_eq_true h16]; decide)

theorem railOffSlot_due (h16 : r < 16) (hm : d.mode = .drain)
    (hdue : d.slotDue (R.RAILr_OFF_TURN r) (R.RAILr_OFF_REED r) = true) (hu : d.usedSlot r = true)
    (hon : tbit d.seq.onReached r = true) (hnew : tbit d.seq.offPassed r = false) {e : Dev}
    (he : e = d.modSeq fun s => { s with offPassed := sbit s.offPassed r true }) :
    d.railOffSlot r = (e.slotOff r).each (e.slotStages r) Dev.stageStop := by
  rw [he]
  exact if_neg (by rw [hm, hdue, hu, hon, hnew, decide_eq_true h16]; decide)

theorem pgWaits_eq (h16 : r < 16) : d.pgWaits r = (tbit d.seq.pgWait r && d.railEn r) := by
  rw [Dev.pgWaits, decide_eq_true h16, Bool.true_and]

theorem pgRise_used (h16 : r < 16) (hu : d.railUse r = true) {up : Dev}
    (hup : up = ((d.set1 (R.SEQ_RAIL_LEVEL_PG.bit r)).unholdEv 117 r).modSeq fun s =>
      { s with pgWait := sbit s.pgWait r false }) :
    d.pgRise r = up.when (up.slotOn r && up.on (R.RAILr_CFG_PG_EN r) && !tbit up.seq.noUp r) fun d => d.rstoStart r := by
  rw [hup]
  exact if_neg (by rw [hu, decide_eq_true h16]; decide)

theorem railLost_used (h16 : r < 16) (hu : d.railUse r = true) {dn : Dev} (hdn : dn = d.clr (R.SEQ_RAIL_LEVEL_PG.bit r)) :
    d.railLost r = if dn.railEn r && dn.on (R.RAILr_CFG_PG_EN r) && (dn.mode == .run || dn.mode == .ride) then
      (((dn.set1 (R.SEQ_RAIL_FAIL_LOST.bit r)).rstoAssert r).report 117 r).holdEv 117 r else dn := by
  rw [hdn]
  exact if_neg (by rw [hu, decide_eq_true h16]; decide)

end

/-- Settles O52. -/
theorem railsFollowTheirSlots : Obligations.RailsFollowTheirSlots := by
  unfold Obligations.RailsFollowTheirSlots
  intro d q r hs h16
  have hok : decide (r < 16) = true := decide_eq_true h16
  refine ⟨fun hm hdue hu hnew => ⟨fun huse hpg => ?onWait, fun h => ?onFree⟩, fun hm hdue hu hon hnew => ?off,
    fun hw hen => ⟨?noUp, ?failed⟩, fun h => ⟨?waitsNot, ?failsNot⟩,
    fun hu => ⟨fun hslot hpg hno => ?up, fun h => ?upOnly, fun hen hpg hm => ?lost, fun hen => ?lostOff⟩, fun k hk ht => ?release⟩
  case onWait =>
    have heq := railOnSlot_due h16 hm hdue hu hnew rfl rfl
    rw [huse, hpg] at heq
    exact answers_inService rfl hok hs heq
  case onFree =>
    have heq := railOnSlot_due h16 hm hdue hu hnew rfl rfl
    rw [show (!(_ && _)) = true from Bool.not_eq_true' .. |>.mpr (Bool.and_eq_false_iff.mpr h), when_true] at heq
    exact answers_inService rfl hok hs heq
  case off => exact answers_inService rfl hok hs (railOffSlot_due h16 hm hdue hu hon hnew rfl)
  case noUp => exact answers_inService rfl hok hs (if_pos (by rw [pgWaits_eq h16, hw, hen]; rfl))
  case failed => exact if_neg (by rw [pgWaits_eq h16, hw, hen]; decide)
  case waitsNot =>
    have hno : d.pgWaits r = false := (pgWaits_eq h16).trans (Bool.and_eq_false_iff.mpr h)
    exact answers_inService rfl hok hs (if_neg (Bool.eq_false_iff.mp hno))
  case failsNot =>
    have hno : d.pgWaits r = false := (pgWaits_eq h16).trans (Bool.and_eq_false_iff.mpr h)
    exact if_pos (by rw [hno]; rfl)
  case up =>
    have heq := pgRise_used h16 hu rfl
    rw [hslot, hpg, hno] at heq
    exact answers_inService rfl hok hs heq
  case upOnly =>
    have heq := pgRise_used h16 hu rfl
    rcases h with h | h
    · rw [h, Bool.false_and, Bool.false_and, when_false] at heq
      exact answers_inService rfl hok hs heq
    · rw [h, Bool.not_true, Bool.and_false, when_false] at heq
      exact answers_inService rfl hok hs heq
  case lost =>
    have hmode : (_ == Mode.run || _ == Mode.ride) = true := (Bool.or_eq_true _ _).mpr (hm.imp beq_iff_eq.mpr beq_iff_eq.mpr)
    exact answers_inService rfl hok hs ((railLost_used h16 hu rfl).trans (if_pos (by rw [hen, hpg, hmode]; rfl)))
  case lostOff =>
    exact answers_inService rfl hok hs
      ((railLost_used h16 hu rfl).trans (if_neg (by rw [hen, Bool.false_and, Bool.false_and]; decide)))
  case release =>
    exact answers_inService rfl (decide_eq_true hk) hs (if_pos (by rw [decide_eq_true hk, ht]; rfl))

end Sys2Proof.Machine
end

/-!
Storage, temperature and Gutter's commands (R543 to R595), and from these the statements O53, O54 and O55.
-/
section
namespace Sys2Proof.Machine

/-! ## Scans and evaluations of the estimator (R543, R545, R555, R559) -/

section
variable {d : Dev}

theorem estScan_due (hr : d.isRole .stor = true) (hdue : d.scanDue (d.get R.ST_CFG_EST_LOG2) = true) {e : Dev}
    (he : e = d.each d.estInputs Dev.trigger) :
    d.estScan = e.modSense fun x => { x with scan := some (e.cycles, e.converting d.estInputs) } := by
  rw [he]
  exact (if_pos hr).trans (if_neg (by rw [hdue]; decide))

theorem strEvaluated_quiet (hq : d.quiet = true) : d.strEvaluated = d := if_pos (by rw [hq, Bool.or_true])

theorem strEvaluated_done (hr : d.isRole .stor = true) (hq : d.quiet = false) (hd : d.scanDone d.estInputs = true) {e : Dev}
    (he : e = d.scanOver.each (idxs 6 d.scanOver.strOn) Dev.estString) :
    d.strEvaluated = e.each (idxs 6 e.strOn) fun d k => d.powerSample k ⟨-(d.strV k * d.strI k), -32⟩ := by
  rw [he]
  exact if_neg (by rw [hr, hd, hq]; decide)

/-- What holds of the one string that is estimated is asked of it alone. -/
theorem idxs_and_one {k : Nat} {p : Nat → Bool} (h : idxs 6 d.strOn = [k]) (hp : p k = true) :
    idxs 6 (fun k => d.strOn k && p k) = [k] := by
  unfold idxs at h ⊢
  have hcomm : (fun k => d.strOn k && p k) = fun k => p k && d.strOn k := funext fun k => Bool.and_comm _ _
  rw [hcomm, ← List.filter_filter, h, List.filter_singleton, hp, cond_true]

theorem drillTimeout_one {k : Nat} (h : idxs 6 d.strOn = [k]) (hd : d.on (R.STk_STATE_DRILL k) = true) :
    d.drillTimeout = d.drillEnd k false :=
  congrArg (fun l => Dev.each d l fun d k => d.drillEnd k false)
    (idxs_and_one (p := fun k => d.on (R.STk_STATE_DRILL k)) h hd)

theorem anchorStale_one {k : Nat} (h : idxs 6 d.strOn = [k]) :
    d.anchorStale = if d.get R.ST_CFG_AGE_LIM ≤ d.get (R.STk_STATE_AGE k) && !(d.str k).aged then
      ((d.set1 (R.STk_STATE_STALE k)).modStr k fun s => { s with aged := true }).stEvent k 107 else d := by
  rw [Dev.anchorStale, h]
  rfl

/-- With no allowance in force the one string's share of it is 0 (R555). -/
theorem ichgUpdate_none {k : Nat} (h : idxs 6 d.strOn = [k]) (per : List Nat)
    (h0 : d.get R.COORD_ALLOT_SLICE = 0 ∨ d.on R.COORD_ALLOT_HELD = false) (hc : d.get (R.STk_CAP_VALUE k) ≠ 0) :
    d.ichgUpdate per = d.put (R.STk_ICHG_VALUE k) (bfRound .ichg ⟨Config.round .ichg 0
      (d.get (R.STk_CAP_VALUE k)), -40⟩).word := by
  have hnone : (decide (d.get R.COORD_ALLOT_SLICE = 0) || !d.on R.COORD_ALLOT_HELD) = true := by
    rcases h0 with h0 | h0 <;> simp [h0]
  unfold Dev.ichgUpdate
  dsimp only
  rw [h]
  simp only [Dev.each, List.foldl, hnone, if_true, if_neg hc, Dy.zero, Int.zero_mul, Nat.zero_add, Int.zero_sub]

/-! ## Commands of the estimator (R558, R561, R562) -/

theorem cmdLearn_takes {k : Nat} (hs : Serving d) (hr : d.isRole .stor = true) (hon : d.strOn k = true)
    (hc : 0 < d.get R.ST_LEARN_CAP_VALUE) (hres : 0 < d.get R.ST_LEARN_RES_R) (hq : 0 ≤ d.getS R.ST_LEARN_Q_VALUE)
    (hle : d.getS R.ST_LEARN_Q_VALUE ≤ d.get R.ST_LEARN_CAP_VALUE) :
    d.cmdLearn k = (d.modStr k fun s => { s with
      learn := some ((d.getS R.ST_LEARN_Q_VALUE).toNat, d.get R.ST_LEARN_CAP_VALUE, d.get R.ST_LEARN_RES_R,
        d.get R.ST_LEARN_U_U, d.get R.ST_LEARN_RES_AGE) }).stRes 1 k .accepted := by
  refine (if_neg (by rw [hr]; decide)).trans ((if_neg ?_).trans (if_neg (by rw [show d.mode.afterBoot = true from hs]; decide)))
  simp [hon, Nat.ne_of_gt hc, Nat.ne_of_gt hres, hq, hle]

theorem cmdLearn_off {k : Nat} (hr : d.isRole .stor = true) (hon : d.strOn k = false) :
    d.cmdLearn k = d.stRes 1 k .badProfile :=
  (if_neg (by rw [hr]; decide)).trans (if_pos (.inl (by rw [hon]; rfl)))

theorem cmdDrill_answer {k : Nat} {c : Code} (hr : d.isRole .stor = true) (hc : d.drillCode k = c) (hn : c ≠ .accepted) :
    d.cmdDrill k = d.stRes 2 k c := by
  subst hc
  exact (if_neg (by rw [hr]; decide)).trans (if_neg (mt beq_iff_eq.mp hn))

theorem cmdDrill_accepted {k : Nat} (hr : d.isRole .stor = true) (hc : d.drillCode k = .accepted) :
    d.cmdDrill k = ((d.stRes 2 k .accepted).set1 (R.STk_STATE_DRILL k)).modStr k fun s =>
      { s with drillAt := some (d.stRes 2 k .accepted).cycles } := by
  refine (if_neg (by rw [hr]; decide)).trans ?_
  rw [hc]
  rfl

/-- A drill needs RUN, its stage in RUN or SLEEP, and no other drill (R561). -/
def Dev.drillRuns (d : Dev) (k : Nat) : Prop :=
  d.strOn k = true ∧ d.mode = .run ∧ d.strStageRuns k = true ∧ ∀ j, j < 6 → d.on (R.STk_STATE_DRILL j) = false

theorem drillCode_eq {k : Nat} (h6 : k < 6) : d.drillCode k =
    if !d.strOn k || d.mode != .run || !d.strStageRuns k || (List.range 6).any (fun j => d.on (R.STk_STATE_DRILL j)) then
      .mode
    else if tbit (d.inhFound k) ciTemp || tbit (d.inhFound k) ciTbad then .temp
    else if tbit (d.inhFound k) ciFull || tbit (d.inhFound k) ciRange then .mode
    else if (d.ichg k).lt (d.idrill k) then .budget
    else .accepted := if_neg (Nat.not_le.mpr h6)

theorem drillRuns_iff {k : Nat} : (!d.strOn k || d.mode != .run || !d.strStageRuns k
    || (List.range 6).any fun j => d.on (R.STk_STATE_DRILL j)) = false ↔ d.drillRuns k := by
  simp [Dev.drillRuns, and_assoc]

theorem cmdDrillStop_running {k : Nat} (h6 : k < 6) (hr : d.isRole .stor = true)
    (hd : (d.stRes 3 k .accepted).on (R.STk_STATE_DRILL k) = true) :
    d.cmdDrillStop k = (d.stRes 3 k .accepted).drillEnd k false :=
  (if_neg (by rw [hr]; decide)).trans ((if_neg (Nat.not_le.mpr h6)).trans (if_pos hd))

end

/-- Settles O53. -/
theorem stringsAreEstimated : Obligations.StringsAreEstimated := by
  unfold Obligations.StringsAreEstimated
  refine ⟨fun d q hs => ⟨fun hr hdue e he => ?scan, fun hr hq => ?quiet, fun hr hq hd => ?evaluated, fun k e he r hr => ?steps,
      fun k hk => ⟨fun hd => ?timeout, fun hage => ⟨fun ha => ?stale, fun ha => ?known⟩, fun per h0 hc => ?ichg⟩⟩,
    fun d q k hr h6 hst => ⟨fun hon hc hres hq hle => ?learn, fun hon => ?learnOff, ⟨fun hruns => ?norun, fun hruns hhot => ?temp,
      fun hruns hhot hfull => ?full, fun hruns hhot hfull => ⟨fun hlt => ?budget, fun hlt => ?drill⟩⟩, fun hd => ?stop⟩⟩
  case scan => exact answers_inService rfl rfl hs (estScan_due hr hdue he)
  case quiet => exact answers_inService rfl rfl hs (strEvaluated_quiet hq)
  case evaluated => exact answers_inService rfl rfl hs (strEvaluated_done hr hq hd rfl)
  case steps =>
    rw [hr, he]
    rfl
  case timeout => exact answers_inService rfl rfl hs (drillTimeout_one hk hd)
  case stale =>
    exact answers_inService rfl rfl hs ((anchorStale_one hk).trans (if_pos (by rw [decide_eq_true hage, ha]; rfl)))
  case known =>
    exact answers_inService rfl rfl hs
      ((anchorStale_one hk).trans (if_neg (by rw [ha, Bool.not_true, Bool.and_false]; decide)))
  case ichg => exact answers_inService rfl rfl hs (ichgUpdate_none hk per h0 hc)
  all_goals have h8 : decide (k < 8) = true := decide_eq_true (Nat.lt_trans h6 (by decide))
  case learn =>
    exact answers_byRegister rfl h8 hr ((if_pos h6).trans (cmdLearn_takes (d := d.disarm) hr.1 hst hon hc hres hq hle))
  case learnOff => exact answers_byRegister rfl h8 hr ((if_pos h6).trans (cmdLearn_off (d := d.disarm) hst hon))
  all_goals have hcode := drillCode_eq (d := d.disarm) h6
  case norun =>
    have hbad := Bool.not_eq_false _ |>.mp (mt (drillRuns_iff (d := d.disarm) (k := k)).mp hruns)
    rw [if_pos hbad] at hcode
    exact answers_byRegister rfl h8 hr ((if_pos h6).trans (cmdDrill_answer (d := d.disarm) hst hcode (by decide)))
  case stop =>
    exact answers_byRegister rfl h8 hr ((if_pos h6).trans (cmdDrillStop_running (d := d.disarm) h6 hst hd))
  all_goals rw [if_neg (Bool.eq_false_iff.mp ((drillRuns_iff (d := d.disarm) (k := k)).mpr hruns))] at hcode
  case temp =>
    rw [if_pos ((Bool.or_eq_true _ _).mpr hhot)] at hcode
    exact answers_byRegister rfl h8 hr ((if_pos h6).trans (cmdDrill_answer (d := d.disarm) hst hcode (by decide)))
  all_goals rw [if_neg (mt (Bool.or_eq_true _ _).mp hhot)] at hcode
  case full =>
    rw [if_pos ((Bool.or_eq_true _ _).mpr hfull)] at hcode
    exact answers_byRegister rfl h8 hr ((if_pos h6).trans (cmdDrill_answer (d := d.disarm) hst hcode (by decide)))
  all_goals rw [if_neg (mt (Bool.or_eq_true _ _).mp hfull)] at hcode
  case budget =>
    rw [if_pos (show (d.disarm.ichg k).lt (d.disarm.idrill k) = true from hlt)] at hcode
    exact answers_byRegister rfl h8 hr ((if_pos h6).trans (cmdDrill_answer (d := d.disarm) hst hcode (by decide)))
  case drill =>
    rw [if_neg (Bool.eq_false_iff.mp (show (d.disarm.ichg k).lt (d.disarm.idrill k) = false from hlt))] at hcode
    exact answers_byRegister rfl h8 hr ((if_pos h6).trans (cmdDrill_accepted (d := d.disarm) hst hcode))

/-! ## Temperatures (R567, R568, R572, R573) -/

section
variable {d : Dev}

/-- The readings that an instant awaits are those of the reference at it: no channel's state changes the reference. -/
theorem each_awaits (l : List Nat) {b : Bool} (h : (d.sensing && d.refReady) = b) :
    d.each l (fun d c => d.modTherm c fun x => { x with awaits := d.sensing && d.refReady })
      = d.each l fun d c => d.modTherm c fun x => { x with awaits := b } := by
  induction l generalizing d with
  | nil => rfl
  | cons c l ih =>
    rw [Dev.each, Dev.each, List.foldl_cons, List.foldl_cons, h]
    exact ih h

theorem thermalMeasure_due (hs : Serving d) (hreed : d.cyc.reedNew = true) (h0 : d.reed % 8192 = 0)
    (hserved : d.cyc.served.contains thermServed = false) (xs : List ThermIn) {e f g : Dev} (he : e = d.serve thermServed)
    (hf : f = e.each ((idxs dieCh e.tsNtc).map fun c => e.get (R.TSc_CFG_IN c)).eraseDups Dev.trigger)
    (hg : g = f.each (idxs dieCh e.tsNtc) fun d c => d.modTherm c fun x => { x with awaits := f.sensing && f.refReady }) :
    d.thermalMeasure xs = g.thTake ((idxs 17 fun c => g.tsOn c && (!g.tsNtc c || (f.sensing && !f.refReady))).map fun c =>
      (c, if g.tsNtc c then none else g.tsReading c (xs.getD c .broken))) := by
  have hgo : ¬((!(d.mode.afterBoot && d.cyc.reedNew && decide (d.reed % 8192 = 0)))
      || d.cyc.served.contains thermServed) = true := by
    rw [show d.mode.afterBoot = true from hs, hreed, decide_eq_true h0, hserved]
    decide
  have hawaits : f.each (idxs dieCh e.tsNtc) (fun d c => d.modTherm c fun x => { x with awaits := d.sensing && d.refReady })
      = g := hg ▸ each_awaits _ rfl
  unfold Dev.thermalMeasure
  rw [if_neg hgo, ← he]
  dsimp only
  rw [← hf, hawaits]

theorem thTake_eq {e : Dev} {l : List (Nat × Option Int)} {off : Bool} (hl : l ≠ [])
    (h : l.foldl (fun (acc : Dev × Bool) x => ((acc.1.thReading x.1 x.2).1, acc.2 || (acc.1.thReading x.1 x.2).2)) (d, false)
      = (e, off)) :
    d.thTake l = (({ e.putB R.THERM_STATUS_HOLD e.thHoldNow with
      seq := { e.seq with offDue := e.seq.offDue || off } }).thLevels).writeWindow := by
  have h' : l.foldl (fun (acc : Dev × Bool) x =>
      let (d, off) := acc.1.thReading x.1 x.2
      (d, acc.2 || off)) (d, false) = (e, off) := h
  unfold Dev.thTake
  rw [if_neg (by simpa using hl), h']
  rfl

theorem dieCondition_crit (t : Int) (h : d.therm.length = 17) : ((d.dieCondition t).therm_ dieCh).dieCrit
    = if 1350 ≤ t then true else if t < 1250 then false else (d.therm_ dieCh).dieCrit := by
  have hset (b : Bool) : (((d.modTherm dieCh fun x => { x with dieCrit := b })).therm_ dieCh).dieCrit = b := by
    simp [Dev.therm_, Dev.modTherm, updAt, dieCh, List.getD_eq_getElem?_getD, h]
  have hcond : ((d.dieCondition t).therm_ dieCh).dieCrit
      = (decide (1350 ≤ t) || ((d.therm_ dieCh).dieCrit && decide (1250 ≤ t))) := by
    rw [← hset (decide (1350 ≤ t) || ((d.therm_ dieCh).dieCrit && decide (1250 ≤ t)))]
    exact when_keeps (fun e => (e.therm_ dieCh).dieCrit) rfl _
  rw [hcond]
  by_cases hhot : 1350 ≤ t
  · simp [hhot]
  · by_cases hcool : t < 1250
    · simp [hhot, hcool, Int.not_le.mpr hcool]
    · simp [hhot, hcool, Int.not_lt.mp hcool]

theorem dieCondition_raises (t : Int) (ht : 1350 ≤ t) (hc : (d.therm_ dieCh).dieCrit = false) :
    (d.dieCondition t).raised = d.raised ++ [⟨114, dieCh, tkDie, false, false⟩] := by
  rw [Dev.dieCondition, hc, decide_eq_true ht]
  rfl

end

/-- Settles O54. -/
theorem temperaturesAreMeasured : Obligations.TemperaturesAreMeasured := by
  unfold Obligations.TemperaturesAreMeasured
  refine ⟨fun d q xs hs hreed h0 hserved e f g he hf hg => ?measure, fun d e l off hl h => thTake_eq hl h,
    fun d c k h => ?invalid, fun d t hlen => ⟨dieCondition_crit t hlen, fun ht hc => dieCondition_raises t ht hc⟩⟩
  case measure => exact answers_inService rfl rfl hs (thermalMeasure_due hs hreed h0 hserved xs he hf hg)
  case invalid => exact if_pos (by simpa using h)

/-! ## Gutter's commands (R580, R588, R591 to R595) -/

section
variable {d : Dev}

theorem gutterCheck_unarmed (h : d.gut.armed = []) (hu : d.gut.upset ≠ []) : d.gutterCheck = d.gutterSelf false := by
  rw [Dev.gutterCheck, takeInj_unarmed h]
  dsimp only
  rw [decide_eq_true hu]
  rfl

/-- An upset of one register's duplicate is the only one, and the copies differ (R592). -/
theorem gutterUpset_first {a : Nat} {bits : Word} (hb : bits ≠ 0) (hu : d.gut.upset = []) (ha : d.gut.armed = []) {e : Dev}
    (he : e = d.modGut fun g => { g with upset := [(a, bits)] }) : d.gutterUpset a bits = e.gutterSelf false := by
  have hw : swrite 0 ([] : Sparse Word) a (sread 0 ([] : Sparse Word) a ^^^ bits) = [(a, bits)] := by
    have hx : sread 0 ([] : Sparse Word) a ^^^ bits = bits := BitVec.zero_xor
    rw [hx, swrite, if_neg hb]
    rfl
  have hmod : (d.modGut fun g => { g with upset := swrite 0 g.upset a (sread 0 g.upset a ^^^ bits) }) = e := by
    rw [he, Dev.modGut, Dev.modGut, hu, hw]
  rw [Dev.gutterUpset, hmod]
  exact gutterCheck_unarmed (he ▸ ha) (by rw [he]; exact List.cons_ne_nil _ _)

theorem gutterSelf_awake (ha : Awake d) (inj : Bool) :
    d.gutterSelf inj = if d.on R.GUT_STATUS_SELF then d.safe .gutter (some 127)
      else (d.set1 R.GUT_STATUS_SELF).report 127 noIdx 0 inj := if_neg (by simpa using ha)

/-- A request on an injection path is accepted (R593). -/
def Dev.injects (d : Dev) (path : Nat) : Prop :=
  tbit (d.get R.GUT_CTRL_INJ_MODE) path = true ∧ (d.mode.regulating = false ∨ d.on R.GUT_CTRL_INJ_RUN = true)

theorem injCode_eq_accepted (path : Nat) : d.injCode path = .accepted ↔ d.injects path := by
  unfold Dev.injCode Dev.injects
  cases tbit (d.get R.GUT_CTRL_INJ_MODE) path <;> cases d.mode.regulating <;> cases d.on R.GUT_CTRL_INJ_RUN <;> decide

theorem force_injects {n : Nat} (hn : n < 4) {mask : Nat} (h : d.injects 0) {l : List Nat}
    (hl : l = (idxs 32 fun b => tbit mask b).map fun b => 32 * n + b) :
    (d.force n mask).1 = d.modGut fun g => { g with forcing := g.forcing.filter (fun x => !l.contains x) ++ l } := by
  unfold Dev.force
  rw [(injCode_eq_accepted 0).mpr h, decide_eq_false (Nat.not_le.mpr hn), hl]
  rfl

theorem force_refused {n mask : Nat} (h : ¬d.injects 0) : (d.force n mask).1 = d := by
  have hc : (d.injCode 0 != .accepted) = true := bne_iff_ne.mpr (mt (injCode_eq_accepted 0).mp h)
  exact congrArg Prod.fst (if_pos (by rw [hc, Bool.true_or]))

/-- The answer to GUT_INJ_CHECK with GO = 1 (R593, R595). -/
def Dev.injAnswer (d : Dev) (point index : Nat) : Code :=
  if 9 ≤ point then .badProfile
  else if d.injCode 1 != .accepted then d.injCode 1
  else if !d.injUnit point index then .mode
  else .accepted

/-- The answer in GUT_INJ_RES. -/
def Dev.injRes (d : Dev) (point : Nat) (c : Code) : Dev :=
  ((d.putCode R.GUT_INJ_RES_CODE c).put R.GUT_INJ_RES_POINT point).clr R.GUT_INJ_RES_DETECTED

theorem injCheck_refused {point index : Nat} {c : Code} (h : d.injAnswer point index = c) (hc : c ≠ .accepted) :
    (d.injCheck point index).1 = d.injRes point c := by
  subst h
  have hn : (d.injAnswer point index == .accepted) = false := beq_eq_false_iff_ne.mpr hc
  unfold Dev.injAnswer at hn
  unfold Dev.injCheck
  dsimp only
  rw [hn]
  rfl

theorem injCheck_accepted {point index i : Nat} (h : d.injAnswer point index = .accepted)
    (hi : i = if point = 2 ∨ point = 7 ∨ point = 8 then 0 else index) :
    (d.injCheck point index).1 = (d.injRes point .accepted).modGut fun g =>
      { g with armed := g.armed.filter (· != ⟨point, i⟩) ++ [⟨point, i⟩] } := by
  have hi' : (if point == 2 || point == 7 || point == 8 then 0 else index) = i := by
    rw [hi]
    simp [or_assoc]
  unfold Dev.injAnswer at h
  unfold Dev.injCheck
  dsimp only
  rw [h, hi']
  rfl

/-- The unit that a check point names is one of the role's (R595). -/
def Dev.injUsed (d : Dev) (point index : Nat) : Prop :=
  match point with
  | 0 => index < 48
  | 1 => index < 8
  | 3 => d.twinUsed = true ∧ index < 12
  | 4 => (d.twinUsed = true ∨ d.isRole .dist = true) ∧ index < 24
  | 5 | 6 => d.twinUsed = true ∧ index < 2
  | _ => True

theorem injUnit_iff (point index : Nat) : d.injUnit point index = true ↔ d.injUsed point index := by
  match point with
  | 0 | 1 => exact decide_eq_true_iff
  | 3 | 5 | 6 => simp [Dev.injUnit, Dev.injUsed]
  | 4 => simp [Dev.injUnit, Dev.injUsed]
  | 2 | n + 7 => exact iff_of_true rfl trivial

theorem injAnswer_below {point : Nat} (h9 : point < 9) (index : Nat) : d.injAnswer point index =
    if d.injCode 1 != .accepted then d.injCode 1 else if !d.injUnit point index then .mode else .accepted :=
  if_neg (Nat.not_le.mpr h9)

theorem injAnswer_injects {point index : Nat} (h9 : point < 9) (h : d.injects 1) :
    d.injAnswer point index = if !d.injUnit point index then .mode else .accepted :=
  (injAnswer_below h9 index).trans (if_neg (by rw [(injCode_eq_accepted 1).mpr h]; decide))

theorem injAnswer_not {point index : Nat} (h9 : point < 9) (h : ¬d.injects 1) : d.injAnswer point index = d.injCode 1 :=
  (injAnswer_below h9 index).trans (if_pos (bne_iff_ne.mpr (mt (injCode_eq_accepted 1).mp h)))

/-- In a mode that regulates the path needs INJ_RUN (R593). -/
theorem injCode_busy {path : Nat} (h : ¬d.injects path) (hm : tbit (d.get R.GUT_CTRL_INJ_MODE) path = true) :
    d.injCode path = .busyRun := by
  obtain ⟨hreg, hrun⟩ := not_or.mp fun hr => h ⟨hm, hr⟩
  refine (if_neg (by rw [hm]; decide)).trans (if_pos ?_)
  rw [Bool.not_eq_false _ |>.mp hreg, Bool.not_eq_true _ |>.mp hrun]
  rfl

theorem injCode_lock {path : Nat} (hm : tbit (d.get R.GUT_CTRL_INJ_MODE) path = false) : d.injCode path = .lock :=
  if_pos (by rw [hm]; rfl)

end

/-- Settles O55. -/
theorem gutterCommandsAct : Obligations.GutterCommandsAct := by
  unfold Obligations.GutterCommandsAct
  intro injects
  refine ⟨fun d q ha => ⟨fun ev idx kind hev hidx hkind => ⟨fun h => ?raise, fun h10 hs => ?trial⟩,
      fun a bits hcopied hb hu harm e he => ⟨fun hs => ?self, fun hs => ?safe⟩⟩,
    fun d q n mask hn hr => ?clear, fun d q n mask hn hr => ⟨fun h l hl => ?force, fun h => ?noForce⟩,
    fun d => ⟨rfl, rfl⟩, fun d q point index hr h64 => ⟨fun h9 hi hu i hidx => ?armed, fun h9 hi hu => ?unused,
      fun h9 hi => ⟨fun hm => ?lock, fun hm => ?busy⟩, fun h9 h16 => ?reserved⟩, fun d q hr => ⟨?first, ?snap⟩⟩
  case raise =>
    refine answers_awake rfl (decide_eq_true ⟨hev, hidx, hkind⟩) ha (?_ : (d.report ev idx kind).when _ _ = _)
    have hno : (ev == 10 && d.mode.afterBoot) = false := by
      rcases h with h | h
      · rw [beq_eq_false_iff_ne.mpr h, Bool.false_and]
      · rw [Bool.not_eq_true _ |>.mp h, Bool.and_false]
    rw [hno]
    rfl
  case trial =>
    refine answers_awake rfl (decide_eq_true ⟨hev, hidx, hkind⟩) ha (?_ : (d.report ev idx kind).when _ _ = _)
    rw [h10, show d.mode.afterBoot = true from hs]
    rfl
  case self =>
    have heq := gutterUpset_first hb hu harm he
    rw [gutterSelf_awake (he ▸ ha), if_neg (by rw [he]; exact Bool.eq_false_iff.mp hs)] at heq
    exact answers_awake rfl hcopied ha heq
  case safe =>
    have heq := gutterUpset_first hb hu harm he
    rw [gutterSelf_awake (he ▸ ha), if_pos (by rw [he]; exact hs)] at heq
    exact answers_awake rfl hcopied ha heq
  case clear =>
    exact answers_byRegister rfl (decide_eq_true hn) hr (if_neg (Nat.not_le.mpr hn))
  case force => exact answers_byRegister rfl (decide_eq_true hn) hr (force_injects (d := d.disarm) hn h hl)
  case noForce => exact answers_byRegister rfl (decide_eq_true hn) hr (force_refused (d := d.disarm) h)
  case first => exact answers_byRegister rfl rfl hr rfl
  case snap => exact answers_byRegister rfl rfl hr rfl
  case reserved =>
    have hans : d.disarm.injAnswer point index = .badProfile := if_pos h9
    exact answers_byRegister rfl (decide_eq_true ⟨h16, h64⟩) hr (injCheck_refused hans (by decide))
  all_goals have hok : decide (point < 16 ∧ index < 64) = true := decide_eq_true ⟨Nat.lt_trans h9 (by decide), h64⟩
  case armed =>
    have hans := (injAnswer_injects (d := d.disarm) (index := index) h9 hi).trans
      (if_neg (by rw [(injUnit_iff (d := d.disarm) point index).mpr hu]; decide))
    exact answers_byRegister rfl hok hr (injCheck_accepted hans hidx)
  case unused =>
    have hans := (injAnswer_injects (d := d.disarm) (index := index) h9 hi).trans
      (if_pos (by rw [Bool.not_eq_true _ |>.mp (mt (injUnit_iff (d := d.disarm) point index).mp hu)]; rfl))
    exact answers_byRegister rfl hok hr (injCheck_refused hans (by decide))
  case lock =>
    have hans := (injAnswer_not (d := d.disarm) (index := index) h9 hi).trans (injCode_lock hm)
    exact answers_byRegister rfl hok hr (injCheck_refused hans (by decide))
  case busy =>
    have hans := (injAnswer_not (d := d.disarm) (index := index) h9 hi).trans (injCode_busy hi hm)
    exact answers_byRegister rfl hok hr (injCheck_refused hans (by decide))

end Sys2Proof.Machine
end

/-!
The links of the trays (R480 to R513), and from these the statement O50.
-/
section
namespace Sys2Proof.Machine

/-! ## Packets received (R480, R486, R487, R508, R510) -/

section
variable {d : Dev} {n ty : Nat} {f : BtFrame} {act : Dev → BtPacket → Dev}

/-- A packet of type `ty` comes from the far end: its CRC is right, and it is one that the far end's role may send. -/
def Dev.btComes (d : Dev) (n : Nat) (f : BtFrame) (ty : Nat) : Prop :=
  f.crc = btCrc f.header f.objs ∧ btFormed f = true ∧ (btPacketOf f).ty = ty ∧ (btPacketOf f).prole = (!d.isRole .tray)
    ∧ maySend (!d.btSource) (!d.on (R.BTn_STATE_DHOST n)) (btPacketOf f).ty = true

theorem btReceive_crc (h : ¬f.crc = btCrc f.header f.objs) : d.btReceive n f = (d.bump (R.BTn_CNT_CRC_ERR n), none) :=
  if_pos (bne_iff_ne.mpr h)

theorem btReceive_bad (h : f.crc = btCrc f.header f.objs)
    (hbad : btFormed f = false ∨ (btPacketOf f).prole = d.isRole .tray ∨ (btPacketOf f).ty = btLoop
      ∨ maySend (!d.btSource) (!d.on (R.BTn_STATE_DHOST n)) (btPacketOf f).ty = false) :
    d.btReceive n f = (d.bump (R.BTn_CNT_BAD n), none) := by
  refine (if_neg (by simp [h])).trans (if_neg ?_)
  rcases hbad with h | h | h | h <;> simp [h]

theorem btReceive_comes (h : d.btComes n f ty) (hloop : ty ≠ btLoop) : d.btReceive n f = (d, some (btPacketOf f)) := by
  obtain ⟨hcrc, hformed, hty, hrole, hmay⟩ := h
  refine (if_neg (by simp [hcrc])).trans (if_pos ?_)
  rw [hformed, hmay, hrole, hty]
  cases d.isRole .tray <;> simp [hloop]

/-- The response bit of a well-formed packet follows its type (R486). -/
theorem resp_of_comes (h : d.btComes n f ty) : (btPacketOf f).resp = isResponse ty := by
  obtain ⟨-, hformed, hty, -, -⟩ := h
  unfold btFormed at hformed
  rw [← hty]
  exact beq_iff_eq.mp (Bool.and_eq_true_iff.mp hformed).2

theorem btOn_discards {e : Dev} (ha : d.btActive n = true) (h : d.btReceive n f = (e, none)) : d.btOn n f ty act = e := by
  unfold Dev.btOn
  rw [if_neg (by rw [ha]; decide), h]

/-- While Weevil does not run, a request gets no response (R510). -/
theorem btOn_idle (ha : d.btActive n = true) (h : d.btComes n f ty) (hloop : ty ≠ btLoop) (hr : isResponse ty = false)
    (hcap : ty ≠ btSrcCap) (hw : d.weevilOn = false) : d.btOn n f ty act = d := by
  unfold Dev.btOn
  rw [if_neg (by rw [ha]; decide), btReceive_comes h hloop]
  dsimp only
  exact if_pos (by rw [resp_of_comes h, hr, hw, bne_iff_ne.mpr hcap, Bool.not_false, Bool.and_self, Bool.and_self, Bool.or_true])

/-- Neither the type nor Weevil keeps a packet from acting. -/
theorem acts_of_comes (h : d.btComes n f ty) (hw : isResponse ty = true ∨ ty = btSrcCap ∨ d.weevilOn = true) :
    ¬((btPacketOf f).ty != ty || (!(btPacketOf f).resp && ty != btSrcCap && !d.weevilOn)) = true := by
  obtain ⟨-, -, hty, -, -⟩ := id h
  rw [resp_of_comes h, hty]
  rcases hw with hw | hw | hw <;> simp [hw]

/-- A response acts, whatever the link has served. -/
theorem btOn_response (ha : d.btActive n = true) (h : d.btComes n f ty) (hloop : ty ≠ btLoop) (hr : isResponse ty = true) :
    d.btOn n f ty act = act d (btPacketOf f) := by
  unfold Dev.btOn
  rw [if_neg (by rw [ha]; decide), btReceive_comes h hloop]
  dsimp only
  rw [if_neg (acts_of_comes h (.inl hr)), resp_of_comes h, hr]

/-- A repeated request gets its response again, from memory (R487). -/
theorem btOn_again {r : BtPacket} (ha : d.btActive n = true) (h : d.btComes n f ty) (hloop : ty ≠ btLoop)
    (hr : isResponse ty = false) (hcap : ty ≠ btSrcCap) (hw : d.weevilOn = true)
    (hs : (d.bt n).served = some ((btPacketOf f).msgid, r)) :
    d.btOn n f ty act = d.modBt n fun l => { l with tx := l.tx ++ [⟨r, .again, false⟩] } := by
  unfold Dev.btOn
  rw [if_neg (by rw [ha]; decide), btReceive_comes h hloop]
  dsimp only
  rw [if_neg (acts_of_comes h (.inr (.inr hw))), resp_of_comes h, hr, hs]
  exact if_pos (by simp [hcap])

/-- A new request acts while Weevil runs, and SRC_CAP acts always. -/
theorem btOn_new (ha : d.btActive n = true) (h : d.btComes n f ty) (hloop : ty ≠ btLoop) (hr : isResponse ty = false)
    (hw : ty = btSrcCap ∨ d.weevilOn = true ∧ ∀ id r, (d.bt n).served = some (id, r) → id ≠ (btPacketOf f).msgid) :
    d.btOn n f ty act = act d (btPacketOf f) := by
  unfold Dev.btOn
  rw [if_neg (by rw [ha]; decide), btReceive_comes h hloop]
  dsimp only
  rw [if_neg (acts_of_comes h (.inr (hw.imp_right And.left))), resp_of_comes h, hr]
  match hs : (d.bt n).served with
  | none => rfl
  | some (id, r) =>
    refine if_neg ?_
    rcases hw with hw | ⟨-, hnew⟩
    · simp [hw]
    · simp [hnew id r hs]

end
/-! ## What requests do (R496, R498, R499, R503, R505, R507) -/

section
variable {d : Dev} {n : Nat} {p : BtPacket}

/-- What a SRC_CAP shows of the source stands in other registers than the sink's wishes and the mode. -/
theorem peer_put_keeps (d : Dev) (g f : Fld) (v : Nat) (hg : g.addr = A.BTn_PEER 0) (hf : f.addr < 0x3C00 ∨ 0x3E00 ≤ f.addr) :
    (d.put g v).get f = d.get f := by
  refine get_put_addr d g f v ?_
  rw [hg, A.BTn_PEER]
  omega

theorem peerShown_keeps {a b c : Nat} {e : Dev}
    (he : e = ((d.put (R.BTn_PEER_BR_MAX 0) a).put (R.BTn_PEER_P_PRE 0) b).put (R.BTn_PEER_SWAP_EN 0) c) (f : Fld)
    (hf : f.addr < 0x3C00 ∨ 0x3E00 ≤ f.addr) : e.get f = d.get f := by
  rw [he, peer_put_keeps _ _ f c rfl hf, peer_put_keeps _ _ f b rfl hf, peer_put_keeps _ _ f a rfl hf]

/-- A SRC_CAP is answered with the sink's wishes, none in SAFE, but for the hold-off after a WAIT (R503). -/
theorem sinkCap_cases {pReq pMin : Nat} {e : Dev}
    (hReq : pReq = if d.mode = .safe then 0 else d.get R.BT_SINK_REQ_P_REQ)
    (hMin : pMin = if d.mode = .safe then 0 else d.get R.BT_SINK_REQ_P_MIN)
    (he : e = ((d.put (R.BTn_PEER_BR_MAX 0) (fieldOf (p.objs.getD 0 0) 0 16)).put (R.BTn_PEER_P_PRE 0)
      (fieldOf (p.objs.getD 0 0) 16 8)).put (R.BTn_PEER_SWAP_EN 0) (fieldOf (p.objs.getD 0 0) 27 1)) :
    (∀ t, (d.bt 0).holdOff = some (pReq, pMin, t) → d.cycles < t + tWaitQ → d.sinkCap p = e)
    ∧ ((∀ t, (d.bt 0).holdOff = some (pReq, pMin, t) → t + tWaitQ ≤ d.cycles) →
      d.sinkCap p = e.sinkRequest pReq pMin true) := by
  have hmode : e.mode = d.mode := congrArg Mode.ofCode (peerShown_keeps he R.SYS_MODE_MODE (by decide))
  have hReq' : (if e.mode == .safe then 0 else e.get R.BT_SINK_REQ_P_REQ) = pReq := by
    rw [hReq, hmode, peerShown_keeps he R.BT_SINK_REQ_P_REQ (by decide)]
    simp
  have hMin' : (if e.mode == .safe then 0 else e.get R.BT_SINK_REQ_P_MIN) = pMin := by
    rw [hMin, hmode, peerShown_keeps he R.BT_SINK_REQ_P_MIN (by decide)]
    simp
  have hhold : (e.bt 0).holdOff = (d.bt 0).holdOff := by
    rw [he]
    rfl
  have hcycles : e.cycles = d.cycles := by
    rw [he]
    rfl
  unfold Dev.sinkCap
  dsimp only
  rw [← he, hReq', hMin', hhold, hcycles]
  refine ⟨fun t ht hlt => ?_, fun hfree => ?_⟩
  · rw [ht]
    exact if_pos (by simp [hlt])
  · match hh : (d.bt 0).holdOff with
    | none => rfl
    | some (a, b, t) =>
      refine if_neg fun hheld => ?_
      simp only [Bool.and_eq_true, beq_iff_eq, decide_eq_true_eq] at hheld
      obtain ⟨⟨rfl, rfl⟩, hlt⟩ := hheld
      exact absurd (hfree t hh) (Nat.not_le.mpr hlt)

theorem sinkValue_within {obj : Word} (h : fieldOf obj 0 16 ≤ d.contract 0) :
    d.sinkValue obj = (d.setContract 0 (fieldOf obj 0 16) (fieldOf obj 16 8)).modBt 0 fun l => { l with granted := none } :=
  if_pos h

theorem sinkValue_raised {obj : Word} (h : d.contract 0 < fieldOf obj 0 16) :
    d.sinkValue obj = d.modBt 0 fun l => { l with granted := some (fieldOf obj 0 16, fieldOf obj 16 8) } :=
  if_neg (Nat.not_le.mpr h)

theorem btDissolved_source {e : Dev} (he : e = d.btAckWith n p .accepted) (hs : e.btSource = true) :
    d.btDissolved n p = e.btDissolveAt n false := by
  rw [he] at hs ⊢
  exact if_pos hs

theorem btDissolved_sink {e : Dev} (he : e = d.btAckWith n p .accepted) (hs : e.btSource = false) :
    d.btDissolved n p = (((e.modBt n fun l => { l with tx := l.tx.filter fun o => o.kind != .dissolve }).btCmdEnd n
      ((e.bt n).tx.any fun o => o.kind == .dissolve && o.mine) none).sinkDissolved).btShow n := by
  rw [he] at hs ⊢
  exact if_neg (Bool.eq_false_iff.mp hs)

/-- An exchange of which a SWAP must await the end (R507). -/
def BtWait.holdsSwap (w : BtWait) : Prop :=
  w.kind = .offerUp ∨ w.kind = .offerDown ∨ w.kind = .request ∨ w.kind = .capRequest ∨ w.kind = .ready

theorem btSwapAsked_disabled (h : d.on R.BT_CFG_SWAP_EN = false) : d.btSwapAsked n p = d.btAckWith n p .mode :=
  if_pos (by rw [h]; rfl)

theorem btSwapAsked_busy {w : BtWait} (h : d.on R.BT_CFG_SWAP_EN = true) (hw : (d.bt n).out = some w) (hb : w.holdsSwap) :
    d.btSwapAsked n p = d.btAckWith n p .wait := by
  refine (if_neg (by rw [h]; decide)).trans (if_pos ?_)
  rw [hw]
  simpa [BtWait.holdsSwap, or_assoc] using hb

theorem btSwapAsked_free (h : d.on R.BT_CFG_SWAP_EN = true) (hb : ∀ w, (d.bt n).out = some w → ¬w.holdsSwap) :
    d.btSwapAsked n p = if (d.bt n).has .swap && d.btSource then d.btAckWith n p .wait
      else (if (d.bt n).has .swap then (d.modBt n fun l => l.withdraw [.swap]).btCmdEnd n ((d.bt n).owns .swap) none
        else d).btRespond n p .swapAck btAck 0 [] := by
  refine (if_neg (by rw [h]; decide)).trans (if_neg ?_)
  match hw : (d.bt n).out with
  | none => decide
  | some w => simpa [BtWait.holdsSwap, or_assoc] using hb w hw

theorem btGetAsked_source (h : d.btSource = true) : d.btGetAsked n p = d.btRespond n p .response btData 0
    [d.word (A.BRn_STATE n), d.word (A.BRn_MEAS_V n), d.word (A.BRn_MEAS_I n), d.word A.BR_SCALE] :=
  congrArg (d.btRespond n p .response btData 0) (if_pos h)

theorem btGetAsked_sink (h : d.btSource = false) : d.btGetAsked n p = d.btRespond n p .response btData 0
    [d.word (A.BT_TOBJk 0), d.word (A.BT_TOBJk 1), d.word (A.BT_TOBJk 2), d.word (A.BT_TOBJk 3)] :=
  congrArg (d.btRespond n p .response btData 0) (if_neg (Bool.eq_false_iff.mp h))

end

/-! ## What answers do (R494, R497, R498, R502, R503, R505, R507) -/

section
variable {d e : Dev} {n : Nat} {p : BtPacket} {w : BtWait}

theorem btAnswered_out {tys : List Nat} (ho : (d.bt n).out = some w) (hid : w.packet.msgid = p.msgid)
    (hty : w.packet.ty ∈ tys)
    (he : e = (d.modBt n fun l => { l with out := none, tx := l.tx.filter fun o => o.packet != w.packet }).btShow n) :
    d.btAnswered n p tys = some (w, e) := by
  rw [he, Dev.btAnswered, ho]
  exact if_pos (by simp [hid, hty])

theorem btAnswered_other {tys : List Nat} (h : ∀ w, (d.bt n).out = some w → w.packet.msgid ≠ p.msgid) :
    d.btAnswered n p tys = none := by
  unfold Dev.btAnswered
  match ho : (d.bt n).out with
  | none => rfl
  | some w => exact if_neg (by simp [h w ho])

theorem btAnsweredRequest_granted (h : d.btAnswered 0 p [btRequest] = some (w, e)) (hc : p.code = 0) :
    d.btAnsweredRequest p = (e.sinkValue (p.objs.getD 0 0)).btCmdEnd 0 w.mine (some p.code) := by
  rw [Dev.btAnsweredRequest, h]
  dsimp only
  rw [if_pos hc]

theorem btAnsweredRequest_wait (h : d.btAnswered 0 p [btRequest] = some (w, e)) (hc : p.code = Code.wait.val)
    (hk : w.kind = .capRequest) :
    d.btAnsweredRequest p = (e.modBt 0 fun l => { l with holdOff := some (fieldOf (w.packet.objs.getD 0 0) 0 16,
      fieldOf (w.packet.objs.getD 0 0) 16 16, e.cycles) }).btCmdEnd 0 w.mine (some p.code) := by
  rw [Dev.btAnsweredRequest, h]
  dsimp only
  rw [if_neg (by rw [hc]; decide), if_pos (by rw [hc, hk]; rfl)]

theorem btAnsweredRequest_refused (h : d.btAnswered 0 p [btRequest] = some (w, e)) (h0 : p.code ≠ 0)
    (hc : p.code ≠ Code.wait.val ∨ w.kind ≠ .capRequest) :
    d.btAnsweredRequest p = e.btCmdEnd 0 w.mine (some p.code) := by
  rw [Dev.btAnsweredRequest, h]
  dsimp only
  rw [if_neg h0, if_neg]
  rcases hc with hc | hc <;> simp [hc]

theorem btDataIn_answered (h : d.btAnswered n p [btGet] = some (w, e)) : d.btDataIn n p =
    (((e.setWord (A.BTn_RXOBJk n 0) (p.objs.getD 0 0)).setWord (A.BTn_RXOBJk n 1) (p.objs.getD 1 0)).setWord
      (A.BTn_RXOBJk n 2) (p.objs.getD 2 0)).setWord (A.BTn_RXOBJk n 3) (p.objs.getD 3 0) := by
  rw [Dev.btDataIn, h]
  rfl

/-- The types whose answer is an ACK. -/
def ackedTypes : List Nat := [btOffer, btReady, btDissolve, btSwap, btPing]

/-- An acknowledged exchange ends with its code. -/
def Dev.ackEnds (g : Dev) (n : Nat) (w : BtWait) (p : BtPacket) : Dev := ((g.btCmdEnd n w.mine (some p.code)).btShow n).btSums

theorem btAcked_offerUp (h : d.btAnswered n p ackedTypes = some (w, e)) (hk : w.kind = .offerUp) :
    (p.code = 0 → d.btAcked n p = (((e.modBt n fun l => { l with
      queued := if l.place == l.offered then none else l.queued
      offered := none }).putInForce n (fieldOf (w.packet.objs.getD 0 0) 0 16)
        (fieldOf (w.packet.objs.getD 0 0) 16 8)).btReduce).ackEnds n w p)
    ∧ (p.code ≠ 0 → d.btAcked n p = (e.modBt n fun l => { l with promised := none, offered := none }).ackEnds n w p) := by
  unfold Dev.btAcked
  rw [show d.btAnswered n p [btOffer, btReady, btDissolve, btSwap, btPing] = some (w, e) from h]
  dsimp only
  rw [hk]
  dsimp only
  exact ⟨fun hc => by rw [if_pos (beq_iff_eq.mpr hc)]; rfl, fun hc => by rw [if_neg (mt beq_iff_eq.mp hc)]; rfl⟩

theorem btAcked_offerDown (h : d.btAnswered n p ackedTypes = some (w, e)) (hk : w.kind = .offerDown) {f : Dev}
    (hf : f = e.modBt n fun l => { l with
      reduceTo := match l.reduceTo with
        | some r => if fieldOf (w.packet.objs.getD 0 0) 0 16 ≤ r then none else some r
        | none => none }) :
    (p.code = 0 → d.btAcked n p = ((f.putInForce n (fieldOf (w.packet.objs.getD 0 0) 0 16)
        (fieldOf (w.packet.objs.getD 0 0) 16 8)).btServe).ackEnds n w p)
    ∧ (p.code ≠ 0 → d.btAcked n p = (e.reduceFails n false).ackEnds n w p) := by
  unfold Dev.btAcked
  rw [show d.btAnswered n p [btOffer, btReady, btDissolve, btSwap, btPing] = some (w, e) from h, hf]
  dsimp only
  rw [hk]
  dsimp only
  exact ⟨fun hc => by rw [if_neg (by simp [hc])]; rfl, fun hc => by rw [if_pos (by simp [hc])]; rfl⟩

theorem btAcked_swap (h : d.btAnswered n p ackedTypes = some (w, e)) (hk : w.kind = .swap) :
    (p.code = 0 → d.btAcked n p = (e.putB (R.BTn_STATE_DHOST n) (!e.on (R.BTn_STATE_DHOST n))).ackEnds n w p)
    ∧ (p.code ≠ 0 → d.btAcked n p = e.ackEnds n w p) := by
  unfold Dev.btAcked
  rw [show d.btAnswered n p [btOffer, btReady, btDissolve, btSwap, btPing] = some (w, e) from h]
  dsimp only
  rw [hk]
  dsimp only
  exact ⟨fun hc => by rw [if_pos (beq_iff_eq.mpr hc)]; rfl, fun hc => by rw [if_neg (mt beq_iff_eq.mp hc)]; rfl⟩

theorem btAcked_other (h : d.btAnswered n p ackedTypes = some (w, e)) (h1 : w.kind ≠ .offerUp) (h2 : w.kind ≠ .offerDown)
    (h3 : w.kind ≠ .swap) : d.btAcked n p = e.ackEnds n w p := by
  unfold Dev.btAcked
  rw [show d.btAnswered n p [btOffer, btReady, btDissolve, btSwap, btPing] = some (w, e) from h]
  dsimp only
  split
  · contradiction
  · contradiction
  · contradiction
  · rfl

end

/-! ## Requests without a response (R487, R493, R498, R500) -/

section
variable {d e : Dev} {n : Nat} {w : BtWait}

theorem btGetSend_host (ha : d.btActive n = true) (hd : d.on (R.BTn_STATE_DHOST n) = true) (hg : (d.bt n).has .get = false) :
    d.btGetSend n = d.btReq n .get btGet [] := if_pos (by rw [ha, hd, hg]; rfl)

theorem btGetSend_not (h : d.on (R.BTn_STATE_DHOST n) = false ∨ (d.bt n).has .get = true) : d.btGetSend n = d := by
  refine if_neg ?_
  rcases h with h | h <;> simp [h]

theorem btRetry_none (ha : d.btActive n = true) (ho : (d.bt n).out = none) : d.btRetry n = d := by
  unfold Dev.btRetry
  rw [if_neg (by rw [ha]; decide), ho]

theorem btRetry_out (ha : d.btActive n = true) (ho : (d.bt n).out = some w) : d.btRetry n =
    if (d.bt n).tx.any fun o => o.packet == w.packet then d
    else if w.resends < 2 then (d.modBt n fun l => { l with
      out := some { w with resends := w.resends + 1 }
      tx := ⟨w.packet, w.kind, w.mine⟩ :: l.tx }).bump (R.BTn_CNT_RESEND n)
    else d.btFailed n w := by
  unfold Dev.btRetry
  rw [if_neg (by rw [ha]; decide), ho]

/-- A failed exchange ends without a code. -/
def Dev.failEnds (g : Dev) (n : Nat) (w : BtWait) : Dev := ((g.btCmdEnd n w.mine none).btShow n).btSums

theorem btFailed_ping (he : e = d.modBt n fun l => { l with out := none }) (hk : w.kind = .ping) :
    d.btFailed n w = ((e.btEvent n bkLinkLost).btDissolveAt n true).failEnds n w := by
  unfold Dev.btFailed
  rw [hk, he]
  rfl

theorem btFailed_offerDown (he : e = d.modBt n fun l => { l with out := none }) (hk : w.kind = .offerDown) :
    d.btFailed n w = (e.reduceFails n true).failEnds n w := by
  unfold Dev.btFailed
  rw [hk, he]
  rfl

theorem btFailed_offerUp (he : e = d.modBt n fun l => { l with out := none }) (hk : w.kind = .offerUp) :
    d.btFailed n w =
      ((e.btEvent n bkNoResponse).modBt n fun l => { l with promised := none, offered := none }).failEnds n w := by
  unfold Dev.btFailed
  rw [hk, he]
  rfl

theorem btFailed_dissolve (he : e = d.modBt n fun l => { l with out := none }) (hk : w.kind = .dissolve) :
    d.btFailed n w =
      ((e.btEvent n bkNoResponse).modBt n fun l => { l with requested := l.requested && !e.btSource }).failEnds n w := by
  unfold Dev.btFailed
  rw [hk, he]
  rfl

theorem btFailed_other (he : e = d.modBt n fun l => { l with out := none }) (h1 : w.kind ≠ .ping) (h2 : w.kind ≠ .offerDown)
    (h3 : w.kind ≠ .offerUp) (h4 : w.kind ≠ .dissolve) : d.btFailed n w = (e.btEvent n bkNoResponse).failEnds n w := by
  unfold Dev.btFailed
  rw [he]
  dsimp only
  split
  · contradiction
  · contradiction
  · contradiction
  · contradiction
  · rfl

/-! ## The line of a tray (R502, R505) -/

theorem contractLost_tray (hr : d.isRole .tray = true) : d.contractLost =
    if d.lk 0 == skContract then (d.noContract 0).modBt 0 fun l => { l with granted := none } else d := by
  rw [Dev.contractLost, hr, Bool.true_and]
  rfl

theorem lineUp_tray (hs : Serving d) (hr : d.isRole .tray = true) : d.lineUp =
    if d.lk 0 == skDown then ((d.modBt 0 BtLink.fresh).put (R.BTn_STATE_LINK 0) skUp).clr (R.BTn_STATE_DHOST 0) else d := by
  rw [Dev.lineUp, hr, show d.mode.afterBoot = true from hs, Bool.true_and, Bool.true_and]

theorem lineDown_tray (hr : d.isRole .tray = true) : d.lineDown =
    if d.lk 0 == skUp || d.lk 0 == skContract then d.btDrop 0 skDown else d := by
  rw [Dev.lineDown, hr, Bool.true_and]

/-! ## Commands of a link (R499, R503, R507, R508) -/

/-- The answer to a command of a link; what an earlier command started is not its own. -/
def Dev.linkAnswer (d : Dev) (n cmd : Nat) (c : Code) (done : Bool) : Dev :=
  (d.btRes n cmd c done).modBt n fun l => l.own none

theorem btCommand_refused (d : Dev) (n cmd : Nat) (act : Dev → Dev) :
    d.btCommand n cmd false act = d.linkAnswer n cmd .mode true := rfl

theorem btCommand_accepted (d : Dev) (n cmd : Nat) (act : Dev → Dev) :
    d.btCommand n cmd true act = act (d.linkAnswer n cmd .accepted false) := rfl

theorem btCmdDissolve_inactive (h : d.btActive n = false) : d.btCmdDissolve n = d.linkAnswer n 1 .mode true := by
  rw [Dev.btCmdDissolve, h, btCommand_refused]

theorem btCmdDissolve_active (h : d.btActive n = true) (he : e = d.linkAnswer n 1 .accepted false) : d.btCmdDissolve n =
    if e.btSource then e.btDissolveAt n true true
    else if (e.bt n).has .dissolve then e.modBt n fun l => l.own (some .dissolve)
    else e.btReq n .dissolve btDissolve [] true := by
  rw [Dev.btCmdDissolve, h, btCommand_accepted, he]

theorem btCmdSwap_refused (h : d.btActive n = false ∨ d.on (R.BTn_PEER_SWAP_EN n) = false) :
    d.btCmdSwap n = d.linkAnswer n 2 .mode true := by
  rw [Dev.btCmdSwap, Bool.and_eq_false_iff.mpr h, btCommand_refused]

theorem btCmdSwap_active (h : d.btActive n = true) (hs : d.on (R.BTn_PEER_SWAP_EN n) = true)
    (he : e = d.linkAnswer n 2 .accepted false) : d.btCmdSwap n =
    if (e.bt n).has .swap then e.modBt n fun l => l.own (some .swap) else e.btReq n .swap btSwap [] true := by
  rw [Dev.btCmdSwap, h, hs, Bool.and_self, btCommand_accepted, he]

theorem btCmdRequest_refused (h : d.isRole .tray = false ∨ d.btActive n = false) :
    d.btCmdRequest n = d.linkAnswer n 4 .mode true := by
  rw [Dev.btCmdRequest, Bool.and_eq_false_iff.mpr h, btCommand_refused]

theorem btCmdRequest_active (hr : d.isRole .tray = true) (h : d.btActive n = true)
    (he : e = d.linkAnswer n 4 .accepted false) :
    d.btCmdRequest n = e.sinkRequest (e.get R.BT_SINK_REQ_P_REQ) (e.get R.BT_SINK_REQ_P_MIN) false := by
  rw [Dev.btCmdRequest, hr, h, Bool.and_self, btCommand_accepted, he]

theorem btCmdTest_refused (h : d.btSource = false ∨ d.lk n ≠ lkDetect ∨ (d.bt n).stable ≠ 5) :
    d.btCmdTest n = d.linkAnswer n 3 .mode true := by
  have hno : (d.btSource && d.lk n == lkDetect && (d.bt n).stable == 5 && d.mode.afterBoot) = false := by
    rcases h with h | h | h <;> simp [h]
  unfold Dev.btCmdTest
  rw [hno]
  rfl

theorem btCmdTest_accepted (hs : Serving d) (h1 : d.btSource = true) (h2 : d.lk n = lkDetect) (h3 : (d.bt n).stable = 5)
    (he : e = d.linkAnswer n 3 .accepted false) : d.btCmdTest n =
    (((e.modBt n BtLink.fresh).put (R.BTn_STATE_LINK n) lkTest).clr (R.BTn_STATE_SIG n)).btReq n .loop btLoop
      (List.replicate 7 0x55555555) := by
  unfold Dev.btCmdTest
  rw [h1, h2, h3, show d.mode.afterBoot = true from hs, he]
  rfl

/-! ## The loopback test and Weevil's watchdog (R508, R510) -/

/-- The packet of the loopback test is counted where its CRC or its form is wrong. -/
def Dev.testCounted (d : Dev) (n : Nat) (f : BtFrame) : Dev :=
  if f.crc == btCrc f.header f.objs then
    (if btFormed f && fieldOf f.header 0 4 == btLoop then d else d.bump (R.BTn_CNT_BAD n))
  else d.bump (R.BTn_CNT_CRC_ERR n)

/-- The loopback test is passed (R508). -/
def testPasses (samples : Bool) (f : BtFrame) (mv : Nat) : Bool :=
  samples && f.crc == btCrc f.header f.objs && (btFormed f && fieldOf f.header 0 4 == btLoop)
    && f.objs == List.replicate 7 0x55555555 && decide (2400 ≤ mv) && decide (mv ≤ 3400)

/-- The result of the loopback test. -/
def Dev.testShown (e : Dev) (n mv : Nat) (pass : Bool) : Dev :=
  ((e.put R.BT_TEST_RES_HIGH (min mv 4095)).putB R.BT_TEST_RES_PASS pass).put R.BT_TEST_RES_LINK n

theorem btTestDone_test (hs : d.btSource = true) (hl : d.lk n = lkTest) (mv : Nat) (samples : Bool) (f : BtFrame) :
    d.btTestDone n mv samples f =
      ((if testPasses samples f mv then (d.testCounted n f).testShown n mv (testPasses samples f mv)
        else ((d.testCounted n f).testShown n mv (testPasses samples f mv)).btEvent n bkTestFail).set1
          (R.BTn_CMD_RES_DONE n)).btToDetect n := by
  have hcounted : (if !f.crc == btCrc f.header f.objs then d.bump (R.BTn_CNT_CRC_ERR n)
      else if !(btFormed f && fieldOf f.header 0 4 == btLoop) then d.bump (R.BTn_CNT_BAD n) else d) = d.testCounted n f := by
    unfold Dev.testCounted
    cases f.crc == btCrc f.header f.objs <;> cases btFormed f && fieldOf f.header 0 4 == btLoop <;> rfl
  unfold Dev.btTestDone
  rw [if_neg (by rw [hs, hl]; decide)]
  dsimp only
  rw [hcounted]
  rfl

theorem weevilRestart_stopped (h : d.on R.BT_WEEVIL_RUN = false) : d.weevilRestart = d :=
  if_pos (by rw [Dev.weevilOn, h]; rfl)

theorem weevilRestart_runs (h : d.on R.BT_WEEVIL_RUN = true) {k : Nat} (hk : k = Config.free .weevilRestart [d.cycles] % 200001) :
    d.weevilRestart = (((({ d with batten := { d.batten with
      restart := some (d.cycles + k), extended := d.batten.extended + k } }).showWeevil).bump R.BT_WEEVIL_RESTARTS).report 11) := by
  rw [hk]
  exact if_neg (by rw [Dev.weevilOn, h]; decide)

end

/-- A packet that every type of reception answers in one way. -/
theorem receive_all {d e : Dev} {q : List Instr} {n : Nat} {f : BtFrame} (hs : Serving d) (hn : n < 8)
    (h : ∀ ty act, d.btOn n f ty act = e) :
    Answers (.btSrcCap n f) d q e ∧ Answers (.btRequest n f) d q e ∧ Answers (.btOffer n f) d q e
      ∧ Answers (.btReady n f) d q e ∧ Answers (.btDissolve n f) d q e ∧ Answers (.btSwapRequest n f) d q e
      ∧ Answers (.btPing n f) d q e ∧ Answers (.btGet n f) d q e ∧ Answers (.btAnswer n f) d q e
      ∧ Answers (.btData n f) d q e ∧ Answers (.btAck n f) d q e ∧ Answers (.btLoop n f) d q e := by
  have hok : decide (n < 8) = true := decide_eq_true hn
  exact ⟨answers_inService rfl hok hs (h _ _), answers_inService rfl hok hs (h _ _), answers_inService rfl hok hs (h _ _),
    answers_inService rfl hok hs (h _ _), answers_inService rfl hok hs (h _ _), answers_inService rfl hok hs (h _ _),
    answers_inService rfl hok hs (h _ _), answers_inService rfl hok hs (h _ _), answers_inService rfl hok hs (h _ _),
    answers_inService rfl hok hs (h _ _), answers_inService rfl hok hs (h _ _), answers_inService rfl hok hs (h _ _)⟩

/-- The requests of a link: types that are neither a response nor LOOP. -/
theorem btOn_repeated {d : Dev} {n ty : Nat} {f : BtFrame} {act : Dev → BtPacket → Dev} (ha : d.btActive n = true)
    (hloop : ty ≠ btLoop) (hr : isResponse ty = false) (hcap : ty ≠ btSrcCap)
    (h : d.btComes n f ty ∧ d.weevilOn = true ∧ ∃ r, (d.bt n).served = some ((btPacketOf f).msgid, r)) :
    d.btOn n f ty act = d.modBt n fun l => { l with
      tx := l.tx ++ ((d.bt n).served.toList.map fun s => ⟨s.2, .again, false⟩) } := by
  obtain ⟨hc, hw, r, hserved⟩ := h
  rw [btOn_again ha hc hloop hr hcap hw hserved, hserved]
  rfl

/-- Settles O50. -/
theorem battenLinksAct : Obligations.BattenLinksAct := by
  unfold Obligations.BattenLinksAct
  refine ⟨fun d q n f hs hn ha => ⟨fun hcrc => ?crc, fun hcrc hbad => ?bad, ?again, fun hw => ?idle,
      fun hc pReq pMin e hReq hMin he => ?srcCap, fun hc => ⟨fun hv => ?offerWithin, fun hv => ?offerRaised⟩, fun hc => ?ready,
      fun hc => ⟨fun hsrc => ?dissolveSource, fun hsrc => ?dissolveSink⟩,
      fun hc => ⟨fun hen => ?swapDisabled, fun hen => ⟨fun w hw hb => ?swapBusy, fun hfree => ⟨fun hsw hsrc => ?swapBoth,
        fun hsw hsrc => ?swapGiveWay, fun hsw => ?swap⟩⟩⟩, fun hc => ?ping, fun hc => ⟨fun hsrc => ?getSource, fun hsrc => ?getSink⟩,
      fun w e ho hid he => ⟨fun hc hty h0 => ?answer, fun hc hty => ?data, fun hc hty => ?ack⟩, fun hno => ?unasked⟩,
    fun d q n hs hn ha => ⟨fun hd hg => ?getSend, fun h => ?getNot, fun ho => ?noRetry,
      fun w ho => ⟨fun hwaits => ?waits, fun hwaits => ⟨fun h2 => ?resend, fun h2 => ?fails⟩⟩⟩,
    fun d q hs hr => ⟨fun hl => ?lost, fun hl => ?notLost, fun hl => ?up, fun hl => ?notUp, fun hl => ?down, fun h1 h2 => ?notDown⟩,
    fun d q n hn hr => ⟨fun ha => ?inactive, fun ha => ⟨fun hsrc => ?cmdDissolve, fun hsrc => ?cmdDissolveSink,
      fun hen => ?cmdSwapNot, fun hen => ?cmdSwap, fun ht => ?cmdRequestNot, fun ht => ?cmdRequest⟩, fun h => ?testNot,
      fun h1 h2 h3 => ?test⟩,
    fun d q hs => ⟨fun n mv samples f hn hsrc hl => ?loop, fun hw => ?noWeevil, fun hw => ?weevil⟩⟩
  case crc =>
    have h (ty : Nat) (act : Dev → BtPacket → Dev) : d.btOn n f ty act = d.bump (R.BTn_CNT_CRC_ERR n) :=
      btOn_discards ha (btReceive_crc hcrc)
    exact receive_all hs hn h
  case bad =>
    have h (ty : Nat) (act : Dev → BtPacket → Dev) : d.btOn n f ty act = d.bump (R.BTn_CNT_BAD n) :=
      btOn_discards ha (btReceive_bad hcrc hbad)
    exact receive_all hs hn h
  case again =>
    have hok : decide (n < 8) = true := decide_eq_true hn
    refine ⟨fun h => ?_, fun h => ?_, fun h => ?_, fun h => ?_, fun h => ?_, fun h => ?_, fun h => ?_⟩ <;>
      exact answers_inService rfl hok hs (btOn_repeated ha (by decide) (by decide) (by decide) h)
  case idle =>
    have hok : decide (n < 8) = true := decide_eq_true hn
    refine ⟨fun h => ?_, fun h => ?_, fun h => ?_, fun h => ?_, fun h => ?_, fun h => ?_⟩ <;>
      exact answers_inService rfl hok hs (btOn_idle ha h (by decide) (by decide) (by decide) hw)
  case srcCap =>
    have heq := btOn_new (act := fun d q => d.sinkCap q) ha hc (by decide) (by decide) (.inl rfl)
    obtain ⟨hheld, hsends⟩ := sinkCap_cases hReq hMin he
    exact ⟨fun t ht hlt => answers_inService rfl (decide_eq_true hn) hs (heq.trans (hheld t ht hlt)),
      fun hfree => answers_inService rfl (decide_eq_true hn) hs (heq.trans (hsends hfree))⟩
  case offerWithin =>
    have heq := btOn_new (act := fun d q => d.sinkOffer q) ha hc.1 (by decide) (by decide) (.inr hc.2)
    exact answers_inService rfl (decide_eq_true hn) hs (heq.trans (congrArg (fun e : Dev => e.btAckWith 0 (btPacketOf f) .accepted) (sinkValue_within hv)))
  case offerRaised =>
    have heq := btOn_new (act := fun d q => d.sinkOffer q) ha hc.1 (by decide) (by decide) (.inr hc.2)
    exact answers_inService rfl (decide_eq_true hn) hs (heq.trans (congrArg (fun e : Dev => e.btAckWith 0 (btPacketOf f) .accepted) (sinkValue_raised hv)))
  case ready =>
    have heq := btOn_new (act := fun d q => d.sinkReady q) ha hc.1 (by decide) (by decide) (.inr hc.2)
    exact answers_inService rfl (decide_eq_true hn) hs (heq)
  case dissolveSource =>
    have heq := btOn_new (act := fun d q => d.btDissolved n q) ha hc.1 (by decide) (by decide) (.inr hc.2)
    exact answers_inService rfl (decide_eq_true hn) hs (heq.trans (btDissolved_source rfl hsrc))
  case dissolveSink =>
    have heq := btOn_new (act := fun d q => d.btDissolved n q) ha hc.1 (by decide) (by decide) (.inr hc.2)
    exact answers_inService rfl (decide_eq_true hn) hs (heq.trans (btDissolved_sink rfl hsrc))
  case swapDisabled =>
    have heq := btOn_new (act := fun d q => d.btSwapAsked n q) ha hc.1 (by decide) (by decide) (.inr hc.2)
    exact answers_inService rfl (decide_eq_true hn) hs (heq.trans (btSwapAsked_disabled hen))
  case swapBusy =>
    have heq := btOn_new (act := fun d q => d.btSwapAsked n q) ha hc.1 (by decide) (by decide) (.inr hc.2)
    exact answers_inService rfl (decide_eq_true hn) hs (heq.trans (btSwapAsked_busy hen hw hb))
  case swapBoth =>
    have heq := btOn_new (act := fun d q => d.btSwapAsked n q) ha hc.1 (by decide) (by decide) (.inr hc.2)
    exact answers_inService rfl (decide_eq_true hn) hs ((heq.trans (btSwapAsked_free hen hfree)).trans (if_pos (by rw [hsw, hsrc]; rfl)))
  case swapGiveWay =>
    have heq := (btOn_new (act := fun d q => d.btSwapAsked n q) ha hc.1 (by decide) (by decide) (.inr hc.2)).trans
      (btSwapAsked_free hen hfree)
    rw [hsrc, Bool.and_false, if_neg Bool.false_ne_true, if_pos hsw] at heq
    exact answers_inService rfl (decide_eq_true hn) hs heq
  case swap =>
    have heq := (btOn_new (act := fun d q => d.btSwapAsked n q) ha hc.1 (by decide) (by decide) (.inr hc.2)).trans
      (btSwapAsked_free hen hfree)
    rw [hsw, Bool.false_and, if_neg Bool.false_ne_true, if_neg Bool.false_ne_true] at heq
    exact answers_inService rfl (decide_eq_true hn) hs heq
  case ping =>
    have heq := btOn_new (act := fun d q => d.btAckWith n q .accepted) ha hc.1 (by decide) (by decide) (.inr hc.2)
    exact answers_inService rfl (decide_eq_true hn) hs (heq)
  case getSource =>
    have heq := btOn_new (act := fun d q => d.btGetAsked n q) ha hc.1 (by decide) (by decide) (.inr hc.2)
    exact answers_inService rfl (decide_eq_true hn) hs (heq.trans (btGetAsked_source hsrc))
  case getSink =>
    have heq := btOn_new (act := fun d q => d.btGetAsked n q) ha hc.1 (by decide) (by decide) (.inr hc.2)
    exact answers_inService rfl (decide_eq_true hn) hs (heq.trans (btGetAsked_sink hsrc))
  case answer =>
    subst h0
    have heq := btOn_response (act := fun d q => d.btAnsweredRequest q) ha hc (by decide) (by decide)
    have hans := btAnswered_out (tys := [btRequest]) ho hid (List.mem_singleton.mpr hty) he
    refine ⟨fun h0 hv => ?_, fun h0 hv => ?_, fun hwait hk => ?_, fun h0 hwait => ?_⟩
    · have hval := (heq.trans (btAnsweredRequest_granted hans h0)).trans
        (congrArg (fun e : Dev => e.btCmdEnd 0 w.mine (some (btPacketOf f).code)) (sinkValue_within hv))
      exact answers_inService rfl (decide_eq_true hn) hs hval
    · have hval := (heq.trans (btAnsweredRequest_granted hans h0)).trans
        (congrArg (fun e : Dev => e.btCmdEnd 0 w.mine (some (btPacketOf f).code)) (sinkValue_raised hv))
      exact answers_inService rfl (decide_eq_true hn) hs hval
    · exact answers_inService rfl (decide_eq_true hn) hs (heq.trans (btAnsweredRequest_wait hans hwait hk))
    · exact answers_inService rfl (decide_eq_true hn) hs (heq.trans (btAnsweredRequest_refused hans h0 hwait))
  case data =>
    have heq := btOn_response (act := fun d q => d.btDataIn n q) ha hc (by decide) (by decide)
    have hans := btAnswered_out (tys := [btGet]) ho hid (List.mem_singleton.mpr hty) he
    exact answers_inService rfl (decide_eq_true hn) hs (heq.trans (btDataIn_answered hans))
  case ack =>
    have heq := btOn_response (act := fun d q => d.btAcked n q) ha hc (by decide) (by decide)
    have hans := btAnswered_out (tys := ackedTypes) ho hid (by simpa [ackedTypes] using hty) he
    have answers {e : Dev} (h : d.btAcked n (btPacketOf f) = e) : Answers (.btAck n f) d q e :=
      answers_inService rfl (decide_eq_true hn) hs (heq.trans h)
    exact ⟨fun hk h0 => answers ((btAcked_offerUp hans hk).1 h0), fun hk h0 => answers ((btAcked_offerUp hans hk).2 h0),
      fun hk h0 => answers ((btAcked_offerDown hans hk rfl).1 h0), fun hk h0 => answers ((btAcked_offerDown hans hk rfl).2 h0),
      fun hk h0 => answers ((btAcked_swap hans hk).1 h0), fun hk h0 => answers ((btAcked_swap hans hk).2 h0),
      fun h1 h2 h3 => answers (btAcked_other hans h1 h2 h3)⟩
  case unasked =>
    have hok : decide (n < 8) = true := decide_eq_true hn
    refine ⟨fun hc => ?_, fun hc => ?_, fun hc h0 => ?_⟩
    · have heq := btOn_response (act := fun d q => d.btDataIn n q) ha hc (by decide) (by decide)
      exact answers_inService rfl hok hs (heq.trans (by rw [Dev.btDataIn, btAnswered_other hno]))
    · have heq := btOn_response (act := fun d q => d.btAcked n q) ha hc (by decide) (by decide)
      exact answers_inService rfl hok hs (heq.trans (by rw [Dev.btAcked, btAnswered_other hno]))
    · subst h0
      have heq := btOn_response (act := fun d q => d.btAnsweredRequest q) ha hc (by decide) (by decide)
      exact answers_inService rfl hok hs (heq.trans (by rw [Dev.btAnsweredRequest, btAnswered_other hno]))
  case getSend => exact answers_inService rfl (decide_eq_true hn) hs (btGetSend_host ha hd hg)
  case getNot => exact answers_inService rfl (decide_eq_true hn) hs (btGetSend_not h)
  case noRetry => exact answers_inService rfl (decide_eq_true hn) hs (btRetry_none ha ho)
  case waits => exact answers_inService rfl (decide_eq_true hn) hs ((btRetry_out ha ho).trans (if_pos hwaits))
  case resend =>
    exact answers_inService rfl (decide_eq_true hn) hs
      ((btRetry_out ha ho).trans ((if_neg (Bool.eq_false_iff.mp hwaits)).trans (if_pos h2)))
  case fails =>
    have heq := (btRetry_out ha ho).trans ((if_neg (Bool.eq_false_iff.mp hwaits)).trans (if_neg (Nat.not_lt.mpr h2)))
    have answers {e : Dev} (h : d.btFailed n w = e) : Answers (.btResend n) d q e :=
      answers_inService rfl (decide_eq_true hn) hs (heq.trans h)
    exact ⟨fun hk => answers (btFailed_ping rfl hk), fun hk => answers (btFailed_offerDown rfl hk),
      fun hk => answers (btFailed_offerUp rfl hk), fun hk => answers (btFailed_dissolve rfl hk),
      fun h1 h2 h3 h4 => answers (btFailed_other rfl h1 h2 h3 h4)⟩
  case lost => exact answers_inService rfl rfl hs ((contractLost_tray hr).trans (if_pos (beq_iff_eq.mpr hl)))
  case notLost => exact answers_inService rfl rfl hs ((contractLost_tray hr).trans (if_neg (mt beq_iff_eq.mp hl)))
  case up => exact answers_inService rfl rfl hs ((lineUp_tray hs hr).trans (if_pos (beq_iff_eq.mpr hl)))
  case notUp => exact answers_inService rfl rfl hs ((lineUp_tray hs hr).trans (if_neg (mt beq_iff_eq.mp hl)))
  case down => exact answers_inService rfl rfl hs ((lineDown_tray hr).trans (if_pos (by simpa using hl)))
  case notDown => exact answers_inService rfl rfl hs ((lineDown_tray hr).trans (if_neg (by simp [h1, h2])))
  case inactive =>
    exact ⟨answers_byRegister rfl (decide_eq_true hn) hr (btCmdDissolve_inactive (d := d.disarm) ha),
      answers_byRegister rfl (decide_eq_true hn) hr (btCmdSwap_refused (d := d.disarm) (.inl ha)),
      answers_byRegister rfl (decide_eq_true hn) hr (btCmdRequest_refused (d := d.disarm) (.inr ha))⟩
  case cmdDissolve =>
    exact answers_byRegister rfl (decide_eq_true hn) hr ((btCmdDissolve_active (d := d.disarm) ha rfl).trans (if_pos hsrc))
  case cmdDissolveSink =>
    have heq := (btCmdDissolve_active (d := d.disarm) ha rfl).trans (if_neg (Bool.eq_false_iff.mp hsrc))
    exact ⟨fun hh => answers_byRegister rfl (decide_eq_true hn) hr (heq.trans (if_pos hh)),
      fun hh => answers_byRegister rfl (decide_eq_true hn) hr (heq.trans (if_neg (Bool.eq_false_iff.mp hh)))⟩
  case cmdSwapNot => exact answers_byRegister rfl (decide_eq_true hn) hr (btCmdSwap_refused (d := d.disarm) (.inr hen))
  case cmdSwap =>
    have heq := btCmdSwap_active (d := d.disarm) ha hen rfl
    exact ⟨fun hh => answers_byRegister rfl (decide_eq_true hn) hr (heq.trans (if_pos hh)),
      fun hh => answers_byRegister rfl (decide_eq_true hn) hr (heq.trans (if_neg (Bool.eq_false_iff.mp hh)))⟩
  case cmdRequestNot =>
    exact answers_byRegister rfl (decide_eq_true hn) hr (btCmdRequest_refused (d := d.disarm) (.inl ht))
  case cmdRequest =>
    exact answers_byRegister rfl (decide_eq_true hn) hr (btCmdRequest_active (d := d.disarm) ht ha rfl)
  case testNot => exact answers_byRegister rfl (decide_eq_true hn) hr (btCmdTest_refused (d := d.disarm) h)
  case test =>
    exact answers_byRegister rfl (decide_eq_true hn) hr (btCmdTest_accepted (d := d.disarm) hr.1 h1 h2 h3 rfl)
  case loop =>
    have heq := btTestDone_test hsrc hl mv samples f
    have hpass : testPasses samples f mv = true ↔ samples = true ∧ (f.crc == btCrc f.header f.objs) = true
        ∧ (btFormed f && fieldOf f.header 0 4 == btLoop) = true ∧ f.objs = List.replicate 7 0x55555555 ∧ 2400 ≤ mv ∧ mv ≤ 3400 := by
      simp only [testPasses, Bool.and_eq_true, decide_eq_true_eq, beq_iff_eq, and_assoc]
    refine ⟨fun hp => ?_, fun hp => ?_⟩
    · rw [hpass.mpr hp] at heq
      exact answers_inService rfl (decide_eq_true hn) hs heq
    · rw [Bool.not_eq_true _ |>.mp (mt hpass.mp hp)] at heq
      exact answers_inService rfl (decide_eq_true hn) hs heq
  case noWeevil => exact answers_inService rfl rfl hs (weevilRestart_stopped hw)
  case weevil => exact answers_inService rfl rfl hs (weevilRestart_runs hw rfl)

end Sys2Proof.Machine
end

/-!
The module buses (R670, R671, R677 to R682), and from these the statement O60.
-/
section
namespace Sys2Proof.Machine

/-! ## The protocols (R679, R680) -/

/-- What refuses a protocol with BAD_PROFILE. -/
def Dev.mbBad (d : Dev) (b proto : Nat) (pec : Bool) : Prop :=
  32 < d.get (R.MBb_LEN_WLEN b) ∨ 32 < d.get (R.MBb_LEN_RLEN b) ∨ proto = 6 ∧ d.get (R.MBb_LEN_WLEN b) = 0
    ∨ pec = true ∧ 8 ≤ proto

/-- What refuses a protocol with MODE after BOOT. -/
def Dev.mbBusy (d : Dev) (b : Nat) : Prop := d.on (R.MBb_CFG_EN b) = false ∨ (d.mb b).isSome = true

/-- The bytes of a protocol, with the PEC of one that only writes. -/
def Dev.mbBytes (d : Dev) (b proto addr : Nat) (pec : Bool) : List Byte :=
  let body := BitVec.ofNat 8 (2 * addr) :: d.mbOut b proto addr
  if pec && !mbReads proto then body ++ [BitVec.ofNat 8 (crc8 body)] else body

section
variable {d : Dev} {b proto addr : Nat} {pec : Bool}

theorem mbCode_bad (hp : proto ≤ 9) (h : d.mbBad b proto pec) : d.mbCode b proto pec = .badProfile := by
  refine if_pos ?_
  simp only [Bool.or_eq_true, Bool.and_eq_true, decide_eq_true_eq, beq_iff_eq]
  obtain hw | hr | ⟨h6, h0⟩ | ⟨ht, h8⟩ := h
  · exact .inl (.inl (.inr hw))
  · exact .inl (.inr hr)
  · exact .inr ⟨h6, h0⟩
  · exact .inl (.inl (.inl (.inl ⟨ht, by omega⟩)))

theorem mbCode_good (hp : proto ≤ 9) (h : ¬d.mbBad b proto pec) :
    d.mbCode b proto pec
      = if !d.mode.afterBoot || !d.on (R.MBb_CFG_EN b) || (d.mb b).isSome then .mode else .accepted := by
  refine if_neg fun hb => h ?_
  simp only [Bool.or_eq_true, Bool.and_eq_true, decide_eq_true_eq, beq_iff_eq] at hb
  obtain (((⟨ht, h8⟩ | h9) | hw) | hr) | h6 := hb
  · exact .inr (.inr (.inr ⟨ht, by omega⟩))
  · omega
  · exact .inl hw
  · exact .inr (.inl hr)
  · exact .inr (.inr (.inl h6))

theorem mbCode_busy (hp : proto ≤ 9) (h : ¬d.mbBad b proto pec) (hbusy : d.mbBusy b) : d.mbCode b proto pec = .mode := by
  refine (mbCode_good hp h).trans (if_pos ?_)
  obtain he | hs := hbusy
  · simp [he]
  · simp [hs]

theorem mbCode_accepted (hp : proto ≤ 9) (h : ¬d.mbBad b proto pec) (hfree : ¬d.mbBusy b) (hm : d.mode.afterBoot = true) :
    d.mbCode b proto pec = .accepted := by
  refine (mbCode_good hp h).trans (if_neg fun hc => hfree ?_)
  simp only [hm, Bool.not_true, Bool.false_or, Bool.or_eq_true, Bool.not_eq_true'] at hc
  exact hc

theorem mbStart_refused (hc : d.mbCode b proto pec ≠ .accepted) :
    d.mbStart b proto addr pec = d.putCode (R.MBb_RES_CODE b) (d.mbCode b proto pec) :=
  if_pos (bne_iff_ne.mpr hc)

theorem mbStart_accepted (hc : d.mbCode b proto pec = .accepted) :
    d.mbStart b proto addr pec
      = ((d.setWord (A.MBb_RES b) 0).putCode (R.MBb_RES_CODE b) .accepted).setMb b
          (some ⟨proto, addr, pec, d.mbBytes b proto addr pec, 0, 0, false⟩) := by
  refine (if_neg ?_).trans ?_
  · rw [hc]; decide
  · exact hc ▸ rfl

end

/-- A protocol is answered by its checks, BAD_PROFILE before MODE, and puts its bytes on the bus. -/
theorem mbProtocol_answers {c : Instr} {d : Dev} {q : List Instr} {b proto addr : Nat} {pec : Bool} {out : List Byte}
    (hx : exec c ⟨d, q⟩ = State.answer ⟨d, q⟩ (decide (b < 2 ∧ addr < 128))
      (d.byRegister (A.MBb_CMD b) fun d => d.mbStart b proto addr pec))
    (hok : b < 2 ∧ addr < 128) (hr : Reaches d (A.MBb_CMD b)) (hp : proto ≤ 9)
    (hout : ¬d.disarm.mbBad b proto pec → d.disarm.mbBytes b proto addr pec = out) :
    (d.disarm.mbBad b proto pec → Answers c d q (d.disarm.putCode (R.MBb_RES_CODE b) .badProfile))
    ∧ (¬d.disarm.mbBad b proto pec → d.disarm.mbBusy b → Answers c d q (d.disarm.putCode (R.MBb_RES_CODE b) .mode))
    ∧ (¬d.disarm.mbBad b proto pec → ¬d.disarm.mbBusy b → Answers c d q
      (((d.disarm.setWord (A.MBb_RES b) 0).putCode (R.MBb_RES_CODE b) .accepted).setMb b
        (some ⟨proto, addr, pec, out, 0, 0, false⟩))) := by
  refine ⟨fun h => ?bad, fun h hb => ?busy, fun h hf => ?accepted⟩
  case bad =>
    have hc := mbCode_bad hp h
    exact answers_byRegister hx (decide_eq_true hok) hr ((mbStart_refused (by rw [hc]; decide)).trans (by rw [hc]))
  case busy =>
    have hc := mbCode_busy hp h hb
    exact answers_byRegister hx (decide_eq_true hok) hr ((mbStart_refused (by rw [hc]; decide)).trans (by rw [hc]))
  case accepted =>
    have hs := mbStart_accepted (addr := addr) (mbCode_accepted hp h hf hr.1)
    rw [hout h] at hs
    exact answers_byRegister hx (decide_eq_true hok) hr hs

theorem mbBytes_writes {d : Dev} {b proto addr : Nat} {pec : Bool} (h : mbReads proto = false) :
    d.mbBytes b proto addr pec
      = if pec then (BitVec.ofNat 8 (2 * addr) :: d.mbOut b proto addr)
          ++ [BitVec.ofNat 8 (crc8 (BitVec.ofNat 8 (2 * addr) :: d.mbOut b proto addr))]
        else BitVec.ofNat 8 (2 * addr) :: d.mbOut b proto addr := by
  simp [Dev.mbBytes, h]

theorem mbBytes_reads {d : Dev} {b proto addr : Nat} {pec : Bool} (h : mbReads proto = true) :
    d.mbBytes b proto addr pec = BitVec.ofNat 8 (2 * addr) :: d.mbOut b proto addr := by
  simp [Dev.mbBytes, h]

/-- The I²C protocols carry no PEC: with it they are refused. -/
theorem mbBytes_i2c {d : Dev} {b proto addr : Nat} {pec : Bool} (hp : 8 ≤ proto) (h : ¬d.mbBad b proto pec) :
    d.mbBytes b proto addr pec = BitVec.ofNat 8 (2 * addr) :: d.mbOut b proto addr := by
  have hpec : pec = false := Bool.eq_false_iff.mpr fun ht => h (.inr (.inr (.inr ⟨ht, hp⟩)))
  simp [Dev.mbBytes, hpec]

/-! ## The end of a transaction (R681) -/

/-- How many bytes a transaction takes from its target at most. -/
def Dev.mbWant (d : Dev) (b : Nat) (t : MbTrans) : Nat :=
  match t.proto with
  | 4 => 1
  | 5 => 2
  | 7 | 9 => d.get (R.MBb_LEN_RLEN b)
  | _ => 0

/-- The registers of a transaction that has ended, before EV124. -/
def Dev.mbEnds (d : Dev) (b : Nat) (t : MbTrans) (stat : Nat) (rx : List Byte) : Dev :=
  let got := rx.take (min 32 (d.mbWant b t))
  let f := if t.proto = 4 ∨ t.proto = 5 ∨ t.proto = 7 ∨ t.proto = 9 then d.putBytes (A.MBb_RXk b 0) got else d
  ((((f.put (R.MBb_RES_STAT b) stat).set1 (R.MBb_RES_DONE b)).put (R.MBb_RES_RCOUNT b) got.length).put (R.MBb_RES_TRIES b)
    (Config.fit .mbTries 4 (t.naks + t.arbs : Nat))).setMb b none

theorem mbReads_iff (proto : Nat) : mbReads proto = true ↔ proto = 4 ∨ proto = 5 ∨ proto = 7 ∨ proto = 9 := by
  simp [mbReads, or_assoc]

section
variable {d : Dev} {b stat : Nat} {t : MbTrans} {rx : List Byte}

theorem mbEnd_some (h : d.mb b = some t) :
    d.mbEnd b stat rx = (d.mbEnds b t stat rx).when (decide (3 ≤ stat)) fun d => d.mbError b := by
  have hwhen : d.when (mbReads t.proto) (fun d => d.putBytes (A.MBb_RXk b 0) (rx.take (min 32 (d.mbWant b t))))
      = if t.proto = 4 ∨ t.proto = 5 ∨ t.proto = 7 ∨ t.proto = 9
          then d.putBytes (A.MBb_RXk b 0) (rx.take (min 32 (d.mbWant b t))) else d :=
    if_congr (mbReads_iff t.proto) rfl rfl
  unfold Dev.mbEnds
  dsimp only
  rw [← hwhen]
  unfold Dev.mbEnd
  rw [h]
  rfl

/-- An outcome below 3 raises nothing. -/
theorem mbEnd_quiet (h : d.mb b = some t) (hs : stat < 3) : d.mbEnd b stat rx = d.mbEnds b t stat rx := by
  rw [mbEnd_some h, decide_eq_false (Nat.not_le.mpr hs), when_false]

theorem mbEnd_raises (h : d.mb b = some t) (hs : 3 ≤ stat) :
    d.mbEnd b stat rx = (d.mbEnds b t stat rx).report 124 (b + 1) := by
  rw [mbEnd_some h, decide_eq_true hs, when_true]
  rfl

theorem mb_set1 (d : Dev) (b : Nat) (f : Fld) : (d.set1 f).mb b = d.mb b := rfl

theorem mb_mbFlag (d : Dev) (b stat : Nat) : (d.mbFlag b stat).mb b = d.mb b := by
  unfold Dev.mbFlag
  split <;> rfl

/-! ## Outcomes and retries -/

theorem mbDone_none (h : d.mb b = none) : d.mbDone b stat rx = d := by
  unfold Dev.mbDone
  rw [h]

theorem mbDone_waits (h : d.mb b = some t) (hw : t.waits = true) : d.mbDone b stat rx = d := by
  unfold Dev.mbDone
  rw [h]
  exact if_pos hw

/-- An outcome after the check of a block's length. -/
def Dev.mbOutcome (d : Dev) (b : Nat) (t : MbTrans) (stat : Nat) (rx : List Byte) : Dev :=
  let e := d.mbFlag b stat
  if stat = 1 ∧ t.naks < e.get (R.MBb_CFG_RETRY_MAX b) then e.setMb b (some { t with naks := t.naks + 1, waits := true })
  else if stat = 3 ∧ t.arbs < e.get (R.MBb_CFG_ARB_MAX b) then
    e.setMb b (some { t with arbs := t.arbs + 1, waits := true })
  else e.mbEnd b stat rx

theorem mbDone_runs (h : d.mb b = some t) (hw : t.waits = false) :
    d.mbDone b stat rx = d.mbOutcome b t
      (if t.proto = 7 ∧ stat = 0 ∧ d.get (R.MBb_LEN_RLEN b) < rx.length then 8 else stat) rx := by
  unfold Dev.mbDone
  rw [h]
  exact if_neg (Bool.eq_false_iff.mp hw)

theorem mbDone_long (h : d.mb b = some t) (hw : t.waits = false)
    (hl : t.proto = 7 ∧ d.get (R.MBb_LEN_RLEN b) < rx.length) : d.mbDone b 0 rx = d.mbOutcome b t 8 rx := by
  rw [mbDone_runs h hw, if_pos ⟨hl.1, rfl, hl.2⟩]

theorem mbDone_fits (h : d.mb b = some t) (hw : t.waits = false)
    (hl : ¬(t.proto = 7 ∧ stat = 0 ∧ d.get (R.MBb_LEN_RLEN b) < rx.length)) :
    d.mbDone b stat rx = d.mbOutcome b t stat rx := by
  rw [mbDone_runs h hw, if_neg hl]

theorem mbDone_fails (h : d.mb b = some t) (hw : t.waits = false) (hs : stat ≠ 0) :
    d.mbDone b stat rx = d.mbOutcome b t stat rx := mbDone_fits h hw fun hl => hs hl.2.1

theorem mbOutcome_nak (hn : t.naks < d.get (R.MBb_CFG_RETRY_MAX b)) :
    d.mbOutcome b t 1 rx = d.setMb b (some { t with naks := t.naks + 1, waits := true }) := if_pos ⟨rfl, hn⟩

theorem mbOutcome_arb {e : Dev} (he : e = d.set1 (R.MBb_FLAGS_ARB_LOST b)) (ha : t.arbs < e.get (R.MBb_CFG_ARB_MAX b)) :
    d.mbOutcome b t 3 rx = e.setMb b (some { t with arbs := t.arbs + 1, waits := true }) := by
  subst he
  have hnak : ¬(3 = 1 ∧ t.naks < (d.mbFlag b 3).get (R.MBb_CFG_RETRY_MAX b)) := fun h => absurd h.1 (by decide)
  have harb : 3 = 3 ∧ t.arbs < (d.mbFlag b 3).get (R.MBb_CFG_ARB_MAX b) := ⟨rfl, ha⟩
  unfold Dev.mbOutcome
  dsimp only
  rw [if_neg hnak, if_pos harb]
  rfl

/-- An outcome that is not tried again ends the transaction. -/
theorem mbOutcome_ends (hn : stat = 1 → d.get (R.MBb_CFG_RETRY_MAX b) ≤ t.naks)
    (ha : stat = 3 → (d.set1 (R.MBb_FLAGS_ARB_LOST b)).get (R.MBb_CFG_ARB_MAX b) ≤ t.arbs) :
    d.mbOutcome b t stat rx = (d.mbFlag b stat).mbEnd b stat rx := by
  refine (if_neg ?_).trans (if_neg ?_)
  · rintro ⟨rfl, hlt⟩
    exact absurd hlt (Nat.not_lt.mpr (hn rfl))
  · rintro ⟨rfl, hlt⟩
    exact absurd hlt (Nat.not_lt.mpr (ha rfl))

theorem mbOutcome_quiet (h : d.mb b = some t) (hs : stat < 3) (hn : stat = 1 → d.get (R.MBb_CFG_RETRY_MAX b) ≤ t.naks) :
    d.mbOutcome b t stat rx = (d.mbFlag b stat).mbEnds b t stat rx :=
  (mbOutcome_ends hn (by omega)).trans (mbEnd_quiet ((mb_mbFlag d b stat).trans h) hs)

theorem mbOutcome_raises (h : d.mb b = some t) (hs : 3 ≤ stat)
    (ha : stat = 3 → (d.set1 (R.MBb_FLAGS_ARB_LOST b)).get (R.MBb_CFG_ARB_MAX b) ≤ t.arbs) :
    d.mbOutcome b t stat rx = ((d.mbFlag b stat).mbEnds b t stat rx).report 124 (b + 1) :=
  (mbOutcome_ends (by omega) ha).trans (mbEnd_raises ((mb_mbFlag d b stat).trans h) hs)

/-- A failure without a retry ends the transaction and raises EV124. -/
theorem mbDone_raises (h : d.mb b = some t) (hw : t.waits = false) (hs : 4 ≤ stat) :
    d.mbDone b stat rx = ((d.mbFlag b stat).mbEnds b t stat rx).report 124 (b + 1) :=
  (mbDone_fails h hw (by omega)).trans (mbOutcome_raises h (by omega) (by omega))

theorem mbRetry_none (h : d.mb b = none) : d.mbRetry b = d := by
  unfold Dev.mbRetry
  rw [h]

theorem mbRetry_some (h : d.mb b = some t) : d.mbRetry b = d.setMb b (some { t with waits := false }) := by
  unfold Dev.mbRetry
  rw [h]

/-! ## Stretch limit and stuck bus (R670, R671) -/

theorem mbStretch_none (h : d.mb b = none) : d.mbStretch b = d := by
  unfold Dev.mbStretch
  rw [h]

theorem mbStretch_some (h : d.mb b = some t) :
    d.mbStretch b = if t.waits || d.on (R.MBb_CFG_LOWTO_DIS b) then d else (d.mbFlag b 4).mbEnd b 4 [] := by
  unfold Dev.mbStretch
  rw [h]

theorem mbStretch_off (h : d.mb b = some t) (hoff : t.waits = true ∨ d.on (R.MBb_CFG_LOWTO_DIS b) = true) :
    d.mbStretch b = d := (mbStretch_some h).trans (if_pos (Bool.or_eq_true _ _ ▸ hoff))

theorem mbStretch_ends (h : d.mb b = some t) (hw : t.waits = false) (hon : d.on (R.MBb_CFG_LOWTO_DIS b) = false) :
    d.mbStretch b = ((d.set1 (R.MBb_FLAGS_LOW_TO b)).mbEnds b t 4 []).report 124 (b + 1) :=
  ((mbStretch_some h).trans (if_neg (by rw [hw, hon]; decide))).trans (mbEnd_raises h (by decide))

end

section
variable {d : Dev} {bus : Nat} {t : MbTrans}

theorem busRecovery_freed : d.busRecovery bus true = d := if_pos (Bool.or_true _)

/-- Pulses that have not freed SDA, after BOOT. -/
theorem busRecovery_stuck (hs : Serving d) :
    d.busRecovery bus false = if bus = 2 then (if d.spi then d else d.report 124 0)
      else if !d.on (R.MBb_CFG_EN bus) then d
      else if (d.mb bus).isSome then (d.mbFlag bus 7).mbEnd bus 7 []
      else (d.mbFlag bus 7).mbError bus :=
  if_neg (by rw [show d.mode.afterBoot = true from hs]; decide)

theorem busRecovery_host (hs : Serving d) : d.busRecovery 2 false = if d.spi then d else d.report 124 0 :=
  (busRecovery_stuck hs).trans (if_pos rfl)

theorem busRecovery_disabled (hs : Serving d) (hb : bus < 2) (hen : d.on (R.MBb_CFG_EN bus) = false) :
    d.busRecovery bus false = d :=
  ((busRecovery_stuck hs).trans (if_neg (Nat.ne_of_lt hb))).trans (if_pos (by rw [hen]; rfl))

theorem busRecovery_enabled (hs : Serving d) (hb : bus < 2) (hen : d.on (R.MBb_CFG_EN bus) = true) :
    d.busRecovery bus false = if (d.mb bus).isSome then (d.mbFlag bus 7).mbEnd bus 7 [] else (d.mbFlag bus 7).mbError bus :=
  ((busRecovery_stuck hs).trans (if_neg (Nat.ne_of_lt hb))).trans (if_neg (by rw [hen]; decide))

theorem busRecovery_ends (hs : Serving d) (hb : bus < 2) (hen : d.on (R.MBb_CFG_EN bus) = true) (h : d.mb bus = some t) :
    d.busRecovery bus false = ((d.set1 (R.MBb_FLAGS_BUS_STUCK bus)).mbEnds bus t 7 []).report 124 (bus + 1) :=
  ((busRecovery_enabled hs hb hen).trans (if_pos (by rw [h]; rfl))).trans (mbEnd_raises h (by decide))

theorem busRecovery_idle (hs : Serving d) (hb : bus < 2) (hen : d.on (R.MBb_CFG_EN bus) = true) (h : d.mb bus = none) :
    d.busRecovery bus false = (d.set1 (R.MBb_FLAGS_BUS_STUCK bus)).report 124 (bus + 1) :=
  (busRecovery_enabled hs hb hen).trans (if_neg (by rw [h]; decide))

end

/-! ## The target side (R678, R682) -/

section
variable {d : Dev} {b n : Nat} {l : List Byte} {sr : Bool}

theorem mbTarget_off (h : d.on (R.MBb_CFG_EN b) = false ∨ d.get (R.MBb_CFG_OWN b) = 0) : d.mbTarget b = false := by
  obtain he | ho := h
  · simp [Dev.mbTarget, he]
  · simp [Dev.mbTarget, ho]

theorem mbTarget_on (hs : Serving d) (he : d.on (R.MBb_CFG_EN b) = true) (ho : d.get (R.MBb_CFG_OWN b) ≠ 0) :
    d.mbTarget b = true := by
  simp [Dev.mbTarget, show d.mode.afterBoot = true from hs, he, ho]

theorem mbTargetWrite_off (h : d.mbTarget b = false) : d.mbTargetWrite b l sr = d := if_pos (by rw [h]; rfl)

theorem mbTargetRead_off (h : d.mbTarget b = false) : d.mbTargetRead b n = d := if_pos (by rw [h]; rfl)

/-- The bytes that a write of a host puts into TRX0–TRX7. -/
def Dev.mbTaken (d : Dev) (b : Nat) (l : List Byte) : Dev :=
  (d.putBytes (A.MBb_TRXk b 0) (l.take 32)).put (R.MBb_TSTAT_RX_LEN b) (min 32 l.length)

/-- A write that a STOP ends. -/
theorem mbTargetWrite_stop (h : d.mbTarget b = true) :
    d.mbTargetWrite b l false = ((d.mbTaken b l).set1 (R.MBb_FLAGS_TGT_RX b)).when (decide (32 < l.length)) fun d =>
      d.set1 (R.MBb_FLAGS_TGT_OVF b) := if_neg (by rw [h]; decide)

/-- A write that a repeated START cuts drops its last byte. -/
theorem mbTargetWrite_restart (h : d.mbTarget b = true) (x : Byte) :
    d.mbTargetWrite b (l ++ [x]) true
      = (((d.mbTaken b l).set1 (R.MBb_FLAGS_PROTO_SR b)).report 124 (b + 1)).when (decide (32 < l.length)) fun d =>
          d.set1 (R.MBb_FLAGS_TGT_OVF b) := by
  have hrun : d.mbTargetWrite b (l ++ [x]) true
      = (((d.mbTaken b (l ++ [x]).dropLast).set1 (R.MBb_FLAGS_PROTO_SR b)).report 124 (b + 1)).when
          (decide (32 < (l ++ [x]).dropLast.length)) fun d => d.set1 (R.MBb_FLAGS_TGT_OVF b) := if_neg (by rw [h]; decide)
  rwa [List.dropLast_concat] at hrun

/-- The bytes that a target has given to the host that reads it. -/
def Dev.mbGive (d : Dev) (b n : Nat) : Dev :=
  let given := d.wordBytes (A.MBb_TTXk b 0) (min 32 n) ++ List.replicate (n - 32) 0xFF
  { d with mbus := { d.mbus with returned := updAt d.mbus.returned b fun _ => given } }

theorem mbTargetRead_on (h : d.mbTarget b = true) :
    d.mbTargetRead b n = (d.mbGive b n).put (R.MBb_TSTAT_TX_READ b) (min 32 n) := if_neg (by rw [h]; decide)

end


/-! ## The statement -/

/-- Settles O60. -/
theorem moduleBusesServe : Obligations.ModuleBusesServe := by
  unfold Obligations.ModuleBusesServe
  refine ⟨fun d q b addr pec hb ha hr => ?protocols, fun d q b t rx hs hb ht => ?transaction,
    fun d q b hs hb => ?idle, fun d q hs => ?recovery, fun d q b hs hb => ?target⟩
  case protocols =>
    refine ⟨?sendByte, ?writeByte, ?writeWord, ?readByte, ?readWord, ?blockWrite, ?blockRead, ?i2cWrite, ?i2cWrRd⟩
    case sendByte | writeByte | writeWord | blockWrite =>
      exact mbProtocol_answers rfl ⟨hb, ha⟩ hr (by decide) fun _ => mbBytes_writes rfl
    case readByte | readWord | blockRead =>
      exact mbProtocol_answers rfl ⟨hb, ha⟩ hr (by decide) fun _ => mbBytes_reads rfl
    case i2cWrite | i2cWrRd =>
      exact mbProtocol_answers rfl ⟨hb, ha⟩ hr (by decide) fun h => mbBytes_i2c (by decide) h
  case transaction =>
    refine ⟨fun hw => ⟨fun stat h9 => ?waitsDone, ?waitsStretch⟩, fun hw => ⟨fun hl => ?ok, fun hl => ?long,
      fun hn => ?nakRetry, fun hn => ?nakEnd, ?nakData, fun e he => ⟨fun ha => ?arbRetry, fun ha => ?arbEnd⟩, ?lowTo, ?pec,
      ?proto, ?stuck, ?len, fun hon => ?stretch, fun hoff => ?stretchOff⟩, ?retry, fun hen => ?recover⟩
    case waitsDone => exact answers_inService rfl (decide_eq_true ⟨hb, h9⟩) hs (mbDone_waits ht hw)
    case waitsStretch => exact answers_inService rfl (decide_eq_true hb) hs (mbStretch_off ht (.inl hw))
    case ok =>
      exact answers_inService rfl (decide_eq_true ⟨hb, by decide⟩) hs
        ((mbDone_fits ht hw fun h => hl ⟨h.1, h.2.2⟩).trans (mbOutcome_quiet ht (by decide) (by simp)))
    case long =>
      exact answers_inService rfl (decide_eq_true ⟨hb, by decide⟩) hs
        ((mbDone_long ht hw hl).trans (mbOutcome_raises ht (by decide) (by simp)))
    case nakRetry =>
      exact answers_inService rfl (decide_eq_true ⟨hb, by decide⟩) hs
        ((mbDone_fails ht hw (by decide)).trans (mbOutcome_nak hn))
    case nakEnd =>
      exact answers_inService rfl (decide_eq_true ⟨hb, by decide⟩) hs
        ((mbDone_fails ht hw (by decide)).trans (mbOutcome_quiet ht (by decide) fun _ => hn))
    case nakData =>
      exact answers_inService rfl (decide_eq_true ⟨hb, by decide⟩) hs
        ((mbDone_fails ht hw (by decide)).trans (mbOutcome_quiet ht (by decide) (by simp)))
    case arbRetry =>
      exact answers_inService rfl (decide_eq_true ⟨hb, by decide⟩) hs
        ((mbDone_fails ht hw (by decide)).trans (mbOutcome_arb he ha))
    case arbEnd =>
      subst he
      exact answers_inService rfl (decide_eq_true ⟨hb, by decide⟩) hs
        ((mbDone_fails ht hw (by decide)).trans (mbOutcome_raises ht (by decide) fun _ => ha))
    case lowTo | pec | proto | stuck | len =>
      exact answers_inService rfl (decide_eq_true ⟨hb, by decide⟩) hs (mbDone_raises ht hw (by decide))
    case stretch => exact answers_inService rfl (decide_eq_true hb) hs (mbStretch_ends ht hw hon)
    case stretchOff => exact answers_inService rfl (decide_eq_true hb) hs (mbStretch_off ht (.inr hoff))
    case retry => exact answers_inService rfl (decide_eq_true hb) hs (mbRetry_some ht)
    case recover =>
      exact answers_inService rfl (decide_eq_true (Nat.lt_succ_of_lt hb)) hs (busRecovery_ends hs hb hen ht)
  case idle =>
    refine ⟨fun hn => ⟨?retry, ?stretch, fun stat rx h9 => ?done, fun hen => ?recover⟩, fun hen => ?disabled⟩
    case retry => exact answers_inService rfl (decide_eq_true hb) hs (mbRetry_none hn)
    case stretch => exact answers_inService rfl (decide_eq_true hb) hs (mbStretch_none hn)
    case done => exact answers_inService rfl (decide_eq_true ⟨hb, h9⟩) hs (mbDone_none hn)
    case recover =>
      exact answers_inService rfl (decide_eq_true (Nat.lt_succ_of_lt hb)) hs (busRecovery_idle hs hb hen hn)
    case disabled =>
      exact answers_inService rfl (decide_eq_true (Nat.lt_succ_of_lt hb)) hs (busRecovery_disabled hs hb hen)
  case recovery =>
    refine ⟨fun bus hb => ?freed, fun hspi => ?stuck, fun hspi => ?spi⟩
    case freed => exact answers_inService rfl (decide_eq_true hb) hs busRecovery_freed
    case stuck | spi =>
      exact answers_inService rfl rfl hs ((busRecovery_host hs).trans (by rw [hspi]; rfl))
  case target =>
    refine ⟨fun hoff => ⟨fun l sr => ?writeOff, fun n => ?readOff⟩,
      fun hen how l => ⟨fun hl => ⟨?write, fun x => ?cut⟩, fun hl => ⟨?writeOvf, fun x => ?cutOvf⟩, fun n => ?read⟩⟩
    case writeOff => exact answers_inService rfl (decide_eq_true hb) hs (mbTargetWrite_off (mbTarget_off hoff))
    case readOff => exact answers_inService rfl (decide_eq_true hb) hs (mbTargetRead_off (mbTarget_off hoff))
    case write =>
      have h := mbTargetWrite_stop (l := l) (mbTarget_on hs hen how)
      rw [decide_eq_false (Nat.not_lt.mpr hl), when_false] at h
      exact answers_inService rfl (decide_eq_true hb) hs h
    case cut =>
      have h := mbTargetWrite_restart (l := l) (mbTarget_on hs hen how) x
      rw [decide_eq_false (Nat.not_lt.mpr hl), when_false] at h
      exact answers_inService rfl (decide_eq_true hb) hs h
    case writeOvf =>
      have h := mbTargetWrite_stop (l := l) (mbTarget_on hs hen how)
      rw [decide_eq_true hl, when_true] at h
      exact answers_inService rfl (decide_eq_true hb) hs h
    case cutOvf =>
      have h := mbTargetWrite_restart (l := l) (mbTarget_on hs hen how) x
      rw [decide_eq_true hl, when_true] at h
      exact answers_inService rfl (decide_eq_true hb) hs h
    case read => exact answers_inService rfl (decide_eq_true hb) hs (mbTargetRead_on (mbTarget_on hs hen how))

end Sys2Proof.Machine
end
